-- ==== Sys2Proof/Word.lean ====
section
/-! DEFINITION. The word types of the model. -/

namespace Sys2Proof

/-- One byte. -/
abbrev Byte := BitVec 8

/-- A 32-bit word: mailbox words, status words, engine registers (R158, R391). -/
abbrev Word := BitVec 32

end Sys2Proof
end

