-- ==== Sys2Proof/Syntax.lean ====
section
/-! DEFINITION. The commands of the EM1280, one constructor per row of spec/opcode_table.json, with the operands
each rule takes from outside the block. -/

namespace Sys2Proof

/-- Level a lane or an FD pair is commanded to (Table 7.1, Table 9.8, R482): idle, DPWM, high, low, the wake pulse of R186, or the discovery
pattern of R236. -/
inductive LaneCmd where
  | idle | pwm | high | low | wake | pattern
  deriving DecidableEq, Repr

/-- The fields of a downstream frame (Table 8.2); its comma and CRC follow from them. A waiting frame has `round` clear. -/
structure DownFrame where
  bc : Bool
  seq : Bool
  slot : BitVec 6
  defer : Bool
  round : Bool
  code : BitVec 5
  data : BitVec 24
  deriving DecidableEq, Repr

/-- How the flash reads of one slot end, for order 1 of Table 3.6: without error, with an error while the header,
OWNERSHIP_CLAIM and SIGNATURE are read, or with an error in the section reads. A stage maximum that passes meanwhile is
STAGE_MAXIMUM_EXCEEDED. -/
inductive FlashRead where
  | ok | errorAtHeader | errorInSections
  deriving DecidableEq, Repr

/-- Read modes of the image flash, in rising width (R61); `slow` is instruction 0x03 on one lane. -/
inductive FlashMode where
  | slow | m111 | m112 | m122 | m114 | m144
  deriving DecidableEq, Repr

/-- How the image is read (R61): the mode, the clock in kHz and the dummy cycles. -/
structure FlashAccess where
  mode : FlashMode
  khz : Nat
  dummies : Nat
  deriving DecidableEq, Repr

/-- What the JESD216 tables of a flash say (R61): the fast-read modes they advertise, each with its dummy cycles, and the
highest clock in kHz. -/
structure Sfdp where
  modes : List (FlashMode × Nat)
  maxKhz : Nat
  deriving DecidableEq, Repr

/-- What discovery found at one cell number (R239): a complete reply, collided replies, or another LINK_VER;
`late`: the reply was complete only after the second ENUMERATE; `retried`: the commands of R238 step 5 whose second attempt
passed, each with whether a bad or absent upstream frame, and not the echo, had failed the first; `failsAt`: the one whose second
attempt failed. A cell number not listed gave no reply. -/
structure FoundCell where
  cell : Fin 1024
  reply : Option (BitVec 64)
  otherVersion : Bool
  late : Bool
  retried : List (Fin 4 × Bool)
  failsAt : Option (Fin 4)
  deriving DecidableEq, Repr

/-- What the known-level test of one sense pair measures (R503): the codes at -62.5, 0 and +62.5 mV about the converter's
reference, the movement of the _P and the _N ball under the probe current in 0.1 mV, and the loop impedance in mOhm. -/
structure SenseTest where
  low : Int
  zero : Int
  high : Int
  moveP : Nat
  moveN : Nat
  loop : Nat
  deriving DecidableEq, Repr

/-- Outcome of the P6 tests (R75, R76, R261, R503): the measurements at senses 0A, 0B, 1A, ... (one not listed measures as a
sound pair), the comparators whose test and repeat fail with the steps passed in each (bit i is step i + 1), pairs whose
converter TiA or TiB fails arbitration with their sums of the eight 1.000 V codes (TiA and TiB of pair 0, of pair 1, ...), and
the OV-monitored nodes' readings in 2^-12 V by rail. -/
structure SelfTest where
  senses : List SenseTest
  comps : List (Nat × BitVec 4 × BitVec 4)
  convA : BitVec 4
  convB : BitVec 4
  diffs : List Int
  vout : List Nat
  deriving DecidableEq, Repr

/-- Causes of a restart that its trigger names (Table 12.4, Table 1.6). -/
inductive RestartCause where
  | wdExpiry | miscompare | memory | resume | pllReturn | coreReturn | ladder | hmPatch
  deriving DecidableEq, Repr

/-- A bus transaction whose command code has been acknowledged, and that a restart cuts (R422): a write, of which so many bytes follow
the one in progress; a read, with the bytes that the host has got and how many it clocks after them. -/
inductive CutXfer where
  | send (refused : Nat)
  | recv (got : List Byte) (further : Nat)
  deriving DecidableEq, Repr

/-- A restart row is sent twice: when the restart begins, with the bus transaction that it cuts (R422), and when it ends. -/
inductive RestartEdge where
  | begins (cause : RestartCause) (cut : Option CutXfer)
  | ends
  deriving DecidableEq, Repr

/-- A row for non-volatile work that takes a time (R363, R382, R389) is sent twice: when the work begins, and when it ends. -/
inductive WorkEdge where
  | begins | ends
  deriving DecidableEq, Repr

/-- The protected memories of Table 1.7. -/
inductive MemName where
  | leCode | leCoef | leState | palette | cellTable | shadow | rmMemory | hmMemory | rmPatch | hmPatch | rom
  | mailbox | staging | retained | eventStore | pentimento | keyStore
  deriving DecidableEq, Repr

/-- A memory upset in a loop engine's store that a bundle fetch or coefficient read of an update meets (R178): the word's
address (a coefficient at 0x100 + 32q + k), and whether two bits are wrong. -/
structure Upset where
  addr : Nat
  double : Bool
  deriving DecidableEq, Repr

/-- An error that a scrub pass finds (R26, R178) at one word of one memory. -/
inductive ScrubFinding where
  | single (mem : MemName) (index : Nat)
  | double (mem : MemName) (index : Nat)
  | crc (le : Fin 16)
  deriving DecidableEq, Repr

/-- Mask windows of Table 9.3, in the order of the MSRC bits 16 to 19. -/
inductive MaskSrc where
  | gt | add | setpt | edge
  deriving DecidableEq, Repr

/-- The two management pairs. -/
inductive Manager where
  | rm | hm
  deriving DecidableEq, Repr

/-- The frozen registers of a pair's two cores: the 128 words of each core block of Table 12.8. -/
structure Frozen where
  core0 : List Word
  core1 : List Word
  deriving DecidableEq, Repr

/-- Causes of Table 12.1, in order from 1. -/
inductive HoldCause where
  | rmMiscompare | rmRestart | warmRestart | coreLoss | loopLoss | safeState | router
  deriving DecidableEq, Repr

/-- Why a watchdog expires (R355). -/
inductive ExpiryCause where
  | remain | badService | forced
  deriving DecidableEq, Repr

/-- Identities of a mailbox path (R398). -/
inductive Identity where
  | host | svc | hm | rm
  deriving DecidableEq, Repr

/-- Events that end standby (R426). -/
inductive WakeCause where
  | address | enable | softSource | svcRx
  deriving DecidableEq, Repr

/-- The bytes of a bus transaction after its command code. `send`: a write of these bytes (PEC included where sent);
`recv`: a read of which the host clocks so many bytes; `call`: a process call, the written bytes and then the clocked ones. -/
inductive BusXfer where
  | send (bytes : List Byte)
  | recv (clocked : Nat)
  | call (bytes : List Byte) (clocked : Nat)
  deriving DecidableEq, Repr

/-- What SVC_RX brings (R474): a received character, one with a framing error, or a low level of more than two character times. -/
inductive RxEvent where
  | char (b : Byte)
  | framing
  | lowLine
  deriving DecidableEq, Repr

/-- How an attempt of a Host Notify fails, and at which byte (R430, R431): arbitration lost, the byte not acknowledged, a START or a
STOP out of place. -/
inductive NotifyFail where
  | lost (byte : Nat)
  | refused (byte : Nat)
  | misplaced (byte : Nat)
  deriving DecidableEq, Repr

/-- Registers with no behaviour of their own that REGISTER_WRITE names (R350, R391). -/
inductive RegTarget where
  | wdMask (m : Manager)
  | mailboxData (ch : Fin 16) (i : Fin 12) (who : Identity)
  | paletteEntry (i : Fin 4096)
  | shadowByte (sec : Fin 256) (off : Fin 1048576)
  deriving DecidableEq, Repr

/-- Instructions of the TAP (R472); `other` is any other code. -/
inductive TapInstr where
  | bypass | idcode | samplePreload | extest | clamp | highz | other
  deriving DecidableEq, Repr

/-- Selections of Table 18.5 as typed on the console. -/
inductive AtbSel where
  | off | ref1v0 | ref0v5 | vsa (n : Nat) | vsb (n : Nat) | cmp (m : Nat)
  deriving DecidableEq, Repr

/-- Level words of the console commands of R482. -/
inductive LaneLevel where
  | hi | lo | idle
  deriving DecidableEq, Repr

/-- A message as its receiver takes it: the header's TAG and flags, and the words after D0 (after reassembly). -/
structure Message where
  tag : BitVec 8
  orphan : Bool
  stale : Bool
  body : List Word
  deriving DecidableEq, Repr

/-- What a console line carries: words of text, words of a register, or the closing OK or ERR n of Table 18.2; `locked` is
ERR 6 with the seconds left, `refused` ERR 8 with the status. -/
inductive ConLine where
  | text (bytes : List Byte)
  | words (ws : List Word)
  | ok
  | err (n : Nat)
  | locked (seconds : Nat)
  | refused (status : Nat)
  deriving DecidableEq, Repr


/-- The commands, in the order of the opcode table; each docstring is the row's summary with its rule. -/
inductive Instr where
  /-- SUPPLY_FALL (R53). A supply falls below its falling threshold, and the EM1280 enters power-on reset with every lane and FD pair driver-disabled. -/
  | supplyFall (k : Fin 5) (done : Nat)
  /-- PORST_N_LOW (R18). PORST_N goes low and starts a power-on reset that resets every domain, including during P1 (R46). -/
  | porstNLow (done : Nat)
  /-- POWER_ON_RESET_RELEASE (R55). The last supply crosses its rising threshold with PORST_N high, or PORST_N rises with the supplies valid, which sets time 0 and starts P0. -/
  | powerOnResetRelease (byPorst : Bool)
  /-- PRIME_P0 (R55). P0 ends after the supply filtering and oscillator settling, and P1 starts. -/
  | primeP0
  /-- PRIME_P1 (R55). P1 starts the Apprentice, reads the Varnish fuses and samples the straps, and then P2 starts. -/
  | primeP1 (ohms : Nat) (svcRxLow : Bool)
  /-- PRIME_P2 (R55). P2 boots the HM from ROM, runs the ROM, key-store and memory checks, scans the Sketchbook and commits POWER_ON. -/
  | primeP2 (romOk keysOk memOk : Bool)
  /-- PRIME_P3 (R66). P3 fetches and checks slot A and then slot B in the order of Table 3.6 and loads the passing image into the shadow. -/
  | primeP3 (sfdp : Option Sfdp) (readA readB : FlashRead)
  /-- PRIME_P4 (R72). P4 checks the resource claims entry by entry and then checks the section uses. -/
  | primeP4
  /-- PRIME_P5 (R238). P5 boots the RM, loads the LEs and runs cell discovery and configuration on all links in parallel. -/
  | primeP5 (found : List FoundCell)
  /-- PRIME_P6 (R75). P6 runs the comparator, converter and sense self-tests and the OV pre-check. -/
  | primeP6 (r : SelfTest)
  /-- PRIME_P7 (R77). P7 burns the fuses that are due, sets the Fixative bit, enters PRIMED, commits PRIMING_DONE and releases FAULT_N. -/
  | primeP7
  /-- STAGE_MAXIMUM_EXCEEDED (R55). A priming stage overruns its maximum, with the outcome that Table 3.1 gives for that stage. -/
  | stageMaximumExceeded (found : List FoundCell)
  /-- WARM_CHIP_RESTART (R19). A warm chip restart resets LOOP and both pairs and reloads the LEs from the shadow after the digest and CRC check. -/
  | warmChipRestart (e : RestartEdge)
  /-- PAIR_RESTART_RM (R18). The RM pair restarts while the Apprentice holds the rails. -/
  | pairRestartRm
  /-- PAIR_RESTART_HM (R21). The HM pair restarts while the bus NACKs command codes and messages to the HM are marked STALE. -/
  | pairRestartHm (e : RestartEdge)
  /-- RM_READY_HEARTBEAT (R25). The restarted RM posts its ready heartbeat, which allows handback and copies the Pentimento capture first. -/
  | rmReadyHeartbeat
  /-- CLOCK_LOSS (R14). The clock monitor declares LOOP or CORE missing, idles every lane on a LOOP loss and fires an Apprentice trigger. -/
  | clockLoss (core loop refclk : Bool)
  /-- PLL_BACKUP_LOCK (R12). PLL_BACKUP locks, LOOP runs from it, and the backstops drive with the backup timing. -/
  | pllBackupLock
  /-- CORE_RETURNED (R349). PLL_CORE has held lock for 1 ms, so both pairs restart and the soft router paths are replayed. -/
  | coreReturned (cut : Option CutXfer)
  /-- RETURN_TO_PLL_LOOP (R15). Once REFCLK has been present and PLL_LOOP locked for 10 ms, a warm chip restart returns LOOP to PLL_LOOP. -/
  | returnToPllLoop (cut : Option CutXfer)
  /-- SLAT_EDGE (R87). A rising edge on SLATp is accepted or counted as IGNORED; an accepted edge latches SSELp and retargets the group's rails. -/
  | slatEdge (p : Fin 8) (before after : BitVec 6) (lowNs highNs : Nat)
  /-- PREBIAS_HOLD_END (R108). PREBIAS_HOLD expires, and the target returns from SETPT + PREBIAS to SETPT. -/
  | prebiasHoldEnd (n : Fin 16)
  /-- SLEW_STEP (R101). Every 10 ns the slew limiter advances each slewed set-point toward its target, which can end SOFT_START or SLEWING. -/
  | slewStep
  /-- SETTLE_ELAPSED (R104). A rail's error has stayed within ±4 LSB for SETTLE, and SRDYp rises once every condition holds. -/
  | settleElapsed (n : Fin 16)
  /-- THROT_RELEASE (R112). The 10 µs minimum hold of THROTp_N ends, and the ball is released if no throttle condition remains. -/
  | throtRelease (p : Fin 8)
  /-- SENSE_SAMPLE (R119). Each error converter samples its pair and the vote's disagreement count is updated. -/
  | senseSample (n : Fin 16) (vA vB : Int)
  /-- VOTE_DECISION (R125). The disagreement count reaches the vote count, and the senses are judged against VMODEL or the vote goes pending. -/
  | voteDecision (n : Fin 16)
  /-- VOTE_PENDING_END (R126). Agreement holds for the vote count before a valid visit, so the pending vote ends with sense A chosen. -/
  | votePendingEnd (n : Fin 16)
  /-- PLAUSIBILITY_VISIT (R122). The plausibility unit computes VMODEL for one rail and decides a pending vote or counts a single-sense mismatch (R130). -/
  | plausibilityVisit (n : Fin 16)
  /-- LE_UPDATE (R131). A loop-engine update starts when its last sample is converted, runs the microcode to END and delivers DUTY and STATUS. -/
  | leUpdate (n : Fin 16) (upset : Option Upset)
  /-- UPDATE_DEADLINE (R175). The deadline arrives without an E bundle, so the update is abandoned, the backstop drives and LE_OVERRUN is recorded. -/
  | updateDeadline (n : Fin 16)
  /-- LE_REARM (R140). The RM reloads a faulty LE from the shadow, clears its z registers and starts the shadow run. -/
  | leRearm (n : Fin 16)
  /-- SHADOW_RUN_END (R140). The 1,024-update shadow run completes, and the LE then drives the rail or the re-arm is refused. -/
  | shadowRunEnd (n : Fin 16)
  /-- CHAR_RUN_START (R141). A characterisation run starts at first light or at CHAR_INTERVAL, after 100 µs of quiet regulation. -/
  | charRunStart (n : Fin 16)
  /-- CHAR_RUN_END (R144). The 800 µs perturbation ends and COUT_EST, LEFF_EST and RPATH_EFF are refined. -/
  | charRunEnd (n : Fin 16)
  /-- CHAR_RETRY (R143). An aborted characterisation run is tried again after 10 ms. -/
  | charRetry (n : Fin 16)
  /-- ENABLE_EVALUATION (R147). Every 1 µs the enable request is formed from ENn, OPERATION and ON_OFF_CONFIG, and rail transitions follow. -/
  | enableEvaluation (high : BitVec 16) (tests : List SenseTest)
  /-- START_WAIT_ELAPSED (R151). The 20 µs since the lanes were last idled ends, and a waiting start proceeds. -/
  | startWaitElapsed (n : Fin 16)
  /-- DISCHARGE_TIMEOUT (R148). DISCHARGE_TIMEOUT elapses, and the rail goes from DISCHARGE to PRIMED. -/
  | dischargeTimeout (n : Fin 16)
  /-- SCRUB (R26). The 50 ms scrub reads each protected memory, including the LE store CRC check (R178), with the double-bit reactions of Table 1.7. -/
  | scrub (found : List ScrubFinding) (cut : Option CutXfer)
  /-- TELEMETRY_ROUND (R285). At the end of each 12.8 µs round, capacity, load, throttle, slow over-current, yields, trims, widths and the phase policy are evaluated. -/
  | telemetryRound
  /-- SHED_COMMAND (R194). An RM shed command reaches the scheduler through the FIFO and is accepted or discarded. -/
  | shedCommand (p : Fin 128)
  /-- RETRY_DUE (R209). 10 ms after RETRY_WAIT, a phase is reset, reconfigured and woken in probation. -/
  | retryDue (p : Fin 128)
  /-- WAKE_END (R184). A phase's wake ends, and the phase becomes ACTIVE, BLIND or PARKED and joins the spacing set. -/
  | wakeEnd (p : Fin 128)
  /-- PERIOD_START (R198). A rail's period counter starts a period, moving draining, re-spacing, trims and period-cleared latches. -/
  | periodStart (n : Fin 16) (p : Option (Fin 128))
  /-- TRISTATE_IDLE_ELAPSED (R190). A TRISTATED phase has been idle for 10 µs and is parked with SET_MODE PARK. -/
  | tristateIdleElapsed (p : Fin 128)
  /-- DEEP_PARK_TIME_ELAPSED (R196). A PARKED phase has been idle for DEEP_PARK_TIME and goes to DEEP_PARKED. -/
  | deepParkTimeElapsed (p : Fin 128)
  /-- SYNC_IN_EDGE (R200). A rising edge on SYNC_IN corrects the rail's period counter. -/
  | syncInEdge (ball : Bool) (periodNs : Nat)
  /-- SYNC_EDGES_MISSING (R200). After 4 missing edges the rail runs free at FSW. -/
  | syncEdgesMissing (n : Fin 16)
  /-- INTERPOLATOR_RECALIBRATION (R494). The DPWM interpolator is recalibrated between edges about every 1 ms. -/
  | interpolatorRecalibration
  /-- FRAME_TIME (R228). In each 200 ns frame time the link engine sends the highest-class waiting frame, or IDLE, on each FD pair. -/
  | frameTime
  /-- UPSTREAM_FRAME (R232). An upstream slot's frame arrives, or is absent, and is checked, which may trigger a resend, a probe or SILENT. -/
  | upstreamFrame (link : Fin 16) (slot : Fin 64) (bits : List Bool)
  /-- LINK_SILENCE_TIMEOUT (R244). 14 µs pass without a good upstream frame on a link with configured cells, so cause 3 is declared. -/
  | linkSilenceTimeout (link : Fin 16)
  /-- FFLT_ASSERT (R248). FFLTn_N changes level and acts as a router source after the synchroniser. -/
  | ffltAssert (link : Fin 16) (low : Bool)
  /-- COMPARATOR_CROSSING (R254). A comparator input crosses its assert or release threshold, setting or clearing hard crosspoint latches. -/
  | comparatorCrossing (m : Fin 76) (level levelB : Int)
  /-- BURST_LIMIT_ELAPSED (R271). BURST_LIMIT has passed, so the burst ends, the lanes return to DPWM and the ADD window opens. -/
  | burstLimitElapsed (n : Fin 16)
  /-- CLAMP_LIMIT_ELAPSED (R275). A still-asserted clamp reaches CLAMP_LIMIT, and the lanes go idle until release. -/
  | clampLimitElapsed (n : Fin 16)
  /-- MASK_WINDOW_CLOSE (R258). A mask window closes, the masked output takes the live state and BURST may re-arm. -/
  | maskWindowClose (m : Fin 76) (src : MaskSrc)
  /-- COMPARATOR_SELFTEST (R260). A four-step comparator test runs in a 120 ns quiet window. -/
  | comparatorSelftest (m : Fin 76) (passed : BitVec 4)
  /-- FORCED_TEST_WINDOW (R262). With no window in 10 ms, a forced 120 ns test window opens at the next quiet period start. -/
  | forcedTestWindow (m : Fin 76) (passed : BitVec 4)
  /-- SELFTEST_REPEAT (R263). A failed test is repeated within 1 ms and judged transient or failed. -/
  | selftestRepeat (m : Fin 76) (passed : BitVec 4)
  /-- LATCH_CLEAR (R256). The RM writes 1 to a class P LATCH, which clears it unless the masked output is asserted. -/
  | latchClear (m : Fin 76)
  /-- EDGE_FLAG_CLEAR (R257). Writing 1 to RISE or FALL clears that class M flag. -/
  | edgeFlagClear (m : Fin 76) (rise fall : Bool)
  /-- SOFT_ROUTE_DELIVERY (R266). A source change reaches its soft destinations through the LOOP-to-CORE FIFO. -/
  | softRouteDelivery (src : Fin 256)
  /-- GT_TRIGGER (R277). A general timer is triggered, starting or restarting its count. -/
  | gtTrigger (k : Fin 8)
  /-- GT_EXPIRY (R277). A general timer expires: its one-shot output falls or its periodic output toggles and restarts. -/
  | gtExpiry (k : Fin 8)
  /-- HICCUP_OFF_ELAPSED (R289). HICCUP_OFF ends after a first trip, and the latch clears by itself. -/
  | hiccupOffElapsed (n : Fin 16)
  /-- UV_DELAY_ELAPSED (R292). UV_PG n has been asserted for UV_DELAY, so RAIL_UV is recorded and the rail latches if UV_RESP = 1. -/
  | uvDelayElapsed (n : Fin 16)
  /-- PG_ON_DELAY_ELAPSED (R293). The power-good conditions have held for PG_ON_DELAY, so PG_n becomes true. -/
  | pgOnDelayElapsed (n : Fin 16)
  /-- PG_OFF_FILTER_ELAPSED (R293). A UV_PG assertion outlasts PG_OFF_FILTER, so PG_n goes false. -/
  | pgOffFilterElapsed (n : Fin 16)
  /-- INPUT_UV (R295). The VIN_UV twins stay asserted for 10 µs, so input undervoltage latches every enabled rail. -/
  | inputUv
  /-- INPUT_SENSE_VOTE (R296). A VINA/VINB disagreement lasts 1 ms, and each twin is judged against VIN_EST. -/
  | inputSenseVote
  /-- VIN_AUTO_CLEAR (R297). No in-service input comparator has been asserted for 1 ms, so an input-only latch clears. -/
  | vinAutoClear
  /-- CONVERSION_COMPLETE (R319). A telemetry conversion ends and feeds the hardware consumers, accumulators, trackers and the pair check. -/
  | conversionComplete (pair : Fin 4) (a b : Int)
  /-- CONVERTER_RECHECK (R335). One second after a set-aside, the converter is rechecked against the in-use one. -/
  | converterRecheck (pair : Fin 4) (codes : List (Int × Int))
  /-- TELEM_XCHECK (R338). Every 100 ms the HM compares output and input power. -/
  | telemXcheck
  /-- LOCKSTEP_MISMATCH (R340). A pair's outputs differ, so both cores freeze and the escalation step is taken. -/
  | lockstepMismatch (m : Manager) (regs : Frozen)
  /-- APPRENTICE_TAKEOVER (R343). A trigger reaches the Apprentice, which takes every rail into APPRENTICE_HOLD. -/
  | apprenticeTakeover (cause : HoldCause)
  /-- APPRENTICE_HANDBACK (R345). The RM reads the Apprentice state and requests handback rail by rail. -/
  | apprenticeHandback
  /-- RAIL_HANDBACK (R24). A rail is handed back at its next quiet switching-period boundary. -/
  | railHandback (n : Fin 16)
  /-- APP_TAKEOVER_RELEASE (R342). Every source of APP_TAKEOVER has been released for 1 ms, which ends that hold condition. -/
  | appTakeoverRelease
  /-- APP_MISMATCH (R347). The two Apprentice copies disagree, so APP_MISMATCH latches and both stop issuing commands. -/
  | appMismatch
  /-- HEARTBEAT_CHECK (R347). Every 250 µs the RM reads APP_MISMATCH and the heartbeat count and may disable the Apprentice. -/
  | heartbeatCheck (appLost : Bool)
  /-- WD_CHECKIN (R352). A task check-in sets CHECKED, or DOUBLE when repeated. -/
  | wdCheckin (m : Manager) (task : Fin 16)
  /-- KEY_A (R353). Writing KEY_A to WD_SERVICE arms the service sequence. -/
  | keyA (m : Manager) (regs : Frozen)
  /-- KEY_B (R353). Writing KEY_B is accepted and reloads REMAIN, is refused, or causes an expiry. -/
  | keyB (m : Manager) (regs : Frozen)
  /-- WD_DISABLE (R354). The two-word disable sequence stops the watchdog unless LOCK holds. -/
  | wdDisable (m : Manager) (first second : Word) (cycles : Nat)
  /-- GO (R354). Writing GO with RUN = 0 starts the watchdog with a fresh TIMEOUT. -/
  | go (m : Manager)
  /-- WDT_EXPIRY (R355). REMAIN reaches 0, or a bad service write arrives, so the pair freezes and escalates. -/
  | wdtExpiry (m : Manager) (why : ExpiryCause) (regs : Frozen)
  /-- DECAY_PERIOD (R357). DECAY_H hours without a counted event lower a pair's count by 1. -/
  | decayPeriod (m : Manager)
  /-- PENTIMENTO_COMMIT (R363). Once the cause record has committed, the HM writes the PENDING capture to the non-volatile slot. -/
  | pentimentoCommit (e : WorkEdge)
  /-- EVENT_STAGE (R375). The staging port takes an event as a repeat, a new record, a suppression or a drop. -/
  | eventStage (code src : BitVec 16) (p0 p1 : Word)
  /-- OPEN_RECORD_CLOSE (R376). The open record's 1 s hold ends and it closes. -/
  | openRecordClose
  /-- TOKEN_ADD (R378). A token is added to a code's bucket and a due RATE_LIMITED summary is staged. -/
  | tokenAdd (code : BitVec 16)
  /-- RECORD_COMMIT (R382). The HM commits the oldest closed record, erasing a sector first when one is due. -/
  | recordCommit (e : WorkEdge)
  /-- CLEAR_SECTOR_ERASE (R389). One sector of a clear is erased between record commits, and CLEARING ends after the last. -/
  | clearSectorErase (e : WorkEdge)
  /-- GO_POST (R392). The sender writes GO, which posts the message and latches both epochs. -/
  | goPost (ch : Fin 16) (who : Identity)
  /-- RECALL (R394). The sender writes RECALL, which withdraws an unread message or sets RECALL_LATE. -/
  | recall (ch : Fin 16) (who : Identity)
  /-- MAILBOX_TAKE_ACK (R393). The receiver reads D(LEN − 1), which clears FULL and takes the message. -/
  | mailboxTakeAck (ch : Fin 16) (who : Identity)
  /-- CROSS_WAIT (R404). Both channels of a reverse pair stay FULL for T_CROSS, so CROSS sets and MBX_CROSS_WAIT is recorded. -/
  | crossWait (ch : Fin 16)
  /-- FRAGMENT_TIMEOUT (R403). More than 100 ms pass between fragments, so the reassembly is discarded and answered BAD_FORMAT. -/
  | fragmentTimeout (ch : Fin 16)
  /-- HOST_MESSAGE_TAKE (R409). The HM takes a host or SVC message and dispatches it by code. -/
  | hostMessageTake (ch : Fin 16)
  /-- PING (R409). The HM echoes the word with the firmware version and the epochs. -/
  | ping (ch : Fin 16) (m : Message)
  /-- ATTEST (R466). The HM returns a measurement signed with the identity key. -/
  | attest (ch : Fin 16) (m : Message)
  /-- PALETTE_WRITE (R96). Entries for the inactive bank are checked and written to the shadow and the palette memory. -/
  | paletteWrite (ch : Fin 16) (m : Message)
  /-- PALETTE_COMMIT (R98). Swap-pending flags are set on every grouped port. -/
  | paletteCommit (ch : Fin 16) (m : Message)
  /-- PALETTE_COMMIT_FORCE (R99). With FORCE set, the grouped ports swap at once and retarget to the new bank. -/
  | paletteCommitForce (ch : Fin 16) (m : Message)
  /-- IMAGE_CHUNK (R83). A chunk is written to the spare slot at a contiguous offset. -/
  | imageChunk (ch : Fin 16) (m : Message)
  /-- IMAGE_ACTIVATE (R84). The spare slot is checked, MAGIC is programmed and slot A is superseded when it applies. -/
  | imageActivate (ch : Fin 16) (m : Message)
  /-- EVT_CLEAR_AUTH (R389). An owner-signed clear commits LOG_CLEARED and moves OLDEST to N + 1. -/
  | evtClearAuth (ch : Fin 16) (m : Message)
  /-- DUMP_READ (R364). The Pentimento slot words are returned in fragments. -/
  | dumpRead (ch : Fin 16) (m : Message)
  /-- DUMP_READ_RELEASE (R364). A DUMP_READ with RELEASE and a statement clears LOCKED and commits a pending capture. -/
  | dumpReadRelease (ch : Fin 16) (m : Message)
  /-- CELL_QUERY (R250). The five status words of a cell are returned. -/
  | cellQuery (ch : Fin 16) (m : Message)
  /-- WET_WRITE (R79). A wet field is checked and committed to the shadow's wet area through the RM. -/
  | wetWrite (ch : Fin 16) (m : Message)
  /-- WET_READ (R502). A storage unit's value and its limit pair are returned. -/
  | wetRead (ch : Fin 16) (m : Message)
  /-- SERVICE_KEY_SET (R465). A wrapped service key is unwrapped and stored, ending any session. -/
  | serviceKeySet (ch : Fin 16) (m : Message)
  /-- PHASE_RESTORE (R212). A retired, blind or waiting phase is reset, rediscovered and retried. -/
  | phaseRestore (ch : Fin 16) (m : Message)
  /-- GUARANTEE_QUERY (R316). The 17 guarantee words are returned. -/
  | guaranteeQuery (ch : Fin 16) (m : Message)
  /-- RESUME (R359). An authorised RESUME in the safe state resets the counts and causes a warm chip restart. -/
  | resume (ch : Fin 16) (m : Message)
  /-- BUS_ERROR (R420). A START or STOP inside a byte ends the transaction without committing it. -/
  | busError (code : Option Byte) (write : Bool) (index : Nat)
  /-- BUS_TIMEOUT (R421). SCL is held low by another device for 25 ms to 35 ms, so the EM1280 releases the bus. -/
  | busTimeout (code : Option Byte) (write : Bool) (index : Nat)
  /-- ALERT_RESPONSE (R428). A read of 0x0C is answered with the EM1280's own address, and a complete reply clears the alert flag. -/
  | alertResponse (won complete pec : Bool)
  /-- HOST_NOTIFY (R429). At bus idle, the EM1280 sends a due notification as a controller, retrying after a failed attempt. -/
  | hostNotify (failed : Option NotifyFail)
  /-- STANDBY_ENTRY (R425). After STANDBY_IDLE of quiet, the CORE clock stops. -/
  | standbyEntry
  /-- STANDBY_WAKE (R426). An address match, an enable, a soft source or SVC_RX falling restarts the CORE clock. -/
  | standbyWake (cause : WakeCause)
  /-- PAGE (R432). Selects the rail page and resets PHASE. -/
  | page (x : BusXfer)
  /-- OPERATION (R439). Sets the rail's on, off or margin operation. -/
  | operation (x : BusXfer)
  /-- ON_OFF_CONFIG (R440). Sets how ENn and OPERATION form the enable request. -/
  | onOffConfig (x : BusXfer)
  /-- CLEAR_FAULTS (R307). Clears releasable latches, latch causes and status bits for the page. -/
  | clearFaults (x : BusXfer)
  /-- PHASE (R433). Selects a phase of the page. -/
  | phase (x : BusXfer)
  /-- WRITE_PROTECT (R446). Sets the write protection level. -/
  | writeProtect (x : BusXfer)
  /-- CAPABILITY (R445). Returns 0xD0. -/
  | capability (x : BusXfer)
  /-- VOUT_MODE (R435). Returns 0x15. -/
  | voutMode (x : BusXfer)
  /-- VOUT_COMMAND (R438). Sets or releases a host set-point within the envelope. -/
  | voutCommand (x : BusXfer)
  /-- VOUT_MAX (R438). Returns ENV_VMAX. -/
  | voutMax (x : BusXfer)
  /-- VOUT_MARGIN_HIGH (R438). Sets the high margin set-point. -/
  | voutMarginHigh (x : BusXfer)
  /-- VOUT_MARGIN_LOW (R438). Sets the low margin set-point. -/
  | voutMarginLow (x : BusXfer)
  /-- VOUT_TRANSITION_RATE (R441). Maps the rate onto HOST_SLEW_CLASS as a wet write. -/
  | voutTransitionRate (x : BusXfer)
  /-- IOUT_OC_FAULT_LIMIT (R442). Sets OCP_ABS as a wet write. -/
  | ioutOcFaultLimit (x : BusXfer)
  /-- STATUS_BYTE (R447). Returns the low byte of the summary status. -/
  | statusByte (x : BusXfer)
  /-- STATUS_WORD (R447). Returns the summary status word. -/
  | statusWord (x : BusXfer)
  /-- STATUS_VOUT (R447). Reads STATUS_VOUT, or clears its bits with a write of 1. -/
  | statusVout (x : BusXfer)
  /-- STATUS_IOUT (R447). Reads STATUS_IOUT, or clears its bits with a write of 1. -/
  | statusIout (x : BusXfer)
  /-- STATUS_INPUT (R447). Reads STATUS_INPUT, or clears its bits with a write of 1. -/
  | statusInput (x : BusXfer)
  /-- STATUS_TEMPERATURE (R447). Reads STATUS_TEMPERATURE, or clears its bits with a write of 1. -/
  | statusTemperature (x : BusXfer)
  /-- STATUS_CML (R447). Reads STATUS_CML, or clears its bits with a write of 1. -/
  | statusCml (x : BusXfer)
  /-- STATUS_MFR_SPECIFIC (R447). Reads STATUS_MFR_SPECIFIC, or clears its bits with a write of 1. -/
  | statusMfrSpecific (x : BusXfer)
  /-- READ_VIN (R337). Returns the input voltage from the VINA accumulator. -/
  | readVin (x : BusXfer)
  /-- READ_IIN (R337). Returns the input current. -/
  | readIin (x : BusXfer)
  /-- READ_VOUT (R337). Returns the rail output voltage. -/
  | readVout (x : BusXfer)
  /-- READ_IOUT (R337). Returns the rail current, or the phase current when PHASE is set. -/
  | readIout (x : BusXfer)
  /-- READ_TEMPERATURE_1 (R337). Returns the hottest valid cell temperature. -/
  | readTemperature1 (x : BusXfer)
  /-- READ_POUT (R337). Returns the output power. -/
  | readPout (x : BusXfer)
  /-- READ_PIN (R337). Returns the input power. -/
  | readPin (x : BusXfer)
  /-- PMBUS_REVISION (R445). Returns 0x33. -/
  | pmbusRevision (x : BusXfer)
  /-- MFR_ID (R445). Returns "HOLETH". -/
  | mfrId (x : BusXfer)
  /-- MFR_MODEL (R445). Returns "EM1280". -/
  | mfrModel (x : BusXfer)
  /-- MFR_REVISION (R445). Returns "B1-3.2". -/
  | mfrRevision (x : BusXfer)
  /-- IC_DEVICE_ID (R445). Returns the PART_ID bytes. -/
  | icDeviceId (x : BusXfer)
  /-- IC_DEVICE_REV (R445). Returns "B1". -/
  | icDeviceRev (x : BusXfer)
  /-- MFR_MBOX_POST (R405). Writes LEN words to a channel and posts them with GO. -/
  | mfrMboxPost (x : BusXfer)
  /-- MFR_MBOX_TAKE (R406). Returns a channel's control word and message, and acknowledges once the reply is complete. -/
  | mfrMboxTake (x : BusXfer)
  /-- MFR_MBOX_STATUS (R407). Returns the channel summary words. -/
  | mfrMboxStatus (x : BusXfer)
  /-- EPOCH_BUMP (R408). Advances the HOST epoch. -/
  | epochBump (x : BusXfer)
  /-- MBOX_CONTROL_RECALL (R408). Applies RECALL to a host-sent channel. -/
  | mboxControlRecall (x : BusXfer)
  /-- SELECT (R408). Chooses the channel whose control register a D3h read returns. -/
  | select (x : BusXfer)
  /-- MFR_MBOX_CONTROL_READ (R408). Returns the selected channel's control register. -/
  | mfrMboxControlRead (x : BusXfer)
  /-- MFR_RAIL_STATE (R154). Returns the rail status word. -/
  | mfrRailState (x : BusXfer)
  /-- MFR_PHASE_STATE (R217). Returns the phase status words. -/
  | mfrPhaseState (x : BusXfer)
  /-- MFR_CELL_SELECT (R250). Selects a cell number for MFR_CELL_STATUS. -/
  | mfrCellSelect (x : BusXfer)
  /-- MFR_CELL_STATUS (R250). Returns the selected cell's status words. -/
  | mfrCellStatus (x : BusXfer)
  /-- MFR_EVT_HEAD (R385). Returns the recorder status words. -/
  | mfrEvtHead (x : BusXfer)
  /-- MFR_EVT_READ (R386). Returns the record of a SEQ, or advances CURSOR on a cursor read (R388). -/
  | mfrEvtRead (x : BusXfer)
  /-- MFR_WDT_COUNTS (R361). Returns the retained supervision counters. -/
  | mfrWdtCounts (x : BusXfer)
  /-- MFR_PALETTE_STATE (R116). Returns the eight port status words. -/
  | mfrPaletteState (x : BusXfer)
  /-- MFR_GUARANTEE_STATE (R316). Returns the device and rail guarantee words. -/
  | mfrGuaranteeState (x : BusXfer)
  /-- MFR_TELEM_MINMAX (R449). Returns a tracker's words and clears it when CLEAR is set (R331). -/
  | mfrTelemMinmax (x : BusXfer)
  /-- MFR_DUMP_INFO (R365). Returns the dump status words. -/
  | mfrDumpInfo (x : BusXfer)
  /-- MFR_PRIMING_STATUS (R56). Returns the priming status word, answered from P2 onwards. -/
  | mfrPrimingStatus (x : BusXfer)
  /-- MFR_SECURITY_STATE (R453). Returns the security summary words. -/
  | mfrSecurityState (x : BusXfer)
  /-- MFR_GPIO (R450). Drives HOST-owned GPIO balls, or reads the ball levels. -/
  | mfrGpio (x : BusXfer)
  /-- MFR_RESOURCE_CLAIMS (R451). Returns claim entries from FIRST onward. -/
  | mfrResourceClaims (x : BusXfer)
  /-- MFR_LOOP_STATE (R181). Returns the LE status words, clearing SAT and MAX_CYC. -/
  | mfrLoopState (x : BusXfer)
  /-- MFR_MODEL_STATE (R155). Returns the model status words. -/
  | mfrModelState (x : BusXfer)
  /-- MFR_THROTTLE_STATE (R315). Returns the rail throttle word. -/
  | mfrThrottleState (x : BusXfer)
  /-- REGISTER_WRITE (R350). A write to a register with no behaviour of its own, such as WD_MASK or mailbox data words, stores the value where allowed. -/
  | registerWrite (t : RegTarget) (v : Word)
  /-- SVC_HELP (R475). Prints the command list. -/
  | svcHelp
  /-- SVC_VER (R475). Prints the part, firmware, image and serial identification. -/
  | svcVer
  /-- SVC_PRIME (R475). Prints the priming status. -/
  | svcPrime
  /-- SVC_STATUS (R475). Prints the status registers. -/
  | svcStatus (page : Option Nat)
  /-- SVC_RAIL (R475). Prints the rail status word. -/
  | svcRail (n : Nat)
  /-- SVC_SENSE (R475). Prints both converter codes, VMODEL and the vote state. -/
  | svcSense (n : Nat)
  /-- SVC_LOOP (R475). Prints the loop status words. -/
  | svcLoop (n : Nat)
  /-- SVC_MODEL (R475). Prints the model words. -/
  | svcModel (n : Nat)
  /-- SVC_PALETTE (R475). Prints a port status word. -/
  | svcPalette (p : Nat)
  /-- SVC_PHASE (R475). Prints the phase status for a range of phases. -/
  | svcPhase (a : Nat) (b : Option Nat)
  /-- SVC_CELL (R475). Prints the cell status words. -/
  | svcCell (c : Nat)
  /-- SVC_LINK (R475). Prints the link state. -/
  | svcLink (n : Nat)
  /-- SVC_CMP (R475). Prints the comparator status. -/
  | svcCmp (m : Option Nat)
  /-- SVC_BURST (R475). Prints the burst counters. -/
  | svcBurst (n : Option Nat)
  /-- SVC_ADC (R475). Prints the converter pair status. -/
  | svcAdc
  /-- SVC_TELEM (R475). Prints the accumulator and tracker results. -/
  | svcTelem
  /-- SVC_TEMP (R475). Prints the TSNS and die readings. -/
  | svcTemp
  /-- SVC_WDT (R475). Prints the watchdog counts. -/
  | svcWdt
  /-- SVC_DUMP (R488). Prints the dump header and core blocks. -/
  | svcDump
  /-- SVC_DUMP_WORDS (R475). Prints n dump words from word a. -/
  | svcDumpWords (a n : Nat)
  /-- SVC_EVT (R475). Prints MFR_EVT_HEAD. -/
  | svcEvt
  /-- SVC_EVT_RANGE (R487). Prints records a to b without moving CURSOR. -/
  | svcEvtRange (a : Nat) (b : Option Nat)
  /-- SVC_BUS (R475). Prints the bus state. -/
  | svcBus
  /-- SVC_SEC (R475). Prints the security summary. -/
  | svcSec
  /-- SVC_CLAIMS (R475). Prints the claims table. -/
  | svcClaims
  /-- SVC_ECC (R475). Prints the corrected-error counts. -/
  | svcEcc
  /-- SVC_FLASH (R62). Prints bytes read from an image slot. -/
  | svcFlash (slot : Nat) (a n : Nat)
  /-- SVC_MBX_LOOP (R486). Posts k PINGs on the SVC-to-HM channel and checks their replies. -/
  | svcMbxLoop (k : Option Nat)
  /-- SVC_AUTH (R476). Issues a service challenge. -/
  | svcAuth
  /-- SVC_AUTH_ANSWER (R467). Checks a challenge answer and opens a session or counts a failure. -/
  | svcAuthAnswer (answer : BitVec 256)
  /-- SVC_BYE (R477). Ends the service session. -/
  | svcBye
  /-- SESSION_TIMEOUT (R477). 600 s without a complete line ends the session. -/
  | sessionTimeout
  /-- LOCKOUT_END (R470). SVC_LOCK_S elapses and challenges are issued again. -/
  | lockoutEnd
  /-- SVC_ABORT (R475). A received 0x03 aborts a printing or waiting command. -/
  | svcAbort
  /-- SVC_ATB (R479). Selects what the ATB ball carries. -/
  | svcAtb (sel : AtbSel)
  /-- SVC_LANE (R482). Holds a lane high, low or idle. -/
  | svcLane (p : Nat) (lvl : LaneLevel)
  /-- SVC_LINK_FD (R482). Holds an FD pair high, low or idle. -/
  | svcLinkFd (n : Nat) (lvl : LaneLevel)
  /-- STATIC_LEVEL_ABORT (R483). The precondition of a held level fails, so every held level is idled. -/
  | staticLevelAbort
  /-- SVC_LINK_LOOP (R484). Sends LOOPBACK to each cell of a link. -/
  | svcLinkLoop (n : Nat) (pat : Option (BitVec 24))
  /-- SVC_CELL_ID (R484). Sends READ_ID to a cell. -/
  | svcCellId (c : Nat)
  /-- SVC_ADC_CHECK (R485). Starts an arbitration on a converter pair. -/
  | svcAdcCheck (c : Nat)
  /-- SVC_CMP_TEST (R485). Runs a comparator self-test. -/
  | svcCmpTest (m : Nat)
  /-- SVC_WDT_OFF (R354). Disables a watchdog. -/
  | svcWdtOff (m : Manager)
  /-- SVC_WDT_ON (R354). Starts a watchdog again. -/
  | svcWdtOn (m : Manager)
  /-- SVC_WDT_FORCE (R360). Forces a watchdog expiry. -/
  | svcWdtForce (m : Manager) (regs : Frozen)
  /-- SVC_EVT_CLEAR (R389). Clears the Sketchbook up to N within a session. -/
  | svcEvtClear (n : Nat)
  /-- SVC_DUMP_RELEASE (R488). Releases the dump slot. -/
  | svcDumpRelease
  /-- SVC_RESUME (R359). Resumes from the safe state. -/
  | svcResume
  /-- SVC_RESTORE (R212). Posts PHASE_RESTORE. -/
  | svcRestore (p : Nat)
  /-- SVC_WET (R79). Posts WET_WRITE. -/
  | svcWet (id v : Word)
  /-- TAP_INSTRUCTION_LOAD (R473). An instruction is loaded into the TAP instruction register; EXTEST, CLAMP and HIGHZ load only with every rail OFF or PRIMED and then hold every EN input off until the TAP leaves the instruction, and any other code loads BYPASS. -/
  | tapInstructionLoad (instr : TapInstr)
  /-- UNSUPPORTED_COMMAND_CODE (R417). A host transaction to the EM1280's address carries a command code that the EM1280 does not support; the code is refused and Invalid Or Unsupported Command is set in STATUS_CML. -/
  | unsupportedCommandCode (code : Option Byte) (x : BusXfer)
  /-- UNKNOWN_CONSOLE_COMMAND (R475). A complete console line that names no command, or that is longer than 80 characters, is discarded and answered ERR 1 SYNTAX, and the prompt returns. -/
  | unknownConsoleCommand (rx : List RxEvent) (regs : Frozen)
  deriving DecidableEq, Repr

end Sys2Proof
end

