-- ==== Sys2Proof/Decode.lean ====
section
/-! DEFINITION. The command that a word spells. No row of spec/opcode_table.json has bits: the commands of the EM1280
are events and transactions, so no word spells one. -/

namespace Sys2Proof

/-- The command of a word; the table gives no row any bits, so there is none. -/
def decodeTableWord (_nbits _w : Nat) : Option Instr := none

end Sys2Proof
end

