-- ==== Sys2Proof/Config.lean ====
section
/-! DEFINITION. The free values of the model: constants without a body, so that no proof can see what they are.
Log entries 5 (rounding), 6 (the patch key and the random source), 7 (unstated values) and 8 (SSEL at an unstable edge) name each of them. -/

namespace Sys2Proof.Config

/-- Which neighbour an inexact quotient `num / den` takes where its rule states no rounding: true, the upper one. -/
opaque roundsUp : Int → Nat → Bool

/-- The hash of the Holeth patch key in ROM (R461). -/
opaque patchKeyHash : BitVec 384

/-- The random source: the value of one draw, by draw number (R464, R467). -/
opaque random : (draw : Nat) → BitVec 384

/-- An unstated value, by draw number. -/
opaque freeNat : (draw : Nat) → Nat

/-- An unstated result that is a function of its operands. -/
opaque freeFun : (what : Nat) → List Int → Int

end Sys2Proof.Config
end

