-- ==== Sys2Proof/Machine/State.lean ====
section
/-! DEFINITION. The state of the EM1280 as plain data, one structure per block of the device, with the value of every
field at reset, and the reasons a step can stop. Docstrings name the rule of spec/ that gives a field. -/

namespace Sys2Proof.Machine

/-- Sparse byte memory: addresses strictly rising, no byte equal to the default of its memory. -/
abbrev Memory := List Host.Cell

/-- The EM1280 has no fault of its own kind: what a command finds wrong is a next state. No meaning raises one. -/
inductive Fault where
  deriving DecidableEq, Repr

/-- Why a command has no meaning. -/
inductive Refusal where
  /-- Raised by the dispatch for a command not modelled yet; safe, it only stops. -/
  | notModelled (mnemonic : String)
  deriving DecidableEq, Repr

/-- Rail states of Table 5.4, in the order of their codes in Table 5.6. -/
inductive RailState where
  | off | primed | softStart | regulating | slewing | softStop | discharge | faultLatched | reenablePending | apprenticeHold
  deriving DecidableEq, Repr

/-- Phase states of Table 7.2, in the order of their codes. -/
inductive PhaseState where
  | unused | active | decidedShed | draining | tristated | parked | deepParked | waking | blind | retryWait | retired
  deriving DecidableEq, Repr

/-- Cell states of Table 8.10, in the order of their codes. -/
inductive CellState where
  | absent | discovered | configured | running | silent | quarantined
  deriving DecidableEq, Repr

/-- What a management pair does (R339, R18). -/
inductive PairRun where
  | stopped | running | restarting | heldReset
  deriving DecidableEq, Repr

/-- Kinds of fault of Table 10.6; the last three are external and enter only as lasting faults (R310). -/
inductive FaultKind where
  | sense | loopEngine | pairMiscompare | clock | phase | cellSense | cellFrame | link | converter | comparator | memory
  | slowOc | outputOv | inputFault | apprentice
  deriving DecidableEq, Repr

/-- An internal fault outstanding (R310): its kind and place, whether it is lasting, and the tick of its record. -/
structure FaultEntry where
  kind : FaultKind
  idx : Nat
  lasting : Bool
  stamp : Nat
  deriving DecidableEq, Repr

/-- Discovery on the lane of a phase after a PHASE_RESTORE (R212, R236, R240): none or over; owed after a takeover; waiting for
the RESET_CELLs; the pattern driven since a frame time; ENUMERATE waiting since a frame time; rounds of replies still to
take; the configuration of the cells found. `second`: the repeat of step 4 of R238. -/
inductive Discovery where
  | idle | owed | resets
  | pattern (since : Nat) (second : Bool)
  | enumerate (since : Nat) (second : Bool)
  | replies (rounds : Nat) (second : Bool)
  | config
  deriving DecidableEq, Repr

/-- What a link does in the discovery of P5 (R236, R238): a frame sent, or the discovery pattern on one of its lanes. -/
inductive LinkAct where
  | frame (f : DownFrame)
  | pattern (lane : Nat)
  deriving DecidableEq, Repr

/-- A reassembly of fragments in progress (R403): the common CODE, TAG and epoch, the fragments and the payload so far, the tick of the
latest fragment and the flags of the first header. -/
structure Fragments where
  code : BitVec 8
  tag : BitVec 8
  epoch : BitVec 8
  count : Nat
  payload : List Word
  stamp : Nat
  orphan : Bool
  stale : Bool
  deriving DecidableEq, Repr

/-- An ATTEST whose signature is being made (R466): its channel, the message, the measurement and NEWEST at its take. -/
structure Signing where
  ch : Nat
  message : Message
  snapshot : List Byte
  newest : Word
  deriving DecidableEq, Repr

/-- What a console command waits for (R475, R484 to R486): the LOOPBACK of cells of a link, and the results so far; the three
parts of the READ_ID reply of a cell; the arbitration of a pair; the test of a comparator; the reply with a TAG on a channel; or the PINGs of `mbx loop`,
`total` of them on channel `ch`, with the TAG of the one in flight, the replies that passed, the longest round trip in µs and the tick
of the post. -/
inductive ConWait where
  | loopback (link : Nat) (left : List Nat) (results : List (Nat × Bool))
  | cellId (c : Nat) (parts : List (Option (BitVec 24)))
  | adc (pair : Nat)
  | cmp (m : Nat)
  | reply (ch tag : Nat)
  | loop (ch total tag passed longest stamp : Nat)
  deriving DecidableEq, Repr


/-- Clocks of Table 1.3, the TIME counter and standby. -/
structure Clock where
  /-- LOOP cycles of 1.25 ns since the model began; the model's own clock, advanced by step on an empty queue (R11). DESIGN CHOICE: the model's own field, log 3. -/
  tick : Nat
  /-- TIME, 48 bits, microseconds since time 0, saturating (R372). -/
  time : Nat
  /-- REFCLK is present (R15). DESIGN CHOICE at reset, log 1. -/
  refclk : Bool
  /-- the CORE clock runs (false in power-on reset, before P1 ends the settling) (R349). DESIGN CHOICE at reset, log 1. -/
  corePresent : Bool
  /-- a LOOP clock runs (R14). DESIGN CHOICE at reset, log 1. -/
  loopPresent : Bool
  /-- LOOP runs from PLL_BACKUP (R12). -/
  onBackup : Bool
  /-- REFCLK has been present and PLL_LOOP locked for 10 ms while LOOP runs from PLL_BACKUP (R15). -/
  pllReady : Bool
  /-- the APP clock runs (R11). DESIGN CHOICE at reset, log 1. -/
  appPresent : Bool
  /-- tick at which CORE was declared missing (P1 of CLOCK_LOSS) (R367). DESIGN CHOICE at reset, log 1. -/
  coreLossAt : Nat
  /-- router source 186 CLOCK_LOSS (R366). -/
  clockLossSource : Bool
  /-- link causes 2 and 3 and R232 are suspended after a LOOP loss (R247). -/
  suspendLinks : Bool
  /-- full rounds still to pass before that suspension ends (R247). -/
  suspendRounds : Nat
  /-- the EM1280 is in standby, its CORE clock stopped (R425). -/
  standby : Bool
  /-- interpolator recalibrations done (R494). -/
  interpCal : Nat
  deriving DecidableEq, Repr

/-- Clock at reset. -/
def Clock.reset : Clock :=
  { tick := 0, time := 0, refclk := true, corePresent := false,
    loopPresent := false, onBackup := false, pllReady := false, appPresent := true,
    coreLossAt := 0, clockLossSource := false, suspendLinks := false, suspendRounds := 0,
    standby := false, interpCal := 0 }

/-- Ball levels the model keeps (Table 2.5). -/
structure Pins where
  /-- VDD_CORE, VDDA, VDD_IO, VDD_LVDS, VDD_AON above their monitor thresholds (R52). DESIGN CHOICE at reset, log 1. -/
  supplies : List Bool
  /-- level of PORST_N (pull-up, Table 2.5) (R52). -/
  porstN : Bool
  /-- EN0 to EN15 judged on (R35). -/
  enOn : BitVec 16
  /-- value last driven on each HOST GPIO ball (R450). -/
  mfpDrive : BitVec 32
  /-- 1: the ball is driven (reset: high impedance) (R48). -/
  mfpDriven : BitVec 32
  /-- lane and FD drivers may be enabled (driver disabled at power-on reset) (R32). -/
  lanesEnabled : Bool
  /-- FD drivers enabled, from P5 (R32). -/
  fdEnabled : Bool
  /-- P7 has released FAULT_N (R33). -/
  faultReleased : Bool
  /-- SVC_TX is driven, high while no line is sent (high impedance until P2) (R32). -/
  svcTx : Bool
  /-- QCLK runs and QCS_N is driven (QCLK low and QCS_N high impedance until P3) (R32). -/
  qcs : Bool
  /-- FU receivers on and FFLTn_N read, from P5 (R32). -/
  fuOn : Bool
  deriving DecidableEq, Repr

/-- Pins at reset. -/
def Pins.reset : Pins :=
  { supplies := List.replicate 5 false, porstN := true, enOn := 0, mfpDrive := 0,
    mfpDriven := 0, lanesEnabled := false, fdEnabled := false, faultReleased := false,
    svcTx := false, qcs := false, fuOn := false }

/-- Priming state and the priming status word of Table 3.2. -/
structure Boot where
  /-- held in power-on reset (R52). -/
  held : Bool
  /-- STAGE of Table 3.2 (R55). -/
  stage : BitVec 4
  /-- SLOT (R66). -/
  slot : BitVec 2
  /-- A_FAIL (R66). -/
  aFail : Bool
  /-- B_FAIL (R66). -/
  bFail : Bool
  /-- A_SUPERSEDED (R69). -/
  aSuperseded : Bool
  /-- ACT_PENDING (R84). -/
  actPending : Bool
  /-- the Fixative bit (R77). -/
  fixative : Bool
  /-- STRAP_INVALID (R43). -/
  strapInvalid : Bool
  /-- SVC_STRAP (R45). -/
  svcStrap : Bool
  /-- CAUSE (R70). -/
  cause : BitVec 4
  /-- DETAIL (R70). -/
  detail : BitVec 8
  /-- an image that passed P3 is in the shadow (R66). -/
  imageLoaded : Bool
  /-- WDT_HW as read in P1 (R351). -/
  fuseWdtHw : Bool
  /-- cause of the power-on reset: 0 supply monitor, 1 PORST_N (R390). -/
  resetCause : BitVec 4
  /-- rails whose node was above OV_SLOW at P6 (R76). -/
  ovNodes : BitVec 16
  /-- telemetry readings of P6 by rail, 2^-12 V (R317). -/
  ovReads : List Nat
  /-- rails held OFF because too few phases are left (R74). -/
  heldOff : BitVec 16
  /-- the booted image carries a claim or transfer that burns at P7 (R455). -/
  burnClaim : Bool
  /-- the owner-key slot it burns (R455). -/
  claimSlot : BitVec 2
  /-- it is a transfer (R455). -/
  claimTransfer : Bool
  /-- the hash it burns (R455). -/
  claimHash : BitVec 384
  /-- digest of R64 of the running image (R466). -/
  imageDigest : BitVec 384
  /-- PATCH_ID; 0 without a patch (R462). -/
  patchId : BitVec 16
  /-- RM patch memory (R462). -/
  patchRm : List Byte
  /-- HM patch memory (R462). -/
  patchHm : List Byte
  /-- SHA-384 stored when the RM patch was loaded (R462). -/
  patchRmHash : BitVec 384
  /-- SHA-384 stored when the HM patch was loaded (R462). -/
  patchHmHash : BitVec 384
  /-- the flash's JESD216 tables were found (R61). DESIGN CHOICE at reset, log 1. -/
  sfdp : Bool
  /-- how P3 reads the image: the read mode, its rate and its dummy cycles (R61). DESIGN CHOICE at reset, log 1. -/
  access : FlashAccess
  /-- stored SHA-384 digest of the dry part of the shadow (R81). -/
  dryDigest : BitVec 384
  /-- stored CRC-32 of the wet area (R81). -/
  wetCrc : BitVec 32
  /-- IMAGE_VERSION of the running image (R453). -/
  imageVersion : Word
  /-- ROLLBACK of the running image (R453). -/
  rollback : BitVec 7
  /-- next expected offset of an unfinished update (R83). -/
  updOffset : Option Nat
  deriving DecidableEq, Repr

/-- Boot at reset. -/
def Boot.reset : Boot :=
  { held := true, stage := 0, slot := 0, aFail := false,
    bFail := false, aSuperseded := false, actPending := false, fixative := false,
    strapInvalid := false, svcStrap := false, cause := 0, detail := 0,
    imageLoaded := false, fuseWdtHw := false, resetCause := 0, ovNodes := 0,
    ovReads := [], heldOff := 0, burnClaim := false, claimSlot := 0,
    claimTransfer := false, claimHash := 0, imageDigest := 0, patchId := 0,
    patchRm := [], patchHm := [], patchRmHash := 0, patchHmHash := 0,
    sfdp := true, access := ⟨.slow, 20000, 0⟩, dryDigest := 0, wetCrc := 0,
    imageVersion := 0, rollback := 0, updOffset := none }

/-- The Varnish bank (Table 17.1): the three copies of each of its 2,048 bits. Non-volatile. -/
structure Varnish where
  /-- first copies; DEBUG_OFF is burned on every shipped unit (R472) (R452). DESIGN CHOICE at reset, log 2. -/
  a : BitVec 2048
  /-- second copies (R452). DESIGN CHOICE at reset, log 2. -/
  b : BitVec 2048
  /-- third copies (R452). DESIGN CHOICE at reset, log 2. -/
  c : BitVec 2048
  deriving DecidableEq, Repr

/-- Varnish at reset. -/
def Varnish.reset : Varnish :=
  { a := BitVec.ofNat 2048 (2 ^ 1605), b := BitVec.ofNat 2048 (2 ^ 1605), c := BitVec.ofNat 2048 (2 ^ 1605) }

/-- The fields of the Varnish bank as P1 read them and the burns of P2 and P7 have changed them since (R452). -/
structure Fuses where
  /-- KEYHASH[0..3] (R452). DESIGN CHOICE at reset, log 2. -/
  keyHash : List (BitVec 384)
  /-- VALID[0..3] (R452). DESIGN CHOICE at reset, log 2. -/
  keyValid : BitVec 4
  /-- RB[0:63] thermometer (R452). DESIGN CHOICE at reset, log 2. -/
  rb : BitVec 64
  /-- WDT_HW (R452). DESIGN CHOICE at reset, log 2. -/
  wdtHw : Bool
  /-- DEBUG_OFF, burned on every shipped unit (R472). -/
  debugOff : Bool
  /-- ID_GEN (R464). DESIGN CHOICE at reset, log 2. -/
  idGen : Bool
  /-- SERIAL[63:0] (R452). DESIGN CHOICE at reset, log 2. -/
  serial : BitVec 64
  deriving DecidableEq, Repr

/-- Fuses at reset. -/
def Fuses.reset : Fuses :=
  { keyHash := List.replicate 4 0, keyValid := 0, rb := 0, wdtHw := false,
    debugOff := true, idGen := false, serial := 0 }

/-- The identity key store. Non-volatile. -/
structure IdStore where
  /-- private identity scalar (R464). DESIGN CHOICE at reset, log 2. -/
  scalar : BitVec 384
  /-- identity public key, 97 bytes (R464). DESIGN CHOICE at reset, log 2. -/
  publicKey : List Byte
  /-- service key; 0 none (R465). DESIGN CHOICE at reset, log 2. -/
  serviceKey : BitVec 256
  /-- ARG of the statement that set the present service key (R460). DESIGN CHOICE at reset, log 2. -/
  serviceArg : Word
  /-- consecutive failed answers (R470). DESIGN CHOICE at reset, log 2. -/
  failCount : Nat
  /-- lockout flag (R470). DESIGN CHOICE at reset, log 2. -/
  lockout : Bool
  /-- ID_KEY: the store passed its P2 check (R453). -/
  checked : Bool
  deriving DecidableEq, Repr

/-- IdStore at reset. -/
def IdStore.reset : IdStore :=
  { scalar := 0, publicKey := [], serviceKey := 0, serviceArg := 0,
    failCount := 0, lockout := false, checked := false }

/-- One palette port (Table 4.7). -/
structure Port where
  /-- PENDING (R98). -/
  pendingSwap : Bool
  /-- active bank: false A, true B (R91). -/
  actBank : Bool
  /-- BOOT: no accepted edge since PRIMED (R116). -/
  boot : Bool
  /-- swatch in force (BOOT_SWATCH from PRIMED on) (R116). DESIGN CHOICE at reset, log 1. -/
  swatch : BitVec 6
  /-- THROTp_N is driven low (R112). -/
  throtLow : Bool
  /-- the 10 us minimum hold is running (R112). -/
  throtHold : Bool
  /-- IGNORED (R87). -/
  ignored : BitVec 4
  /-- EDGES (R116). -/
  edges : BitVec 8
  deriving DecidableEq, Repr

/-- Port at reset. -/
def Port.reset : Port :=
  { pendingSwap := false, actBank := false, boot := true, swatch := 0,
    throtLow := false, throtHold := false, ignored := 0, edges := 0 }

/-- The PMBus set-point and enable registers of one page. -/
structure RailHost where
  /-- OPERATION (R439). -/
  operation : BitVec 8
  /-- ON_OFF_CONFIG (R440). -/
  onOff : BitVec 8
  /-- held host set-point; 0 none (R438). -/
  voutCommand : BitVec 16
  /-- VOUT_MARGIN_HIGH (ENV_VMAX from PRIMED on) (R438). DESIGN CHOICE at reset, log 1. -/
  marginHigh : BitVec 16
  /-- VOUT_MARGIN_LOW (ENV_VMIN from PRIMED on) (R438). DESIGN CHOICE at reset, log 1. -/
  marginLow : BitVec 16
  /-- an OPERATION write of on since the last evaluation (R147). -/
  newEnable : Bool
  deriving DecidableEq, Repr

/-- RailHost at reset. -/
def RailHost.reset : RailHost :=
  { operation := 0, onOff := 0x16, voutCommand := 0, marginHigh := 0, marginLow := 0, newEnable := false }

/-- What waits on its way to LOOP (R9, R10, R16): a request that the HM has checked and posted to the RM (the host registers of a rail, a
forced palette commit, a PHASE_RESTORE), or a command of the RM's own (phases added to a rail, a shed, a deep parking, a trim, a
SET_WIDTH to a cell, a SYNC_APPLY on a link, a re-arm). -/
inductive RmPost where
  | host (n : Nat) (h : RailHost)
  | force
  | restore (p : Nat)
  | add (n count : Nat)
  | shed (p : Nat)
  | deepPark (p : Nat)
  | trim (p : Nat) (t : Int)
  | width (c : Nat) (f : DownFrame)
  | apply (l : Nat) (f : DownFrame)
  | rearm (n : Nat)
  deriving DecidableEq, Repr

/-- Rail state machine and slew limiter of one rail. -/
structure RailCore where
  /-- STATE (R154). -/
  state : RailState
  /-- enable request at the last evaluation (R147). -/
  enReq : Bool
  /-- slewed set-point, 2^-20 V (R101). -/
  slewed : Int
  /-- target, set-point code (R103). -/
  target : Nat
  /-- governing slew class (R101). -/
  govClass : Nat
  /-- T0: the target that the highest source of ranks 2 to 4 in force gives (R283). -/
  base : Nat
  /-- slew class of that source (R101). -/
  baseClass : Nat
  /-- the error has stayed within 4 LSB for SETTLE (R104). -/
  settleDone : Bool
  /-- sliding from SETPT + PREBIAS to SETPT (R105). -/
  slide : Bool
  /-- a pre-bias hold is running (R108). -/
  prebias : Bool
  /-- V0 of the last start, 2^-20 V (R149). -/
  v0 : Int
  /-- low-side intervals replaced by idle (R149). -/
  lowSideIdle : Bool
  /-- a start waits for the 20 us (R151). -/
  waitStart : Bool
  /-- the start waits for its wakes (R191). -/
  waitWake : Bool
  /-- the waiting start came from PRIMED (R148). DESIGN CHOICE: the model's own field, log 3. -/
  startFrom : Bool
  /-- tick at which the lanes were last idled (R151). -/
  idledAt : Option Nat
  /-- the Apprentice is stopping the rail (R152). -/
  appStop : Bool
  /-- load-line coefficient in use, micro-ohm (R120). DESIGN CHOICE at reset, log 1. -/
  rll : Nat
  deriving DecidableEq, Repr

/-- RailCore at reset. -/
def RailCore.reset : RailCore :=
  { state := .off, enReq := false, slewed := 0, target := 0,
    govClass := 0, base := 0, baseClass := 0, settleDone := false,
    slide := false, prebias := false, v0 := 0, lowSideIdle := false,
    waitStart := false, waitWake := false, startFrom := false, idledAt := none,
    appStop := false, rll := 0 }

/-- Error converters and the vote of one rail. -/
structure RailSense where
  /-- latest code of sense A (R119). -/
  cA : Int
  /-- latest code of sense B (R119). -/
  cB : Int
  /-- disagreement count (R124). -/
  disCount : Nat
  /-- consecutive agreeing samples while pending (R126). -/
  agreeCount : Nat
  /-- A_FAILED (R154). -/
  aFailed : Bool
  /-- B_FAILED (R154). -/
  bFailed : Bool
  /-- SENSE_SEL: false A, true B (R154). -/
  sel : Bool
  /-- VOTE_PENDING (R154). -/
  votePending : Bool
  /-- sum of chosen samples since the last update (R121). -/
  sum : Int
  /-- their count (R121). -/
  nSamples : Nat
  /-- one of them was an edge code (R121). -/
  edgeCode : Bool
  /-- the burst of this disagreement run is spent (R128). -/
  burstSpent : Bool
  /-- consecutive valid visits beyond 103 codes (R130). -/
  missRun : Nat
  /-- the chosen sense changed since the last update (R127). -/
  switched : Bool
  /-- tick of the latest change of the chosen sense (R127). -/
  switchAt : Option Nat
  /-- sense A has been outvoted before (R311). -/
  outvotedA : Bool
  /-- sense B has been outvoted before (R311). -/
  outvotedB : Bool
  deriving DecidableEq, Repr

/-- RailSense at reset. -/
def RailSense.reset : RailSense :=
  { cA := 0, cB := 0, disCount := 0, agreeCount := 0,
    aFailed := false, bFailed := false, sel := false, votePending := false,
    sum := 0, nSamples := 0, edgeCode := false, burstSpent := false,
    missRun := 0, switched := false, switchAt := none, outvotedA := false,
    outvotedB := false }

/-- Plausibility model and self-characterisation of one rail. -/
structure RailModel where
  /-- VALID (R155). -/
  valid : Bool
  /-- VMODEL, 2^-12 V (R155). -/
  vmodel : Int
  /-- RPATH_EFF (RPATH from the image load on) (R155). DESIGN CHOICE at reset, log 1. -/
  rpathEff : BitVec 16
  /-- COUT_EST (R155). -/
  coutEst : BitVec 16
  /-- LEFF_EST (R155). -/
  leffEst : BitVec 16
  /-- ticks at which duties were applied in the preceding 1 us, newest first, each with the mean over the switching phases, Q1.31; the oldest is the one in force when that time began (R122). -/
  duties : List (Nat × Int)
  /-- burst, clamp or lane idle in the preceding 1 us (R123). -/
  disturbed : Bool
  /-- the switching-phase count changed in the preceding 1 us (R123). -/
  countChanged : Bool
  /-- FIRST_LIGHT (R154). -/
  firstLight : Bool
  /-- CHAR_BUSY (R154). -/
  charBusy : Bool
  /-- aborts since the last scheduled run (R143). -/
  charAborts : Nat
  /-- a run is due (R141). -/
  charDue : Bool
  /-- tick at which the last run began (R142). DESIGN CHOICE at reset, log 1. -/
  charAt : Nat
  /-- sum over the run's visits of D_AVG x VIN, 2^-20 V (R144). -/
  charDv : Int
  /-- sum over the run's visits of VA + VB, 2^-20 V (R144). -/
  charV : Int
  /-- sum over the run's visits of IRAIL, A x 2^16 (R144). -/
  charI : Int
  /-- the run's visits (R144). -/
  charVisits : Nat
  /-- the condition of R144 has held throughout the run (R144). -/
  charOk : Bool
  /-- D_AVG x 800 at the latest valid visit, Q1.31; none before the first (R296). -/
  visitDuty : Option Int
  /-- IRAIL at the latest valid visit (R296). -/
  visitIrail : Int
  /-- COUT_DEG (R154). -/
  coutDeg : Bool
  deriving DecidableEq, Repr

/-- RailModel at reset. -/
def RailModel.reset : RailModel :=
  { valid := false, vmodel := 0, rpathEff := 0, coutEst := 0,
    leffEst := 0, duties := [], disturbed := false, countChanged := false,
    firstLight := false, charBusy := false, charAborts := 0, charDue := false,
    charAt := 0, charDv := 0, charV := 0, charI := 0,
    charVisits := 0, charOk := false, visitDuty := none, visitIrail := 0,
    coutDeg := false }

/-- One loop engine: stores, z registers, outputs, fault state. -/
structure LoopEngine where
  /-- MODE of Table 6.11, as far as it is stored (0, 1, 2, 3, 4) (R181). -/
  mode : BitVec 3
  /-- microcode store, loaded length (R180). DESIGN CHOICE at reset, log 1. -/
  code : List (BitVec 64)
  /-- coefficient store, slot q entry k at 32q + k (R176). DESIGN CHOICE at reset, log 1. -/
  coef : List (Word × BitVec 5)
  /-- defined profile slots as loaded (R176). DESIGN CHOICE at reset, log 1. -/
  profDef : BitVec 16
  /-- z0 to z63 (R158). -/
  z : List Word
  /-- DUTY output register, Q1.31 (R174). -/
  duty : Word
  /-- STATUS output register (R174). -/
  status : Word
  /-- SAT (R181). -/
  satSeen : Bool
  /-- PROF (R181). -/
  prof : BitVec 4
  /-- MAX_CYC (R181). -/
  maxCyc : Nat
  /-- LAST_CYC (R181). -/
  lastCyc : Nat
  /-- LAST_END (R181). -/
  lastEnd : BitVec 8
  /-- address of the bundle due at the deadline of an update without END (R175). -/
  unfinished : Option (BitVec 9)
  /-- ERR of that update (R175). DESIGN CHOICE at reset, log 1. -/
  lateErr : Int
  /-- declarations since power-on reset (R140). -/
  declared : Nat
  /-- overrun history of the last 1,024 updates, newest first (R139). -/
  overruns : List Bool
  /-- run of criterion (a) (R138). -/
  envRun : Nat
  /-- run of criterion (b) (R138). -/
  satRun : Nat
  /-- updates done of the shadow run (R140). -/
  shadowCount : Nat
  /-- a re-arm is due (R140). -/
  rearmDue : Bool
  /-- FIRST of the next update (R160). -/
  setFirst : Bool
  /-- TRACKED of the next update (R160). -/
  setTracked : Bool
  /-- BURST_PRELOAD of the next update (R160). -/
  setBurstPre : Bool
  /-- the next update is the first of a start under R149 (R161). -/
  startPre : Bool
  /-- profile of the previous update (R160). -/
  lastProf : BitVec 4
  deriving DecidableEq, Repr

/-- LoopEngine at reset. -/
def LoopEngine.reset : LoopEngine :=
  { mode := 0, code := [], coef := [], profDef := 0,
    z := List.replicate 64 0, duty := 0, status := 0, satSeen := false,
    prof := 0, maxCyc := 0, lastCyc := 0, lastEnd := 0,
    unfinished := none, lateErr := 0, declared := 0, overruns := [],
    envRun := 0, satRun := 0, shadowCount := 0, rearmDue := false,
    setFirst := false, setTracked := false, setBurstPre := false, startPre := false,
    lastProf := 0 }

/-- Backstop loop and the duty of one rail. -/
structure Backstop where
  /-- integrator, Q1.31 (R135). -/
  i : Int
  /-- previous ERR, V x 2^24 (R135). -/
  ePrev : Int
  /-- output of the last update, Q1.31 (R135). -/
  u : Int
  /-- BACKSTOP: it drove the last update (R154). -/
  drove : Bool
  /-- BS_CAUSE (R154). -/
  cause : BitVec 3
  /-- clamped duty of the last update, Q1.31 (R132). -/
  clamped : Int
  /-- applied duty D, Q1.31 (R132). -/
  applied : Int
  /-- pre-load duty of a start or a burst, Q1.31 (R149). -/
  preload : Int
  deriving DecidableEq, Repr

/-- Backstop at reset. -/
def Backstop.reset : Backstop :=
  { i := 0, ePrev := 0, u := 0, drove := false,
    cause := 0, clamped := 0, applied := 0, preload := 0 }

/-- Protection state of one rail. -/
structure RailProt where
  /-- latch causes of Table 10.5, one bit each (R306). -/
  latch : BitVec 10
  /-- throttle causes of Table 10.2 (R286). -/
  throt : BitVec 7
  /-- tick at which a running grace started (R281). -/
  grace : Option Nat
  /-- an overload yield is in force (R287). -/
  yieldOver : Bool
  /-- tick since which its cause has been absent (R284). -/
  clearSince : Option Nat
  /-- input-cap y in eighths (R299). -/
  y : Nat
  /-- an L3 input-cap yield is in force (R300). -/
  yieldCap : Bool
  /-- an L4 floor yield is in force (R299). -/
  yieldFloor : Bool
  /-- the L5 cell-warm yield is in force (R302). -/
  yieldWarm : Bool
  /-- IRAIL (2^-16 A) of the last evaluations, newest first (R288). -/
  ocpWin : List Int
  /-- tick of the first trip that counts (R289). -/
  ocpTrip : Option Nat
  /-- router source OCP_SLOW n (R305). -/
  ocpSource : Bool
  /-- PG_n (R293). -/
  pg : Bool
  /-- L in 0.1 % (R315). -/
  load : Nat
  /-- an OV latch has been cleared and the rail has not restarted since (R311). -/
  ovClear : Bool
  /-- tick of the last restart after an OV latch (R311). -/
  restartAt : Option Nat
  deriving DecidableEq, Repr

/-- RailProt at reset. -/
def RailProt.reset : RailProt :=
  { latch := 0, throt := 0, grace := none, yieldOver := false,
    clearSince := none, y := 0, yieldCap := false, yieldFloor := false,
    yieldWarm := false, ocpWin := [], ocpTrip := none, ocpSource := false,
    pg := false, load := 0, ovClear := false, restartAt := none }

/-- Phase policy, currents and spacing of one rail. -/
structure RailPolicy where
  /-- IRAIL, A x 2^16 (R131). -/
  irail : Int
  /-- IRAIL of the last 8 rounds, newest first (R337). -/
  iRounds : List Int
  /-- tick of the last evaluation at which I / N did not exceed ADD_THR (R192). -/
  addBelow : Option Nat
  /-- tick of the first evaluation with N > N_T (R193). -/
  shedSince : Option Nat
  /-- tick of the last shed decision or handback (R193). -/
  lastShed : Option Nat
  /-- phases the RM has decided to shed whose commands are on their way (R193). -/
  shedOrders : List Nat
  /-- tick of the latest hardware add (R194). -/
  addAt : Option Nat
  /-- tick of the latest accepted shed (R194). -/
  shedAt : Option Nat
  /-- phases shed at that tick (R194). -/
  shedNow : List Nat
  /-- the first step of the latest re-spacing has been taken (R199). -/
  stepped : Bool
  /-- tick of the latest period start of the rail's counter (R200). -/
  periodAt : Option Nat
  /-- locked to SYNC_IN (R200). -/
  syncLocked : Bool
  /-- edges seen since it began to lock (R200). -/
  syncEdges : Nat
  /-- period correction in 0.01 % (R200). -/
  periodCorr : Int
  /-- a burst holds the lanes (R271). -/
  burst : Bool
  /-- tick at which the lanes went high (R271). -/
  burstStart : Nat
  /-- a burst has fired and has not re-armed (R272). -/
  burstFired : Bool
  /-- length of the last burst, ns x 4 (1.25 ns = 5) (R273). -/
  tb : Nat
  /-- clamped duty of the last update before the burst (R273). -/
  dPre : Int
  /-- BURSTS (R274). -/
  bursts : BitVec 16
  /-- LIMIT_HITS (R274). -/
  limitHits : BitVec 8
  /-- a clamp holds the lanes low (R275). -/
  clamp : Bool
  /-- CLAMP_LIMIT reached: lanes idle until release (R275). -/
  clampIdle : Bool
  /-- TRISTATE n holds the lanes idle (R276). -/
  tristate : Bool
  /-- FASTSTOP n latch (R276). -/
  fastStop : Bool
  deriving DecidableEq, Repr

/-- RailPolicy at reset. -/
def RailPolicy.reset : RailPolicy :=
  { irail := 0, iRounds := List.replicate 8 0, addBelow := none, shedSince := none,
    lastShed := none, shedOrders := [], addAt := none, shedAt := none,
    shedNow := [], stepped := false, periodAt := none, syncLocked := false,
    syncEdges := 0, periodCorr := 0, burst := false, burstStart := 0,
    burstFired := false, tb := 0, dPre := 0, bursts := 0,
    limitHits := 0, clamp := false, clampIdle := false, tristate := false,
    fastStop := false }

/-- One rail: the seven groups of its state. -/
structure Rail where
  /-- rail state machine (R148). -/
  core : RailCore
  /-- host registers, as the HM keeps them (R438). -/
  host : RailHost
  /-- host registers as the RM last applied them, on which regulation acts (R9). -/
  hosted : RailHost
  /-- senses and vote (R124). -/
  sense : RailSense
  /-- plausibility and characterisation (R122). -/
  model : RailModel
  /-- loop engine (R157). -/
  le : LoopEngine
  /-- backstop (R135). -/
  bs : Backstop
  /-- protection (R286). -/
  prot : RailProt
  /-- policy, currents, burst (R192). -/
  pol : RailPolicy
  deriving DecidableEq, Repr

/-- Rail at reset. -/
def Rail.reset : Rail :=
  { core := RailCore.reset, host := RailHost.reset, hosted := RailHost.reset, sense := RailSense.reset,
    model := RailModel.reset, le := LoopEngine.reset, bs := Backstop.reset, prot := RailProt.reset,
    pol := RailPolicy.reset }

/-- One phase and its lane. -/
structure Phase where
  /-- STATE (R217). -/
  state : PhaseState
  /-- PROBATION (R217). -/
  probation : Bool
  /-- RETRIED (R217). -/
  retried : Bool
  /-- SNS_LOST (R217). -/
  snsLost : Bool
  /-- WAKE_TGT: false ACTIVE, true PARKED (R217). -/
  wakePark : Bool
  /-- the wake in progress began in DEEP_PARKED (R184). -/
  deep : Bool
  /-- BAND (R217). -/
  band : Nat
  /-- trim, 2^-16 (R217). -/
  trim : Int
  /-- present offset, 19.5 ps steps (R198). -/
  offset : Int
  /-- target offset, 19.5 ps steps (R199). -/
  targetOff : Int
  /-- re-spacing steps still to take (R199). -/
  stepsLeft : Nat
  /-- joined the spacing set in the latest re-spacing (R199). -/
  fresh : Bool
  /-- deferred widths have been sent and their SYNC_APPLY has not (R203). -/
  applyDue : Bool
  /-- drain steps done (R195). -/
  drain : Nat
  /-- high interval of the present period, 19.5 ps steps (R133). -/
  highTime : Nat
  /-- tick at which that interval ends, while it lasts (R258). -/
  fallAt : Option Nat
  /-- the SET_MODE that confirms its wake is due in the next round (R186). -/
  modeDue : Bool
  /-- fired high by the burst in progress (R271). -/
  fired : Bool
  /-- level the lane is commanded to (R183). -/
  lane : LaneCmd
  /-- static level held by the console (R482). -/
  hold : LaneCmd
  /-- a static level is held (R483). -/
  held : Bool
  /-- consecutive sound probation rounds (R209). -/
  sound : Nat
  /-- probation rounds from the wake (R218). -/
  rounds : Nat
  /-- the retry follows a PHASE_RESTORE (R212). -/
  restored : Bool
  /-- the retry is due at once (R209). -/
  retryDue : Bool
  /-- the reset and configuration of a retry are in progress (R209). -/
  retrying : Bool
  /-- discovery on its lane after a PHASE_RESTORE (R212). -/
  disc : Discovery
  /-- cells in over-temperature shutdown when the phase opened (R303). -/
  overTemp : BitVec 8
  deriving DecidableEq, Repr

/-- Phase at reset. -/
def Phase.reset : Phase :=
  { state := .unused, probation := false, retried := false, snsLost := false,
    wakePark := false, deep := false, band := 0, trim := 0,
    offset := 0, targetOff := 0, stepsLeft := 0, fresh := false,
    applyDue := false, drain := 0, highTime := 0, fallAt := none,
    modeDue := false, fired := false, lane := .idle, hold := .idle,
    held := false, sound := 0, rounds := 0, restored := false,
    retryDue := false, retrying := false, disc := .idle, overTemp := 0 }

/-- One entry of the cell table. -/
structure Cell where
  /-- STATE (R250). -/
  state : CellState
  /-- state before SILENT (R241). -/
  prior : CellState
  /-- tick at which it became SILENT (R244). -/
  silentAt : Nat
  /-- MODE last checked (R250). -/
  mode : BitVec 2
  /-- WIDTH last checked (R250). -/
  width : BitVec 10
  /-- FLAGS of the latest good frame (R250). -/
  flags : BitVec 8
  /-- RETRIES_OK (R250). -/
  retriesOk : BitVec 8
  /-- IAVG, 10 mA (R250). -/
  iavg : Int
  /-- IPEAK, 10 mA (R250). -/
  ipeak : Nat
  /-- AGE (R250). -/
  age : BitVec 8
  /-- TEMP (R250). -/
  temp : BitVec 10
  /-- TINV (R250). -/
  tinv : Bool
  /-- a good temperature frame has arrived (R227). DESIGN CHOICE: the model's own field, log 3. -/
  hasTemp : Bool
  /-- SERIAL (R250). -/
  serial : BitVec 64
  /-- position straps (R241). -/
  straps : BitVec 3
  /-- SEQ of the last addressed command (R230). -/
  seq : Bool
  /-- outstanding addressed command (R230). -/
  outstanding : Option DownFrame
  /-- its second attempt is out: 1 a resend, 2 a probe (R232). -/
  attempt : Nat
  /-- frame time, on the link's count, in which it was last sent; none: not yet (R232). -/
  sentAt : Option Nat
  /-- addressed commands waiting behind it, with their class (R230). -/
  queue : List (Nat × DownFrame)
  /-- the configuration of step 5 of R238 is in progress (R238). -/
  configuring : Bool
  /-- RDATA of the good PART 0, 1 and 2 of its ENUMERATE reply (R239). -/
  parts : List (Option (BitVec 24))
  /-- a bad frame has arrived in its slot while ENUMERATE replies were due (R239). -/
  collided : Bool
  /-- the reply at run time gave another serial than the table held (R240). -/
  serialNew : Bool
  /-- its READ_ID is owed after a double-bit error in the entry (R26). -/
  idOwed : Bool
  /-- its READ_STATUS is owed after one (R26). -/
  statusOwed : Bool
  /-- the latest first attempt failed by a bad or absent upstream frame, not by the echo (R251). -/
  retryFrame : Bool
  /-- its current sense is lost (R210). -/
  snsLost : Bool
  /-- this round is skipped for the cell (R243). -/
  skipped : Bool
  /-- consecutive rounds with a good frame (R245). -/
  goodRounds : Nat
  /-- a good frame in the present round (R245). -/
  goodNow : Bool
  /-- bad or absent in the present round (R244). -/
  badNow : Bool
  /-- consecutive rounds below 10 % of the sibling mean (R205). -/
  lowRun : Nat
  /-- consecutive rounds outside -20 % to +200 % (R210). -/
  rangeRun : Nat
  /-- average current code of the run of equal codes (R210). -/
  frozenCode : Int
  /-- sibling mean (sum in 10 mA, count) at each of the last rounds with the same code, 7 at most, newest first (R210). -/
  frozenMeans : List (Int × Nat)
  /-- criterion of a sense loss awaiting READ_STATUS (R210). -/
  senseCheck : Option (BitVec 2)
  /-- the last good frame showed OCP (R248). -/
  ocpEpisode : Bool
  /-- the last good frame showed OT (R248). -/
  otEpisode : Bool
  /-- THERMAL_WARN written and not yet returned (R504). -/
  warned : Bool
  /-- width the policy wants (R202). DESIGN CHOICE at reset, log 1. -/
  wantWidth : BitVec 10
  deriving DecidableEq, Repr

/-- Cell at reset. -/
def Cell.reset : Cell :=
  { state := .absent, prior := .absent, silentAt := 0, mode := 0,
    width := 0, flags := 0, retriesOk := 0, iavg := 0,
    ipeak := 0, age := 0, temp := 0, tinv := false,
    hasTemp := false, serial := 0, straps := 0, seq := false,
    outstanding := none, attempt := 0, sentAt := none, queue := [],
    configuring := false, parts := [none, none, none], collided := false, serialNew := false,
    idOwed := false, statusOwed := false, retryFrame := false, snsLost := false,
    skipped := false, goodRounds := 0, goodNow := false, badNow := false,
    lowRun := 0, rangeRun := 0, frozenCode := 0, frozenMeans := [],
    senseCheck := none, ocpEpisode := false, otEpisode := false, warned := false,
    wantWidth := 0 }

/-- One Femel link. -/
structure Link where
  /-- frame time of the round, 0 to 63 (R228). -/
  frameTime : Nat
  /-- frame times since the model began (R232). DESIGN CHOICE: the model's own field, log 3. -/
  frames : Nat
  /-- running disparity of the FD stream: true positive (R222). DESIGN CHOICE at reset, log 1. -/
  rdPos : Bool
  /-- the eight characters sent in the last frame time, bit a of each the most significant (R222). DESIGN CHOICE at reset, log 1. -/
  chars : List (BitVec 10)
  /-- what the link drove and sent in the discovery of P5, oldest first (R238). -/
  acts : List LinkAct
  /-- the FIFO of upstream frames on their way to LOOP, at most 4, with their slots (R16). -/
  rx : List (Nat × List Bool)
  /-- waiting frames with their class (R229). -/
  queue : List (Nat × DownFrame)
  /-- frame sent in the last frame time (R228). -/
  lastSent : Option DownFrame
  /-- SET_WIDTH frames sent this round (R203). -/
  widthsSent : Nat
  /-- cause of a standing LINK_LANE_FAULT (R244). -/
  fault : Option Nat
  /-- last LINK_LANE_FAULT cause (R475). DESIGN CHOICE at reset, log 1. -/
  lastCause : Nat
  /-- tick of the last clearance (R310). -/
  clearedAt : Option Nat
  /-- tick of the last declaration (R311). DESIGN CHOICE at reset, log 1. -/
  declaredAt : Nat
  /-- cells with bad or absent frames in the present round (R244). -/
  badCells : Nat
  /-- those of them that are not SILENT (R244). -/
  badLive : Nat
  /-- badCells of the last full round (R251). -/
  badPrev : Nat
  /-- consecutive rounds of cause 2 (R244). -/
  badRounds : Nat
  /-- consecutive rounds of cause 4 (R244). -/
  ffltRounds : Nat
  /-- no cell showed FLT and none was bad this round (R244). -/
  ffltClean : Bool
  /-- FFLTn_N is low (pull-up) (R248). -/
  ffltLow : Bool
  /-- the level of FFLTn_N, low true, as its synchroniser gives it to LOOP (R16). -/
  ffltSeen : Bool
  /-- cells SILENT at the declaration of the standing fault (R251). -/
  silentAtDecl : Nat
  /-- level of FFLTn_N, low true, held since the round began; none: it has changed (R244). DESIGN CHOICE: the model's own field, log 3. -/
  ffltSteady : Option Bool
  /-- FFLTn_N source masked under cause 4 (R244). -/
  ffltMasked : Bool
  /-- rounds FFLTn_N has been high (R244). -/
  ffltHigh : Nat
  /-- the FD pair holds a static level (R482). -/
  fdHeld : Bool
  /-- that level (R482). -/
  fdLevel : LaneCmd
  deriving DecidableEq, Repr

/-- Link at reset. -/
def Link.reset : Link :=
  { frameTime := 0, frames := 0, rdPos := false, chars := [],
    acts := [], rx := [], queue := [], lastSent := none,
    widthsSent := 0, fault := none, lastCause := 0, clearedAt := none,
    declaredAt := 0, badCells := 0, badLive := 0, badPrev := 0,
    badRounds := 0, ffltRounds := 0, ffltClean := true, ffltLow := false,
    ffltSeen := false, silentAtDecl := 0, ffltSteady := some false, ffltMasked := false,
    ffltHigh := 0, fdHeld := false, fdLevel := .idle }

/-- One comparator (Table 9.2). -/
structure Comp where
  /-- LIVE (reset state of Table 9.1 applied at P1) (R252). -/
  live : Bool
  /-- OUT (R252). -/
  out : Bool
  /-- OUT as LOOP last saw it (R16). -/
  seen : Bool
  /-- LATCH (R256). -/
  latch : Bool
  /-- RISE (R257). -/
  rise : Bool
  /-- FALL (R257). -/
  fall : Bool
  /-- open mask windows: GT, ADD, SETPT, EDGE in the order of the MSRC bits, then the self-test; MASKED is that one is open (R258). -/
  win : BitVec 5
  /-- TESTING; a test is one command of the model, so it reads 0 between commands (R260). -/
  testing : Bool
  /-- FAILED (R265). -/
  failed : Bool
  /-- TRIPS (R252). -/
  trips : BitVec 16
  /-- failing step of a test whose repeat is due (R263). -/
  repeatDue : Option (Fin 4)
  /-- tick at which LATCH last set (R256). DESIGN CHOICE: the model's own field, log 3. -/
  setAt : Option Nat
  /-- tick of the last rising edge of a class M output (R257). DESIGN CHOICE: the model's own field, log 3. -/
  riseAt : Option Nat
  /-- tick of its last falling edge (R257). DESIGN CHOICE: the model's own field, log 3. -/
  downAt : Option Nat
  /-- tick of the last test (R262). DESIGN CHOICE at reset, log 1. -/
  testedAt : Nat
  deriving DecidableEq, Repr

/-- A comparator at reset. -/
def Comp.reset : Comp :=
  { live := false, out := false, seen := false, latch := false, rise := false, fall := false, win := 0, testing := false, failed := false, trips := 0, repeatDue := none, setAt := none, riseAt := none, downAt := none, testedAt := 0 }

/-- The comparators in the reset states of Table 9.1: UV_PG n, VIN_UV_A and VIN_UV_B asserted, the others not; a GC in the
reset state of a cleared RST field. -/
def Comp.resetAll : List Comp :=
  (List.range 76).map fun m =>
    let a := (m < 64 && m % 4 == 3) || m == 64 || m == 65
    { Comp.reset with live := a, out := a, seen := a }

/-- One general timer. -/
structure Timer where
  /-- the timer counts (R277). -/
  running : Bool
  /-- LOOP cycles to expiry (R277). DESIGN CHOICE at reset, log 1. -/
  remain : Nat
  /-- GTk output (R277). -/
  out : Bool
  deriving DecidableEq, Repr

/-- Timer at reset. -/
def Timer.reset : Timer :=
  { running := false, remain := 0, out := false }

/-- The event router. -/
structure Router where
  /-- level of each source as last delivered to soft destinations (R266). -/
  delivered : List Bool
  /-- level of each source when it was last judged, for the rising edges (R269). -/
  levels : List Bool
  /-- rising edges of each source not yet delivered (R269). -/
  rises : List Nat
  /-- PHASE_EVT pulses not yet delivered (R266). -/
  phaseEvt : BitVec 16
  deriving DecidableEq, Repr

/-- Source levels in the reset states of Table 9.1: UV_PG n, VIN_UV_A, VIN_UV_B and the constant 1 asserted. -/
def Router.levels0 : List Bool := (List.range 256).map fun i => (48 ≤ i && i < 66) || i == 255

/-- Router at reset. -/
def Router.reset : Router :=
  { delivered := Router.levels0, levels := Router.levels0, rises := List.replicate 256 0, phaseEvt := 0 }

/-- Device-wide input, thermal and guarantee state. -/
structure Input where
  /-- VFF, V x 2^24 (R131). -/
  vff : Int
  /-- tick of its last refresh (R123). -/
  vffAt : Nat
  /-- latest VINA reading, 5 mV at the bus (R296). -/
  vinA : Nat
  /-- latest VINB reading (R296). -/
  vinB : Nat
  /-- VINA and VINB differ by more than 0.50 V (R296). -/
  disagree : Bool
  /-- twin A declared failed by the vote (R296). -/
  vinAFailed : Bool
  /-- twin B declared failed by the vote (R296). -/
  vinBFailed : Bool
  /-- IIN_STAGE (R299). -/
  stage : BitVec 2
  /-- IIN_AVG, 0.1 A (R298). -/
  iinAvg : Nat
  /-- tick at which IIN_GRACE started (R299). -/
  capGrace : Option Nat
  /-- tick since which stage 3 conditions count (R299). -/
  capFull : Option Nat
  /-- classes stopped at stage 3 (R299). -/
  stopped : BitVec 3
  /-- latest DIE0 and DIE1 readings, 0.0625 C codes (R301). -/
  dies : List Nat
  /-- source DIE_OT (R301). -/
  dieOt : Bool
  /-- THERMAL_WARN for the die written (R504). -/
  dieWarned : Bool
  /-- sources TSNS_OT0 to 3 (R301). -/
  tsnsOt : BitVec 4
  /-- sensors beyond TSNS_WARN, whose THERMAL_WARN is written, and not yet 20 mV back (R286). -/
  tsnsBeyond : BitVec 4
  /-- internal faults outstanding, with lasting flag and hour of record (R310). -/
  faults : List FaultEntry
  /-- tick of the last clear of an input latch (R311). -/
  inputRestart : Option Nat
  /-- tick of a clock loss or of its return (R311). -/
  lossAt : Option Nat
  deriving DecidableEq, Repr

/-- Input at reset. -/
def Input.reset : Input :=
  { vff := 0, vffAt := 0, vinA := 0, vinB := 0,
    disagree := false, vinAFailed := false, vinBFailed := false, stage := 0,
    iinAvg := 0, capGrace := none, capFull := none, stopped := 0,
    dies := [0, 0], dieOt := false, dieWarned := false, tsnsOt := 0,
    tsnsBeyond := 0, faults := [], inputRestart := none, lossAt := none }

/-- One converter pair (Table 11.5) and its sequence position. -/
structure Pair where
  /-- POWERED (R321). -/
  powered : Bool
  /-- ARBITRATING (R333). -/
  arbitrating : Bool
  /-- IN_USE (R324). -/
  inUseB : Bool
  /-- A_ASIDE (R334). -/
  aAside : Bool
  /-- B_ASIDE (R334). -/
  bAside : Bool
  /-- DEGRADED (R333). -/
  degraded : Bool
  /-- last 16 check codes of TiA, newest first (R332). -/
  checksA : List Int
  /-- last 16 check codes of TiB (R332). -/
  checksB : List Int
  /-- sequence entry to be converted next (R320). -/
  pos : Nat
  /-- passes since P6 or the last arbitration (R332). -/
  passes : Nat
  /-- the console has asked for an arbitration, which starts at the end of the current pass (R485). -/
  arbDue : Bool
  /-- passes done of the arbitration (R333). -/
  arbPass : Nat
  /-- its codes of TiA, newest first (R333). -/
  arbA : List Int
  /-- its codes of TiB (R333). -/
  arbB : List Int
  /-- a recheck has failed (R335). -/
  lasting : Bool
  deriving DecidableEq, Repr

/-- Pair at reset. -/
def Pair.reset : Pair :=
  { powered := false, arbitrating := false, inUseB := false, aAside := false,
    bAside := false, degraded := false, checksA := [], checksB := [],
    pos := 0, passes := 0, arbDue := false, arbPass := 0,
    arbA := [], arbB := [], lasting := false }

/-- One accumulator. -/
structure Accum where
  /-- partial block (R325). -/
  sum : Int
  /-- samples in it (R325). -/
  count : Nat
  /-- K of the running block (R327). DESIGN CHOICE at reset, log 1. -/
  k : Nat
  /-- latest result (R328). -/
  result : Int
  /-- VALID (R328). -/
  valid : Bool
  /-- AGE (R328). -/
  age : Nat
  /-- the result before the latest; none: it was not VALID (R328). -/
  prior : Option Int
  /-- tick at which the latest result was stored (R328). DESIGN CHOICE: the model's own field, log 3. -/
  doneAt : Option Nat
  deriving DecidableEq, Repr

/-- Accum at reset. -/
def Accum.reset : Accum :=
  { sum := 0, count := 0, k := 0, result := 0,
    valid := false, age := 0, prior := none, doneAt := none }

/-- One tracker (Table 11.3). -/
structure Track where
  /-- EMPTY (R329). -/
  empty : Bool
  /-- SRC_CHG (R334). -/
  srcChg : Bool
  /-- MAX (R329). -/
  max : Int
  /-- MIN (R329). -/
  min : Int
  /-- SAMPLES (R329). -/
  samples : Nat
  /-- latest sample (R329). -/
  last : Int
  /-- tick at which it was taken (R329). DESIGN CHOICE: the model's own field, log 3. -/
  lastAt : Option Nat
  deriving DecidableEq, Repr

/-- Track at reset. -/
def Track.reset : Track :=
  { empty := true, srcChg := false, max := 0, min := 0,
    samples := 0, last := 0, lastAt := none }

/-- Telemetry. -/
structure Telem where
  /-- the four checking pairs (R318). -/
  pairs : List Pair
  /-- accumulators 0 to 63 (R325). -/
  accs : List Accum
  /-- trackers 0 to 63 (R329). -/
  tracks : List Track
  /-- the converters run (from P6) (R320). -/
  running : Bool
  /-- latest chosen-sense reading of each rail, 0.125 mV (R149). -/
  vout : List Int
  /-- consecutive comparisons beyond XCHK_PCT (R338). -/
  xcheckRun : Nat
  deriving DecidableEq, Repr

/-- Telem at reset. -/
def Telem.reset : Telem :=
  { pairs := List.replicate 4 Pair.reset, accs := List.replicate 64 Accum.reset, tracks := List.replicate 64 Track.reset, running := false,
    vout := List.replicate 16 0, xcheckRun := 0 }

/-- The Apprentice. -/
structure Apprentice where
  /-- it holds the rails (R343). -/
  holding : Bool
  /-- pending end conditions, bit c for cause c of Table 12.1 (R343). -/
  causes : BitVec 8
  /-- tick of the takeover (R345). DESIGN CHOICE at reset, log 1. -/
  since : Nat
  /-- a handback is in progress (R345). -/
  handback : Bool
  /-- rails handed back (R345). -/
  handed : BitVec 16
  /-- APP_MISMATCH (R347). -/
  mismatch : Bool
  /-- the RM has disabled it (R347). -/
  disabled : Bool
  /-- rails that kept their state for want of the Apprentice and that the RM has not yet taken (R348). -/
  taking : BitVec 16
  /-- heartbeat count, advanced in every APP cycle (R347). -/
  beats : Word
  /-- heartbeat count last read; none before the first read (R347). -/
  heartbeat : Option Word
  /-- pages of the CLEAR_FAULTS kept until the RM carries them out, oldest first (R344). -/
  heldClears : List (BitVec 8)
  deriving DecidableEq, Repr

/-- Apprentice at reset. -/
def Apprentice.reset : Apprentice :=
  { holding := false, causes := 0, since := 0, handback := false,
    handed := 0, mismatch := false, disabled := false, taking := 0,
    beats := 0, heartbeat := none, heldClears := [] }

/-- One watchdog (Table 12.2). -/
structure Watchdog where
  /-- RUN (R350). -/
  run : Bool
  /-- KEYA (R350). -/
  keyA : Bool
  /-- REMAIN, us; TIMEOUT at the reset of the pair's watchdog (State.reset, State.loadBlocks) (R350). -/
  remain : Nat
  /-- DOUBLE (R350). -/
  double : BitVec 16
  /-- CHECKED (R350). -/
  checked : BitVec 16
  /-- TASK_MASK (R350). -/
  taskMask : BitVec 16
  /-- a service has been accepted since the start (R351). -/
  serviced : Bool
  /-- tasks whose WDT_DOUBLE_CHECKIN is staged this period (R352). -/
  staged : BitVec 16
  deriving DecidableEq, Repr

/-- Watchdog at reset. -/
def Watchdog.reset : Watchdog :=
  { run := false, keyA := false, remain := 0, double := 0,
    checked := 0, taskMask := 0, serviced := false, staged := 0 }

/-- One management pair. -/
structure PairState where
  /-- running, stopped, restarting or held in reset (R339). -/
  run : PairRun
  /-- its watchdog (R350). -/
  wd : Watchdog
  /-- pair memory of Table 1.7, unlisted bytes 0; no rule reads what the firmware keeps there (R26). DESIGN CHOICE at reset, log 1. -/
  mem : Memory
  /-- it booted from ROM alone, its patch memory not matching its digest (R462). -/
  romOnly : Bool
  /-- frozen registers awaiting the Pentimento copy (R362). -/
  frozen : Option Frozen
  /-- RM_MISCOMPARE or HM_MISCOMPARE (R366). -/
  miscompare : Bool
  /-- WD_RM or WD_HM (R366). -/
  expired : Bool
  /-- the watchdog has been disabled and not started since (R354). DESIGN CHOICE: the model's own field, log 3. -/
  wdOff : Bool
  /-- tick of the last miscompare (R311). -/
  mismatchAt : Option Nat
  /-- TIME of the freeze (R362). DESIGN CHOICE at reset, log 1. -/
  frozenTime : BitVec 48
  /-- TRIGGER of the freeze (R362). DESIGN CHOICE at reset, log 1. -/
  trigger : BitVec 8
  /-- CODE, SRC, P0 and TIME of the record of the freeze; none: it was lost (R362). DESIGN CHOICE: the model's own field, log 3. -/
  causeKey : Option (BitVec 16 × BitVec 16 × Word × BitVec 48)
  deriving DecidableEq, Repr

/-- PairState at reset. -/
def PairState.reset : PairState :=
  { run := .stopped, wd := Watchdog.reset, mem := [], romOnly := false,
    frozen := none, miscompare := false, expired := false, wdOff := false,
    mismatchAt := none, frozenTime := 0, trigger := 0, causeKey := none }

/-- Retained memory (AON), kept but by power-on reset. -/
structure Retained where
  /-- WDT_RM_RECENT (R356). -/
  recentRm : Nat
  /-- WDT_HM_RECENT (R356). -/
  recentHm : Nat
  /-- tick of the RM's last counted event (R356). -/
  lastRm : Option Nat
  /-- tick of the HM's last counted event (R356). -/
  lastHm : Option Nat
  /-- KIND (R361). -/
  kind : BitVec 2
  /-- CAUSE (R361). -/
  cause : BitVec 4
  /-- CLK_CAUSE (R361). -/
  clkCause : BitVec 3
  /-- WARM (R361). -/
  warm : BitVec 16
  /-- MISSING of the RM (R361). -/
  missingRm : BitVec 16
  /-- DOUBLE of the RM (R361). -/
  doubleRm : BitVec 16
  /-- MISSING of the HM (R361). -/
  missingHm : BitVec 16
  /-- DOUBLE of the HM (R361). -/
  doubleHm : BitVec 16
  /-- CURSOR; none: at OLDEST (R388). -/
  cursor : Option Word
  /-- the Pentimento capture area, 4,096 words (R362). DESIGN CHOICE at reset, log 1. -/
  capture : List Word
  /-- PENDING (R362). -/
  capPending : Bool
  /-- CODE, SRC, P0 and TIME of the cause record of the capture (R362). DESIGN CHOICE: the model's own field, log 3. -/
  capCause : Option (BitVec 16 × BitVec 16 × Word × BitVec 48)
  /-- DROPPED (R362). -/
  dropped : BitVec 16
  /-- us without CORE of a clock loss whose CLOCK_LOSS record the RM still owes (R349). -/
  lossOwed : Option Nat
  deriving DecidableEq, Repr

/-- Retained at reset. -/
def Retained.reset : Retained :=
  { recentRm := 0, recentHm := 0, lastRm := none, lastHm := none,
    kind := 0, cause := 0, clkCause := 0, warm := 0,
    missingRm := 0, doubleRm := 0, missingHm := 0, doubleHm := 0,
    cursor := none, capture := [], capPending := false, capCause := none,
    dropped := 0, lossOwed := none }

/-- Safe state and escalation. -/
structure Safe where
  /-- the EM1280 is in the safe state (R358). -/
  active : Bool
  /-- it came from R20 or R81 (R359). -/
  fromCheck : Bool
  /-- CODE, SRC, P0 and TIME of the SAFE_STATE record that began it; none: it was lost (R460). DESIGN CHOICE: the model's own field, log 3. -/
  recordKey : Option (BitVec 16 × BitVec 16 × Word × BitVec 48)
  /-- a RESUME has been accepted (R359). -/
  resumed : Bool
  /-- cause of a warm chip restart in progress (R18). -/
  warm : Option (BitVec 4)
  deriving DecidableEq, Repr

/-- Safe at reset. -/
def Safe.reset : Safe :=
  { active := false, fromCheck := false, recordKey := none, resumed := false,
    warm := none }

/-- The non-volatile Pentimento slot. -/
structure Dump where
  /-- the slot, 4,096 words (R363). DESIGN CHOICE at reset, log 2. -/
  slot : List Word
  /-- LOCKED (R365). DESIGN CHOICE at reset, log 2. -/
  locked : Bool
  deriving DecidableEq, Repr

/-- Dump at reset. -/
def Dump.reset : Dump :=
  { slot := [], locked := false }

/-- One Sketchbook record without its CRC (Table 13.1). -/
structure Rec where
  /-- SEQ (R369). -/
  seq : Word
  /-- TIME (R369). -/
  time : BitVec 48
  /-- POWER_CYCLE (R369). -/
  powerCycle : BitVec 16
  /-- CODE (R369). -/
  code : BitVec 16
  /-- SRC (R369). -/
  src : BitVec 16
  /-- P0 (R369). -/
  p0 : Word
  /-- P1 (R369). -/
  p1 : Word
  /-- REPEAT (R369). -/
  rep : BitVec 16
  /-- FLAGS (R369). -/
  flags : BitVec 16
  deriving DecidableEq, Repr

/-- A slot of the event store that is not blank: a valid record, or torn (R384). -/
inductive Slot where
  | valid (r : Rec)
  | torn
  deriving DecidableEq, Repr

/-- Token bucket of one event code. -/
structure Bucket where
  /-- event code (R378). -/
  code : BitVec 16
  /-- tokens missing from DEPTH (0: full, the power-on state) (R378). -/
  used : Nat
  /-- suppressed count (R378). -/
  suppressed : Nat
  /-- SRC of the last suppressed (R378). -/
  lastSrc : BitVec 16
  deriving DecidableEq, Repr

/-- The Sketchbook. -/
structure Recorder where
  /-- event store by slot, blank slots unlisted (R382). DESIGN CHOICE at reset, log 2. -/
  store : List (Nat × Slot)
  /-- NEWEST; none: no valid record yet (R384). -/
  newest : Option Word
  /-- OLDEST (R384). -/
  oldest : Word
  /-- closed staged records, oldest first (R381). -/
  closed : List Rec
  /-- the open record (R375). -/
  opened : Option Rec
  /-- buckets that are not full or hold suppressed counts (R378). -/
  buckets : List Bucket
  /-- codes whose RATE_LIMITED summary is due, in the order they became due (R379). -/
  dueOrder : List (BitVec 16)
  /-- events held by their source while CORE is absent, oldest first (CODE, SRC, P0, P1) (R374). -/
  held : List (BitVec 16 × BitVec 16 × Word × Word)
  /-- DROPS (R385). -/
  drops : BitVec 16
  /-- SUPPRESSED (R385). -/
  suppressed : BitVec 16
  /-- drops not yet reported (R381). -/
  dropDue : Nat
  /-- CODE of the first of them (R390). -/
  dropFirst : BitVec 16
  /-- CODE of the last of them (R390). -/
  dropLast : BitVec 16
  /-- N of a clear whose sectors are still to be erased (R389). -/
  clearing : Option Word
  /-- present power cycle (R373). -/
  powerCycle : BitVec 16
  deriving DecidableEq, Repr

/-- Recorder at reset. -/
def Recorder.reset : Recorder :=
  { store := [], newest := none, oldest := 0, closed := [],
    opened := none, buckets := [], dueOrder := [], held := [],
    drops := 0, suppressed := 0, dropDue := 0, dropFirst := 0,
    dropLast := 0, clearing := none, powerCycle := 0 }

/-- One mailbox channel. -/
structure Channel where
  /-- D0 to D11 (R391). -/
  d : List Word
  /-- FULL (R391). -/
  full : Bool
  /-- STALE (R391). -/
  stale : Bool
  /-- ORPHAN (R391). -/
  orphan : Bool
  /-- CROSS (R391). -/
  cross : Bool
  /-- RECALL_LATE (R391). -/
  recallLate : Bool
  /-- ECC_ERR (R391). -/
  eccErr : Bool
  /-- SND_EPOCH (R391). -/
  sndEpoch : BitVec 8
  /-- RCV_EPOCH (R391). -/
  rcvEpoch : BitVec 8
  /-- the receiver has read a word since the post (R394). -/
  read : Bool
  /-- T_CROSS periods CROSS has stood (R404). -/
  crossTime : Nat
  /-- outgoing messages queued for this channel (R404). -/
  out : List (List Word)
  /-- answers that the receiver owes beside a full queue: each joins the queue once it holds fewer than 8 messages (R404). -/
  owed : List (List (List Word))
  /-- reassembly in progress (R403). -/
  frag : Option Fragments
  deriving DecidableEq, Repr

/-- Channel at reset. -/
def Channel.reset : Channel :=
  { d := List.replicate 12 0, full := false, stale := false, orphan := false,
    cross := false, recallLate := false, eccErr := false, sndEpoch := 0,
    rcvEpoch := 0, read := false, crossTime := 0, out := [],
    owed := [], frag := none }

/-- The mailboxes. -/
structure Mail where
  /-- channels 0 to 15 (R391). -/
  chans : List Channel
  /-- HOST epoch (R399). -/
  epHost : BitVec 8
  /-- SVC epoch (R399). -/
  epSvc : BitVec 8
  /-- HM epoch (R399). -/
  epHm : BitVec 8
  /-- RM epoch (R399). -/
  epRm : BitVec 8
  /-- LAST_POST (R407). -/
  lastPost : BitVec 4
  /-- LAST_CH (R407). -/
  lastCh : BitVec 4
  /-- channel SELECTed for D3h reads (R408). DESIGN CHOICE at reset, log 1. -/
  selected : BitVec 4
  deriving DecidableEq, Repr

/-- Mail at reset. -/
def Mail.reset : Mail :=
  { chans := List.replicate 16 Channel.reset, epHost := 0, epSvc := 0, epHm := 0,
    epRm := 0, lastPost := 0, lastCh := 0, selected := 0 }

/-- The two-wire bus interface. -/
structure Bus where
  /-- own address (0 before P1: none acknowledged) (R41). DESIGN CHOICE at reset, log 1. -/
  address : BitVec 7
  /-- P1 has sampled the strap (R41). -/
  addrKnown : Bool
  /-- the last command code was acknowledged (R416). DESIGN CHOICE at reset, log 1. -/
  acked : Bool
  /-- the last address byte was acknowledged (R412). DESIGN CHOICE at reset, log 1. -/
  addrAcked : Bool
  /-- bytes returned by the last read (R423). DESIGN CHOICE at reset, log 1. -/
  reply : List Byte
  /-- bytes written that a restart's cut refused (R422). DESIGN CHOICE at reset, log 1. -/
  refused : Nat
  /-- the last received PEC byte matched (R423). DESIGN CHOICE at reset, log 1. -/
  pecAcked : Bool
  /-- the alert flag (R427). -/
  alert : Bool
  /-- STATUS_BYTE of each page when it was last judged for the alert flag (R427). DESIGN CHOICE: the model's own field, log 3. -/
  seen : List Nat
  /-- a Host Notify is due (R429). -/
  notifyDue : Bool
  /-- failed attempts of it (R431). -/
  notifyTries : Nat
  /-- bytes of the last attempt (R429). DESIGN CHOICE at reset, log 1. -/
  notifySent : List Byte
  /-- abandoned notifications (R431). -/
  abandoned : Nat
  /-- a restart has cut a transaction; OTHER_COMM_FAULT is set when it ends (R422). -/
  cut : Bool
  deriving DecidableEq, Repr

/-- Bus at reset. -/
def Bus.reset : Bus :=
  { address := 0x4F, addrKnown := false, acked := false, addrAcked := false,
    reply := [], refused := 0, pecAcked := true, alert := false,
    seen := List.replicate 16 0xC0, notifyDue := false, notifyTries := 0, notifySent := [],
    abandoned := 0, cut := false }

/-- PMBus registers (W1C status bits are stored, RO bits computed). -/
structure PmRegs where
  /-- PAGE (R432). -/
  page : BitVec 8
  /-- PHASE (R433). -/
  phase : BitVec 8
  /-- WRITE_PROTECT (R446). -/
  writeProtect : BitVec 8
  /-- MFR_CELL_SELECT (R448). -/
  cellSelect : BitVec 16
  /-- W1C bits of STATUS_VOUT, per page (R447). -/
  stVout : List (BitVec 8)
  /-- W1C bits of STATUS_IOUT (R447). -/
  stIout : List (BitVec 8)
  /-- W1C bits of STATUS_TEMPERATURE (R447). -/
  stTemp : List (BitVec 8)
  /-- bit 9 OTHER of STATUS_WORD, per page (R447). -/
  stOther : BitVec 16
  /-- W1C bits of STATUS_INPUT (R447). -/
  stInput : BitVec 8
  /-- STATUS_CML (R447). -/
  stCml : BitVec 8
  /-- AUTH_FAILS (R453). -/
  authFails : BitVec 16
  /-- ATTESTS (R453). -/
  attests : BitVec 16
  deriving DecidableEq, Repr

/-- PmRegs at reset. -/
def PmRegs.reset : PmRegs :=
  { page := 0, phase := 0xFF, writeProtect := 0, cellSelect := 0,
    stVout := List.replicate 16 0, stIout := List.replicate 16 0, stTemp := List.replicate 16 0, stOther := 0,
    stInput := 0, stCml := 0, authFails := 0, attests := 0 }

/-- The service console. -/
structure Console where
  /-- an authenticated session is open (R476). -/
  session : Bool
  /-- sessions opened since power-on reset (R467). -/
  sessionNo : Nat
  /-- challenge in force (R467). -/
  challenge : Option (BitVec 256)
  /-- tick at which it was issued (R467). DESIGN CHOICE at reset, log 1. -/
  challengeAt : Nat
  /-- tick at which the lockout ends (R470). -/
  lockUntil : Option Nat
  /-- the command that waits for its outcome or its reply (R475). -/
  waiting : Option ConWait
  /-- the restarted HM still owes the SVC_SESSION record of a session that its restart ended (R477). -/
  endOwed : Bool
  /-- lines printed by the last command (R475). DESIGN CHOICE at reset, log 1. -/
  out : List ConLine
  /-- the prompt after them, where a command has ended (R475). DESIGN CHOICE at reset, log 1. -/
  prompt : List Byte
  /-- characters of the line in progress (R475). -/
  line : List Byte
  /-- the last character was the CR that ended a line (R475). -/
  afterCr : Bool
  /-- characters echoed since the last ones were received (R475). DESIGN CHOICE at reset, log 1. -/
  echo : List Byte
  /-- ATB selection code (R479). -/
  atb : BitVec 8
  /-- console rate code (R474). -/
  baud : BitVec 2
  deriving DecidableEq, Repr

/-- Console at reset. -/
def Console.reset : Console :=
  { session := false, sessionNo := 0, challenge := none, challengeAt := 0,
    lockUntil := none, waiting := none, endOwed := false, out := [],
    prompt := [], line := [], afterCr := false, echo := [],
    atb := 0, baud := 0 }

/-- Boundary-scan port. -/
structure Tap where
  /-- instruction loaded (R472). PRESUMED at reset, log 4. -/
  instr : TapInstr
  /-- what the selected data register captures: the identification code, or 0 in the bypass register; none: the boundary register (R472). PRESUMED at reset, log 4. -/
  data : Option Word
  /-- every EN input is held off (R473). -/
  enHeld : Bool
  deriving DecidableEq, Repr

/-- Tap at reset. -/
def Tap.reset : Tap :=
  { instr := .idcode, data := some 0x112805AB, enHeld := false }

/-- What waits between the HM, the RM and LOOP. -/
structure Crossing where
  /-- requests that the HM has posted and the RM has not taken, oldest first (R9). -/
  posts : List RmPost
  /-- the CORE-to-LOOP command FIFO, at most 16 entries, oldest first (R16). -/
  toLoop : List RmPost
  deriving DecidableEq, Repr

/-- Crossing at reset. -/
def Crossing.reset : Crossing :=
  { posts := [], toLoop := [] }

/-- Long work of the HM in progress (Table 15.5). -/
structure Work where
  /-- a record commit has begun (R383). DESIGN CHOICE: the model's own field, log 3. -/
  committing : Bool
  /-- sector of the event store that is being erased (R382). -/
  erasing : Option Nat
  /-- a Pentimento commit has begun (R363). DESIGN CHOICE: the model's own field, log 3. -/
  dumping : Bool
  /-- IMAGE_ACTIVATE being carried out, with its channel (R84). -/
  activating : Option (Nat × Message)
  /-- ATTEST whose signature is being made (R466). -/
  signing : Option Signing
  deriving DecidableEq, Repr

/-- Work at reset. -/
def Work.reset : Work :=
  { committing := false, erasing := none, dumping := false, activating := none,
    signing := none }

/-- The EM1280. -/
structure State where
  /-- clocks and time (R11). -/
  clock : Clock
  /-- balls (R32). -/
  pins : Pins
  /-- priming (R55). -/
  boot : Boot
  /-- the fuse bank (R452). -/
  varnish : Varnish
  /-- the fuses as read (R452). -/
  fuses : Fuses
  /-- identity key store (R464). -/
  ident : IdStore
  /-- ROM, 1 MiB, unlisted bytes 0; no rule reads what it holds (R26). DESIGN CHOICE at reset, log 2. -/
  rom : Memory
  /-- image flash, 8 MiB, unlisted bytes erased (0xFF) (R60). DESIGN CHOICE at reset, log 2. -/
  flash : Memory
  /-- configuration shadow by field identifier, unlisted bytes 0 (R77). DESIGN CHOICE at reset, log 1. -/
  shadow : Memory
  /-- wet bytes committed during a hold, in effect from the handback on; key and byte, in the order of the writes (R80). -/
  wetHeld : List (Nat × Byte)
  /-- palette memory, 4,096 entries, zero entries unlisted (R93). DESIGN CHOICE at reset, log 1. -/
  palette : List (Nat × Word)
  /-- palette ports (R91). -/
  ports : List Port
  /-- rails (R148). -/
  rails : List Rail
  /-- phases (R190). -/
  phases : List Phase
  /-- cell table (R241). -/
  cells : List Cell
  /-- links (R228). -/
  links : List Link
  /-- comparators (R252). -/
  comps : List Comp
  /-- general timers (R277). -/
  timers : List Timer
  /-- event router (R266). -/
  router : Router
  /-- input, thermal and guarantee state (R295). -/
  input : Input
  /-- telemetry (R318). -/
  telem : Telem
  /-- the Apprentice (R342). -/
  app : Apprentice
  /-- requests and commands on their way to LOOP (R16). -/
  cross : Crossing
  /-- RM pair (R339). -/
  rm : PairState
  /-- HM pair (R339). -/
  hm : PairState
  /-- retained memory (R361). -/
  ret : Retained
  /-- safe state (R358). -/
  safe : Safe
  /-- Pentimento slot (R363). -/
  dump : Dump
  /-- Sketchbook (R369). -/
  sketch : Recorder
  /-- long work in progress (R416). -/
  work : Work
  /-- mailboxes (R391). -/
  mail : Mail
  /-- two-wire bus (R412). -/
  bus : Bus
  /-- PMBus registers (R432). -/
  pm : PmRegs
  /-- service console (R475). -/
  con : Console
  /-- TAP (R472). -/
  tap : Tap
  /-- corrected single-bit errors per memory (R26). -/
  ecc : List (MemName × Nat)
  /-- the model's own counter behind the free values; no statement rests on it. DESIGN CHOICE: the model's own field, log 3. -/
  free : Nat
  /-- commands waiting, first in first out. DESIGN CHOICE: the model's own field, log 3. -/
  pending : List Instr
  deriving DecidableEq, Repr

/-- The machine at reset: held in power-on reset, every register at the value INVENTORY.md lists, no command waiting. -/
def State.reset : State :=
  { clock := Clock.reset, pins := Pins.reset, boot := Boot.reset, varnish := Varnish.reset,
    fuses := Fuses.reset, ident := IdStore.reset, rom := [], flash := [],
    shadow := [], wetHeld := [], palette := [], ports := List.replicate 8 Port.reset,
    rails := List.replicate 16 Rail.reset, phases := List.replicate 128 Phase.reset, cells := List.replicate 1024 Cell.reset, links := List.replicate 16 Link.reset,
    comps := Comp.resetAll, timers := List.replicate 8 Timer.reset, router := Router.reset, input := Input.reset,
    telem := Telem.reset, app := Apprentice.reset, cross := Crossing.reset, rm := { PairState.reset with wd := { Watchdog.reset with remain := 10000 } },
    hm := { PairState.reset with wd := { Watchdog.reset with remain := 50000 } }, ret := Retained.reset, safe := Safe.reset, dump := Dump.reset,
    sketch := Recorder.reset, work := Work.reset, mail := Mail.reset, bus := Bus.reset,
    pm := PmRegs.reset, con := Console.reset, tap := Tap.reset, ecc := [],
    free := 0, pending := [] }

end Sys2Proof.Machine
end

