-- ==== Sys2Proof/Machine/Ops.lean ====
section
/-! DEFINITION. Named operations over the state: bit fields, sparse memories, the image's storage, reads and updates of
each group, the free values, and the recorder's staging port. -/

namespace Sys2Proof.Machine

/-! ### Bit fields and arithmetic -/

/-- Bit `i` of `x`. -/
def bit (x i : Nat) : Bool := x / 2 ^ i % 2 == 1

/-- The field of `x` from bit `lo`, `w` bits wide. -/
def field (x lo w : Nat) : Nat := x / 2 ^ lo % 2 ^ w

/-- Two's complement value of the low `w` bits. -/
def signed (w x : Nat) : Int :=
  if x % 2 ^ w < 2 ^ (w - 1) then ((x % 2 ^ w : Nat) : Int) else ((x % 2 ^ w : Nat) : Int) - 2 ^ w

/-- `x` in `w` bits of two's complement. -/
def toBits (w : Nat) (x : Int) : Nat := (x % 2 ^ w).toNat

/-- One bit as a number. -/
def b2n (b : Bool) : Nat := if b then 1 else 0

/-- `x` limited to `lo` to `hi`. -/
def clampInt (lo hi x : Int) : Int := max lo (min hi x)

/-- A count that saturates at `top`. -/
def satAdd (top x k : Nat) : Nat := min top (x + k)

/-- A quotient whose rule states no rounding: exact where it is exact, else the neighbour of log entry 5. -/
def quot (num : Int) (den : Nat) : Int :=
  if num % den = 0 then num / den else num / den + (if Config.roundsUp num den then 1 else 0)

/-- The nearest integer to `num / den`; a tie, for which no rule states a side, goes where log entry 5 says. -/
def nearest (num : Int) (den : Nat) : Int :=
  if (2 * num + den) % (2 * den) = 0 then
    (2 * num + den) / (2 * den) - (if Config.roundsUp num den then 0 else 1)
  else (2 * num + den) / (2 * den)

/-- The quotient rounded toward zero (R202, R436). -/
def truncQuot (num : Int) (den : Nat) : Int := if num < 0 then -((-num) / den) else num / den

/-- The least integer at or above `num / den`. -/
def ceilQuot (num den : Nat) : Nat := (num + den - 1) / den

/-- The `n` bytes of `x`, least significant first (R64, R437). -/
def leBytes (n x : Nat) : List Byte := (List.range n).map fun i => BitVec.ofNat 8 (x / 2 ^ (8 * i))

/-- The number whose bytes these are, least significant first. -/
def ofBytes : List Byte → Nat
  | [] => 0
  | b :: t => b.toNat + 256 * ofBytes t

/-- The bytes of words, each least significant byte first. -/
def wordBytes (ws : List Word) : List Byte := ws.flatMap fun w => leBytes 4 w.toNat

/-- The words of a byte string, four bytes each, the last one padded with zeros. -/
def bytesWords (bs : List Byte) : List Word :=
  (List.range (ceilQuot bs.length 4)).map fun i => BitVec.ofNat 32 (ofBytes ((bs.drop (4 * i)).take 4))

/-- Indices below `n` that satisfy `p`, ascending. -/
def indices (n : Nat) (p : Nat → Bool) : List Nat := (List.range n).filter p

/-- A mask with bit `i` set for each `i` below `n` that satisfies `p`. -/
def maskOf (n : Nat) (p : Nat → Bool) : Nat := (indices n p).foldl (fun m i => m + 2 ^ i) 0

/-! ### Cyclic codes -/

/-- One shift of a reflected CRC-32 (R370). -/
def crc32Shift (c : Nat) : Nat := if c % 2 = 1 then (c / 2) ^^^ 0xEDB88320 else c / 2

/-- Eight shifts. -/
def crc32Byte (c : Nat) (b : Byte) : Nat :=
  (List.range 8).foldl (fun x _ => crc32Shift x) (c ^^^ b.toNat)

/-- The IEEE 802.3 CRC-32 of R370. -/
def crc32 (bs : List Byte) : Nat := (bs.foldl crc32Byte 0xFFFFFFFF) ^^^ 0xFFFFFFFF

/-- The CRC-16 of R224: polynomial 0x1021, initial value 0xFFFF, most significant bit first. -/
def crc16 (bs : List Byte) : Nat :=
  bs.foldl (fun c b => (List.range 8).foldl
    (fun x _ => if bit x 15 then (2 * x % 65536) ^^^ 0x1021 else 2 * x % 65536) (c ^^^ (b.toNat * 256))) 0xFFFF

/-- The SMBus CRC-8 of R423: x^8 + x^2 + x + 1, initial value 0. -/
def crc8 (bs : List Byte) : Nat :=
  bs.foldl (fun c b => (List.range 8).foldl
    (fun x _ => if bit x 7 then (2 * x % 256) ^^^ 0x07 else 2 * x % 256) (c ^^^ b.toNat)) 0

/-! ### Sparse memories in canonical form -/

/-- What a key reads as. -/
def sget {α : Type} (d : α) : List (Nat × α) → Nat → α
  | [], _ => d
  | (k, v) :: m, a => if k = a then v else sget d m a

/-- Write one key; writing the default removes the entry, so that equal memories are equal data. -/
def sput {α : Type} [DecidableEq α] (d : α) : List (Nat × α) → Nat → α → List (Nat × α)
  | [], a, v => if v = d then [] else [(a, v)]
  | (k, w) :: m, a, v =>
    if a < k then (if v = d then (k, w) :: m else (a, v) :: (k, w) :: m)
    else if a = k then (if v = d then m else (a, v) :: m)
    else (k, w) :: sput d m a v

/-- The canonical form: keys strictly rising, no entry equal to the default. -/
abbrev Sparse.wf {α : Type} (d : α) (m : List (Nat × α)) : Prop :=
  m.Pairwise (fun x y => x.1 < y.1) ∧ ∀ x ∈ m, x.2 ≠ d

/-- Write consecutive keys. -/
def sputs {α : Type} [DecidableEq α] (d : α) (m : List (Nat × α)) (a : Nat) : List α → List (Nat × α)
  | [] => m
  | v :: vs => sputs d (sput d m a v) (a + 1) vs

/-- `n` consecutive keys. -/
def sgets {α : Type} (d : α) (m : List (Nat × α)) (a n : Nat) : List α := (List.range n).map fun i => sget d m (a + i)

/-- Canonical form of a byte memory whose unlisted bytes read `d`. -/
abbrev Memory.wf (d : Byte) (m : Memory) : Prop := Sparse.wf d m

/-- Byte `off` of section `sec` of the configuration shadow, by its field identifier (R79). -/
def shadowKey (sec off : Nat) : Nat := sec * 2 ^ 24 + off

/-- `n` bytes of a section, as one little-endian number. -/
def State.cfg (s : State) (sec off n : Nat) : Nat := ofBytes (sgets 0 s.shadow (shadowKey sec off) n)

/-- The 32-bit word of a section at an offset. -/
def State.cfgWord (s : State) (sec off : Nat) : Nat := s.cfg sec off 4

/-- The field of that word from bit `lo`, `w` bits wide. -/
def State.cfgField (s : State) (sec off lo w : Nat) : Nat := field (s.cfgWord sec off) lo w

/-- `n` bytes of a flash slot (R60): slot A at 0, slot B at 4 MiB. -/
def State.flashBytes (s : State) (slotB : Bool) (off n : Nat) : List Byte :=
  sgets 0xFF s.flash ((if slotB then 0x400000 else 0) + off) n

/-- Program flash bytes. -/
def State.putFlash (s : State) (slotB : Bool) (off : Nat) (bs : List Byte) : State :=
  { s with flash := sputs 0xFF s.flash ((if slotB then 0x400000 else 0) + off) bs }

/-- Write the bytes of one storage unit of the shadow. -/
def State.putShadow (s : State) (sec off n v : Nat) : State :=
  { s with shadow := sputs 0 s.shadow (shadowKey sec off) (leBytes n v) }

/-! ### Reading and updating one element -/

/-- Rail `n`. -/
def State.rail (s : State) (n : Nat) : Rail := s.rails.getD n Rail.reset
/-- Phase `p`. -/
def State.phase (s : State) (p : Nat) : Phase := s.phases.getD p Phase.reset
/-- Cell `c`. -/
def State.cell (s : State) (c : Nat) : Cell := s.cells.getD c Cell.reset
/-- Link `l`. -/
def State.link (s : State) (l : Nat) : Link := s.links.getD l Link.reset
/-- Comparator `m`. -/
def State.comp (s : State) (m : Nat) : Comp := s.comps.getD m Comp.reset
/-- Palette port `p`. -/
def State.port (s : State) (p : Nat) : Port := s.ports.getD p Port.reset
/-- Converter pair `i`. -/
def State.pair (s : State) (i : Nat) : Pair := s.telem.pairs.getD i Pair.reset
/-- Mailbox channel `c`. -/
def State.chan (s : State) (c : Nat) : Channel := s.mail.chans.getD c Channel.reset
/-- General timer `k`. -/
def State.timer (s : State) (k : Nat) : Timer := s.timers.getD k Timer.reset
/-- A management pair. -/
def State.mgr (s : State) : Manager → PairState
  | .rm => s.rm
  | .hm => s.hm

/-- Change rail `n`. -/
def State.updRail (s : State) (n : Nat) (f : Rail → Rail) : State := { s with rails := s.rails.modify n f }
/-- Change every rail, by its number. -/
def State.mapRails (s : State) (f : Nat → Rail → Rail) : State := { s with rails := s.rails.mapIdx f }
/-- Change phase `p`. -/
def State.updPhase (s : State) (p : Nat) (f : Phase → Phase) : State := { s with phases := s.phases.modify p f }
/-- Change every phase, by its number. -/
def State.mapPhases (s : State) (f : Nat → Phase → Phase) : State := { s with phases := s.phases.mapIdx f }
/-- Change cell `c`. -/
def State.updCell (s : State) (c : Nat) (f : Cell → Cell) : State := { s with cells := s.cells.modify c f }
/-- Change every cell, by its number. -/
def State.mapCells (s : State) (f : Nat → Cell → Cell) : State := { s with cells := s.cells.mapIdx f }
/-- Change link `l`. -/
def State.updLink (s : State) (l : Nat) (f : Link → Link) : State := { s with links := s.links.modify l f }
/-- Change comparator `m`. -/
def State.updComp (s : State) (m : Nat) (f : Comp → Comp) : State := { s with comps := s.comps.modify m f }
/-- Change every comparator, by its number. -/
def State.mapComps (s : State) (f : Nat → Comp → Comp) : State := { s with comps := s.comps.mapIdx f }
/-- Change port `p`. -/
def State.updPort (s : State) (p : Nat) (f : Port → Port) : State := { s with ports := s.ports.modify p f }
/-- Change converter pair `i`. -/
def State.updPair (s : State) (i : Nat) (f : Pair → Pair) : State :=
  { s with telem := { s.telem with pairs := s.telem.pairs.modify i f } }
/-- Change channel `c`. -/
def State.updChan (s : State) (c : Nat) (f : Channel → Channel) : State :=
  { s with mail := { s.mail with chans := s.mail.chans.modify c f } }
/-- Change timer `k`. -/
def State.updTimer (s : State) (k : Nat) (f : Timer → Timer) : State := { s with timers := s.timers.modify k f }
/-- Change a management pair. -/
def State.updMgr (s : State) (m : Manager) (f : PairState → PairState) : State :=
  match m with
  | .rm => { s with rm := f s.rm }
  | .hm => { s with hm := f s.hm }

/-- Change the state machine group of a rail. -/
def State.updCore (s : State) (n : Nat) (f : RailCore → RailCore) : State :=
  s.updRail n fun r => { r with core := f r.core }
/-- Change the host registers of a rail. -/
def State.updHost (s : State) (n : Nat) (f : RailHost → RailHost) : State :=
  s.updRail n fun r => { r with host := f r.host }
/-- Change the host registers that regulation acts on. -/
def State.updHosted (s : State) (n : Nat) (f : RailHost → RailHost) : State :=
  s.updRail n fun r => { r with hosted := f r.hosted }
/-- Change the senses of a rail. -/
def State.updSense (s : State) (n : Nat) (f : RailSense → RailSense) : State :=
  s.updRail n fun r => { r with sense := f r.sense }
/-- Change the model of a rail. -/
def State.updModel (s : State) (n : Nat) (f : RailModel → RailModel) : State :=
  s.updRail n fun r => { r with model := f r.model }
/-- Change the loop engine of a rail. -/
def State.updLe (s : State) (n : Nat) (f : LoopEngine → LoopEngine) : State :=
  s.updRail n fun r => { r with le := f r.le }
/-- Change the backstop of a rail. -/
def State.updBs (s : State) (n : Nat) (f : Backstop → Backstop) : State :=
  s.updRail n fun r => { r with bs := f r.bs }
/-- Change the protection of a rail. -/
def State.updProt (s : State) (n : Nat) (f : RailProt → RailProt) : State :=
  s.updRail n fun r => { r with prot := f r.prot }
/-- Change the policy group of a rail. -/
def State.updPol (s : State) (n : Nat) (f : RailPolicy → RailPolicy) : State :=
  s.updRail n fun r => { r with pol := f r.pol }

/-- Do `f` for each index in turn. -/
def State.forEach (s : State) (l : List Nat) (f : State → Nat → State) : State := l.foldl f s

/-- Condition an update. -/
def State.when (s : State) (c : Bool) (f : State → State) : State := if c then f s else s

/-- The RM changes no phase state, width or trim of a rail and discovers nothing on its phases: the Apprentice holds the rails (R214, R344),
or a trigger found it disabled or stopped and the RM has not taken this rail yet (R348). -/
def State.frozenRail (s : State) (n : Nat) : Bool := s.app.holding || s.app.causes != 0 || s.app.taking.getLsbD n
/-- The Apprentice issues no commands: its copies disagree (R347), or its clock has stopped. -/
def State.appStopped (s : State) : Bool := s.app.mismatch || !s.clock.appPresent
/-- The RM changes no phase state, width or trim and discovers nothing: the Apprentice holds the rails (R214, R344), or a trigger
found it disabled or stopped and the RM has not taken the rails yet (R348). -/
def State.frozen (s : State) : Bool := s.app.holding || s.app.causes != 0

/-! ### Free values -/

/-- The next unstated value, and the counter advanced (log entry 7). -/
def State.freeNat (s : State) : Nat × State := (Config.freeNat s.free, { s with free := s.free + 1 })

/-- The next draw of the random source (R464, R467). -/
def State.random (s : State) : BitVec 384 × State := (Config.random s.free, { s with free := s.free + 1 })

/-! ### Time, on the model's clock of 1.25 ns (log entry 3) -/

/-- LOOP cycles in a time given in nanoseconds. -/
def nsTicks (ns : Nat) : Nat := ceilQuot (4 * ns) 5
/-- LOOP cycles in microseconds. -/
def usTicks (us : Nat) : Nat := 800 * us
/-- LOOP cycles in milliseconds. -/
def msTicks (ms : Nat) : Nat := 800000 * ms
/-- Ticks of a LOOP cycle: 1.25 ns, and 2.5 ns on PLL_BACKUP (R12). -/
def State.loopTicks (s : State) : Nat := if s.clock.onBackup then 2 else 1
/-- The interpolator's resolution in 19.5 ps: 39 ps on PLL_BACKUP (R12). -/
def State.dpwmStep (s : State) : Nat := if s.clock.onBackup then 2 else 1
/-- The quotient, a time in 19.5 ps, to the nearest point of the interpolator's grid (R12, R133, R198). -/
def State.onGrid (s : State) (num : Int) (den : Nat) : Int := nearest num (den * s.dpwmStep) * s.dpwmStep
/-- Cycles since a tick. -/
def State.since (s : State) (t : Nat) : Nat := s.clock.tick - t
/-- Whether a tick, if there is one, lies less than `d` cycles ago. -/
def State.within (s : State) (t : Option Nat) (d : Nat) : Bool :=
  match t with
  | some x => decide (s.since x < d)
  | none => false

/-! ### The staging port of the Sketchbook (R374 to R381) -/

/-- The bucket of a code; one that is not listed is full. -/
def Recorder.bucket (r : Recorder) (code : BitVec 16) : Bucket :=
  (r.buckets.find? (·.code == code)).getD { code := code, used := 0, suppressed := 0, lastSrc := 0 }

/-- Keep a bucket; a full one with nothing suppressed is not listed. -/
def Recorder.putBucket (r : Recorder) (b : Bucket) : Recorder :=
  let rest := r.buckets.filter (·.code != b.code)
  { r with buckets := if b.used == 0 && b.suppressed == 0 then rest else rest ++ [b] }

/-- Staged entries, the open record included (R381). -/
def Recorder.staged (r : Recorder) : Nat := r.closed.length + (if r.opened.isSome then 1 else 0)

/-- No further record may take a SEQ (R371). -/
def Recorder.exhausted (r : Recorder) : Bool := r.newest == some 0xFFFFFFFE#32

/-- A staging entry is free for a new record. -/
def Recorder.hasRoom (r : Recorder) : Bool := r.staged < 32 && !r.exhausted

/-- Close the open record (R376). -/
def Recorder.closeOpen (r : Recorder) : Recorder :=
  match r.opened with
  | some o => { r with closed := r.closed ++ [o], opened := none }
  | none => r

/-- A fresh record at its staging (R369, R372). -/
def Recorder.fresh (r : Recorder) (time : Nat) (code src : BitVec 16) (p0 p1 : Word) (flags : BitVec 16) : Rec :=
  { seq := 0, time := BitVec.ofNat 48 time, powerCycle := r.powerCycle, code := code, src := src,
    p0 := p0, p1 := p1, rep := 0, flags := flags }

/-- A dropped record (R381). -/
def Recorder.drop (r : Recorder) (code : BitVec 16) : Recorder :=
  { r with drops := BitVec.ofNat 16 (satAdd 65535 r.drops.toNat 1), dropDue := r.dropDue + 1,
           dropFirst := if r.dropDue == 0 then code else r.dropFirst, dropLast := code }

/-- Stage the summaries that are due while entries are free: STAGING_OVERFLOW first, then the RATE_LIMITED summaries in
the order in which they became due, each as a closed record immediately before the open one (R379, R381). -/
def Recorder.settle (r : Recorder) (time : Nat) : Recorder :=
  let r := if r.dropDue > 0 && r.hasRoom then
      { r with closed := r.closed ++ [r.fresh time 0xC003 0 (BitVec.ofNat 32 r.dropDue)
                 (BitVec.ofNat 32 (r.dropFirst.toNat * 65536 + r.dropLast.toNat)) 0x10], dropDue := 0 }
    else r
  r.dueOrder.foldl (fun r code =>
    if r.hasRoom then
      let b := r.bucket code
      let r := { r with closed := r.closed ++ [r.fresh time 0xC002 code (BitVec.ofNat 32 b.suppressed)
                          (BitVec.ofNat 32 b.lastSrc.toNat) 0x08],
                        dueOrder := r.dueOrder.erase code }
      r.putBucket { b with suppressed := 0 }
    else r) r

/-- Whether an event is a repeat of the open record (R375). -/
def Recorder.repeats (r : Recorder) (code src : BitVec 16) (p0 : Word) : Bool :=
  match r.opened with
  | some o => o.code == code && o.src == src && o.p0 == p0
  | none => false

/-- A new record: rate limit, room, then the open record closes and this one opens (R375, R378, R381). `depth` is 0 for
the classes without a bucket; `rep` counts the events it stands for beyond the first, all of them suppressed without a token, and
REPEAT saturates. -/
def Recorder.stageNew (r : Recorder) (depth time : Nat) (code src : BitVec 16) (p0 p1 : Word)
    (rep : Nat) (flags : BitVec 16) : Recorder :=
  let b := r.bucket code
  if depth > 0 && b.used ≥ depth then
    { r.putBucket { b with suppressed := b.suppressed + 1 + rep, lastSrc := src } with
        suppressed := BitVec.ofNat 16 (satAdd 65535 r.suppressed.toNat (1 + rep)) }
  else if r.hasRoom then
    let r := if depth > 0 then r.putBucket { b with used := b.used + 1 } else r
    { r.closeOpen with opened := some { r.fresh time code src p0 p1 flags with rep := BitVec.ofNat 16 (min 65535 rep) } }
  else r.drop code

/-- One event at the staging port (R375). -/
def Recorder.event (r : Recorder) (depth time : Nat) (code src : BitVec 16) (p0 p1 : Word) : Recorder :=
  match r.opened with
  | some o =>
    if o.code == code && o.src == src && o.p0 == p0 then
      { r with opened := some { o with rep := BitVec.ofNat 16 (satAdd 65535 o.rep.toNat 1), p1 := p1,
                                       flags := o.flags ||| 2 } }
    else r.stageNew depth time code src p0 p1 0 0
  | none => r.stageNew depth time code src p0 p1 0 0

/-- RATE and DEPTH of a code's class (Table 13.3); the defaults of R380 while no image is loaded. -/
def State.recRate (s : State) (code : BitVec 16) : Nat :=
  let c := code.toNat / 4096
  if c == 0 || c == 12 then 0 else if s.boot.imageLoaded then s.cfgField 0x0B (8 + 4 * c) 16 16 else 100
/-- DEPTH of a code's class. -/
def State.recDepth (s : State) (code : BitVec 16) : Nat :=
  let c := code.toNat / 4096
  if c == 0 || c == 12 then 0 else if s.boot.imageLoaded then s.cfgField 0x0B (8 + 4 * c) 0 8 else 16

/-- Write a record: the event goes to the staging port, or waits at its source while CORE is absent (R374). -/
def State.record (s : State) (code src p0 p1 : Nat) : State :=
  let c := BitVec.ofNat 16 code
  if s.clock.corePresent then
    { s with sketch := s.sketch.event (s.recDepth c) s.clock.time c (BitVec.ofNat 16 src)
                        (BitVec.ofNat 32 p0) (BitVec.ofNat 32 p1) }
  else
    { s with sketch := { s.sketch with held := s.sketch.held ++
        [(c, BitVec.ofNat 16 src, BitVec.ofNat 32 p0, BitVec.ofNat 32 p1)] } }

/-- A corrected error is counted (R26). -/
def State.countSingle (s : State) (m : MemName) : State :=
  let k := ((s.ecc.find? (·.1 == m)).map (·.2)).getD 0
  { s with ecc := s.ecc.filter (·.1 != m) ++ [(m, k + 1)] }

/-! ### Text -/

/-- Text as bytes. -/
def ascii (l : List Char) : List Byte := l.map fun c => BitVec.ofNat 8 c.toNat
/-- A hexadecimal digit, capital. -/
def hexDigit (x : Nat) : Byte := BitVec.ofNat 8 (if x % 16 < 10 then 48 + x % 16 else 55 + x % 16)
/-- `n` hexadecimal digits. -/
def hexText (n x : Nat) : List Byte := ((List.range n).map fun i => hexDigit (x / 16 ^ i)).reverse
/-- Decimal digits of a number below 10^10. -/
def decText (x : Nat) : List Byte :=
  let l := ((List.range 10).map fun i => x / 10 ^ i % 10).reverse.dropWhile (· == 0)
  (if l.isEmpty then [0] else l).map fun d => BitVec.ofNat 8 (48 + d)

/-! ### Console lines (R475) -/

/-- The final line of a command (Table 18.2). -/
def finalLine : ConLine → Bool
  | .ok | .err _ | .locked _ | .refused _ => true
  | .text _ | .words _ => false
/-- The prompt: `# ` inside a session, `> ` outside one (R475). -/
def State.promptText (s : State) : List Byte := if s.con.session then [0x23, 0x20] else [0x3E, 0x20]
/-- Lines that the console prints, and the prompt after a command's final line. -/
def State.print (s : State) (l : List ConLine) : State :=
  { s with con := { s.con with out := l, prompt := if l.any finalLine then s.promptText else [] } }
/-- The waiting command ends with its last lines. -/
def State.conEnd (s : State) (l : List ConLine) : State := { s with con := { s.con with waiting := none } }.print l
/-- The waiting command goes on with what it waits for. -/
def State.conWait (s : State) (w : ConWait) : State := { s with con := { s.con with waiting := some w } }

end Sys2Proof.Machine
end

