-- ==== Sys2Proof/Machine/LineCode.lean ====
section
/-! DEFINITION. The 8b/10b line code of the Femel links (R222 to R225): characters of a downstream frame with the running
disparity of the stream, and the bits of an upstream frame. The code groups are those of IEEE 802.3 clause 36, to which
R222 refers (PRESUMED, log entry 56). A code is a number whose most significant bit is bit a, the first sent. -/

namespace Sys2Proof.Machine

/-- Sub-blocks abcdei of D0 to D31 at negative running disparity. -/
def sixTable : List Nat :=
  [0b100111, 0b011101, 0b101101, 0b110001, 0b110101, 0b101001, 0b011001, 0b111000,
   0b111001, 0b100101, 0b010101, 0b110100, 0b001101, 0b101100, 0b011100, 0b010111,
   0b011011, 0b100011, 0b010011, 0b110010, 0b001011, 0b101010, 0b011010, 0b111010,
   0b110011, 0b100110, 0b010110, 0b110110, 0b001110, 0b101110, 0b011110, 0b101011]
/-- Sub-blocks fghj of .0 to .7 at negative running disparity; .7 in its primary form. -/
def fourTable : List Nat := [0b1011, 0b1001, 0b0101, 0b1100, 0b1101, 0b1010, 0b0110, 0b1110]

/-- Ones among the low `w` bits. -/
def onesIn (w x : Nat) : Nat := (indices w (bit x)).length

/-- The sub-block of five bits at a running disparity (`pos`: positive), and the disparity after it. -/
def sixOf (pos : Bool) (x : Nat) : Nat × Bool :=
  let c := sixTable.getD x 0
  let odd := onesIn 6 c != 3
  (if pos && (odd || x == 7) then 63 - c else c, pos != odd)

/-- The sub-block of the three upper bits `y` after that of the lower bits `x`; .7 takes its alternate form where the primary one
would make five equal bits. -/
def fourOf (pos : Bool) (x y : Nat) : Nat × Bool :=
  let alt := y == 7 && (if pos then x == 11 || x == 13 || x == 14 else x == 17 || x == 18 || x == 20)
  let c := if alt then 0b0111 else fourTable.getD y 0
  let odd := onesIn 4 c != 2
  (if pos && (odd || y == 3) then 15 - c else c, pos != odd)

/-- The code of a data byte, and the running disparity after it. -/
def encodeByte (pos : Bool) (b : Nat) : Nat × Bool :=
  let (s, pos) := sixOf pos (b % 32)
  let (f, pos) := fourOf pos (b % 32) (b / 32 % 8)
  (s * 16 + f, pos)

/-- The comma K28.5. It changes the running disparity. -/
def commaCode (pos : Bool) : Nat := if pos then 0b1100000101 else 0b0011111010

/-- Codes of data bytes in turn. -/
def encodeBytes : Bool → List Nat → List Nat × Bool
  | pos, [] => ([], pos)
  | pos, b :: bs =>
    let (c, pos) := encodeByte pos b
    let (cs, pos) := encodeBytes pos bs
    (c :: cs, pos)

/-- Bytes 1 to 7 of a downstream frame: its fields and the CRC over bytes 1 to 5 (Table 8.2, R224). -/
def frameBytes (f : DownFrame) : List Nat :=
  let body := [b2n f.bc * 128 + b2n f.seq * 64 + f.slot.toNat, b2n f.defer * 128 + b2n f.round * 64 + f.code.toNat,
    field f.data.toNat 16 8, field f.data.toNat 8 8, field f.data.toNat 0 8]
  let c := crc16 (body.map (BitVec.ofNat 8))
  body ++ [c / 256, c % 256]

/-- The eight characters of a downstream frame at the stream's running disparity, and the disparity after them (R222, R223). -/
def frameChars (pos : Bool) (f : DownFrame) : List (BitVec 10) × Bool :=
  let (cs, out) := encodeBytes (!pos) (frameBytes f)
  ((commaCode pos :: cs).map (BitVec.ofNat 10), out)

/-- The byte whose code at this running disparity is given; none for a code that is not valid there (R224). -/
def decodeByte (pos : Bool) (c : Nat) : Option (Nat × Bool) :=
  match (List.range 32).find? fun x => (sixOf pos x).1 == c / 16 with
  | none => none
  | some x =>
    let mid := (sixOf pos x).2
    match (List.range 8).find? fun y => (fourOf mid x y).1 == c % 16 with
    | none => none
    | some y => some (y * 32 + x, (fourOf mid x y).2)

/-- The number of bits received first to last. -/
def bitsNat (l : List Bool) : Nat := l.foldl (fun n b => 2 * n + b2n b) 0

/-- The last eight bits of K28.5 (RD-), by which the start of an upstream frame is found (R225). -/
def commaTail : List Bool := [true, true, true, true, true, false, true, false]

/-- What follows the first comma tail in the received bits. -/
def afterComma : List Bool → Option (List Bool)
  | [] => none
  | b :: bs => if (b :: bs).take 8 == commaTail then some ((b :: bs).drop 8) else afterComma bs

/-- `k` characters of ten bits, decoded from a running disparity. -/
def decodeChars : Nat → Bool → List Bool → Option (List Nat)
  | 0, _, _ => some []
  | k + 1, pos, l =>
    if l.length < 10 then none
    else match decodeByte pos (bitsNat (l.take 10)) with
      | none => none
      | some (b, pos) => match decodeChars k pos (l.drop 10) with
        | none => none
        | some bs => some (b :: bs)

/-- What the bits of a slot hold: nothing (an undriven pair reads as zeros, R225), a good frame's bytes 1 to 7 from the most
significant end, or a bad frame (R224). -/
inductive SlotFrame where
  | absent
  | bad
  | good (f : BitVec 56)
  deriving DecidableEq, Repr

/-- Byte `i` (1 to 7) of an upstream frame: bytes 1 to 7 from the most significant end. -/
def upByte (f : BitVec 56) (i : Nat) : Nat := field f.toNat (8 * (7 - i)) 8
/-- The CRC of an upstream frame matches (R224). -/
def upGood (f : BitVec 56) : Bool :=
  crc16 ((List.range 5).map fun i => BitVec.ofNat 8 (upByte f (i + 1))) == upByte f 6 * 256 + upByte f 7

/-- The upstream frame in the bits received in a slot: its start is found by the comma; the seven characters that follow start at
positive running disparity, since K28.5 (RD-) has six ones (R222 to R225). -/
def receive (bits : List Bool) : SlotFrame :=
  if bits.all (!·) then .absent
  else match afterComma bits with
    | none => .bad
    | some l => match decodeChars 7 true l with
      | none => .bad
      | some bs =>
        let f := BitVec.ofNat 56 (bs.foldl (fun n b => 256 * n + b) 0)
        if upGood f then .good f else .bad

/-- The bits a cell sends for bytes 1 to 5 of an upstream frame: two zeros in place of the first two, the comma's tail, and seven
characters with the CRC (R225). -/
def upstreamBits (body : List Nat) : List Bool :=
  let c := crc16 (body.map (BitVec.ofNat 8))
  let chars := (encodeBytes true (body ++ [c / 256, c % 256])).1
  [false, false] ++ commaTail ++ chars.flatMap fun x => (List.range 10).map fun i => bit x (9 - i)

end Sys2Proof.Machine
end

