-- ==== Sys2Proof/Machine/Operands.lean ====
section
/-! DEFINITION. The operand forms the image gives: the fields of its sections as the running device reads them from the
configuration shadow, with the defaults the spec gives for the blank canvas. -/

namespace Sys2Proof.Machine

/-- RAIL_EN, element `i`. -/
def State.railEnBit (s : State) (i : Nat) : Nat := s.cfgField 3 (0x8 + 64 * i) 31 1
/-- PG_MEMBER, element `i`. -/
def State.pgMember (s : State) (i : Nat) : Nat := s.cfgField 3 (0x8 + 64 * i) 30 1
/-- CLASS, element `i`. -/
def State.railClass (s : State) (i : Nat) : Nat := s.cfgField 3 (0x8 + 64 * i) 28 2
/-- FF_MODE, element `i`. -/
def State.ffMode (s : State) (i : Nat) : Nat := s.cfgField 3 (0x8 + 64 * i) 26 2
/-- FSW, kHz, element `i`. -/
def State.fsw (s : State) (i : Nat) : Nat := s.cfgField 3 (0x8 + 64 * i) 0 12
/-- ENV_VMAX, set-point code, element `i`. -/
def State.envMax (s : State) (i : Nat) : Nat := s.cfgField 3 (0xc + 64 * i) 16 12
/-- ENV_VMIN, set-point code, element `i`. -/
def State.envMin (s : State) (i : Nat) : Nat := s.cfgField 3 (0xc + 64 * i) 0 12
/-- DMAX, 2^-16, element `i`. -/
def State.dmax (s : State) (i : Nat) : Nat := s.cfgField 3 (0x10 + 64 * i) 16 16
/-- UPD_DIV, element `i`. -/
def State.updDiv (s : State) (i : Nat) : Nat := s.cfgField 3 (0x10 + 64 * i) 0 6
/-- VIN_NOM, mV, element `i`. -/
def State.vinNom (s : State) (i : Nat) : Nat := s.cfgField 3 (0x14 + 64 * i) 16 16
/-- RPATH, 0.1 micro-ohm, element `i`. -/
def State.rpath (s : State) (i : Nat) : Nat := s.cfgField 3 (0x14 + 64 * i) 0 16
/-- COUT_NOM, 10 uF, element `i`. -/
def State.coutNom (s : State) (i : Nat) : Nat := s.cfgField 3 (0x18 + 64 * i) 16 16
/-- LEFF_NOM, pH, element `i`. -/
def State.leffNom (s : State) (i : Nat) : Nat := s.cfgField 3 (0x18 + 64 * i) 0 16
/-- SS_SLEW_CLASS, element `i`. -/
def State.ssClass (s : State) (i : Nat) : Nat := s.cfgField 3 (0x1c + 64 * i) 28 4
/-- STOP_SLEW_CLASS, element `i`. -/
def State.stopClass (s : State) (i : Nat) : Nat := s.cfgField 3 (0x1c + 64 * i) 24 4
/-- DISCHARGE_TIMEOUT, ms, element `i`. -/
def State.dischargeTimeout (s : State) (i : Nat) : Nat := s.cfgField 3 (0x1c + 64 * i) 12 12
/-- STOP_LEVEL, set-point code, element `i`. -/
def State.stopLevel (s : State) (i : Nat) : Nat := s.cfgField 3 (0x1c + 64 * i) 0 12
/-- BS_ENV, 2^-16, element `i`. -/
def State.bsEnv (s : State) (i : Nat) : Nat := s.cfgField 3 (0x28 + 64 * i) 16 16
/-- RLL, micro-ohm, element `i`. -/
def State.rllCfg (s : State) (i : Nat) : Nat := s.cfgWord 3 (0x2c + 64 * i)
/-- CHAR_INTERVAL, s, element `i`. -/
def State.charInterval (s : State) (i : Nat) : Nat := s.cfgWord 3 (0x30 + 64 * i)
/-- TRIM_GAIN, element `i`. -/
def State.trimGain (s : State) (i : Nat) : Nat := s.cfgWord 3 (0x34 + 64 * i)
/-- AUTO_FALLBACK, element `i`. -/
def State.autoFallback (s : State) (i : Nat) : Nat := s.cfgField 3 (0x408 + 64 * i) 0 4
/-- FLOOR_SWATCH of a port, element `i`. -/
def State.floorSwatch (s : State) (i : Nat) : Nat := s.cfgField 5 (0xc + 8 * i) 8 6
/-- BOOT_SWATCH of a port, element `i`. -/
def State.bootSwatch (s : State) (i : Nat) : Nat := s.cfgField 5 (0xc + 8 * i) 0 6
/-- SETTLE of a slew class, 0.1 us, element `i`. -/
def State.settleCfg (s : State) (i : Nat) : Nat := s.cfgField 5 (0x48 + 4 * i) 16 16
/-- RATE of a slew class, 0.1 mV/us, element `i`. -/
def State.slewRate (s : State) (i : Nat) : Nat := s.cfgField 5 (0x48 + 4 * i) 0 16
/-- DEFAULT_ENTRY, element `i`. -/
def State.defaultEntry (s : State) (i : Nat) : Nat := s.cfgWord 5 (0x88 + 32 * i)
/-- HOST_ALLOWED, element `i`. -/
def State.hostAllowed (s : State) (i : Nat) : Nat := s.cfgField 5 (0x8c + 32 * i) 8 1
/-- APP_SLEW_CLASS, element `i`. -/
def State.appClass (s : State) (i : Nat) : Nat := s.cfgField 5 (0x8c + 32 * i) 4 4
/-- PREBIAS, LSB, element `i`. -/
def State.prebiasCfg (s : State) (i : Nat) : Nat := s.cfgWord 5 (0x90 + 32 * i)
/-- PREBIAS_HOLD, us, element `i`. -/
def State.prebiasHold (s : State) (i : Nat) : Nat := s.cfgWord 5 (0x94 + 32 * i)
/-- HOST_SLEW_CLASS, element `i`. -/
def State.hostClass (s : State) (i : Nat) : Nat := s.cfgWord 5 (0x98 + 32 * i)
/-- PH_RAIL, element `i`. -/
def State.phRail (s : State) (i : Nat) : Nat := s.cfg 7 (0x8 + i) 1
/-- MIN_ACTIVE, element `i`. -/
def State.minActive (s : State) (i : Nat) : Nat := s.cfgField 7 (0x100 + 64 * i) 24 8
/-- START_PHASES, element `i`. -/
def State.startPhases (s : State) (i : Nat) : Nat := s.cfgField 7 (0x100 + 64 * i) 16 8
/-- SPARES, element `i`. -/
def State.spares (s : State) (i : Nat) : Nat := s.cfgField 7 (0x100 + 64 * i) 8 8
/-- SHED_STEP, element `i`. -/
def State.shedStep (s : State) (i : Nat) : Nat := s.cfgField 7 (0x100 + 64 * i) 4 4
/-- SYNC_SRC, element `i`. -/
def State.syncSrc (s : State) (i : Nat) : Nat := s.cfgField 7 (0x100 + 64 * i) 2 2
/-- ADD_THR, 0.1 A, element `i`. -/
def State.addThr (s : State) (i : Nat) : Nat := s.cfgWord 7 (0x104 + 64 * i)
/-- SHED_THR, 0.1 A, element `i`. -/
def State.shedThr (s : State) (i : Nat) : Nat := s.cfgWord 7 (0x108 + 64 * i)
/-- ADD_DWELL, us, element `i`. -/
def State.addDwell (s : State) (i : Nat) : Nat := s.cfgWord 7 (0x10c + 64 * i)
/-- SHED_DWELL, us, element `i`. -/
def State.shedDwell (s : State) (i : Nat) : Nat := s.cfgWord 7 (0x110 + 64 * i)
/-- DEEP_PARK_TIME, us, element `i`. -/
def State.deepParkTime (s : State) (i : Nat) : Nat := s.cfgWord 7 (0x114 + 64 * i)
/-- WIDTH_HYST, 0.1 A, element `i`. -/
def State.widthHyst (s : State) (i : Nat) : Nat := s.cfgWord 7 (0x118 + 64 * i)
/-- TH_GAIN as stored, element `i`. -/
def State.thGainRaw (s : State) (i : Nat) : Nat := s.cfgWord 7 (0x11c + 64 * i)
/-- T_REF, element `i`. -/
def State.tRef (s : State) (i : Nat) : Nat := s.cfgWord 7 (0x120 + 64 * i)
/-- W_MAX, element `i`. -/
def State.wMax (s : State) (i : Nat) : Nat := s.cfgField 7 (0x124 + 64 * i) 16 10
/-- W_MIN, element `i`. -/
def State.wMin (s : State) (i : Nat) : Nat := s.cfgField 7 (0x124 + 64 * i) 0 10
/-- EXPECT of a cell, element `i`. -/
def State.expect (s : State) (i : Nat) : Nat := s.cfgField 4 (0x8 + 8 * i) 31 1
/-- TRIM of a cell, as stored, element `i`. -/
def State.cellTrim (s : State) (i : Nat) : Nat := s.cfgField 4 (0x8 + 8 * i) 16 8
/-- RATING of a cell, 0.1 A, element `i`. -/
def State.rating (s : State) (i : Nat) : Nat := s.cfgField 4 (0x8 + 8 * i) 0 16
/-- OCP_LIMIT of a cell, 10 mA, element `i`. -/
def State.ocpLimit (s : State) (i : Nat) : Nat := s.cfgField 4 (0xc + 8 * i) 0 12
/-- first word of a comparator block, element `i`. -/
def State.cmpWord (s : State) (i : Nat) : Nat := s.cfgWord 8 (0x8 + 16 * i)
/-- THR of a comparator, element `i`. -/
def State.thr (s : State) (i : Nat) : Nat := s.cfgWord 8 (0xc + 16 * i)
/-- HYST of a comparator, element `i`. -/
def State.hyst (s : State) (i : Nat) : Nat := s.cfgWord 8 (0x10 + 16 * i)
/-- BURST_LIMIT, ns, element `i`. -/
def State.burstLimit (s : State) (i : Nat) : Nat := s.cfgWord 8 (0x4c8 + 32 * i)
/-- CLAMP_LIMIT, ns, element `i`. -/
def State.clampLimit (s : State) (i : Nat) : Nat := s.cfgWord 8 (0x4cc + 32 * i)
/-- EDGE_LEN, ns, element `i`. -/
def State.edgeLen (s : State) (i : Nat) : Nat := s.cfgWord 8 (0x4d0 + 32 * i)
/-- SETPT_LEN, ns, element `i`. -/
def State.setptLen (s : State) (i : Nat) : Nat := s.cfgWord 8 (0x4d4 + 32 * i)
/-- ADD_LEN, ns, element `i`. -/
def State.addLen (s : State) (i : Nat) : Nat := s.cfgWord 8 (0x4d8 + 32 * i)
/-- BP_GAIN, element `i`. -/
def State.bpGain (s : State) (i : Nat) : Nat := s.cfgField 8 (0x4dc + 32 * i) 0 16
/-- TRIG of a timer, element `i`. -/
def State.gtTrig (s : State) (i : Nat) : Nat := s.cfgField 8 (0x6c8 + 16 * i) 24 8
/-- PERIODIC, element `i`. -/
def State.gtPeriodic (s : State) (i : Nat) : Nat := s.cfgField 8 (0x6c8 + 16 * i) 23 1
/-- RETRIG, element `i`. -/
def State.gtRetrig (s : State) (i : Nat) : Nat := s.cfgField 8 (0x6c8 + 16 * i) 22 1
/-- LEN of a timer, element `i`. -/
def State.gtLen (s : State) (i : Nat) : Nat := s.cfgWord 8 (0x6cc + 16 * i)
/-- VOUT_ABS_MAX, element `i`. -/
def State.voutAbsMax (s : State) (i : Nat) : Nat := s.cfgField 8 (0x2000 + 64 * i) 16 12
/-- OCP_PCT, element `i`. -/
def State.ocpPct (s : State) (i : Nat) : Nat := s.cfgField 8 (0x2000 + 64 * i) 8 8
/-- THROT_PCT, element `i`. -/
def State.throtPct (s : State) (i : Nat) : Nat := s.cfgField 8 (0x2000 + 64 * i) 0 8
/-- OCP_ABS, 0.1 A, element `i`. -/
def State.ocpAbs (s : State) (i : Nat) : Nat := s.cfgWord 8 (0x2004 + 64 * i)
/-- OCP_WIN, us, element `i`. -/
def State.ocpWinUs (s : State) (i : Nat) : Nat := s.cfgWord 8 (0x2008 + 64 * i)
/-- HICCUP_OFF, ms, element `i`. -/
def State.hiccupOff (s : State) (i : Nat) : Nat := s.cfgWord 8 (0x200c + 64 * i)
/-- RETRY_WIN, ms, element `i`. -/
def State.retryWin (s : State) (i : Nat) : Nat := s.cfgWord 8 (0x2010 + 64 * i)
/-- THROT_GRACE, us, element `i`. -/
def State.throtGrace (s : State) (i : Nat) : Nat := s.cfgWord 8 (0x2014 + 64 * i)
/-- YIELD_HOLD, us, element `i`. -/
def State.yieldHold (s : State) (i : Nat) : Nat := s.cfgWord 8 (0x2018 + 64 * i)
/-- UV_DELAY, us, element `i`. -/
def State.uvDelay (s : State) (i : Nat) : Nat := s.cfgWord 8 (0x201c + 64 * i)
/-- PG_ON_DELAY, us, element `i`. -/
def State.pgOnDelay (s : State) (i : Nat) : Nat := s.cfgWord 8 (0x2020 + 64 * i)
/-- PG_OFF_FILTER, ns, element `i`. -/
def State.pgOffFilter (s : State) (i : Nat) : Nat := s.cfgWord 8 (0x2024 + 64 * i)
/-- CELL_TWARN, element `i`. -/
def State.cellTwarn (s : State) (i : Nat) : Nat := s.cfgWord 8 (0x2028 + 64 * i)
/-- UV_RESP, element `i`. -/
def State.uvResp (s : State) (i : Nat) : Nat := s.cfgField 8 (0x202c + 64 * i) 0 1
/-- TSNS_POL, element `i`. -/
def State.tsnsPol (s : State) (i : Nat) : Nat := s.cfgField 8 (0x2440 + 16 * i) 16 1
/-- TSNS_RAILS, element `i`. -/
def State.tsnsRails (s : State) (i : Nat) : Nat := s.cfgField 8 (0x2440 + 16 * i) 0 16
/-- TSNS_WARN, mV, element `i`. -/
def State.tsnsWarnMv (s : State) (i : Nat) : Nat := s.cfgWord 8 (0x2444 + 16 * i)
/-- TSNS_OT, mV, element `i`. -/
def State.tsnsOtMv (s : State) (i : Nat) : Nat := s.cfgWord 8 (0x2448 + 16 * i)
/-- ACH of an accumulator, element `i`. -/
def State.accCh (s : State) (i : Nat) : Nat := s.cfgField 9 (0x208 + 8 * i) 25 7
/-- AVG_K, element `i`. -/
def State.accK (s : State) (i : Nat) : Nat := s.cfgWord 9 (0x20c + 8 * i)
/-- TCH of a tracker, element `i`. -/
def State.trkCh (s : State) (i : Nat) : Nat := s.cfgField 9 (0x408 + 4 * i) 25 7
/-- IIN_CAP, 0.1 A. -/
def State.iinCap (s : State) : Nat := s.cfgWord 8 0x2400
/-- VIN_AUTO. -/
def State.vinAuto (s : State) : Nat := s.cfgField 8 0x2404 16 1
/-- RSHUNT, micro-ohm. -/
def State.rshunt (s : State) : Nat := s.cfgField 8 0x2404 0 16
/-- IIN_WIN, us. -/
def State.iinWin (s : State) : Nat := s.cfgWord 8 0x2408
/-- IIN_GRACE, us. -/
def State.iinGrace (s : State) : Nat := s.cfgWord 8 0x240c
/-- IIN_STOP_TIME, ms. -/
def State.iinStopTime (s : State) : Nat := s.cfgWord 8 0x2410
/-- DIE_WARN. -/
def State.dieWarn (s : State) : Nat := s.cfgWord 8 0x2414
/-- DIE_OT. -/
def State.dieOtC (s : State) : Nat := s.cfgField 8 0x2418 0 8
/-- XCHK_PCT. -/
def State.xchkPct (s : State) : Nat := s.cfgWord 9 0x508
/-- LE_MASK. -/
def State.leMask (s : State) : Nat := s.cfgField 6 0x8 0 16
/-- SYNCO2_RAIL. -/
def State.synco2 (s : State) : Nat := s.cfgField 7 0x88 24 8
/-- SYNCO3_RAIL. -/
def State.synco3 (s : State) : Nat := s.cfgField 7 0x88 16 8
/-- SVC_BAUD. -/
def State.svcBaud (s : State) : Nat := s.cfgField 1 0x40 0 2
/-- COUNT of the claims. -/
def State.claimCount (s : State) : Nat := s.cfg 2 0 2
/-- WD_RM_TIMEOUT, us; 10000 while no image is loaded. -/
def State.wdRmTimeout (s : State) : Nat := if s.boot.imageLoaded then s.cfgWord 10 0x8 else 10000
/-- WD_HM_TIMEOUT, us; 50000 while no image is loaded. -/
def State.wdHmTimeout (s : State) : Nat := if s.boot.imageLoaded then s.cfgWord 10 0xc else 50000
/-- ESC_WIN, ms; 10000 while no image is loaded. -/
def State.escWin (s : State) : Nat := if s.boot.imageLoaded then s.cfgWord 10 0x10 else 10000
/-- DECAY_H; 24 while no image is loaded. -/
def State.decayH (s : State) : Nat := if s.boot.imageLoaded then s.cfgField 10 0x14 16 16 else 24
/-- SAFE_N; 3 while no image is loaded. -/
def State.safeN (s : State) : Nat := if s.boot.imageLoaded then s.cfgField 10 0x14 4 4 else 3
/-- DUMP_LOCK; 1 while no image is loaded. -/
def State.dumpLock (s : State) : Nat := if s.boot.imageLoaded then s.cfgField 10 0x14 2 1 else 1
/-- FIX_LOCK_HM; 1 while no image is loaded. -/
def State.fixLockHm (s : State) : Nat := if s.boot.imageLoaded then s.cfgField 10 0x14 1 1 else 1
/-- FIX_LOCK_RM; 1 while no image is loaded. -/
def State.fixLockRm (s : State) : Nat := if s.boot.imageLoaded then s.cfgField 10 0x14 0 1 else 1
/-- T_CROSS, ms; 10 while no image is loaded. -/
def State.tCross (s : State) : Nat := if s.boot.imageLoaded then s.cfgWord 12 0x48 else 10
/-- FILTER; 5 while no image is loaded. -/
def State.busFilter (s : State) : Nat := if s.boot.imageLoaded then s.cfgField 13 0x8 24 4 else 5
/-- SPEED; 0 while no image is loaded. -/
def State.busSpeed (s : State) : Nat := if s.boot.imageLoaded then s.cfgField 13 0x8 22 2 else 0
/-- PEC_REQ; 0 while no image is loaded. -/
def State.pecReq (s : State) : Nat := if s.boot.imageLoaded then s.cfgField 13 0x8 21 1 else 0
/-- NOTIFY_EN; 0 while no image is loaded. -/
def State.notifyEn (s : State) : Nat := if s.boot.imageLoaded then s.cfgField 13 0x8 20 1 else 0
/-- STANDBY_EN; 0 while no image is loaded. -/
def State.standbyEn (s : State) : Nat := if s.boot.imageLoaded then s.cfgField 13 0x8 19 1 else 0
/-- STANDBY_IDLE, ms; 1 while no image is loaded. -/
def State.standbyIdle (s : State) : Nat := if s.boot.imageLoaded then s.cfgField 13 0x8 0 16 else 1
/-- BURN_WDT_HW; 0 while no image is loaded. -/
def State.burnWdtHw (s : State) : Nat := if s.boot.imageLoaded then s.cfgField 14 0x8 1 1 else 0
/-- ADVANCE_RB; 0 while no image is loaded. -/
def State.advanceRb (s : State) : Nat := if s.boot.imageLoaded then s.cfgField 14 0x8 0 1 else 0
/-- SVC_LOCKOUT; 5 while no image is loaded. -/
def State.svcLockout (s : State) : Nat := if s.boot.imageLoaded then s.cfgField 14 0xc 0 8 else 5
/-- SVC_LOCK_S, s; 600 while no image is loaded. -/
def State.svcLockS (s : State) : Nat := if s.boot.imageLoaded then s.cfgWord 14 0x10 else 600

/-- RAIL_EN of rail `n`, once an image is loaded. -/
def State.railEn (s : State) (n : Nat) : Bool := s.boot.imageLoaded && s.railEnBit n == 1

/-- The enabled rails, ascending. -/
def State.enabledRails (s : State) : List Nat := indices 16 s.railEn

/-- A signed backstop coefficient and its shift (Table 5.5). -/
def State.bsKp (s : State) (n : Nat) : Int × Nat :=
  (signed 16 (s.cfgField 3 (0x20 + 64 * n) 16 16), s.cfgField 3 (0x24 + 64 * n) 10 5)
/-- BS_KI and its shift. -/
def State.bsKi (s : State) (n : Nat) : Int × Nat :=
  (signed 16 (s.cfgField 3 (0x20 + 64 * n) 0 16), s.cfgField 3 (0x24 + 64 * n) 5 5)
/-- BS_KD and its shift. -/
def State.bsKd (s : State) (n : Nat) : Int × Nat :=
  (signed 16 (s.cfgField 3 (0x24 + 64 * n) 16 16), s.cfgField 3 (0x24 + 64 * n) 0 5)

/-- CAP_LO and CAP_HI of profile `q` of rail `n`. -/
def State.capRange (s : State) (n q : Nat) : Nat × Nat :=
  (s.cfgField 3 (0x408 + 64 * n + 4 * q) 0 16, s.cfgField 3 (0x408 + 64 * n + 4 * q) 16 16)

/-- Rail in group slot `g` of port `p` (Table 4.3). -/
def State.groupRail (s : State) (p g : Nat) : Option Nat :=
  let v := s.cfg 5 (8 + 8 * p + g) 1
  if s.boot.imageLoaded && v < 16 then some v else none

/-- The rails of a port's group. -/
def State.groupRails (s : State) (p : Nat) : List Nat := (List.range 4).filterMap (s.groupRail p)

/-- Port and group slot that name rail `n`; none for an ungrouped rail. -/
def State.portOf (s : State) (n : Nat) : Option (Nat × Nat) :=
  ((List.range 8).flatMap fun p => (List.range 4).map fun g => (p, g)).find? fun x => s.groupRail x.1 x.2 == some n

/-- Rail of phase `p` (PH_RAIL), where one is assigned. -/
def State.phaseRail (s : State) (p : Nat) : Option Nat :=
  if s.boot.imageLoaded && s.phRail p < 16 then some (s.phRail p) else none

/-- The phases of rail `n`, ascending. -/
def State.railPhases (s : State) (n : Nat) : List Nat := indices 128 fun p => s.phaseRail p == some n

/-- TH_GAIN, signed. -/
def State.thGain (s : State) (n : Nat) : Int := signed 32 (s.thGainRaw n)
/-- BAND_HI of band `b`, 0.1 A per cell. -/
def State.bandHi (s : State) (n b : Nat) : Nat := s.cfg 7 (0x502 + 32 * n + 4 * b) 2
/-- BAND_W of band `b`. -/
def State.bandW (s : State) (n b : Nat) : Nat := s.cfg 7 (0x500 + 32 * n + 4 * b) 2

/-- Cell numbers of phase `p` (R187). -/
def phaseCells (p : Nat) : List Nat := (List.range 8).map fun j => 8 * p + j
/-- Phase of cell `c` (R187). -/
def cellPhase (c : Nat) : Nat := c / 8
/-- Link of cell `c`. -/
def cellLink (c : Nat) : Nat := c / 64
/-- Slot of cell `c` on its link. -/
def cellSlot (c : Nat) : Nat := c % 64
/-- Cell numbers of link `l`. -/
def linkCells (l : Nat) : List Nat := (List.range 64).map fun k => 64 * l + k
/-- Rail a cell serves. -/
def State.cellRail (s : State) (c : Nat) : Option Nat := s.phaseRail (cellPhase c)

/-- Crosspoint of source `src` to destination `d` (Table 9.11): 0 none, 1 soft, 2 hard. -/
def State.xp (s : State) (d src : Nat) : Nat :=
  if s.boot.imageLoaded then s.cfg 8 (0x800 + 64 * d + src / 4) 1 / 4 ^ (src % 4) % 4 else 0

/-- Claim entry `i` of the CLAIMS section. -/
def State.claim (s : State) (i : Nat) : Nat := s.cfgWord 2 (4 + 4 * i)
/-- The claim entry of a TYPE and INDEX, where one stands. -/
def State.claimOf (s : State) (type index : Nat) : Option Nat :=
  if s.boot.imageLoaded then
    ((List.range s.claimCount).map s.claim).find? fun e => field e 24 8 == type && field e 16 8 == index
  else none
/-- OWNER of a resource; 0 where it is not claimed. -/
def State.owner (s : State) (type index : Nat) : Nat := ((s.claimOf type index).map fun e => field e 8 8).getD 0
/-- FUNC of an MFP ball's claim; 0 where it is not claimed. -/
def State.mfpFunc (s : State) (ball : Nat) : Nat := ((s.claimOf 1 ball).map fun e => field e 0 8).getD 0

/-- Limit pair of a wet field in the limit table of its section (R78, Table 3.9). -/
def State.limitPair (s : State) (sec off : Nat) : Option (Nat × Nat) :=
  let lim := s.cfgWord sec 0
  let n := s.cfg sec 4 2
  ((List.range n).find? fun j => s.cfgWord sec (lim + 12 * j) == shadowKey sec off).map fun j =>
    (s.cfgWord sec (lim + 12 * j + 4), s.cfgWord sec (lim + 12 * j + 8))

/-- SENDER, RECEIVER, REPLY_CH and URGENT_CH of a channel: the image's binding, or the default binding of Table 14.3. -/
def State.chanSender (s : State) (c : Nat) : Nat :=
  if s.boot.imageLoaded then s.cfgField 0xC (8 + 4 * c) 24 8 else [1, 3, 1, 3, 2, 3, 3, 4, 3, 4].getD c 0
/-- RECEIVER of a channel. -/
def State.chanReceiver (s : State) (c : Nat) : Nat :=
  if s.boot.imageLoaded then s.cfgField 0xC (8 + 4 * c) 16 8 else [3, 1, 3, 1, 3, 2, 4, 3, 4, 3].getD c 0
/-- REPLY_CH of a channel; 0xFF none. -/
def State.replyCh (s : State) (c : Nat) : Nat :=
  if s.boot.imageLoaded then s.cfgField 0xC (8 + 4 * c) 8 8
  else if c ≤ 8 && c % 2 == 0 then c + 1 else 0xFF
/-- URGENT_CH of a channel. -/
def State.urgentCh (s : State) (c : Nat) : Bool :=
  if s.boot.imageLoaded then s.cfgField 0xC (8 + 4 * c) 0 1 == 1 else c == 8 || c == 9

/-! ### LINEAR11 (R436) -/

/-- The smallest exponent from −16 to +15 whose rounded mantissa fits, for the value `num / den`; none when it would need
one above +15. Halves round away from zero. -/
def linear11Parts (num : Int) (den : Nat) : Option (Int × Int) :=
  let y (n : Int) : Int :=
    let nm : Nat := num.natAbs * (if n < 0 then 2 ^ (-n).toNat else 1)
    let dn : Nat := den * (if n < 0 then 1 else 2 ^ n.toNat)
    let m : Int := ((2 * nm + dn) / (2 * dn) : Nat)
    if num < 0 then -m else m
  ((List.range 32).map fun (k : Nat) => ((k : Int) - 16, y ((k : Int) - 16))).find? fun x => decide (-1024 ≤ x.2) && decide (x.2 ≤ 1023)

/-- A reading in LINEAR11. -/
def linear11 (num : Int) (den : Nat) : Nat :=
  match linear11Parts num den with
  | some (n, y) => if y = 0 then 0 else toBits 5 n * 2048 + toBits 11 y
  | none => if num < 0 then 0x7C00 else 0x7BFF

/-- The value of a LINEAR11 word, as a numerator over a power of two. -/
def linear11Value (w : Nat) : Int × Nat :=
  let y := signed 11 w
  let n := signed 5 (w / 2048)
  if n < 0 then (y, 2 ^ (-n).toNat) else (y * 2 ^ n.toNat, 1)

end Sys2Proof.Machine
end

