-- ==== Sys2Proof/Machine/Flags.lean ====
section
/-! DEFINITION. Levels, counts and status bits that the spec derives from the state: capacity, floors, set-point sources,
router levels, SRDY, power-good, the PMBus status registers, and the alert flag that follows them. -/

namespace Sys2Proof.Machine

/-! ### Phases and cells (Table 7.2, R188) -/

/-- Takes duty under R133. -/
def PhaseState.switching : PhaseState → Bool
  | .active | .decidedShed | .draining | .blind => true
  | _ => false
/-- In the spacing set. -/
def PhaseState.spaced : PhaseState → Bool
  | .active | .blind => true
  | _ => false
/-- Counts to capacity. -/
def PhaseState.counts : PhaseState → Bool
  | .unused | .retryWait | .retired => false
  | _ => true
/-- Fired by a burst; a DEEP_PARKED phase takes only its wake edge. -/
def PhaseState.fired : PhaseState → Bool := PhaseState.counts
/-- Code of Table 7.2. -/
def PhaseState.code : PhaseState → Nat
  | .unused => 0 | .active => 1 | .decidedShed => 2 | .draining => 3 | .tristated => 4 | .parked => 5
  | .deepParked => 6 | .waking => 7 | .blind => 8 | .retryWait => 9 | .retired => 10
/-- Code of Table 5.6. -/
def RailState.code : RailState → Nat
  | .off => 0 | .primed => 1 | .softStart => 2 | .regulating => 3 | .slewing => 4 | .softStop => 5 | .discharge => 6
  | .faultLatched => 7 | .reenablePending => 8 | .apprenticeHold => 9
/-- Code of Table 8.10. -/
def CellState.code : CellState → Nat
  | .absent => 0 | .discovered => 1 | .configured => 2 | .running => 3 | .silent => 4 | .quarantined => 5

/-- SOFT_START, REGULATING, SLEWING or APPRENTICE_HOLD: graces and yields act (R284), OFF of Table 16.2 reads 0. -/
def RailState.live : RailState → Bool
  | .softStart | .regulating | .slewing | .apprenticeHold => true
  | _ => false
/-- REGULATING, SLEWING or APPRENTICE_HOLD (R123, R271, R292, R293). -/
def RailState.onTarget : RailState → Bool
  | .regulating | .slewing | .apprenticeHold => true
  | _ => false
/-- From SOFT_START to DISCHARGE (R275, R343). -/
def RailState.running : RailState → Bool
  | .softStart | .regulating | .slewing | .softStop | .discharge => true
  | _ => false
/-- FAULT_LATCHED or REENABLE_PENDING. -/
def RailState.latched : RailState → Bool
  | .faultLatched | .reenablePending => true
  | _ => false
/-- OFF or PRIMED. -/
def RailState.resting : RailState → Bool
  | .off | .primed => true
  | _ => false

/-- Temperature code (0.25 °C from −40 °C) of a temperature in °C. -/
def tempCode (c : Nat) : Nat := 4 * (c + 40)

/-- A cell's latest valid temperature (R227). -/
def Cell.validTemp (c : Cell) : Option Nat := if c.hasTemp && !c.tinv then some c.temp.toNat else none

/-- A healthy cell (R188). -/
def Cell.healthy (c : Cell) : Bool := c.state == .configured || c.state == .running
/-- Healthy cells of a phase. -/
def State.okCells (s : State) (p : Nat) : List Nat := (phaseCells p).filter fun c => (s.cell c).healthy
/-- A link with a standing LINK_LANE_FAULT. -/
def State.linkFault (s : State) (l : Nat) : Bool := (s.link l).fault.isSome
/-- Whether a phase's state counts to capacity now (R188). -/
def State.phaseCounts (s : State) (p : Nat) : Bool :=
  (s.phase p).state.counts && !((s.phase p).state == .deepParked && s.linkFault (p / 8))
/-- Rating of a phase's healthy cells, 0.1 A. -/
def State.phaseRating (s : State) (p : Nat) : Nat := ((s.okCells p).map s.rating).sum
/-- Present capacity of a rail, 0.1 A (R188). -/
def State.capacity (s : State) (n : Nat) : Nat :=
  (((s.railPhases n).filter s.phaseCounts).map s.phaseRating).sum
/-- Whether `irail` (A × 2^16) exceeds `pct` per cent of a capacity in 0.1 A. -/
def exceedsPct (irail : Int) (pct cap : Nat) : Bool := decide (irail * 1000 > (pct * cap * 65536 : Nat))
/-- Whether the rail current is at least `pct` per cent of present capacity. -/
def State.atLeastPct (s : State) (n pct : Nat) : Bool :=
  decide ((s.rail n).pol.irail * 1000 ≥ (pct * s.capacity n * 65536 : Nat))
/-- A heavy rail (R189). -/
def State.heavy (s : State) (n : Nat) : Bool := exceedsPct (s.rail n).pol.irail 60 (s.capacity n)
/-- Capacity in whole amperes, as records carry it; the spec states no rounding (log entry 5). -/
def State.capacityA (s : State) (n : Nat) : Nat := (quot (s.capacity n) 10).toNat
/-- Phases of a rail in states that satisfy `f`. -/
def State.phasesIn (s : State) (n : Nat) (f : Phase → Bool) : List Nat := (s.railPhases n).filter fun p => f (s.phase p)
/-- WAKING with target ACTIVE. -/
def Phase.wakingActive (p : Phase) : Bool := p.state == .waking && !p.wakePark
/-- N: ACTIVE, BLIND, or WAKING with target ACTIVE (R191). -/
def State.nCount (s : State) (n : Nat) : Nat := (s.phasesIn n fun p => p.state.spaced || p.wakingActive).length
/-- N_AV: phases whose state counts to capacity. -/
def State.nAvail (s : State) (n : Nat) : Nat := ((s.railPhases n).filter s.phaseCounts).length
/-- Phases of a rail that are RETIRED or in RETRY_WAIT. -/
def State.lost (s : State) (n : Nat) : Nat := (s.phasesIn n fun p => p.state == .retired || p.state == .retryWait).length
/-- SPARES_SPENT (R312). -/
def State.sparesSpent (s : State) (n : Nat) : Bool := s.lost n > s.spares n

/-! ### The entry in force, floors and profiles -/

/-- Index of the palette entry of bank, port, swatch and group slot (R93). -/
def entryIndex (bank : Bool) (p sw g : Nat) : Nat := b2n bank * 2048 + 256 * p + 4 * sw + g
/-- A palette entry. -/
def State.entry (s : State) (bank : Bool) (p sw g : Nat) : Nat := (sget 0 s.palette (entryIndex bank p sw g) : Word).toNat
/-- Swatch in force on a port: BOOT_SWATCH until its first accepted edge (R36). -/
def State.swatch (s : State) (p : Nat) : Nat := (s.port p).swatch.toNat
/-- The entry in force for a rail: of the swatch in force, or DEFAULT_ENTRY when ungrouped (Table 4.6). -/
def State.entryOf (s : State) (n : Nat) : Nat :=
  match s.portOf n with
  | some (p, g) => s.entry (s.port p).actBank p (s.swatch p) g
  | none => s.defaultEntry n
/-- The floor entry of a rail (R283). -/
def State.floorEntry (s : State) (n : Nat) : Nat :=
  match s.portOf n with
  | some (p, g) => s.entry (s.port p).actBank p (s.floorSwatch p) g
  | none => s.defaultEntry n
/-- Fields of a palette entry (Table 4.4). -/
def entSetpt (e : Nat) : Nat := field e 0 12
/-- SLEW of an entry. -/
def entSlew (e : Nat) : Nat := field e 12 4
/-- FLOOR of an entry. -/
def entFloor (e : Nat) : Nat := field e 16 6
/-- ANTIC of an entry. -/
def entAntic (e : Nat) : Nat := field e 22 2
/-- PROFILE of an entry. -/
def entProfile (e : Nat) : Nat := field e 24 4

/-- A yield at L3 stands on the rail (R283, R287, R300). -/
def State.yieldL3 (s : State) (n : Nat) : Bool := (s.rail n).prot.yieldOver || (s.rail n).prot.yieldCap
/-- The entry that gives FLOOR, ANTIC and PROFILE (Table 4.6). -/
def State.govEntry (s : State) (n : Nat) : Nat := if s.yieldL3 n then s.floorEntry n else s.entryOf n
/-- ANTIC in force. -/
def State.antic (s : State) (n : Nat) : Nat := entAntic (s.govEntry n)
/-- F before the input cap: the larger of FLOOR and MIN_ACTIVE, limited to the phases not RETIRED (R106). -/
def State.plainFloor (s : State) (n : Nat) : Nat :=
  min (max (entFloor (s.govEntry n)) (s.minActive n)) (s.phasesIn n fun p => p.state != .retired).length
/-- floor(I / SHED_THR) + 1 for a current in A × 2^16, SHED_THR in 0.1 A. -/
def shedCount (irail : Int) (thr : Nat) : Nat := ((irail * 10) / ((thr * 65536 : Nat) : Int)).toNat + 1
/-- N_T for a floor (R191). -/
def State.targetCount (s : State) (n f : Nat) : Nat :=
  if s.shedThr n = 0 then s.nAvail n else min (s.nAvail n) (max f (shedCount (s.rail n).pol.irail (s.shedThr n)))
/-- F: limited to N_T while the input cap is at stage 1 or later (R110, Table 10.3). N_T is itself a maximum with F; the model
takes it with F inside, so that F is lower only where N_AV is (DEDUCED, log entry 56). -/
def State.effFloor (s : State) (n : Nat) : Nat :=
  if s.input.stage.toNat ≥ 1 then min (s.plainFloor n) (s.targetCount n (s.plainFloor n)) else s.plainFloor n
/-- N_T. -/
def State.nTarget (s : State) (n : Nat) : Nat := s.targetCount n (s.effFloor n)

/-- The profile an entry uses (R146). -/
def State.profileFor (s : State) (n e : Nat) : Nat :=
  if entProfile e ≠ 0 then entProfile e else
    let m := (s.rail n).model
    let c := if m.coutEst = 0 then s.coutNom n else m.coutEst.toNat
    ((List.range' 1 15).find? fun q =>
      let (lo, hi) := s.capRange n q
      !(lo == 0 && hi == 0) && lo ≤ c && c ≤ hi).getD (s.autoFallback n)

/-! ### Set-point sources (Table 4.6)

The host registers count as the RM last applied them (R9); those that the HM keeps, and the host reads, may be newer. -/

/-- Rank 1 governs the rail: a yield at L3, on a rail in the states of R284. -/
def State.rank1 (s : State) (n : Nat) : Bool := s.yieldL3 n && (s.rail n).core.state.live
/-- A host margin is in force (R439): high, low, or none. -/
def State.margin (s : State) (n : Nat) : Option Bool :=
  let h := (s.rail n).hosted
  if s.hostAllowed n == 1 && (s.rail n).core.enReq then
    if h.operation = 0xA8 then some true else if h.operation = 0x98 then some false else none
  else none
/-- No host source is in force: the palette gives T0. -/
def State.paletteGoverns (s : State) (n : Nat) : Bool :=
  (s.margin n).isNone && ((s.rail n).hosted.voutCommand == 0 || s.hostAllowed n == 0)
/-- Rank of the governing source. -/
def State.rank (s : State) (n : Nat) : Nat :=
  if s.rank1 n then 1 else if (s.margin n).isSome then 2
  else if (s.rail n).hosted.voutCommand ≠ 0 && s.hostAllowed n == 1 then 3 else 4
/-- T0 and its slew class, from ranks 2 to 4 (R108, R111, R283). -/
def State.sourceTarget (s : State) (n : Nat) : Nat × Nat :=
  let h := (s.rail n).hosted
  match s.margin n with
  | some true => (h.marginHigh.toNat, s.hostClass n)
  | some false => (h.marginLow.toNat, s.hostClass n)
  | none =>
    if h.voutCommand ≠ 0 && s.hostAllowed n == 1 then (h.voutCommand.toNat, s.hostClass n)
    else
      let e := s.entryOf n
      (if (s.rail n).core.prebias then min (entSetpt e + s.prebiasCfg n) (s.envMax n) else entSetpt e, entSlew e)
/-- The yield target T0 − y (T0 − min(T0, Tf)), y in eighths, rounded to a whole code toward Tf (R283). -/
def yieldTarget (t0 tf y : Nat) : Nat := t0 - ceilQuot (y * (t0 - min t0 tf)) 8
/-- y in force, in eighths: 8 for an overload yield; combined yields take the lower target (R308). -/
def State.yInForce (s : State) (n : Nat) : Nat :=
  if (s.rail n).prot.yieldOver then 8 else if (s.rail n).prot.yieldCap then (s.rail n).prot.y else 0
/-- The clamp of R114. -/
def State.clampTarget (s : State) (n t : Nat) : Nat := max (min t (s.envMax n)) (s.envMin n)

/-- The anticipation of the rail has completed (R109, Table 4.5). -/
def State.anticDone (s : State) (n : Nat) : Bool :=
  let a := s.antic n
  let deep := s.phasesIn n fun p => p.state == .deepParked || (p.state == .waking && p.deep)
  if a = 0 then true else if a = 1 then deep.isEmpty
  else decide ((s.phasesIn n fun p => p.state.spaced).length ≥ s.effFloor n)

/-- A rail meets R104, with the treatment of a pre-bias slide (R105). -/
def State.settled (s : State) (n : Nat) : Bool :=
  let c := (s.rail n).core
  if c.slide then (c.state == .regulating || c.state == .slewing) && !s.rank1 n
  else c.state == .regulating && decide (c.slewed = c.target * 512) && c.settleDone && s.anticDone n && !s.rank1 n

/-- Level of SRDYp (R104). -/
def State.srdy (s : State) (p : Nat) : Bool :=
  let g := (s.groupRails p).filter fun n => !(s.rail n).core.state.resting
  s.boot.stage == 8 && !g.isEmpty && g.all s.settled

/-! ### Router levels (Tables 9.5, 10.4, 12.7) -/

/-- Class P comparators; a GC by its CLASS field (Table 9.1). -/
def State.classP (s : State) (m : Nat) : Bool :=
  if m < 64 then m % 4 != 3 else if m < 66 then false else if m < 68 then true else field (s.cmpWord m) 29 1 == 0
/-- Reset state of a comparator (Table 9.1). -/
def State.compReset (s : State) (m : Nat) : Bool :=
  if m < 64 then m % 4 == 3 else if m < 66 then true else if m < 68 then false
  else s.boot.imageLoaded && field (s.cmpWord m) 27 1 == 1
/-- Source index of a comparator: UV_FAST, OV_FAST, OV_SLOW, UV_PG by rail, then the input and general ones. -/
def compSource (m : Nat) : Nat := if m < 64 then 16 * (m % 4) + m / 4 else m
/-- Comparator of a source below 76. -/
def sourceComp (src : Nat) : Nat := if src < 64 then 4 * (src % 16) + src / 16 else src

/-- Level of a source towards hard crosspoints (R266). -/
def State.hardSource (s : State) (src : Nat) : Bool :=
  if src < 76 then (s.comp (sourceComp src)).out
  else if src < 92 then s.pins.fuOn && (s.link (src - 76)).ffltSeen && !(s.link (src - 76)).ffltMasked
  else if src < 100 then (s.timer (src - 92)).out
  else false

/-- Level of a source towards soft crosspoints (R266, Tables 10.4 and 12.7). -/
def State.softSource (s : State) (src : Nat) : Bool :=
  if src < 76 then
    let m := sourceComp src
    if s.classP m then (s.comp m).latch else (s.comp m).out
  else if src < 100 then s.hardSource src
  else if src < 116 then (s.rail (src - 100)).prot.ocpSource
  else if src < 132 then (s.rail (src - 116)).prot.throt != 0
  else if src < 148 then (s.rail (src - 132)).core.state.latched
  else if src < 164 then s.router.phaseEvt.getLsbD (src - 148)
  else if src < 180 then s.linkFault (src - 164)
  else if src == 180 then s.input.dieOt
  else if src < 185 then s.input.tsnsOt.getLsbD (src - 181)
  else if src == 185 then s.input.stage.toNat ≥ 1
  else if src == 186 then s.clock.clockLossSource
  else if src == 187 then s.rm.miscompare
  else if src == 188 then s.hm.miscompare
  else if src == 189 then s.rm.expired
  else if src == 190 then s.hm.expired
  else if src == 191 then s.safe.active
  else if src == 192 then s.app.disabled
  else src == 255

/-- Soft level of a destination, from the levels last delivered (R266, R269). -/
def State.softDest (s : State) (d : Nat) : Bool :=
  (List.range 256).any fun src => s.router.delivered.getD src false && s.xp d src == 1
/-- Hard level of a destination. -/
def State.hardDest (s : State) (d : Nat) : Bool :=
  (List.range 100).any fun src => s.hardSource src && s.xp d src == 2
/-- A destination is asserted (R266). -/
def State.dest (s : State) (d : Nat) : Bool := s.hardDest d || s.softDest d

/-! ### Output levels -/

/-- PRIMED: the device has completed P7 (Table 3.2). -/
def State.primed (s : State) : Bool := s.boot.stage == 8
/-- The blank canvas. -/
def State.blank (s : State) : Bool := s.boot.stage == 0xE
/-- PGOOD is high: AND of PG_n over the rails with PG_MEMBER = 1 (R34, R293). -/
def State.pgood (s : State) : Bool :=
  s.primed && s.enabledRails.all fun n => s.pgMember n == 0 || (s.rail n).prot.pg
/-- PGOOD is driven low: while VDD_IO is absent it is high impedance (R34). -/
def State.pgoodLow (s : State) : Bool := s.pins.supplies.getD 2 false && !s.pgood
/-- FAULT_N is driven low (R33, R358, Table 9.6). -/
def State.faultNLow (s : State) : Bool := !s.pins.faultReleased || s.safe.active || s.dest 73
/-- VR_HOT_N is driven low on a claimed ball (R304). -/
def State.vrHotLow (s : State) : Bool :=
  s.enabledRails.any fun n => ((s.rail n).prot.throt &&& 0x1C) != 0
/-- SALERT_N is driven low (R427); it is released until PRIMED (R32). -/
def State.salertLow (s : State) : Bool := s.primed && (s.bus.alert || s.softDest 72)

/-! ### Status registers (Tables 16.2 and 16.3) -/

/-- Highest-ranked yield in force (Table 10.8). -/
def State.yieldLevel (s : State) (n : Nat) : Nat :=
  let p := (s.rail n).prot
  if s.yieldL3 n then 3 else if p.yieldFloor then 4 else if p.yieldWarm then 5 else 0
/-- A busy state of Table 15.5 is in force. -/
def State.busyState (s : State) : Bool :=
  !s.primed || s.hm.run != .running || s.safe.warm.isSome || s.safe.active
    || s.work.erasing.isSome || s.work.dumping || s.work.activating.isSome
/-- STATUS_VOUT of a page. -/
def State.statusVout (s : State) (n : Nat) : BitVec 8 := s.pm.stVout.getD n 0
/-- STATUS_IOUT of a page. -/
def State.statusIout (s : State) (n : Nat) : BitVec 8 := s.pm.stIout.getD n 0 ||| (if s.yieldL3 n then 4 else 0)
/-- STATUS_INPUT. -/
def State.statusInput (s : State) : BitVec 8 :=
  s.pm.stInput ||| (if s.rails.any fun r => r.core.state.latched && r.prot.latch.getLsbD 2 then 8 else 0)
/-- STATUS_TEMPERATURE of a page. -/
def State.statusTemp (s : State) (n : Nat) : BitVec 8 := s.pm.stTemp.getD n 0
/-- STATUS_MFR_SPECIFIC of a page. -/
def State.statusMfr (s : State) (n : Nat) : BitVec 8 :=
  let r := s.rail n
  BitVec.ofNat 8 (128 * b2n s.app.disabled + 64 * b2n s.safe.active
    + 32 * b2n ((s.comp (4 * n)).failed || (s.comp (4 * n + 1)).failed)
    + 16 * b2n (r.sense.aFailed || r.sense.bFailed) + 8 * b2n (r.le.mode == 3 || r.le.mode == 4)
    + 4 * b2n (s.yieldLevel n != 0) + 2 * b2n ((s.railPhases n).any fun p => s.linkFault (p / 8))
    + b2n (s.sparesSpent n))
/-- STATUS_WORD of a page (Table 16.2). -/
def State.statusWord (s : State) (n : Nat) : Nat :=
  let vout := s.statusVout n
  let iout := s.statusIout n
  let inp := s.statusInput
  let tmp := s.statusTemp n
  let mfr := s.statusMfr n
  let other := s.pm.stOther.getLsbD n
  32768 * b2n (vout != 0) + 16384 * b2n (iout != 0) + 8192 * b2n (inp != 0) + 4096 * b2n (mfr != 0)
    + 2048 * b2n (!(s.rail n).prot.pg) + 512 * b2n other + 128 * b2n s.busyState
    + 64 * b2n (!(s.rail n).core.state.live) + 32 * b2n (vout.getLsbD 7) + 16 * b2n (iout.getLsbD 7)
    + 8 * b2n (inp.getLsbD 4) + 4 * b2n (tmp != 0) + 2 * b2n (s.pm.stCml != 0)
    + b2n (vout != 0 || iout != 0 || inp != 0 || mfr != 0 || other)

/-- Set W1C bits of a paged status byte. -/
def State.setVout (s : State) (n : Nat) (b : BitVec 8) : State :=
  { s with pm := { s.pm with stVout := s.pm.stVout.modify n (· ||| b) } }
/-- Set bits of STATUS_IOUT. -/
def State.setIout (s : State) (n : Nat) (b : BitVec 8) : State :=
  { s with pm := { s.pm with stIout := s.pm.stIout.modify n (· ||| b) } }
/-- Set bits of STATUS_TEMPERATURE. -/
def State.setTemp (s : State) (n : Nat) (b : BitVec 8) : State :=
  { s with pm := { s.pm with stTemp := s.pm.stTemp.modify n (· ||| b) } }
/-- Set bits of STATUS_INPUT. -/
def State.setInput (s : State) (b : BitVec 8) : State := { s with pm := { s.pm with stInput := s.pm.stInput ||| b } }
/-- Set bits of STATUS_CML. -/
def State.setCml (s : State) (b : BitVec 8) : State := { s with pm := { s.pm with stCml := s.pm.stCml ||| b } }
/-- Set bit 9, OTHER, of a page. -/
def State.setOther (s : State) (n : Nat) : State :=
  { s with pm := { s.pm with stOther := s.pm.stOther ||| BitVec.ofNat 16 (2 ^ n) } }

/-- Set the alert flag; with NOTIFY_EN = 1 a notification becomes due (R427, R429). -/
def State.setAlert (s : State) : State :=
  { s with bus := { s.bus with alert := true, notifyDue := s.bus.notifyDue || s.notifyEn == 1 } }

/-- STATUS_BYTE of every page, as R427 judges it. -/
def State.statusBytes (s : State) : List Nat := (List.range 16).map fun n => s.statusWord n % 256

/-- Whether a bit of a page's STATUS_BYTE rises from `old` to `new`. -/
def anyRise (old new : List Nat) : Bool := (List.zip old new).any fun x => (List.range 8).any fun i => bit x.2 i && !bit x.1 i

/-- The alert flag follows STATUS_BYTE (R427): a rise on any page sets it, in priming too. It is judged while CORE runs (log
entry 9). -/
def State.judgeAlert (s : State) : State :=
  if s.clock.corePresent then
    let now := s.statusBytes
    let s' := if anyRise s.bus.seen now then s.setAlert else s
    { s' with bus := { s'.bus with seen := now } }
  else s

/-- Level of a source as CORE sees it: those of LOOP keep theirs while it has no clock (R16); those of CORE are 186 and up. -/
def State.routedSource (s : State) (src : Nat) : Bool :=
  if s.clock.loopPresent || 186 ≤ src then s.softSource src else s.router.levels.getD src false
/-- The router notes which sources rose since it last looked (R269). PHASE_EVT is a pulse, counted where it fires. -/
def State.noteSources (s : State) : State :=
  let now := (List.range 256).map s.routedSource
  { s with router := { s.router with
      rises := (List.zip s.router.rises (List.zip s.router.levels now)).mapIdx fun i x =>
        if x.2.2 && !x.2.1 && !(148 ≤ i && i < 164) then x.1 + 1 else x.1,
      levels := now } }

/-- What the block notes after every command. -/
def State.judge (s : State) : State := s.noteSources.judgeAlert

/-- Every command ends so: the next state, with the router's edges and the alert flag judged on it. -/
def complete (s : State) : Host.Outcome State Fault Refusal := .next s.judge

end Sys2Proof.Machine
end

