-- ==== Sys2Proof/Machine/RailOps.lean ====
section
/-! DEFINITION. Operations on rails and phases that several command families share: mask windows, lanes, phase moves and
re-spacing, targets, starts, stops and latches. -/

namespace Sys2Proof.Machine

/-! ### Mask windows (Table 9.3, R258) -/

/-- Bit of a window in the `win` field. -/
def maskIdx : MaskSrc → Nat
  | .gt => 0 | .add => 1 | .setpt => 2 | .edge => 3
/-- A window's bit. -/
def winBit (i : Nat) : BitVec 5 := BitVec.ofNat 5 (2 ^ i)
/-- MRAIL of a comparator. -/
def State.mrail (s : State) (m : Nat) : Nat := field (s.cmpWord m) 8 4
/-- Open a window of rail `n` on every comparator that enables its source. -/
def State.openWindow (s : State) (n : Nat) (src : MaskSrc) : State :=
  s.mapComps fun m c =>
    if s.mrail m == n && bit (s.cmpWord m) (16 + maskIdx src) then { c with win := c.win ||| winBit (maskIdx src) } else c

/-! ### Lanes -/

/-- The plausibility unit and self-characterisation see that the rail was disturbed (R123, R141). -/
def State.disturb (s : State) (n : Nat) : State :=
  s.updModel n fun m => { m with disturbed := true }
/-- Abort a characterisation run (R143). -/
def State.abortChar (s : State) (n : Nat) : State :=
  s.updModel n fun m => if m.charBusy then { m with charBusy := false, charAborts := m.charAborts + 1, charDue := true } else m
/-- The lane is high now: held high, or in the high interval of its period. -/
def Phase.isHigh (x : Phase) : Bool := x.lane == .high || (x.lane == .pwm && x.fallAt.isSome)
/-- The lanes of rail `n` take the levels of an override, none of them high; where the lane of a switching phase falls, its edge opens
the EDGE windows (Table 9.3). -/
def State.setLanes (s : State) (n : Nat) (g : Phase → LaneCmd) : State :=
  let falls := (s.railPhases n).any fun p => (s.phase p).state.switching && (s.phase p).isHigh
  (s.mapPhases fun p x => if s.phaseRail p == some n then { x with lane := g x } else x).when falls fun s => s.openWindow n .edge
/-- The lane of phase `p` of rail `n` is idled; its falling edge opens the EDGE windows while the phase switches (Table 9.3). -/
def State.idleLane (s : State) (n p : Nat) : State :=
  let x := s.phase p
  (s.updPhase p fun x => { x with lane := .idle }).when (x.state.switching && x.isHigh) fun s => s.openWindow n .edge
/-- The lanes of rail `n` obey the highest override in force (Table 9.8): clock-loss idle, FASTSTOP and TRISTATE idle every
lane, CLAMP takes the lanes of the switching phases, and under it no other phase is driven (R14, R270, R275, R276). -/
def State.obeyOverrides (s : State) (n : Nat) : State :=
  let q := (s.rail n).pol
  if !s.clock.loopPresent || q.fastStop || q.tristate then s.setLanes n fun _ => .idle
  else if q.clamp then s.setLanes n fun x => if x.state.switching && !q.clampIdle then .low else .idle
  else s
/-- Idle every lane of rail `n` (Table 5.4). -/
def State.idleLanes (s : State) (n : Nat) : State := (s.setLanes n fun _ => .idle).disturb n
/-- The level of a lane under DPWM at the point that its period has reached: a period whose high time is 0 is low throughout, and idle
where low-side intervals are replaced (R149, R185). -/
def State.dpwmLane (s : State) (n : Nat) (x : Phase) : LaneCmd :=
  if x.highTime != 0 then .pwm else if (s.rail n).core.lowSideIdle then .idle else .low

/-! ### Spacing (R198, R199) -/

/-- The rail's period in steps of 19.5 ps (1.25 ns / 64). -/
def State.periodSteps (s : State) (n : Nat) : Nat := 51200000 / s.fsw n
/-- Spacing set of a rail, in phase order. -/
def State.spacing (s : State) (n : Nat) : List Nat := s.phasesIn n fun p => p.state.spaced
/-- Target offset of the `i`-th of `k` members, to the nearest 19.5 ps. -/
def State.slotOffset (s : State) (n i k : Nat) : Int := s.onGrid ((i * 51200000 : Nat) : Int) (s.fsw n * k)

/-- Re-space a rail whose spacing set may have changed from `old` (R199): members that stay get four steps to their new
targets, members that join start at them, a phase that leaves keeps its offset, and each join opens the ADD window. Before the
first step of a re-spacing a further change is merged into it: what joined in it starts at the recomputed target too. -/
def State.respace (s : State) (n : Nat) (old : List Nat) : State :=
  let new := s.spacing n
  if new == old then s else
    let merged := !(s.rail n).pol.stepped
    let s := s.mapPhases fun p x =>
      if s.phaseRail p != some n then x
      else match new.findIdx? (· == p) with
      | some i =>
        let t := s.slotOffset n i new.length
        if old.contains p && !(merged && x.fresh) then { x with targetOff := t, stepsLeft := 4, fresh := false }
        else { x with offset := t, targetOff := t, stepsLeft := 0, fresh := true }
      | none => { x with stepsLeft := 0, fresh := false }
    let s := s.updPol n fun q => { q with stepped := false }
    if new.any fun p => !old.contains p then s.openWindow n .add else s

/-- Carry out a change of phase states on rail `n`, with the re-spacing and the effects of a changed phase count
(R123, R143, R199), under the lanes' overrides (R270). -/
def State.movePhases (s : State) (n : Nat) (f : State → State) : State :=
  let t := ((f s).respace n (s.spacing n)).obeyOverrides n
  if (t.phasesIn n fun p => p.state.switching).length != (s.phasesIn n fun p => p.state.switching).length then
    (t.updModel n fun m => { m with countChanged := true }).abortChar n
  else t

/-! ### Phase moves (Table 7.3) -/

/-- ACTIVE, or BLIND when the phase carries SNS_LOST. -/
def Phase.liveState (p : Phase) : PhaseState := if p.snsLost then .blind else .active
/-- A phase enters a switching state at TRIM = 0. -/
def Phase.activate (p : Phase) : Phase := { p with state := p.liveState, trim := 0, drain := 0 }
/-- A wake: its pulse, and its target (R186). -/
def Phase.wake (p : Phase) (toPark : Bool) : Phase :=
  { p with state := .waking, wakePark := toPark, deep := p.state == .deepParked, lane := .wake }
/-- Take a phase for an add or a floor raise (R107). -/
def Phase.take (p : Phase) : Phase :=
  match p.state with
  | .parked | .deepParked => p.wake false
  | .decidedShed | .draining | .tristated => p.activate
  | .waking => { p with wakePark := false }
  | _ => p

/-- The phases an add may take, in the order of R107. A DEEP_PARKED phase behind a standing link fault cannot be woken. -/
def State.addOrder (s : State) (n : Nat) : List Nat :=
  s.phasesIn n (fun p => p.state == .parked)
    ++ s.phasesIn n (fun p => p.state == .decidedShed || p.state == .draining || p.state == .tristated)
    ++ s.phasesIn n (fun p => p.state == .waking && p.wakePark)
    ++ (s.phasesIn n (fun p => p.state == .deepParked)).filter fun p => !s.linkFault (p / 8)

/-- Bring N up to `f` in the order of R107, all at once (R106, R191, R192). -/
def State.addTo (s : State) (n f : Nat) : State :=
  let take := (s.addOrder n).take (f - s.nCount n)
  if take.isEmpty then s else s.movePhases n fun s => s.mapPhases fun p x => if take.contains p then x.take else x

/-! ### What the console waits for (R484) -/

/-- The line of one cell of `link n loop`. -/
def loopLine (x : Nat × Bool) : ConLine :=
  .text (decText x.1 ++ ascii (if x.2 then [' ', 'P', 'A', 'S', 'S'] else [' ', 'F', 'A', 'I', 'L']))
/-- The LOOPBACK of a cell has passed or failed; after the last one the lines are printed in slot order. -/
def State.conLoopback (s : State) (c : Nat) (ok : Bool) : State :=
  match s.con.waiting with
  | some (.loopback l left res) =>
    if left.contains c then
      let res := res ++ [(c, ok)]
      if (left.erase c).isEmpty then
        s.conEnd (((linkCells l).filterMap fun k => (res.find? (·.1 == k)).map loopLine) ++ [.ok])
      else s.conWait (.loopback l (left.erase c) res)
    else s
  | _ => s
/-- The READ_ID that the console waits for has failed. -/
def State.conIdFail (s : State) (c : Nat) : State :=
  match s.con.waiting with
  | some (.cellId k _) => if k == c then s.conEnd [.text (ascii ['F', 'A', 'I', 'L']), .ok] else s
  | _ => s
/-- The same once one of its parts has come: the parts come in consecutive slots (Table 8.6). -/
def State.conIdGap (s : State) (c : Nat) : State :=
  match s.con.waiting with
  | some (.cellId _ parts) => if parts.any Option.isSome then s.conIdFail c else s
  | _ => s
/-- SERIAL, the straps and LINK_VER of the three parts of a reply (Table 8.7). -/
def partsReply : List (Option (BitVec 24)) → Option (BitVec 64 × BitVec 3 × Nat)
  | [some a, some b, some c] =>
    some (BitVec.ofNat 64 (a.toNat * 2 ^ 40 + b.toNat * 2 ^ 16 + c.toNat / 256), BitVec.ofNat 3 (c.toNat / 32 % 8), c.toNat % 32)
  | _ => none
/-- A part of the READ_ID reply that the console waits for; after the third they are printed. -/
def State.conPart (s : State) (c part : Nat) (d : BitVec 24) : State :=
  match s.con.waiting with
  | some (.cellId k parts) =>
    if k == c then
      match partsReply (parts.set part (some d)) with
      | some (serial, straps, ver) =>
        s.conEnd [.words [BitVec.ofNat 32 (serial.toNat / 2 ^ 32), BitVec.ofNat 32 serial.toNat, BitVec.ofNat 32 straps.toNat,
          BitVec.ofNat 32 ver], .ok]
      | none => s.conWait (.cellId k (parts.set part (some d)))
    else s
  | _ => s
/-- A test of a link's cells loses its precondition (R478, Table 18.2). -/
def State.conLinkLost (s : State) (l : Nat) : State :=
  match s.con.waiting with
  | some (.loopback k _ _) => if k == l then s.conEnd [.err 7] else s
  | _ => s

/-! ### Commands to cells (R230, Table 8.5) -/

/-- Queue a mode change for the cells of a phase (class 3 of Table 8.5; the link engine sends it). The cell number is
turned into its slot; SEQ is set when the command becomes outstanding. -/
def modeFrame (c mode : Nat) : DownFrame :=
  { bc := false, seq := false, slot := BitVec.ofNat 6 (cellSlot c), defer := false, round := false, code := 4,
    data := BitVec.ofNat 24 (mode * 65536) }
/-- An addressed command to a cell (Table 8.6). -/
def cellFrame (c code : Nat) (data : Nat) (defer : Bool) : DownFrame :=
  { bc := false, seq := false, slot := BitVec.ofNat 6 (cellSlot c), defer := defer, round := false, code := BitVec.ofNat 5 code,
    data := BitVec.ofNat 24 data }
/-- Queue a frame on a link with its class. -/
def State.queueFrame (s : State) (l cls : Nat) (f : DownFrame) : State :=
  s.updLink l fun k => { k with queue := k.queue ++ [(cls, f)] }
/-- An addressed command becomes the cell's outstanding one, with the next SEQ, and waits on its link (R230). -/
def State.commandCell (s : State) (cls c : Nat) (f : DownFrame) : State :=
  let f := { f with seq := !(s.cell c).seq }
  (s.updCell c fun x => { x with seq := f.seq, outstanding := some f, attempt := 0, sentAt := none }).queueFrame (cellLink c) cls f
/-- A command waits behind those of its class and of lower numbers (Table 8.5); the commands of a configuration keep their order
(R238). -/
def Cell.enqueue (x : Cell) (cls : Nat) (f : DownFrame) : List (Nat × DownFrame) :=
  if x.configuring && cls != 1 then x.queue ++ [(cls, f)]
  else (x.queue.takeWhile fun q => q.1 ≤ cls) ++ (cls, f) :: x.queue.dropWhile fun q => q.1 ≤ cls
/-- The outstanding command of a cell has been sent, once at least. -/
def Cell.wasSent (x : Cell) : Bool := x.outstanding.isSome && (x.sentAt.isSome || x.attempt == 1)
/-- A command that has not been sent waits again, first of all, and its SEQ is taken back; one that has been sent stays. -/
def State.unsend (s : State) (c : Nat) : State :=
  match (s.cell c).outstanding, (s.cell c).wasSent with
  | some f, false =>
    let cls := (((s.link (cellLink c)).queue.find? fun q => q.2 == f).map (·.1)).getD 6
    let s := s.updLink (cellLink c) fun k => { k with queue := k.queue.filter fun q => q.2 != f }
    s.updCell c fun x => { x with outstanding := none, seq := !x.seq, queue := (cls, f) :: x.queue }
  | _, _ => s
/-- Queue an addressed command to a cell: on its link, or behind the cell's outstanding command (R230). One of a lower class goes before
an outstanding command that has not been sent (Table 8.5). -/
def State.sendCell (s : State) (cls c : Nat) (f : DownFrame) : State :=
  let x := s.cell c
  let waits := s.updCell c fun x => { x with queue := x.enqueue cls f }
  if x.outstanding.isNone then s.commandCell cls c f
  else if x.wasSent || (x.configuring && cls != 1) then waits
  else
    let t := s.unsend c
    match (t.cell c).queue with
    | q :: _ => if cls < q.1 then t.commandCell cls c f else waits
    | [] => waits
/-- The commands of a cell are dropped, with their frames; a console command that waits for one has its failure. One that has been
sent to a cell which is not SILENT stays outstanding until it is echoed, with the resend that waits (R230); of one that has not been
sent the SEQ is taken back. -/
def State.dropCommands (s : State) (c : Nat) : State :=
  let s := (s.conLoopback c false).conIdFail c
  let x := s.cell c
  let keep := x.wasSent && x.state != .silent
  (s.updCell c fun x =>
    if keep then { x with queue := [], senseCheck := none }
    else { x with
      seq := if x.outstanding.isSome && !x.wasSent then !x.seq else x.seq,
      outstanding := none, attempt := 0, queue := [], senseCheck := none }).updLink (cellLink c) fun k =>
    { k with queue := k.queue.filter fun q => q.2.bc || q.2.slot.toNat != cellSlot c || (keep && some q.2 == x.outstanding) }
/-- SET_MODE QUARANTINE to a SILENT cell: sent once and not checked (Table 8.8). -/
def State.quarantineSilent (s : State) (c : Nat) : State :=
  let q := !(s.cell c).seq
  (s.updCell c fun x => { x with
      seq := q, outstanding := none, attempt := 0, queue := [], configuring := false }).queueFrame (cellLink c) 1
    { modeFrame c 3 with seq := q }
/-- SET_MODE to every healthy cell of a phase: 0 RUN, 1 PARK, 2 DEEP_PARK, 3 QUARANTINE, the last to SILENT cells too. What else
waited for a cell to be quarantined is dropped (DEDUCED, log entry 56). -/
def State.setMode (s : State) (p mode : Nat) : State :=
  s.forEach (phaseCells p) fun s c =>
    if (s.cell c).healthy then
      (if mode == 3 then (s.dropCommands c).sendCell 1 c (modeFrame c mode) else s.sendCell 3 c (modeFrame c mode))
    else if mode == 3 && (s.cell c).state == .silent then s.quarantineSilent c else s

/-- The rails a fault belongs to; a fault of the device belongs to every rail (DEDUCED, log entry 56). -/
def State.faultRails (s : State) (k : FaultKind) (i : Nat) : List Nat :=
  match k with
  | .sense => [i / 2]
  | .loopEngine | .slowOc | .outputOv => [i]
  | .phase => (s.phaseRail i).toList
  | .cellSense | .cellFrame => (s.cellRail i).toList
  | .link => s.enabledRails.filter fun n => (s.railPhases n).any fun p => p / 8 == i
  | .comparator => if i < 64 then [i / 4] else List.range 16
  | _ => List.range 16
/-- An internal fault is recorded as outstanding, or becomes lasting (R310, R311); it aborts the characterisation runs of its
rails (R143). -/
def State.faultOn (s : State) (k : FaultKind) (i : Nat) (lasting : Bool) : State :=
  let rest := s.input.faults.filter fun e => !(e.kind == k && e.idx == i)
  let old := (s.input.faults.find? fun e => e.kind == k && e.idx == i && e.lasting).map (·.stamp)
  let e : FaultEntry := { kind := k, idx := i, lasting := lasting || old.isSome, stamp := old.getD s.clock.tick }
  let s := { s with input := { s.input with faults := rest ++ [e] } }
  s.forEach (s.faultRails k i) State.abortChar
/-- An internal fault has been shown transient; a lasting one stays (R310). -/
def State.faultOff (s : State) (k : FaultKind) (i : Nat) : State :=
  { s with input := { s.input with faults := s.input.faults.filter fun e => !(e.kind == k && e.idx == i && !e.lasting) } }
/-- The part of a fault is back in service: it is no longer outstanding, lasting or not (R310). -/
def State.faultMended (s : State) (k : FaultKind) (i : Nat) : State :=
  { s with input := { s.input with faults := s.input.faults.filter fun e => !(e.kind == k && e.idx == i) } }

/-- PHASE_EVT of the phase's rail, and bit 9 of its STATUS_WORD (Tables 9.5, 16.2). -/
def State.phaseEvent (s : State) (n : Nat) : State :=
  ({ s with router := { s.router with phaseEvt := s.router.phaseEvt ||| BitVec.ofNat 16 (2 ^ n),
                                      rises := s.router.rises.modify (148 + n) (· + 1) } }).setOther n

/-- A phase is RETIRED: lane idle, cells quarantined, PHASE_RETIRED with its cause (Tables 7.3, 7.6, 8.8). -/
def State.retire (s : State) (p cause : Nat) : State :=
  match s.phaseRail p with
  | none => s
  | some n =>
    let s := s.idleLane n p
    let s := s.movePhases n fun s => s.updPhase p fun x => { x with
      state := .retired, probation := false, retrying := false, retryDue := false, disc := .idle }
    let s := s.setMode p 3
    let s := s.forEach ((phaseCells p).filter fun c => (s.cell c).healthy || (s.cell c).state == .silent) fun s c =>
      s.updCell c fun x => { x with state := .quarantined }
    let s := s.forEach (phaseCells p) fun s c => s.updCell c fun x => { x with configuring := false }
    ((s.phaseEvent n).faultOn .phase p true).record 0x2012 p cause (s.capacityA n)

/-! ### Targets -/

/-- VREF: the slewed set-point less the load-line drop, in 2^-20 V, without the perturbation (R120, R253). -/
def State.vref (s : State) (n : Nat) : Int :=
  let c := (s.rail n).core
  let vmin : Int := s.envMin n * 512
  if c.slewed < vmin then c.slewed
  else c.slewed - min (quot ((s.rail n).pol.irail * c.rll * 16) 1000000) (c.slewed - vmin)

/-- The converter reference: VREF, with the ±2 mV square wave of a characterisation run (R120, R142). Which half comes
first is unstated (log entry 7). -/
def State.convRef (s : State) (n : Nat) : Int :=
  let m := (s.rail n).model
  if m.charBusy then
    let first := Config.freeFun 1 [] ≥ 0
    let half := (s.since m.charAt) / 20000 % 2 == 0
    s.vref n + (if half == decide first then 1 else -1) * quot (2 * 2 ^ 20) 1000
  else s.vref n

/-- Set a rail's target (R101, R114, R283, R309). `hostMove`: the change of source is the host's, so HOST_SLEW_CLASS
governs (R111). `slide`: the end of a pre-bias hold, which keeps the settle (R105). While the Apprentice holds the rail
T0 is kept and moves are made at APP_SLEW_CLASS (R115), but for a yield, which takes precedence and moves at its floor entry's
class (R283, R309), and but for an Apprentice that has stopped, which issues no command (R348). -/
def State.retargetWith (s : State) (n : Nat) (hostMove slide : Bool) : State :=
  let r := s.rail n
  let held := r.core.state == .apprenticeHold
  let (t0, c0) := if held then (r.core.base, r.core.baseClass) else s.sourceTarget n
  let c0 := if hostMove && !held then s.hostClass n else c0
  let y := if s.rank1 n then s.yInForce n else 0
  let t := s.clampTarget n (yieldTarget t0 (entSetpt (s.floorEntry n)) y)
  let cls := if s.rank1 n then entSlew (s.floorEntry n) else if held && !s.appStopped then s.appClass n else c0
  let s := s.updCore n fun c => { c with base := t0, baseClass := c0, govClass := cls }
  if t = r.core.target then s else
    let s := s.updCore n fun c => { c with
      target := t, settleDone := c.settleDone && slide, slide := slide,
      state := if c.state == .regulating then .slewing else c.state }
    s.openWindow n .setpt

/-- Retarget for a change that is not the host's. -/
def State.retarget (s : State) (n : Nat) : State := s.retargetWith n false false

/-! ### Yields (R281 to R284) -/

/-- GUARANTEE_YIELDED of a rail (Table 10.9). -/
def State.yieldRecord (s : State) (n level cause : Nat) (fin : Bool) : State :=
  s.record 0x1031 n level (2 ^ 31 * b2n fin + cause * 65536
    + min 65535 (if cause == 2 then s.input.iinAvg else (s.rail n).prot.load))

/-- End every yield and grace of a rail; `log`: with END records (R284). -/
def State.endYields (s : State) (n : Nat) (log : Bool) : State :=
  let p := (s.rail n).prot
  let s := s.when (log && p.yieldOver) fun s => s.yieldRecord n 3 1 true
  let s := s.when (log && p.yieldCap) fun s => s.yieldRecord n 3 2 true
  let s := s.when (log && p.yieldFloor) fun s => s.yieldRecord n 4 2 true
  let s := s.when (log && p.yieldWarm) fun s => s.yieldRecord n 5 3 true
  s.updProt n fun p => { p with grace := none, yieldOver := false, yieldCap := false, yieldFloor := false, yieldWarm := false,
                                clearSince := none, y := 0, throt := p.throt &&& 0x3F }

/-- A rail leaves the states in which its power-good can be true: PG_n goes false, and a running PG_OFF_FILTER is a yield
at L4 with cause 7 (R293), which has no END record (R282). -/
def State.dropPg (s : State) (n : Nat) : State :=
  let s := s.when ((s.rail n).prot.pg && (s.comp (4 * n + 3)).out) fun s => s.yieldRecord n 4 7 false
  s.updProt n fun p => { p with pg := false }

/-! ### The end of a burst (R271 to R273) -/

/-- Samples of intervals in which no update runs go to no update: the next mean starts afresh (R121). -/
def State.dropSamples (s : State) (n : Nat) : State :=
  s.updSense n fun x => { x with sum := 0, nSamples := 0, edgeCode := false }

/-- The burst of a rail ends: its length and pre-load are taken, the switching phases return to DPWM, fired WAKING phases
idle until their wake ends, and the ADD windows open. `tb4` is t_b in quarter nanoseconds, `hit` an end at BURST_LIMIT. -/
def State.endBurst (s : State) (n tb4 : Nat) (hit : Bool) : State :=
  if (s.rail n).pol.burst then
    let s := s.updPol n fun p => { p with
      burst := false, tb := tb4,
      limitHits := if hit then BitVec.ofNat 8 (satAdd 255 p.limitHits.toNat 1) else p.limitHits }
    let d := (s.rail n).pol.dPre
    let s := s.updBs n fun b => { b with preload := min (s.dmax n * 2 ^ 15) (d + s.bpGain n * tb4 * 32) }
    let s := s.updLe n fun l => { l with setBurstPre := true }
    let falls := (s.railPhases n).any fun p => (s.phase p).fired && (s.phase p).state.switching && (s.phase p).fallAt.isNone
    let s := (s.mapPhases fun p x =>
      if s.phaseRail p == some n && x.fired then { x with fired := false, lane := if x.state.switching then s.dpwmLane n x else .idle }
      else x).obeyOverrides n
    let s := ((s.disturb n).when falls fun s => s.openWindow n .edge).openWindow n .add
    (s.updComp (4 * n) fun c => { c with win := c.win ||| winBit 1 }).dropSamples n
  else s

/-- t_b of a burst that ends now, in quarter nanoseconds. -/
def State.burstSpan (s : State) (n : Nat) : Nat := 5 * s.since (s.rail n).pol.burstStart

/-! ### Latches (Table 10.5) -/

/-- Latch causes of Table 10.5, by bit of the rail's `latch` field. -/
inductive LatchCause where
  | ovSlow | vinOv | inputUv | ocpFirst | ocpSecond | uv | thermal | inputCap | vote | otherStop
  deriving DecidableEq, Repr
/-- Bit of a cause. -/
def LatchCause.idx : LatchCause → Nat
  | .ovSlow => 0 | .vinOv => 1 | .inputUv => 2 | .ocpFirst => 3 | .ocpSecond => 4 | .uv => 5 | .thermal => 6
  | .inputCap => 7 | .vote => 8 | .otherStop => 9
/-- A cause's bit. -/
def LatchCause.bit (c : LatchCause) : BitVec 10 := BitVec.ofNat 10 (2 ^ c.idx)

/-- Phases of a rail that enters DISCHARGE or FAULT_LATCHED: switching or WAKING ones become TRISTATED (Table 7.3).
A probation that ran ends without a record, and RETRIED stays (R190; DESIGN CHOICE, log entry 56). -/
def State.tristatePhases (s : State) (n : Nat) : State :=
  s.movePhases n fun s => s.mapPhases fun p x =>
    if s.phaseRail p == some n && (x.state.switching || x.state == .waking) then
      { x with state := .tristated, lane := .idle, probation := false } else x

/-- A protection latch reaches a rail (Table 5.4, R284, R306): from PRIMED to DISCHARGE or APPRENTICE_HOLD the rail goes to
FAULT_LATCHED with its lanes idled; a latched rail adds the cause; an OFF rail is not reached. A pre-bias hold goes on to its end
(R108). -/
def State.latchRail (s : State) (n : Nat) (cause : LatchCause) : State :=
  let st := (s.rail n).core.state
  if st == .off then s
  else
    let s := s.updProt n fun p => { p with latch := p.latch ||| cause.bit }
    if st.latched then s
    else
      let s := s.endBurst n (s.burstSpan n) false
      let s := ((s.idleLanes n).tristatePhases n).endYields n false
      let s := (s.abortChar n).updCore n fun c => { c with
        state := .faultLatched, waitStart := false, waitWake := false, slide := false, appStop := false,
        idledAt := some s.clock.tick }
      (s.dropPg n).updPol n fun p => { p with clamp := false, clampIdle := false }

/-- A restart followed an input latch less than RETRY_WIN of rail 0 ago: a repeat is lasting (Table 10.6). -/
def State.inputAgain (s : State) : Bool := s.within s.input.inputRestart (msTicks (s.retryWin 0))

/-! ### Starts and stops (R147 to R152) -/

/-- Zero or an unstated value where a ratio's denominator is not positive, else the quotient (log entries 5 and 7). -/
def ratio (num den : Int) : Int := if den ≤ 0 then Config.freeFun 2 [num, den] else quot num den.toNat
/-- Stage 1 of R132, in Q1.31. -/
def State.clampDuty (s : State) (n : Nat) (d : Int) : Int := clampInt 0 (s.dmax n * 2 ^ 15) d
/-- Stage 2 of R132: feed-forward, with VFF taken as 4.5 V at least. -/
def State.applyFf (s : State) (n : Nat) (d : Int) : Int :=
  if s.ffMode n = 0 then d
  else s.clampDuty n (ratio (d * s.vinNom n * 2 ^ 24) (max s.input.vff (quot (9 * 2 ^ 24) 2) * 1000))

/-- The latest telemetry reading of a rail's chosen sense, in 2^-20 V. -/
def State.voutReading (s : State) (n : Nat) : Int := quot (s.telem.vout.getD n 0 * 131072) 1000

/-- V0 is taken from the telemetry of the chosen sense, and the duties are pre-loaded with the clamped duty whose applied value
is V0 / VFF (R149). -/
def State.preloadStart (s : State) (n : Nat) : State :=
  let v0 := if s.telem.vout.getD n 0 < 400 then 0 else s.voutReading n
  let d := if s.ffMode n = 0 then ratio (v0 * 2 ^ 35) s.input.vff else ratio (v0 * 2 ^ 11 * 1000) (s.vinNom n)
  let d := s.clampDuty n d
  let s := (s.updCore n fun c => { c with slewed := v0, v0 := v0, lowSideIdle := true }).updModel n fun m => { m with duties := [] }
  s.updBs n fun b => { b with preload := d, i := d, u := d, clamped := d, applied := s.applyFf n d }

/-- The ramp of a start begins (R149): V0 from the chosen sense's telemetry, the duties pre-loaded, low-side intervals
replaced by idle. RAIL_ENABLED is recorded for a start from PRIMED (Table 5.4), here and not at the transition,
since its P0 is V0 (R156; DEDUCED, log entry 56). -/
def State.beginRamp (s : State) (n : Nat) : State :=
  let first := (s.rail n).core.startFrom
  let s := (s.preloadStart n).updCore n fun c => { c with waitWake := false, startFrom := false }
  let s := s.updLe n fun l => { l with setFirst := true, startPre := true }
  let s := s.dropSamples n
  s.when first fun s => s.record 0x1001 n (quot (s.rail n).core.v0 256).toNat (s.rail n).core.target

/-- A start has got as far as its ramp (R149, R151). -/
def RailCore.ramping (c : RailCore) : Bool := !c.waitStart && !c.waitWake

/-- A start proceeds once its 20 µs are over and its wakes have ended, in a hold that took it over too (R151, R191). -/
def State.tryRamp (s : State) (n : Nat) : State :=
  let c := (s.rail n).core
  if (c.state == .softStart || c.state == .apprenticeHold) && c.waitWake && !c.waitStart && (s.phasesIn n fun p => p.wakingActive).isEmpty then s.beginRamp n else s

/-- The chosen sense becomes A or B (`b`); a change is carried to the next update and moves the comparators' selector
(R127). -/
def RailSense.choose (x : RailSense) (b : Bool) (now : Nat) : RailSense :=
  if x.sel == b then x else { x with sel := b, switched := true, switchAt := some now }

/-- What every entry into SOFT_START starts afresh: sense A chosen unless it has failed (R124), with a change of the chosen
sense carried to the next update (R127), the counts of yields and graces (R284), and the over-current mean (R288). -/
def State.freshCounts (s : State) (n : Nat) : State :=
  (s.updSense n fun x => { x.choose x.aFailed s.clock.tick with
      disCount := 0, votePending := false, agreeCount := 0, burstSpent := false }).updProt n fun p => { p with grace := none, clearSince := none, ocpWin := [] }

/-- The phases of an entry into SOFT_START: the larger of START_PHASES and the effective floor (R191). -/
def State.addStart (s : State) (n : Nat) : State := s.addTo n (max (s.startPhases n) (s.effFloor n))

/-- Entry into SOFT_START as a start under R149: sense A chosen unless failed (R124), counts afresh (R284, R288), the
start phases woken (R191), and the wait of R151 where the lanes were idled less than 20 µs ago. Until the ramp begins the
slewed set-point stands at V0, and the rail stands in SOFT_START already (R151; DEDUCED, log entry 56). A stored swatch with ANTIC = 1
wakes no phase beyond the start phases (R103, R191; DESIGN CHOICE, log entry 56). -/
def State.startRail (s : State) (n : Nat) (fromPrimed : Bool) : State :=
  let recent := s.within (s.rail n).core.idledAt (usTicks 20)
  let s := s.updCore n fun c => { c with state := .softStart, waitStart := recent, waitWake := true, startFrom := fromPrimed,
                                         settleDone := false, slide := false }
  let s := (s.freshCounts n).updProt n fun p => { p with
    restartAt := if p.ovClear then some s.clock.tick else p.restartAt, ovClear := false }
  let s := (s.preloadStart n).retarget n
  (s.addStart n).tryRamp n

/-- SOFT_STOP (R150): a start that still waited waits no longer (Table 5.4) and has no RAIL_ENABLED (DEDUCED, log entry 56), yields end with their END records, and the slewed set-point falls toward STOP_LEVEL. `byApp`: the
Apprentice carries out the stop of a held rail (R152). -/
def State.softStop (s : State) (n : Nat) (byApp : Bool) : State :=
  let s := s.updCore n fun c => { c with
    state := .softStop, settleDone := false, slide := false, appStop := byApp, waitStart := false, waitWake := false, startFrom := false }
  ((s.endYields n true).dropPg n).retarget n

/-- DISCHARGE (Table 5.4): lanes idled, switching phases TRISTATED. -/
def State.enterDischarge (s : State) (n : Nat) : State :=
  let s := (s.idleLanes n).tristatePhases n
  s.updCore n fun c => { c with state := .discharge, idledAt := some s.clock.tick }

/-- DISCHARGE ends in PRIMED (Table 5.4). -/
def State.leaveDischarge (s : State) (n : Nat) : State :=
  s.updCore n fun c => { c with state := .primed, appStop := false }

/-- A rail whose class the input cap has stopped is not restarted while the cap stays at stage 3 (R308). -/
def State.classStopped (s : State) (n : Nat) : Bool := s.input.stage == 3 && s.input.stopped.getLsbD (s.railClass n)

/-- A rail leaves FAULT_LATCHED: the FASTSTOP latch clears, and OCP_SLOW n is released (R276, Table 10.4). -/
def State.leaveLatch (s : State) (n : Nat) : State :=
  (s.updProt n fun p => { p with ocpSource := false }).updPol n fun p => { p with fastStop := false }

/-- A static level is held (R483). -/
def State.levelHeld (s : State) : Bool := s.phases.any (·.held) || s.links.any (·.fdHeld)
/-- A new enable of rail `n` does not wait in PRIMED: the Apprentice holds no rail (R152), the cap has not stopped the class (R308), the
block is not in standby (R425), and no static level (R483) and no TAP instruction (R473) holds the enables. -/
def State.startFree (s : State) (n : Nat) : Bool :=
  !s.app.holding && !s.classStopped n && !s.clock.standby && !s.levelHeld && !s.tap.enHeld
/-- The latch of a rail is cleared (Table 5.4, R152): FAULT_LATCHED returns to PRIMED, REENABLE_PENDING starts, or waits in PRIMED for
what holds a new enable. -/
def State.releaseLatch (s : State) (n : Nat) : State :=
  let st := (s.rail n).core.state
  let s := (s.updProt n fun p => { p with latch := 0 }).leaveLatch n
  let s := if st == .reenablePending then
      (if s.startFree n then s.startRail n false else s.updCore n fun c => { c with state := .primed })
    else if st == .faultLatched then s.updCore n fun c => { c with state := .primed } else s
  if s.primed && !s.pins.faultReleased && (s.rails.all fun r => !r.core.state.latched) then
    { s with pins := { s.pins with faultReleased := true } } else s

/-- Clear one cause; the latch clears when none remains (R306). -/
def State.clearCause (s : State) (n : Nat) (cause : LatchCause) : State :=
  if (s.rail n).core.state.latched && ((s.rail n).prot.latch &&& cause.bit) != 0 then
    let left := (s.rail n).prot.latch &&& ~~~cause.bit
    let s := s.when (cause == .ovSlow) fun s => s.updProt n fun p => { p with ovClear := true }
    let s := s.when (cause == .vinOv || cause == .inputUv) fun s => { s with input := { s.input with inputRestart := some s.clock.tick } }
    if left = 0 then s.releaseLatch n else s.updProt n fun p => { p with latch := left }
  else s

end Sys2Proof.Machine
end

