-- ==== Sys2Proof/Machine/RouterOps.lean ====
section
/-! DEFINITION. The event router at work: comparator outputs, hard crosspoints with their lane overrides, general
timers, and the delivery of sources to soft destinations. -/

namespace Sys2Proof.Machine

/-! ### Bursts, clamps and stops (R271 to R276) -/

/-- BURST n is armed (R271, R128); a rail whose UV_FAST has failed has no burst (Table 9.4). -/
def State.burstArmed (s : State) (n : Nat) : Bool :=
  let r := s.rail n
  r.core.state.onTarget && !r.pol.burst && !r.pol.burstFired && !r.sense.burstSpent && !(s.comp (4 * n)).failed
/-- An override above BURST holds the lanes of rail `n` (Table 9.8). -/
def State.burstOverridden (s : State) (n : Nat) : Bool :=
  let q := (s.rail n).pol
  !s.clock.loopPresent || q.fastStop || q.tristate || q.clamp

/-- A phase under a burst (Table 7.3, R197): its state, and its lane high. -/
def Phase.fire (p : Phase) : Phase :=
  let q := match p.state with
    | .parked => { p with state := .waking, wakePark := false, deep := false }
    | .deepParked => { p with state := .waking, wakePark := false, deep := true }
    | .waking => { p with wakePark := false }
    | .decidedShed | .draining | .tristated => p.activate
    | _ => p
  { q with fired := true, lane := .high }

/-- A burst fires on rail `n` (R197, R271, R273, R274); where a higher override already has the lanes it ends at once. -/
def State.fireBurst (s : State) (n : Nat) : State :=
  let s := s.movePhases n fun s => s.mapPhases fun p x =>
    if s.phaseRail p == some n && x.state.fired && !x.held then x.fire else x
  let s := s.updPol n fun q => { q with
    burst := true, burstFired := true, burstStart := s.clock.tick, dPre := (s.rail n).bs.clamped,
    bursts := BitVec.ofNat 16 (satAdd 65535 q.bursts.toNat 1) }
  let s := s.updSense n fun x => { x with burstSpent := x.disCount > 0 || (x.votePending && x.agreeCount == 0) }
  let s := ((s.disturb n).abortChar n).openWindow n .edge
  if s.burstOverridden n then s.endBurst n 0 false else s

/-- BURST n re-arms once the live output of UV_FAST n has released and the ADD window has closed (R272). -/
def State.rearmBurst (s : State) (n : Nat) : State :=
  let c := s.comp (4 * n)
  if (s.rail n).pol.burstFired && !(s.rail n).pol.burst && !c.live && !c.win.getLsbD 1 then
    s.updPol n fun p => { p with burstFired := false } else s

/-- CLAMP n acts (R275): any burst ends, the lanes go low unless a higher override has them; STATUS_VOUT[6]. -/
def State.clampOn (s : State) (n : Nat) : State :=
  let st := (s.rail n).core.state
  if st.running || st == .apprenticeHold then
    let s := s.endBurst n (s.burstSpan n) false
    let s := s.updPol n fun p => { p with clamp := true, clampIdle := false }
    let s := s.obeyOverrides n
    (((s.disturb n).abortChar n).setVout n 0x40)
  else s

/-- CLAMP n releases: each lane returns to DPWM at its next period start. The latch clears in LOOP (Table 1.1). -/
def State.clampOff (s : State) (n : Nat) : State :=
  if (s.rail n).pol.clamp && s.clock.loopPresent then
    (s.updPol n fun p => { p with clamp := false, clampIdle := false }).disturb n else s

/-- TRISTATE n follows its destination (R276): it idles every lane at once, and its latch clears in LOOP (Table 1.1); a clamp
still in force then has the lanes. It aborts a characterisation run, as a clamp does (R143; DESIGN CHOICE, log entry 56). -/
def State.setTristate (s : State) (n : Nat) (on : Bool) : State :=
  if (s.rail n).pol.tristate == on then s
  else if on then
    let s := s.endBurst n (s.burstSpan n) false
    ((s.idleLanes n).updPol n fun p => { p with tristate := true }).abortChar n
  else if s.clock.loopPresent then ((s.updPol n fun p => { p with tristate := false }).obeyOverrides n).disturb n else s

/-- Latch cause of a FASTSTOP source (Table 10.5). -/
def stopCause (n src : Nat) : LatchCause :=
  if src == 32 + n then .ovSlow else if src == 66 || src == 67 then .vinOv
  else if 180 ≤ src && src ≤ 184 then .thermal else .otherStop

/-- FASTSTOP n takes rail `n` from a source (R276): lanes idle, FAULT_LATCHED; STATUS_VOUT[7] for OV_SLOW. -/
def State.fastStop (s : State) (n src : Nat) : State :=
  if (s.rail n).core.state == .off then s
  else
    let cause := stopCause n src
    let again := match (s.rail n).prot.restartAt with
      | some t => cause == .ovSlow && decide (s.since t < msTicks (s.retryWin n))
      | none => false
    let s := ((s.latchRail n cause).updPol n fun p => { p with fastStop := true }).obeyOverrides n
    let s := s.when (cause == .ovSlow) fun s => s.setVout n 0x80
    let s := s.when (cause == .vinOv && s.inputAgain) fun s => s.faultOn .inputFault 0 true
    s.when again fun s => s.faultOn .outputOv n true

/-! ### General timers (R277, R278) -/

/-- GTk is claimed, LOOP runs (Table 1.1), and the device is not in the blank canvas. -/
def State.timerRuns (s : State) (k : Nat) : Bool := (s.claimOf 2 k).isSome && !s.blank && s.clock.loopPresent

/-- A trigger of GTk. -/
def State.triggerTimer (s : State) (k : Nat) : State :=
  let t := s.timer k
  if s.timerRuns k && (!t.running || s.gtRetrig k == 1) then
    let s := s.updTimer k fun t => { t with running := true, remain := s.gtLen k, out := if s.gtPeriodic k == 1 then t.out else true }
    s.mapComps fun m c =>
      if bit (s.cmpWord m) 16 && field (s.cmpWord m) 12 3 == k then { c with win := c.win ||| winBit 0 } else c
  else s

/-- Trigger every timer whose TRIG code is one of these. -/
def State.triggerCodes (s : State) (codes : List Nat) : State :=
  s.forEach (indices 8 fun k => codes.contains (s.gtTrig k)) State.triggerTimer

/-! ### Hard crosspoints -/

/-- A destination of the hard path was not asserted in `old` and is now. -/
def destRose (old s : State) (d : Nat) : Bool := s.dest d && !old.dest d

/-- Rail `n` follows its hard destinations after a change of sources from `old` (R266, R270). -/
def State.routeRail (old : State) (rose : List Nat) (s : State) (n : Nat) : State :=
  let s := s.forEach (rose.filter fun src => s.xp (48 + n) src == 2) fun s src => s.fastStop n src
  let s := s.setTristate n (s.dest (32 + n))
  let s := if destRose old s (16 + n) then s.clampOn n else if s.dest (16 + n) then s else s.clampOff n
  if destRose old s n && s.burstArmed n then s.fireBurst n else s

/-- Carry a change of the sources 0 to 99 from `old` to the hard destinations and the timers; `fuel` bounds how often a
timer's rise may trigger another. -/
def State.settleHard : Nat → State → State → State
  | 0, _, s => s
  | fuel + 1, old, s =>
    let rose := indices 100 fun i => s.hardSource i && !old.hardSource i
    let fell := (List.range 100).any fun i => old.hardSource i && !s.hardSource i
    if rose.isEmpty && !fell then s
    else
      let t := s.forEach (List.range 16) (State.routeRail old rose)
      let u := t.triggerCodes rose
      settleHard fuel t u

/-- The hard path after a change of sources. -/
def State.hardFrom (old s : State) : State := State.settleHard 9 old s

/-! ### Comparator outputs (R254 to R258) -/

/-- LOOP sees the masked output at a tick: RISE, FALL and TRIPS follow (R16, R257). -/
def Comp.see (c : Comp) (isP : Bool) (now : Nat) : Comp :=
  if c.seen == c.out then c
  else { c with
    seen := c.out, rise := c.rise || (!isP && c.out), fall := c.fall || (!isP && !c.out),
    riseAt := if !isP && c.out then some now else c.riseAt, downAt := if !isP && !c.out then some now else c.downAt,
    trips := if c.out then BitVec.ofNat 16 (satAdd 65535 c.trips.toNat 1) else c.trips }
/-- The masked output of a comparator takes a value at a tick; LATCH sets with no clock (R16, R256). -/
def Comp.setOut (c : Comp) (isP v : Bool) (now : Nat) : Comp :=
  if c.out == v then c
  else { c with
    out := v, latch := c.latch || (isP && v), setAt := if isP && v then some now else c.setAt }

/-- A tick, if there is one, lies in the present LOOP cycle. -/
def State.sameCycle (s : State) (t : Option Nat) : Bool :=
  match t with
  | some x => x / s.loopTicks == s.clock.tick / s.loopTicks
  | none => false
/-- A clear of LATCH where one acts (R256): the bit stands while the masked output is asserted, and where it set in the same LOOP
cycle. -/
def State.clearLatch (s : State) (c : Comp) : Comp := if c.out || s.sameCycle c.setAt then c else { c with latch := false }

/-- Status bits that the masked output of a comparator sets (Table 16.3), and the power-good it ends (R293). -/
def State.compStatus (s : State) (m : Nat) : State :=
  if !(s.comp m).out then s
  else if m < 64 && m % 4 == 3 then
    s.when (s.rail (m / 4)).core.state.onTarget fun s =>
      let s := s.setVout (m / 4) 0x20
      s.when (s.pgOffFilter (m / 4) == 0) fun s => s.updProt (m / 4) fun p => { p with pg := false }
  else if m < 64 && m % 4 == 2 then s.updProt (m / 4) fun p => { p with pg := false }
  else if m == 66 || m == 67 then s.setInput 0x80
  else s

/-- LOOP sees the masked output of a comparator: its flags, and the status bits that it sets. -/
def State.seeComp (s : State) (m : Nat) : State :=
  if (s.comp m).seen == (s.comp m).out then s else (s.updComp m fun c => c.see (s.classP m) s.clock.tick).compStatus m
/-- The masked output takes a value, and the hard path follows; LOOP sees it while its clock runs (R16). -/
def State.driveOut (s : State) (m : Nat) (v : Bool) : State :=
  if (s.comp m).out == v then s
  else
    let t := s.updComp m fun c => c.setOut (s.classP m) v s.clock.tick
    State.hardFrom s (t.when s.clock.loopPresent fun t => t.seeComp m)
/-- LOOP runs again and sees the outputs as they stand; those that have risen trigger their timers (R16, R278). -/
def State.seeComps (s : State) : State :=
  let rose := (indices 76 fun m => (s.comp m).out && !(s.comp m).seen).map compSource
  let t := s.forEach (List.range 76) State.seeComp
  State.hardFrom t (t.triggerCodes rose)

/-- The live output takes a value; the masked output follows unless a window holds it (R258). A release of UV_FAST n ends
its burst and may re-arm it (R271, R272). -/
def State.driveLive (s : State) (m : Nat) (v : Bool) : State :=
  let s := s.updComp m fun c => { c with live := v }
  let s := if (s.comp m).win == 0 then s.driveOut m v else s
  if m < 64 && m % 4 == 0 && !v then (s.endBurst (m / 4) (s.burstSpan (m / 4)) false).rearmBurst (m / 4) else s

/-- A GC named in the image (R261). -/
def State.gcNamed (s : State) (m : Nat) : Bool := (List.range 96).any fun d => s.xp d m != 0
/-- A comparator that P6 and the rotation test, and that leaves its reset state (R255, R261). -/
def State.compUsed (s : State) (m : Nat) : Bool :=
  s.boot.imageLoaded && (if m < 64 then s.railEn (m / 4) else if m < 68 then true else s.gcNamed m)
/-- In service: used and not declared failed, nor its input twin outvoted (R264, R296). -/
def State.compInService (s : State) (m : Nat) : Bool :=
  s.compUsed m && !(s.comp m).failed && !((m == 64 || m == 66) && s.input.vinAFailed) && !((m == 65 || m == 67) && s.input.vinBFailed)

/-- Overvoltage direction (Table 9.1, DIR). -/
def State.compOver (s : State) (m : Nat) : Bool :=
  if m < 64 then m % 4 == 1 || m % 4 == 2 else if m < 68 then m ≥ 66 else bit (s.cmpWord m) 25
/-- Rail whose chosen sense a comparator reads; none for another input. -/
def State.compRail (s : State) (m : Nat) : Option Nat :=
  if m < 64 then some (m / 4) else if m < 68 then none
  else if field (s.cmpWord m) 0 8 < 16 then some (field (s.cmpWord m) 0 8) else none
/-- STEP × 1000 in 2^-20 V (R253). -/
def State.stepMilli (s : State) (m : Nat) : Int :=
  let fs := if m ≥ 68 && field (s.cmpWord m) 0 8 == 0x14 then 64 else 2048
  ((fs * 2 ^ (14 - field (s.cmpWord m) 22 3) : Nat) : Int)
/-- The threshold × 1000 in 2^-20 V (R253); that of OV_SLOW n never exceeds VOUT_ABS_MAX (R290). -/
def State.threshold (s : State) (m : Nat) : Int :=
  let t : Int := s.thr m * s.stepMilli m
  let v : Int := match s.compRail m with
    | some n => if bit (s.cmpWord m) 26 then s.vref n * 1000 + (if s.compOver m then t else -t) else t
    | none => t
  if m < 64 && m % 4 == 2 then min v (s.voutAbsMax (m / 4) * 512000) else v
/-- The live output for an input level in 2^-20 V (R254). -/
def State.compare (s : State) (m : Nat) (level : Int) : Bool :=
  let t := s.threshold m
  let h : Int := s.hyst m * s.stepMilli m
  let x := level * 1000
  if s.compOver m then (if t ≤ x then true else if x ≤ t - h then false else (s.comp m).live)
  else if x ≤ t then true else if t + h ≤ x then false else (s.comp m).live

/-- Close one window of a comparator; with none left the masked output takes the live state (R258). -/
def State.closeWindow (s : State) (m i : Nat) : State :=
  let s := s.updComp m fun c => { c with win := c.win &&& ~~~(winBit i) }
  let s := if (s.comp m).win == 0 && !(s.comp m).failed then s.driveOut m (s.comp m).live else s
  if m < 64 && m % 4 == 0 then s.rearmBurst (m / 4) else s

/-! ### Soft destinations (R266, R268, R112) -/

/-- The record that a rising edge of a source writes through RECORD (Tables 9.7, 10.4): CODE, SRC, P0, P1. OCP_SLOW, DIE_OT, TSNS_OT
and IIN_CAP write theirs by their own rules, and routing them adds none (R268, R305). -/
def State.sourceRecord (s : State) (src : Nat) : Option (Nat × Nat × Nat × Nat) :=
  if src < 16 then some (0x1011, src, 0, s.thr (4 * src))
  else if src < 32 then some (0x1010, src - 16, 0, s.thr (4 * (src - 16) + 1))
  else if src < 48 then some (0x1010, src - 32, 1, s.thr (4 * (src - 32) + 2))
  else if src < 64 then some (0x1011, src - 48, 1, s.thr (4 * (src - 48) + 3))
  else if src < 66 then some (0x1040, 0, src - 64, 5 * (if src == 64 then s.input.vinA else s.input.vinB))
  else if src < 68 then some (0x1041, 0, src - 66, 5 * (if src == 66 then s.input.vinA else s.input.vinB))
  else none

/-- CAUSES of a rail in place (Table 10.8). -/
def State.causeBits (s : State) (n : Nat) : Nat := (s.rail n).prot.throt.toNat * 65536

/-- Rail of a source that belongs to one. -/
def sourceRail (src : Nat) : Option Nat :=
  if src < 64 then some (src % 16) else if 100 ≤ src && src < 164 then some ((src - 100) % 16) else none

/-- THROTp_N is driven low for a rising source (R112). THROTTLE_ASSERTED names the source's rail; for a source that belongs to
no rail its P0 and P1 are unstated (log entry 7). Until PRIMED the ball is released (R32). -/
def State.assertThrot (s : State) (p src : Nat) : State :=
  if (s.port p).throtLow || !s.primed then s
  else
    let s := s.updPort p fun x => { x with throtLow := true, throtHold := true }
    match sourceRail src with
    | some n => s.record 0x1030 p n (s.causeBits n)
    | none =>
      let (a, s) := s.freeNat
      let (b, s) := s.freeNat
      s.record 0x1030 p a b

/-- THROTp_N is released once its 10 µs have passed and no rail of the group has a throttle condition (R112). -/
def State.releaseThrot (s : State) (p : Nat) : State :=
  if (s.port p).throtLow && !(s.port p).throtHold && !s.softDest (64 + p)
      && !((s.groupRails p).any fun n => (s.rail n).prot.throt != 0) then
    s.updPort p fun x => { x with throtLow := false } else s

/-- Soft destinations follow a source whose level, as delivered, is now `v`; `rose`: it rose since (R266). -/
def State.followSoft (s : State) (src : Nat) (rose : Bool) : State :=
  let s := s.forEach (indices 16 fun n => rose && s.xp (48 + n) src == 1) fun s n => s.fastStop n src
  let s := s.forEach (indices 16 fun n => s.xp (32 + n) src == 1) fun s n => s.setTristate n (s.dest (32 + n))
  s.forEach (indices 8 fun p => s.xp (64 + p) src == 1) fun s p =>
    if rose then s.assertThrot p src else s.releaseThrot p

/-- The new level of a source is delivered to soft destinations, and its edges are used up. A rising edge of destination 72
sets the alert flag (R427); at CORE's return (`replay`) only the present level counts (R269). -/
def State.takeLevel (s : State) (src : Nat) (replay : Bool) : State :=
  let pulse := 148 ≤ src && src < 164
  let v := s.routedSource src && !pulse
  let edge := s.xp 72 src == 1 && (v || (0 < s.router.rises.getD src 0 && !replay)) && !s.softDest 72
  let s := s.when edge State.setAlert
  { s with router := { s.router with
      delivered := s.router.delivered.set src v, rises := s.router.rises.set src 0,
      phaseEvt := if pulse then s.router.phaseEvt &&& ~~~(BitVec.ofNat 16 (2 ^ (src - 148))) else s.router.phaseEvt } }

/-- Delivery of a source's change through the LOOP-to-CORE FIFO: one record per rising edge routed to RECORD, then the
destinations. -/
def State.deliver (s : State) (src : Nat) : State :=
  let k := s.router.rises.getD src 0
  let s := s.takeLevel src false
  let s := match s.sourceRecord src with
    | some (code, sr, p0, p1) =>
      if s.xp 74 src == 1 then s.forEach (List.range k) fun s _ => s.record code sr p0 p1 else s
    | none => s
  s.followSoft src (decide (0 < k))

/-- A record that LOOP held while CORE was absent enters at CORE's return (R269, R377): DEFERRED, REPEAT the count less
one, and always as a new record. -/
def State.recordDeferred (s : State) (code src p0 p1 rep : Nat) : State :=
  let c := BitVec.ofNat 16 code
  let flags : BitVec 16 := if rep > 0 then 0x22 else 0x20
  let r := s.sketch.stageNew (s.recDepth c) s.clock.time c (BitVec.ofNat 16 src) (BitVec.ofNat 32 p0) (BitVec.ofNat 32 p1) rep flags
  { s with sketch := r }

/-- Codes that protection writes (Table 10.9): those held while CORE is absent enter as R269 gives (R309). -/
def protectionCode (c : BitVec 16) : Bool :=
  [0x1010, 0x1011, 0x1020, 0x1030, 0x1031, 0x1040, 0x1041, 0x1042, 0x1050, 0x1051].contains c.toNat

/-- An event as its source holds it: CODE, SRC, P0, P1. -/
abbrev HeldEvent := BitVec 16 × BitVec 16 × Word × Word
/-- Two held events have the same key (R375). -/
def sameKey (x y : HeldEvent) : Bool := x.1 == y.1 && x.2.1 == y.2.1 && x.2.2.1 == y.2.2.1

/-- Held events as they enter the staging port: `none` as they are; `some k` as a deferred record of one key with `k` later events and
the latest P1. `seen` are the keys already taken. -/
def groupHeld (deferred : Bool) (seen : List HeldEvent) : List HeldEvent → List (HeldEvent × Option Nat)
  | [] => []
  | x :: rest =>
    if deferred && protectionCode x.1 then
      if seen.any (sameKey x) then groupHeld deferred seen rest
      else
        let same := rest.filter (sameKey x)
        ((x.1, x.2.1, x.2.2.1, (same.getLast?.getD x).2.2.2), some same.length) :: groupHeld deferred (x :: seen) rest
    else (x, none) :: groupHeld deferred seen rest

/-- The events held before CORE ran enter the staging port in the order in which they waited (R374). After an absence of CORE
(`deferred`) those of protection enter as one record per key, DEFERRED, with the count of the later ones as REPEAT (R269, R309,
R377). That of a declared input undervoltage is closed at once (R376). No RM or HM event waits with them, since neither runs without
CORE. -/
def State.takeHeld (s : State) (deferred : Bool) : State :=
  (groupHeld deferred [] s.sketch.held).foldl (fun s x =>
    let s := match x.2 with
      | some k => s.recordDeferred x.1.1.toNat x.1.2.1.toNat x.1.2.2.1.toNat x.1.2.2.2.toNat k
      | none => s.record x.1.1.toNat x.1.2.1.toNat x.1.2.2.1.toNat x.1.2.2.2.toNat
    if x.1.1 == 0x1040#16 then { s with sketch := s.sketch.closeOpen } else s)
    { s with sketch := { s.sketch with held := [] } }

/-- FASTSTOP n as the sources that stand assert it takes a rail that has become PRIMED (R266, R276, Table 5.4). -/
def State.seedStop (s : State) (n : Nat) : State :=
  if (s.rail n).core.state != .primed then s
  else s.forEach (indices 256 fun src =>
      (s.xp (48 + n) src == 2 && s.hardSource src) || (s.xp (48 + n) src == 1 && s.router.delivered.getD src false))
    fun s src => s.fastStop n src
/-- The destinations that follow a level take those of the sources that stand, once the crosspoints are known: TRISTATE n from the
image load on, FASTSTOP n and THROTp from PRIMED on (R266, R276, R112). -/
def State.seedSoft (s : State) : State :=
  let s := s.forEach (List.range 16) fun s n => (s.setTristate n (s.dest (32 + n))).seedStop n
  s.forEach (List.range 8) fun s p =>
    match (List.range 256).find? fun src => s.router.delivered.getD src false && s.xp (64 + p) src == 1 with
    | some src => s.assertThrot p src
    | none => s

/-- Every soft destination takes the present level of its sources at CORE's return: a source that rose and fell meanwhile
leaves its record only (R269). -/
def State.replaySoft (s : State) : State :=
  s.forEach (List.range 193) fun s src =>
    let k := s.router.rises.getD src 0
    let old := s.router.delivered.getD src false
    let s := s.takeLevel src true
    let s := match s.sourceRecord src with
      | some (code, sr, p0, p1) => if s.xp 74 src == 1 && k > 0 then s.recordDeferred code sr p0 p1 (k - 1) else s
      | none => s
    s.followSoft src (s.router.delivered.getD src false && !old)

end Sys2Proof.Machine
end

