-- ==== Sys2Proof/Machine/Link.lean ====
section
/-! DEFINITION. The Femel link engines: frames sent, upstream frames checked, lane faults (spec/08). -/

namespace Sys2Proof.Machine

/-! ### Currents (Table 5.2, R242) -/

/-- Cells that belong to a phase's current: healthy ones and SILENT ones. -/
def State.loadCells (s : State) (p : Nat) : List Nat :=
  (phaseCells p).filter fun c => (s.cell c).healthy || (s.cell c).state == .silent
/-- A cell with a current of its own (R242). -/
def State.reports (s : State) (c : Nat) : Bool := (s.cell c).healthy && !s.linkFault (cellLink c)
/-- A phase's current from its reporting cells, each other cell at their mean, in 840ths of 10 mA, which every mean over up to
eight cells is whole in; none for a BLIND phase and one in which no cell reports. -/
def State.phaseFine (s : State) (p : Nat) : Option Int :=
  let l := s.loadCells p
  let r := l.filter s.reports
  if (s.phase p).state == .blind || r.isEmpty then none
  else some ((r.map fun c => (s.cell c).iavg).sum * l.length * (840 / r.length : Nat))
/-- The same in 2^-16 A. -/
def State.phaseOwn (s : State) (p : Nat) : Option Int := (s.phaseFine p).map fun x => quot (x * 65536) 84000
/-- Mean current of the rail's other switching phases with a current of their own. -/
def State.siblingPhase (s : State) (n p : Nat) : Int :=
  let l := ((s.phasesIn n fun x => x.state.switching).filter (· != p)).filterMap s.phaseOwn
  ratio l.sum l.length
/-- A phase's current, with the sibling estimate where it has none. -/
def State.phaseCurrent (s : State) (n p : Nat) : Int :=
  match s.phaseOwn p with
  | some i => i
  | none => if (s.phase p).state.switching then s.siblingPhase n p else 0
/-- IRAIL: the sum over the switching phases (Table 5.2). -/
def State.irailNow (s : State) (n : Nat) : Int :=
  ((s.phasesIn n fun x => x.state.switching).map (s.phaseCurrent n)).sum
/-- Refresh IRAIL at a frame arrival. -/
def State.refreshIrail (s : State) (p : Nat) : State :=
  match s.phaseRail p with
  | none => s
  | some n => s.updPol n fun q => { q with irail := s.irailNow n }

/-! ### Commands to cells (Tables 8.5, 8.6) -/

/-- Class of a waiting command (Table 8.5). -/
def frameClass (f : DownFrame) : Nat :=
  match f.code.toNat with
  | 4 => if f.data.toNat / 65536 % 4 == 3 then 1 else 3
  | 8 => 1
  | 10 => 4
  | 2 => 5
  | _ => 6
/-- SET_LIMIT, SET_TRIM and SET_WIDTH of a cell's configuration (R238, Table 8.9). -/
def State.configFrames (s : State) (c w mode : Nat) : List DownFrame :=
  [cellFrame c 5 (s.ocpLimit c * 256) false, cellFrame c 3 (s.cellTrim c * 65536) false, cellFrame c 2 (w * 256) false,
   modeFrame c mode]
/-- READ_STATUS to a cell. -/
def statusFrame (c : Nat) : DownFrame := cellFrame c 7 0 false
/-- Configure a cell (R238 step 5, R245): its commands go in their order, and only QUARANTINE or a reset overtakes them. -/
def State.configureCell (s : State) (c w mode : Nat) : State :=
  (s.configFrames c w mode).foldl (fun s f => s.sendCell (frameClass f) c f) (s.updCell c fun x => { x with configuring := true })

/-! ### Configuring cells (R230, R232, R238) -/

/-- A cell is reset, keeps its slot, and is configured as in step 5 of R238 (R209, Table 8.8). -/
def State.reconfigure (s : State) (c w : Nat) : State :=
  ((s.dropCommands c).sendCell 1 c (cellFrame c 8 0 false)).configureCell c w 1
/-- Narrowest width code of a cell's rail, W = BAND_W[0] (R238). -/
def State.firstWidth (s : State) (c : Nat) : Nat :=
  match s.cellRail c with
  | some n => s.bandW n 0
  | none => 0

/-- The cell's outstanding command is done; the next one waiting goes out (R230). -/
def State.nextCommand (s : State) (c : Nat) : State :=
  let q := (s.cell c).queue
  let s := s.updCell c fun x => { x with outstanding := none, attempt := 0, queue := q.drop 1 }
  match q with
  | [] => s
  | f :: _ => s.commandCell f.1 c f.2

/-- The second attempt of R232: a resend of the command that has been sent, or a probe, behind which a command that has not been sent
waits again. `frame`: the upstream frame was bad or absent, and not the echo wrong. -/
def State.secondAttempt (s : State) (c : Nat) (frame : Bool) : State :=
  let s := (s.faultOn .cellFrame c false).updCell c fun x => { x with retryFrame := frame }
  match (s.cell c).outstanding, (s.cell c).wasSent with
  | some f, true => (s.updCell c fun x => { x with attempt := 1, sentAt := none }).queueFrame (cellLink c) 2 f
  | _, _ => ((s.unsend c).commandCell 2 c (statusFrame c)).updCell c fun x => { x with attempt := 2 }

/-! ### Lane faults (R244, R245) -/

/-- SILENT cells of a link. -/
def State.silentCount (s : State) (l : Nat) : Nat := ((linkCells l).filter fun c => (s.cell c).state == .silent).length

/-- Cells of a link that send in their slots: neither ABSENT nor still to be configured (R229). -/
def State.sendingCells (s : State) (l : Nat) : List Nat :=
  (linkCells l).filter fun c => (s.cell c).state != .absent && (s.cell c).state != .discovered

/-- LINK_LANE_FAULT is declared with a cause: recent SILENT cells return to their earlier state; cause 4 masks FFLTn_N. A
declaration within 1 s of a clearance is lasting (Table 10.6). None is declared while the FD pair is held (R482). -/
def State.declareLink (s : State) (l cause : Nat) : State :=
  if s.linkFault l || (s.link l).fdHeld || s.clock.suspendLinks && (cause == 2 || cause == 3) then s
  else
    let k := s.link l
    let p1 := k.badPrev * 65536 + s.silentCount l
    let old := s
    let s := s.updLink l fun k => { k with
      fault := some cause, lastCause := cause, declaredAt := s.clock.tick, badRounds := 0, ffltRounds := 0,
      ffltMasked := k.ffltMasked || cause == 4, silentAtDecl := s.silentCount l }
    let s := s.forEach (linkCells l) fun s c =>
      let x := s.cell c
      if x.state == .silent && s.since x.silentAt ≤ nsTicks 25600 then
        s.updCell c fun x => { x with state := x.prior, attempt := 0 } else s
    let s := (s.faultOn .link l (s.within k.clearedAt (msTicks 1000))).record 0x4002 l cause p1
    State.hardFrom old (s.conLinkLost l)

/-- A second attempt has failed (R232, Table 8.8). A healthy cell, and one in its first configuration, becomes SILENT, unless a fault
of the link stands, and four of them on a link are cause 1; a SILENT cell stays so; for a QUARANTINED one nothing more is sent
until it echoes (R230). -/
def State.silence (s : State) (c : Nat) : State :=
  let x := s.cell c
  if s.linkFault (cellLink c) then s
  else if x.healthy || x.state == .discovered then
    let s := (s.updCell c fun x => { x with
      state := .silent, prior := x.state, silentAt := s.clock.tick, configuring := false }).dropCommands c
    let s := (s.faultOn .cellFrame c true).record 0x3020 c 3 (cellPhase c)
    let s := match s.cellRail c with
      | some n => s.setOther n
      | none => s
    if s.silentCount (cellLink c) ≥ 4 then s.declareLink (cellLink c) 1 else s
  else if x.state == .silent then (s.dropCommands c).updCell c fun x => { x with configuring := false }
  else (s.updCell c fun x => { x with configuring := false }).conIdFail c

/-- The mode that the state of a cell's phase gives it (Table 7.2); while the phase wakes, the mode last checked. -/
def State.phaseMode (s : State) (c : Nat) : Nat :=
  let p := s.phase (cellPhase c)
  if p.state.switching || p.state == .tristated then 0
  else if p.state == .parked || p.state == .retryWait then 1
  else if p.state == .deepParked then 2
  else (s.cell c).mode.toNat

/-- The standing fault of a link clears: what waited for its cells is dropped, SILENT cells are probed, healthy ones configured again
with their width and the mode of their phase (R245). A command that had been sent and not echoed is judged afresh (R230). -/
def State.clearLink (s : State) (l : Nat) : State :=
  let k := s.link l
  let old := s
  let s := s.updLink l fun k => { k with fault := none, clearedAt := some s.clock.tick }
  let s := s.forEach (linkCells l) fun s c =>
    let s := s.updCell c fun x => if x.wasSent && x.sentAt.isSome then { x with attempt := 0 } else x
    let x := s.cell c
    if x.state == .silent then (s.dropCommands c).sendCell 2 c (statusFrame c)
    else if x.configuring || x.state == .discovered then s.reconfigure c (s.firstWidth c)
    else if x.healthy then (s.dropCommands c).configureCell c x.width.toNat (s.phaseMode c) else s
  State.hardFrom old (s.record 0x4002 l 0 (k.badPrev * 65536 + k.silentAtDecl))

/-- Judgements at the end of a round on one link (R244, R245); a suspended round ends a run of cause 2 (R247, R482). A round in which
no cell is to send and not SILENT counts nothing toward cause 4 (DESIGN CHOICE, log entry 56). -/
def State.endRound (s : State) (l : Nat) : State :=
  let k := s.link l
  let present := (linkCells l).filter fun c => (s.cell c).state != .absent
  let live := (s.sendingCells l).filter fun c => (s.cell c).state != .silent
  let allGood := !live.isEmpty && live.all fun c => (s.cell c).goodNow && !(s.cell c).badNow
  let old := s
  let s := s.forEach present fun s c => s.updCell c fun x => { x with
    goodRounds := if x.goodNow && !x.badNow then x.goodRounds + 1 else 0,
    age := if x.goodNow then x.age else BitVec.ofNat 8 (satAdd 255 x.age.toNat 1), goodNow := false, badNow := false }
  let s := s.updLink l fun k => { k with
    badPrev := k.badCells, badCells := 0, badLive := 0, widthsSent := 0, ffltClean := true, ffltSteady := some k.ffltSeen,
    badRounds := if k.badLive ≥ 2 && !s.clock.suspendLinks && !k.fdHeld then k.badRounds + 1 else 0,
    ffltRounds := if k.ffltSteady == some true && k.ffltClean && allGood && !k.fdHeld then k.ffltRounds + 1 else 0,
    ffltHigh := if k.ffltSteady == some false then k.ffltHigh + 1 else 0,
    ffltMasked := k.ffltMasked && k.ffltSteady != some false }
  let s := s.when k.ffltMasked fun s => State.hardFrom old s
  let k := s.link l
  if k.fault.isSome then
    if (present.all fun c => (s.cell c).goodRounds ≥ 2) && (k.fault != some 4 || k.ffltHigh ≥ 1) then s.clearLink l else s
  else if k.badRounds ≥ 3 then s.declareLink l 2
  else if k.ffltRounds ≥ 2 then s.declareLink l 4
  else s

/-! ### Discovery on a lane and the retry of a phase (R209, R212, R236 to R241) -/

/-- The discovery pattern lasts 3.2 µs, 16 frame times (R236). -/
def patternFrames : Nat := 16
/-- A broadcast frame (Table 8.6). -/
def broadcastFrame (code data : Nat) : DownFrame :=
  { bc := true, seq := false, slot := 0, defer := false, round := false, code := BitVec.ofNat 5 code, data := BitVec.ofNat 24 data }
/-- The IDLE frame. -/
def idleFrame : DownFrame := broadcastFrame 0 0
/-- ENUMERATE on the lane of a phase. -/
def enumerateFrame (p : Nat) : DownFrame := broadcastFrame 1 (p % 8 * 65536)

/-- No override has the lane of phase `p`, so that the pattern may be driven on it (Table 9.8, R482). -/
def State.laneOpen (s : State) (n p : Nat) : Bool :=
  let q := (s.rail n).pol
  s.clock.loopPresent && !q.fastStop && !q.tristate && !q.clamp && !(s.phase p).held

/-- A complete reply: PART 0, 1 and 2 good and LINK_VER 0x01 (R239). It gives the serial and the position straps. -/
def Cell.reply (x : Cell) : Option (BitVec 64 × BitVec 3) :=
  match partsReply x.parts with
  | some (serial, straps, ver) => if ver == 1 then some (serial, straps) else none
  | none => none

/-- What the discovery at run time found at one cell number (R239, R240, Table 8.8). -/
def State.foundCell (s : State) (c : Nat) : State :=
  let x := s.cell c
  match x.reply with
  | some (serial, straps) =>
    if s.expect c == 1 then
      let s := s.updCell c fun x => { x with
        serialNew := x.serialNew || x.serial != serial, serial := serial, straps := straps,
        state := if x.state == .absent then .discovered else x.state }
      if x.state == .quarantined then s.reconfigure c (s.firstWidth c)
      else (s.dropCommands c).configureCell c (s.firstWidth c) 1
    else
      let s := (s.dropCommands c).updCell c fun x => { x with state := .quarantined, serial := serial, straps := straps }
      (s.sendCell 1 c (modeFrame c 3)).record 0x3001 c (serial.toNat / 2 ^ 32) (serial.toNat % 2 ^ 32)
  | none =>
    if x.collided && s.expect c != 1 then s.record 0x3001 c 0xFFFFFFFF 0xFFFFFFFF else s

/-- Expected cells of a phase. -/
def State.expected (s : State) (p : Nat) : List Nat := (phaseCells p).filter fun c => s.expect c == 1
/-- The replies of the cells of a phase are taken afresh, but for those already complete. -/
def State.clearReplies (s : State) (p : Nat) : State :=
  s.forEach (phaseCells p) fun s c => s.updCell c fun x => if x.reply.isSome then x else { x with parts := [none, none, none] }
/-- The next state of the discovery on a lane. -/
def State.setDisc (s : State) (p : Nat) (d : Discovery) : State := s.updPhase p fun x => { x with disc := d }

/-- The rounds of replies are over (R238 to R240): a second ENUMERATE where an expected position gave no complete reply; after it
what was found is configured. -/
def State.judgeReplies (s : State) (p : Nat) (second : Bool) : State :=
  if ((s.expected p).any fun c => (s.cell c).reply.isNone) && !second then s.setDisc p (.pattern 0 true)
  else
    let s := s.forEach ((phaseCells p).filter fun c => s.expect c != 1 || (s.cell c).reply.isSome) State.foundCell
    s.setDisc p .config

/-- One frame time of the discovery on the lane of phase `p`. The pattern starts when the cells' resets are done and nothing waits on the
link, so that ENUMERATE, queued behind what came meanwhile, follows it within 1 µs; one that could not is repeated with its pattern.
Once the cells found are configured the phase retires if an expected one was not found (R212). -/
def State.discoverStep (s : State) (n p : Nat) : State :=
  let l := p / 8
  let k := s.link l
  let start (s : State) (second : Bool) : State :=
    if s.laneOpen n p && k.queue.isEmpty then
      s.updPhase p fun x => { x with lane := .pattern, disc := .pattern k.frames second } else s
  match (s.phase p).disc with
  | .idle | .owed => s
  | .resets =>
    if (phaseCells p).all fun c => (s.cell c).outstanding.isNone || (s.cell c).state == .quarantined then
      start (s.forEach (phaseCells p) fun s c => s.updCell c fun x => { x with parts := [none, none, none], collided := false })
        false
    else s
  | .pattern since second =>
    if (s.phase p).lane != .pattern then start (s.clearReplies p) second
    else if k.frames < since + patternFrames then s
    else
      let s := s.updPhase p fun x => { x with lane := .idle, disc := .enumerate k.frames second }
      s.updLink l fun k => { k with queue := k.queue ++ [(6, enumerateFrame p)] }
  | .enumerate since second =>
    if !(k.queue.contains (6, enumerateFrame p)) then s.setDisc p (.replies (if k.frameTime == 0 then 3 else 4) second)
    else if k.frames < since + 5 then s
    else
      let s := s.updLink l fun k => { k with queue := k.queue.erase (6, enumerateFrame p) }
      s.setDisc p (.pattern 0 second)
  | .replies rounds second => if rounds == 0 then s.judgeReplies p second else s
  | .config =>
    if (phaseCells p).any fun c => (s.cell c).configuring then s
    else if (s.expected p).any fun c => (s.cell c).reply.isNone then s.retire p 5
    else
      let s := s.updPhase p fun x => { x with disc := .idle, retried := false, snsLost := false, retryDue := true }
      s.forEach (phaseCells p) fun s c => s.updCell c fun x => { x with snsLost := false }

/-- The retry of a phase wakes it in probation once its cells are reset and configured, on a rail that is REGULATING or SLEWING
(R209). -/
def State.retryStep (s : State) (n p : Nat) : State :=
  let st := (s.rail n).core.state
  if (s.phase p).retrying && !((phaseCells p).any fun c => (s.cell c).configuring) && (st == .regulating || st == .slewing) then
    (s.updPhase p fun x => { x.wake false with
      probation := true, retried := true, retrying := false, retryDue := false, sound := 0, rounds := 0 }).obeyOverrides n
  else s

/-- One frame time of what the RM does on the phases in RETRY_WAIT; it stands still while the RM restarts or the rails are held
(R213). -/
def State.recoverStep (s : State) (p : Nat) : State :=
  match s.phaseRail p with
  | none => s
  | some n =>
    if (s.phase p).state == .retryWait && s.rm.run == .running && !s.frozenRail n then (s.discoverStep n p).retryStep n p else s

/-- A discovery begins on the lane of phase `p`: RESET_CELL that keeps the slot to its CONFIGURED, RUNNING and SILENT cells (R212). -/
def State.beginDiscovery (s : State) (p : Nat) : State :=
  let s := s.updLink (p / 8) fun k => { k with queue := k.queue.erase (6, enumerateFrame p) }
  let s := s.forEach ((phaseCells p).filter fun c => (s.cell c).healthy || (s.cell c).state == .silent) fun s c =>
    (s.dropCommands c).sendCell 1 c (cellFrame c 8 0 false)
  s.setDisc p .resets

/-- The retry of a phase begins: each expected cell is reset and configured (R209, R238). -/
def State.beginRetry (s : State) (n p : Nat) : State :=
  let s := s.updPhase p fun x => { x with retrying := true, retryDue := false }
  s.forEach ((s.expected p).filter fun c => (s.cell c).state != .absent) fun s c => s.reconfigure c (s.bandW n 0)

/-! ### FRAME_TIME -/

/-- A burst or the mask window that follows it holds the rail's phases until BURST n re-arms (R194, R204, R272). -/
def State.burstHolds (s : State) (n : Nat) : Bool := (s.rail n).pol.burst || (s.rail n).pol.burstFired

/-- A waiting SYNC_APPLY may go only after every SET_WIDTH of the lanes it names has been sent (R230). -/
def State.applyReady (s : State) (l : Nat) (f : DownFrame) : Bool :=
  let waits (g : DownFrame) : Bool := g.code == 2 && bit (f.data.toNat / 65536) (g.slot.toNat / 8)
  (s.link l).queue.all (fun q => !waits q.2) && (linkCells l).all fun c => (s.cell c).queue.all fun q => !waits q.2

/-- A deferred width may go to the cells of phase `p` (R204). -/
def State.widthFree (s : State) (l p : Nat) : Bool :=
  match s.phaseRail p with
  | some n => !s.burstHolds n && !s.linkFault l
  | none => true

/-- Whether a waiting frame may be sent now: RM frames wait for the RM, SET_WIDTH for its share of the round (R203, R204, Table 8.5),
resends and probes for the end of a link fault or of a suspension (R244, R247); what configures a cell of a link with a fault standing
waits with its class. -/
def State.mayGo (s : State) (l : Nat) (q : Nat × DownFrame) : Bool :=
  let rm := s.rm.run == .running && !s.frozen
  if q.1 == 5 then rm && (s.link l).widthsSent < 16 && (!q.2.defer || s.widthFree l (8 * l + q.2.slot.toNat / 8))
  else if q.1 == 6 then rm
  else if q.1 == 2 then !s.linkFault l && !s.clock.suspendLinks
  else if q.1 == 4 then s.applyReady l q.2 else true

/-- A frame goes out on a link: ROUND in frame time 0, its characters in the stream's running disparity (R222, R228). An addressed
command's time is noted for its check (R232). -/
def State.emitFrame (s : State) (l : Nat) (f : DownFrame) : State :=
  let k := s.link l
  let g := { f with round := k.frameTime == 0 }
  let (cs, rd) := frameChars k.rdPos g
  let s := s.updLink l fun k => { k with lastSent := some g, chars := cs, rdPos := rd }
  let c := 64 * l + f.slot.toNat
  if !f.bc && (s.cell c).outstanding == some f then s.updCell c fun x => { x with sentAt := some k.frames } else s

/-- The frame a link sends in this frame time: the first of the lowest class that may go, or IDLE (R228, R229); nothing before P5 has
enabled its driver, or under a static level (R32, R482). -/
def State.sendFrame (s : State) (l : Nat) : State :=
  let k := s.link l
  if k.fdHeld || !s.pins.fdEnabled then s.updLink l fun k => { k with lastSent := none, chars := [] }
  else
    match ([1, 2, 3, 4, 5, 6].findSome? fun cls => k.queue.find? fun q => q.1 == cls && s.mayGo l q) with
    | none => s.emitFrame l idleFrame
    | some q => (s.updLink l fun k => { k with
        queue := k.queue.erase q, widthsSent := if q.1 == 5 then k.widthsSent + 1 else k.widthsSent }).emitFrame l q.2

/-- A round ends for the discoveries that wait for replies. -/
def Phase.replyRound (x : Phase) : Phase :=
  match x.disc with
  | .replies r second => { x with disc := .replies (r - 1) second }
  | _ => x

/-- The next frame time, of the same round or of the next. -/
def Link.nextFrame (last : Bool) (k : Link) : Link :=
  { k with frameTime := if last then 0 else k.frameTime + 1, frames := k.frames + 1 }

/-- The SET_MODE that confirms a wake (R186, R190), in the round after the wake's end. A phase whose state has changed since has had the
SET_MODE of that change. -/
def State.confirmWake (s : State) (p : Nat) : State :=
  let x := s.phase p
  let s := s.updPhase p fun x => { x with modeDue := false }
  if x.state.switching then s.setMode p 0 else if x.state == .parked && x.wakePark then s.setMode p 1 else s

/-- FRAME_TIME (R228): one frame on every FD pair; the 64th ends the round. The suspension of R247 ends after two full
rounds on a running LOOP clock. -/
def execFrameTime (s : State) : Host.Outcome State Fault Refusal :=
  if s.clock.loopPresent then
    let s := s.forEach (List.range 16) State.sendFrame
    let last := (s.link 0).frameTime == 63
    let s := { s with links := s.links.map (Link.nextFrame last) }
    let s := if last then
        let s := ((s.forEach (List.range 16) State.endRound).mapPhases fun _ x => x.replyRound).forEach
          (indices 128 fun p => (s.phase p).modeDue) State.confirmWake
        let r := s.clock.suspendRounds - 1
        s.when s.clock.suspendLinks fun s =>
          { s with clock := { s.clock with suspendRounds := r, suspendLinks := r != 0 } }
      else s
    complete (s.forEach (indices 128 fun p => (s.phase p).state == PhaseState.retryWait) State.recoverStep)
  else complete s

/-! ### UPSTREAM_FRAME -/

/-- Values of a telemetry frame (Table 8.3, R226, R227). -/
def Cell.telemetry (x : Cell) (f : BitVec 56) : Cell :=
  let iavg := signed 12 (upByte f 2 * 16 + upByte f 3 / 16)
  let aux := upByte f 3 % 16 * 256 + upByte f 4
  let fl := upByte f 5
  let x := { x with iavg := iavg, flags := BitVec.ofNat 8 fl, age := 0, skipped := false }
  if bit fl 7 then { x with temp := BitVec.ofNat 10 aux, tinv := bit fl 6, hasTemp := true } else { x with ipeak := aux }

/-- Episodes of OCP and OT at a good frame (R248). -/
def State.episodes (s : State) (c : Nat) : State :=
  let x := s.cell c
  let ocp := x.flags.getLsbD 3
  let ot := x.flags.getLsbD 2
  let s := s.when (ocp && !x.ocpEpisode) fun s => s.record 0x3010 c (s.ocpLimit c) x.ipeak
  let s := s.when (ot && !x.otEpisode) fun s => s.record 0x3011 c 0 (x.temp.toNat * 65536 + x.flags.toNat)
  s.updCell c fun x => { x with ocpEpisode := ocp, otEpisode := ot }

/-- THERMAL_WARN of a healthy cell of an enabled rail, once per crossing (R504). -/
def State.warnCell (s : State) (c : Nat) : State :=
  let x := s.cell c
  match s.cellRail c, x.validTemp with
  | some n, some t =>
    let lim := tempCode (s.cellTwarn n)
    if x.healthy && lim < t && !x.warned then (s.updCell c fun x => { x with warned := true }).record 0x1050 (0x400 + c) t lim
    else if t ≤ lim - 20 then s.updCell c fun x => { x with warned := false } else s
  | _, _ => s

/-- A sense loss is confirmed: the phase becomes BLIND (R210, Table 7.3); a clean reply makes it transient. A phase in probation stays in
it (DESIGN CHOICE, log entry 56). -/
def State.resolveSense (s : State) (c : Nat) (clean : Bool) : State :=
  match (s.cell c).senseCheck, s.cellRail c with
  | some crit, some n =>
    let p := cellPhase c
    let s := s.updCell c fun x => { x with senseCheck := none, rangeRun := 0, frozenMeans := [], snsLost := !clean }
    if clean then (s.faultOff .cellSense c).record 0x2011 p c (2 ^ 31 + crit.toNat)
    else
      let s := (s.faultOn .cellSense c true).setOther n
      let s := s.movePhases n fun s => s.updPhase p fun x => { x with
        snsLost := true, trim := 0,
        state := if x.state == .active || x.state == .decidedShed || x.state == .draining then .blind else x.state }
      s.record 0x2011 p c crit.toNat
  | _, _ => s

/-- What a checked command leaves in the table (Table 8.8). -/
def Cell.checked (x : Cell) (f : DownFrame) : Cell :=
  if f.code == 4 then
    let m := f.data.toNat / 65536 % 4
    { x with mode := BitVec.ofNat 2 m,
             state := if x.state == .configured && m == 0 then .running
                      else if x.state == .running && (m == 1 || m == 2) then .configured else x.state }
  else if f.code == 2 then { x with width := BitVec.ofNat 10 (f.data.toNat / 256) }
  else x

/-- A cell's configuration is complete (Table 8.8): it is CONFIGURED, with CELL_NEW where a discovery at run time found another
serial (R240). -/
def State.configured (s : State) (c : Nat) : State :=
  let x := s.cell c
  let s := s.updCell c fun x => { x with configuring := false, serialNew := false, state := if x.state == .running then .running else .configured }
  s.when x.serialNew fun s => s.record 0x3001 c (x.serial.toNat / 2 ^ 32) (x.serial.toNat % 2 ^ 32)

/-- A command passed its check: its effect, LINK_RETRY_OK for a second attempt, whose P0 tells what failed the first (Table 8.11), and
the next command. The SET_MODE of a configuration completes it, and no older one does, behind which the configuration still waits; a
SILENT cell's probe makes it CONFIGURED and configures it as in step 5 of R238 (Table 8.8). -/
def State.passCheck (s : State) (c : Nat) (f : DownFrame) : State :=
  let a := (s.cell c).attempt
  let s := s.updCell c fun x => x.checked f
  let s := s.when (a != 0) fun s =>
    ((s.updCell c fun x => { x with retriesOk := BitVec.ofNat 8 (satAdd 255 x.retriesOk.toNat 1) }).faultOff .cellFrame c).record
      0x4001 c (b2n (s.cell c).retryFrame) (if a == 2 then 7 else f.code.toNat)
  let x := s.cell c
  let s := s.nextCommand c
  let s := s.when (f.code == 9) fun s => s.conLoopback c true
  if x.state == .silent && f.code == 7 then
    (s.updCell c fun x => { x with state := .configured }).configureCell c (s.firstWidth c) 1
  else if x.configuring && f.code == 4 && !(x.queue.any fun q => q.2.code == 5) then s.configured c
  else s

/-- Frame time of a link, on its own count, in which slot `slot` last lay (R228). -/
def Link.slotTime (k : Link) (slot : Nat) : Int :=
  (k.frames : Int) - k.frameTime + slot - (if slot < k.frameTime then 0 else 64)

/-- The command that this frame checks: outstanding, and its frame time over for 400 ns or more when this one began (R232). -/
def State.checkable (s : State) (c : Nat) : Option DownFrame :=
  match (s.cell c).outstanding, (s.cell c).sentAt with
  | some f, some t => if (t : Int) + 3 ≤ (s.link (cellLink c)).slotTime (cellSlot c) then some f else none
  | _, _ => none

/-- A frame is bad or absent (`frame`), or fails the check of its cell's command (R232): the second attempt, or its failure once it has
been sent. A cell that is not expected to send is judged only on a command it was sent. -/
def State.failCheck (s : State) (c : Nat) (frame : Bool) : State :=
  let x := s.cell c
  if s.linkFault (cellLink c) || s.clock.suspendLinks || (s.link (cellLink c)).fdHeld then s
  else if x.attempt == 0 then
    (if x.wasSent || x.healthy || x.state == .quarantined then s.secondAttempt c frame else s)
  else if (s.checkable c).isNone then s
  else (s.when x.senseCheck.isSome fun s => s.resolveSense c false).silence c

/-- A slot's frame was bad or absent: the round is skipped for the cell and counts against the link (R243, R244). -/
def State.badFrame (s : State) (c : Nat) : State :=
  let live := (s.cell c).state != .silent
  let s := (s.conIdGap c).updCell c fun x => { x with badNow := true, skipped := true }
  let s := s.updLink (cellLink c) fun k => { k with badCells := k.badCells + 1, badLive := k.badLive + b2n live }
  s.failCheck c true

/-- RDATA of a reply (Table 8.3). -/
def upData (f : BitVec 56) : BitVec 24 := BitVec.ofNat 24 (f.toNat / 65536)
/-- The reply that a checked command asks for: its RCODE, for LOOPBACK the pattern inverted (Table 8.7, R484); none for the others. -/
def replyOk (cmd : DownFrame) (f : BitVec 56) : Bool :=
  let wants := cmd.code == 6 || cmd.code == 7 || cmd.code == 9
  !wants || (bit (upByte f 1) 6 && upByte f 2 / 16 == cmd.code.toNat && (cmd.code != 9 || upData f == ~~~cmd.data))
/-- A discovery takes replies on the cell's lane (R238). -/
def State.takesReplies (s : State) (c : Nat) : Bool :=
  match (s.phase (cellPhase c)).disc with
  | .replies _ _ => true
  | _ => false
/-- The part of an ENUMERATE reply is kept while they are taken (R239). -/
def State.keepPart (s : State) (c : Nat) (f : BitVec 56) : State :=
  if s.takesReplies c && bit (upByte f 1) 6 && upByte f 2 / 16 == 1 then
    s.updCell c fun x => { x with parts := x.parts.set (upByte f 2 % 16) (some (upData f)) }
  else s

/-- What a reply gives an entry that a double-bit error has spoiled (Table 1.7): READ_ID its serial and straps, once its three parts are
there, READ_STATUS its mode and width. -/
def Cell.rebuilt (x : Cell) (rcode part : Nat) (d : BitVec 24) : Cell :=
  if rcode == 6 && x.idOwed then
    let parts := x.parts.set part (some d)
    match partsReply parts with
    | some (serial, straps, _) => { x with parts := parts, serial := serial, straps := straps, idOwed := false }
    | none => { x with parts := parts }
  else if rcode == 7 && x.statusOwed then
    { x with mode := BitVec.ofNat 2 (d.toNat / 2 ^ 22), width := BitVec.ofNat 10 (d.toNat / 1024), statusOwed := false }
  else x

/-- A good frame: values, episodes, warnings and currents, then the check of R232. -/
def State.goodFrame (s : State) (c : Nat) (f : BitVec 56) : State :=
  let echo := bit (upByte f 1) 7
  let reply := bit (upByte f 1) 6
  let rcode := upByte f 2 / 16
  let s := (s.updCell c fun x => { x with goodNow := true }).keepPart c f
  let s := if reply then
      s.updCell c fun x => { (x.rebuilt rcode (upByte f 2 % 16) (upData f)) with
        age := 0, skipped := true, flags := if rcode == 7 then BitVec.ofNat 8 (upByte f 5) else x.flags }
    else s.updCell c fun x => x.telemetry f
  let s := s.when (s.clock.suspendLinks || (s.link (cellLink c)).fdHeld) fun s => s.updCell c fun x => { x with skipped := true }
  let s := s.when ((!reply || rcode == 7) && (s.cell c).state != .silent && (s.cell c).flags.getLsbD 0) fun s =>
    s.updLink (cellLink c) fun k => { k with ffltClean := false }
  let s := ((s.episodes c).warnCell c).refreshIrail (cellPhase c)
  let s := s.when (reply && rcode == 6) fun s => s.conPart c (upByte f 2 % 16) (upData f)
  match s.checkable c with
  | none => s
  | some cmd =>
    if echo == cmd.seq && replyOk cmd f then
      let s := if cmd.code == 7 && (s.cell c).senseCheck.isSome then
          s.resolveSense c (!(s.cell c).flags.getLsbD 5) else s
      s.passCheck c cmd
    else s.failCheck c false

/-- What a slot carried, for a cell with an entry or for one that a discovery may find. -/
def State.takeSlot (s : State) (c : Nat) (r : SlotFrame) : State :=
  let s := s.when (r == .bad && s.takesReplies c) fun s => s.updCell c fun x => { x with collided := true }
  if (s.cell c).state == .absent then
    match r with
    | .good f => s.keepPart c f
    | _ => s
  else
    match r with
    | .good f => s.goodFrame c f
    | _ => s.badFrame c

/-- The upstream frames in a link's FIFO reach LOOP (R16). -/
def State.drainLink (s : State) (l : Nat) : State :=
  let k := s.link l
  let s := s.updLink l fun k => { k with rx := [] }
  k.rx.foldl (fun s x => s.takeSlot (64 * l + x.1) (receive x.2)) s

/-- UPSTREAM_FRAME (R16, R222 to R225, R232): the bits received in a slot, all zeros for one that stayed silent. They pass the link's
FIFO of four frames, which waits while no LOOP clock runs; a fifth is lost. Before P5 the receivers are off (R32). -/
def execUpstreamFrame (link : Fin 16) (slot : Fin 64) (bits : List Bool) (s : State) :
    Host.Outcome State Fault Refusal :=
  if !s.pins.fuOn then complete s
  else
    let s := s.updLink link fun k => { k with rx := (k.rx ++ [(slot.val, bits)]).take 4 }
    if s.clock.loopPresent then complete (s.drainLink link) else complete s

/-- LINK_SILENCE_TIMEOUT (R244 cause 3). -/
def execLinkSilenceTimeout (link : Fin 16) (s : State) : Host.Outcome State Fault Refusal :=
  if (linkCells link).any fun c => (s.cell c).healthy then complete (s.declareLink link 3) else complete s

/-- LOOP sees the level of FFLTn_N (Table 1.5). -/
def Link.seeFflt (k : Link) : Link :=
  { k with ffltSeen := k.ffltLow, ffltSteady := if k.ffltSteady == some k.ffltLow then k.ffltSteady else none,
           ffltHigh := if k.ffltLow then 0 else k.ffltHigh }

/-- FFLT_ASSERT (R248): the line's level, through its synchroniser, is a router source; without a LOOP clock it is not seen (R16). -/
def execFfltAssert (link : Fin 16) (low : Bool) (s : State) : Host.Outcome State Fault Refusal :=
  let t := s.updLink link fun k => { k with ffltLow := low }
  complete (if s.clock.loopPresent then State.hardFrom s (t.updLink link Link.seeFflt) else t)

end Sys2Proof.Machine
end

