-- ==== Sys2Proof/Machine/LoopEngine.lean ====
section
/-! DEFINITION. The loop engines: microcode (R157 to R182), the backstop beside them (R131 to R140), and the commands
LE_UPDATE, UPDATE_DEADLINE, LE_REARM and SHADOW_RUN_END. -/

namespace Sys2Proof.Machine

/-! ### Operand codes and bundle validity (Tables 6.1 to 6.8, R170) -/

/-- An operand code that can be read. -/
def operandReadable (c : Nat) : Bool := c ≤ 0x59
/-- An operand code that can be written. -/
def operandWritable (c : Nat) : Bool := c < 0x50 || c == 0x57 || c == 0x5A

/-- The MAC slot obeys R168 and R170. -/
def macSlotOk (w : Nat) : Bool :=
  let mop := field w 28 4
  let x := field w 20 7
  field w 0 15 == 0 && mop ≤ 6 && operandReadable x
    && (mop != 0 || (field w 27 1 == 0 && x == 0))
    && (field w 15 5 == 0 || (1 ≤ mop && mop ≤ 3))

/-- The control slot obeys R169 and R170, for a loaded length. -/
def ctrlSlotOk (len w : Nat) : Bool :=
  let cop := field w 26 6
  let e := field w 25 1
  let dst := field w 18 7
  let s1 := field w 11 7
  let s2 := field w 4 7
  let low := field w 0 4
  if cop == 0 then dst == 0 && s1 == 0 && s2 == 0 && low == 0
  else if cop == 1 then operandWritable dst && operandReadable s1 && s2 == 0 && low == 0
  else if 2 ≤ cop && cop ≤ 5 then operandWritable dst && operandReadable s1 && operandReadable s2 && low == 0
  else if cop == 6 then dst == 0 && operandReadable s1 && operandReadable s2 && low == 0
  else if cop == 7 || cop == 8 then operandWritable dst && operandReadable s1 && field w 9 2 == 0 && low == 0
  else if cop == 9 || cop == 10 then operandWritable dst && field w 16 2 == 0
  else if cop == 11 then operandWritable dst && field w 9 7 == 0 && low == 0
  else if cop == 16 then e == 0 && field w 20 4 ≤ 11 && field w 18 2 == 0 && field w 8 10 == 0 && field w 0 8 < len
  else false

/-- A valid bundle for an LE of a loaded length (R170). -/
def bundleOk (len b : Nat) : Bool := macSlotOk (b / 2 ^ 32) && ctrlSlotOk len (b % 2 ^ 32)

/-! ### One update -/

/-- The inputs latched at the start of an update (R159) and the constants of Table 6.1. -/
structure LeInputs where
  err : Int
  vff : Int
  irail : Int
  setpt : Int
  dref : Int
  flags : Nat
  dmaxq : Int
  vinnom : Int
  prof : Nat
  deriving DecidableEq, Repr

/-- Registers of an update in progress. `macTo`: the accumulator that the preceding bundle's MAC slot wrote; `hit`: a single-bit
error has been corrected at a fetch or a coefficient read. -/
structure LeRegs where
  z : List Word
  g : List Word
  acc0 : Int
  acc1 : Int
  nFlag : Bool
  zFlag : Bool
  sat : Bool
  duty : Word
  status : Word
  macTo : Option Bool
  hit : Bool
  deriving DecidableEq, Repr

/-- How an update ends: with END (its cycle count C and address), at the deadline, or on an invalid bundle or an uncorrectable word. -/
inductive LeEnd where
  | done (cycles addr : Nat) (r : LeRegs)
  | late (addr : Nat) (r : LeRegs)
  | invalid (addr : Nat) (r : LeRegs)
  deriving DecidableEq, Repr

/-- The registers as the update leaves them. -/
def LeEnd.regs : LeEnd → LeRegs
  | .done _ _ r | .late _ r | .invalid _ r => r

/-- A 32-bit word of an integer. -/
def wordOf (x : Int) : Word := BitVec.ofInt 32 x
/-- Saturation to 32 bits, and whether it happened (R166, R167). -/
def sat32 (x : Int) : Int × Bool :=
  (clampInt (-2147483648) 2147483647 x, decide (x < -2147483648) || decide (2147483647 < x))
/-- Saturation to 64 bits, and whether it happened (R165). -/
def sat64 (x : Int) : Int × Bool :=
  (clampInt (-9223372036854775808) 9223372036854775807 x,
    decide (x < -9223372036854775808) || decide (9223372036854775807 < x))

/-- An operand as a signed word (Table 6.1). -/
def LeRegs.read (r : LeRegs) (i : LeInputs) (c : Nat) : Int :=
  if c < 0x40 then (r.z.getD c 0).toInt
  else if c < 0x50 then (r.g.getD (c - 0x40) 0).toInt
  else if c == 0x50 then (wordOf i.err).toInt
  else if c == 0x51 then (wordOf i.vff).toInt
  else if c == 0x52 then (wordOf i.irail).toInt
  else if c == 0x53 then (wordOf i.setpt).toInt
  else if c == 0x54 then (wordOf i.dref).toInt
  else if c == 0x55 then i.flags
  else if c == 0x57 then r.duty.toInt
  else if c == 0x58 then (wordOf i.dmaxq).toInt
  else if c == 0x59 then (wordOf i.vinnom).toInt
  else 0

/-- Write an operand; of STATUS only bits [31:16] are kept (R181). -/
def LeRegs.write (r : LeRegs) (c : Nat) (v : Int) : LeRegs :=
  if c < 0x40 then { r with z := r.z.set c (wordOf v) }
  else if c < 0x50 then { r with g := r.g.set (c - 0x40) (wordOf v) }
  else if c == 0x57 then { r with duty := wordOf v }
  else if c == 0x5A then { r with status := wordOf v &&& 0xFFFF0000 }
  else r

/-- An accumulator. -/
def LeRegs.acc (r : LeRegs) (a : Bool) : Int := if a then r.acc1 else r.acc0

/-- The word that LDH extends: its low half is kept. -/
def LeRegs.readDst (r : LeRegs) (i : LeInputs) (c : Nat) : Int := if c == 0x5A then r.status.toInt else r.read i c

/-- The value of a branch condition (Table 6.8). -/
def LeRegs.cond (r : LeRegs) (i : LeInputs) (c : Nat) : Bool :=
  match c with
  | 0 => true
  | 1 => bit i.flags 0
  | 2 => bit i.flags 1
  | 3 => bit i.flags 2
  | 4 => bit i.flags 3
  | 5 => bit i.flags 4
  | 6 => bit i.flags 5
  | 7 => bit i.flags 0 || bit i.flags 1 || bit i.flags 2
  | 8 => bit i.flags 6
  | 9 => r.nFlag
  | 10 => r.zFlag
  | _ => r.sat

/-- The MAC slot: the new accumulators (R164, R165), from the registers at issue. -/
def LeRegs.mac (r : LeRegs) (le : LoopEngine) (i : LeInputs) (w : Nat) : LeRegs :=
  let mop := field w 28 4
  let a := field w 27 1 == 1
  let x := r.read i (field w 20 7)
  let (c, sh) := le.coef.getD (32 * i.prof + field w 15 5) (0, 0)
  let prod := (x * c.toInt) / 2 ^ sh.toNat
  let old := r.acc a
  let v := match mop with
    | 1 => prod | 2 => old + prod | 3 => old - prod | 4 => x | 5 => old + x | _ => old - x
  let (v, s) := sat64 v
  if mop == 0 then { r with macTo := none }
  else if a then { r with acc1 := v, sat := r.sat || s, macTo := some true }
  else { r with acc0 := v, sat := r.sat || s, macTo := some false }

/-- The control slot other than a branch: its effect on `out`, with operands read from `r` at issue (R166, R167). -/
def LeRegs.ctrl (r : LeRegs) (i : LeInputs) (w : Nat) (out : LeRegs) : LeRegs :=
  let dst := field w 18 7
  let s1 := r.read i (field w 11 7)
  let s2 := r.read i (field w 4 7)
  let sh := field w 4 5
  let arith (v : Int) (o : LeRegs) : LeRegs :=
    let (y, s) := sat32 v
    { o.write dst y with nFlag := decide (y < 0), zFlag := decide (y = 0), sat := o.sat || s }
  match field w 26 6 with
  | 1 => out.write dst s1
  | 2 => arith (s1 + s2) out
  | 3 => arith (s1 - s2) out
  | 4 => out.write dst (min s1 s2)
  | 5 => out.write dst (max s1 s2)
  | 6 => { out with nFlag := decide (s1 < s2), zFlag := decide (s1 = s2) }
  | 7 => out.write dst (s1 / 2 ^ sh)
  | 8 => let (y, s) := sat32 (s1 * 2 ^ sh); { out.write dst y with sat := out.sat || s }
  | 9 => out.write dst (signed 16 w)
  | 10 => out.write dst ((field w 0 16 * 65536 + toBits 16 (r.readDst i dst) : Nat) : Int)
  | 11 =>
    let (y, s) := sat32 (r.acc (field w 17 1 == 1) / 2 ^ sh)
    let o := out.write dst y
    { (if field w 16 1 == 1 then o.write 0x57 y else o) with sat := out.sat || s }
  | _ => out

/-- The address after `a`; what follows the last store address is unstated (log entry 7). -/
def nextAddr (a : Nat) : Nat := if a < 255 then a + 1 else (Config.freeFun 3 []).toNat % 256

/-- The upset at a store address: none, or whether it is uncorrectable (R178). -/
def upsetAt (up : Option Upset) (a : Nat) : Option Bool :=
  match up with
  | some u => if u.addr == a then some u.double else none
  | none => none

/-- Issue bundles from address `a` at cycle `cyc`, up to the deadline (R171 to R175). Each bundle takes one cycle at
least, so `fuel` cycles bound the run. Every fetch is checked, one that then stalls to the deadline and one at or beyond LEN too; a
fetch or a coefficient read that meets an uncorrectable word ends the run with the word's address (R178). At
the bubble of a taken branch no bundle is due; for a deadline there the branch's target is given (DESIGN CHOICE, log entry 56). -/
def leIssue (le : LoopEngine) (i : LeInputs) (up : Option Upset) (limit : Nat) : Nat → Nat → Nat → LeRegs → LeEnd
  | 0, _, a, r => .late a r
  | fuel + 1, cyc, a, r =>
    match le.code[a]? with
    | none => if cyc < limit then .invalid a { r with hit := r.hit || upsetAt up a == some false } else .late a r
    | some b =>
      let w := b.toNat
      let lo := w % 2 ^ 32
      let cop := field lo 26 6
      let stall := if cop == 11 && r.macTo == some (field lo 17 1 == 1) then 1 else 0
      let mop := field w 60 4
      let k := 256 + 32 * i.prof + field w 47 5
      let kup := if 1 ≤ mop && mop ≤ 3 then upsetAt up k else none
      let r := { r with hit := r.hit || (decide (cyc < limit) && upsetAt up a == some false) }
      if limit ≤ cyc then .late a r
      else if upsetAt up a == some true then .invalid a r
      else if limit ≤ cyc + stall then .late a r
      else if !bundleOk le.code.length w then .invalid a r
      else if kup == some true then .invalid k r
      else
        let r := { r with hit := r.hit || kup == some false }
        let out := r.mac le i (w / 2 ^ 32)
        if cop == 16 then
          if r.cond i (field lo 20 4) == (field lo 24 1 == 1) then leIssue le i up limit fuel (cyc + 2) (field lo 0 8) out
          else leIssue le i up limit fuel (cyc + 1) (nextAddr a) out
        else
          let out := r.ctrl i lo out
          if field lo 25 1 == 1 then .done (cyc + stall + 1) a out
          else leIssue le i up limit fuel (cyc + stall + 1) (nextAddr a) out

/-- The registers at the start of an update: g, the accumulators, N, Z and SAT cleared (R158, R167). -/
def LoopEngine.startRegs (le : LoopEngine) : LeRegs :=
  { z := le.z, g := List.replicate 16 0, acc0 := 0, acc1 := 0, nFlag := false, zFlag := false, sat := false,
    duty := le.duty, status := le.status, macTo := none, hit := false }

/-- One update of the microcode, with the upset its reads may meet and its deadline in LOOP cycles. -/
def leRun (le : LoopEngine) (i : LeInputs) (up : Option Upset) (limit : Nat) : LeEnd := leIssue le i up limit limit 0 0 le.startRegs

/-! ### The backstop (R135) -/

/-- Its proportional term, predicted integrator, derivative term and output for an error. -/
structure BackstopTerms where
  p : Int
  iPred : Int
  dd : Int
  u : Int
  deriving DecidableEq, Repr

/-- A term of R135 or R136 in Q1.31. What a term beyond that format becomes is not stated: a free value of the format
(log entry 7). -/
def q31 (k x : Int) : Int :=
  if decide (-2 ^ 31 ≤ x) && decide (x < 2 ^ 31) then x else signed 32 (toBits 32 (Config.freeFun 13 [k, x]))

/-- The backstop's terms at an update with error `e`. -/
def State.backstopTerms (s : State) (n : Nat) (e : Int) : BackstopTerms :=
  let b := (s.rail n).bs
  let (kp, kps) := s.bsKp n
  let (ki, kis) := s.bsKi n
  let (kd, kds) := s.bsKd n
  let p := q31 0 (kp * e / 2 ^ kps)
  let iPred := q31 1 (b.i + ki * e / 2 ^ kis)
  let dd := q31 2 (kd * (e - b.ePrev) / 2 ^ kds)
  { p := p, iPred := iPred, dd := dd, u := q31 3 (p + iPred + dd) }

/-! ### Inputs and the duty -/

/-- Sum, over the switching phases, of the duty each is given from applied duty `d`, over their count (R122, R133). -/
def State.meanDuty (s : State) (n : Nat) (d : Int) : Int :=
  let l := s.phasesIn n fun p => p.state.switching
  ratio ((l.map fun p => s.clampDuty n (quot (d * (65536 + (s.phase p).trim)) 65536)).sum) l.length

/-- The duties of a list (newest first), each times the ticks that it was in force between `start` and `stop` (R122). -/
def dutySum (start : Nat) : Nat → List (Nat × Int) → Int
  | _, [] => 0
  | stop, (t, d) :: l => d * ((stop - max t start : Nat) : Int) + if t ≤ start then 0 else dutySum start t l
/-- The duties still in force after `start`. -/
def keepDuties (start : Nat) : List (Nat × Int) → List (Nat × Int)
  | [] => []
  | (t, d) :: l => (t, d) :: if t ≤ start then [] else keepDuties start l
/-- D_AVG of rail `n` times the 800 ticks of the preceding 1 µs (R122). -/
def State.dutyOver (s : State) (n : Nat) : Int :=
  dutySum (s.clock.tick - 800) s.clock.tick (s.rail n).model.duties

/-- A clamped duty is applied: both stages are done, and the plausibility unit sees the mean over the phases. -/
def State.applyDuty (s : State) (n : Nat) (clamped : Int) : State :=
  let d := s.applyFf n clamped
  let s := s.updBs n fun b => { b with clamped := clamped, applied := d }
  s.updModel n fun m => { m with
    duties := (s.clock.tick, s.meanDuty n d) :: keepDuties (s.clock.tick - 800) m.duties }

/-- The update's error in signal format: the mean of the chosen samples, reversed (R121). -/
def State.updateErr (s : State) (n : Nat) : Int :=
  let x := (s.rail n).sense
  ratio (-(x.sum * 4096)) x.nSamples

/-- The profile an update uses (R176). -/
def State.updateProfile (s : State) (n : Nat) : Nat :=
  let r := s.rail n
  if (r.core.state == .softStart || r.core.state == .softStop) && r.le.profDef.getLsbD 0 then 0
  else s.profileFor n (s.govEntry n)

/-- The FLAGS word of an update (Table 6.2). The previous update's PROF is that of the LE's own last update, 0 before the first: an
update that the backstop drove without the LE does not move it (DESIGN CHOICE, log entry 56). -/
def State.updateFlags (s : State) (n prof : Nat) : Nat :=
  let r := s.rail n
  256 * prof + 64 * b2n (r.core.slewed != (r.core.target : Int) * 512) + 32 * b2n r.sense.switched
    + 16 * b2n (prof != r.le.lastProf.toNat) + 8 * b2n r.sense.edgeCode + 4 * b2n r.le.setBurstPre
    + 2 * b2n r.le.setTracked + b2n r.le.setFirst

/-- DREF (Table 6.3); in a shadow run after its first update, the LE's own previous duty (R163). -/
def State.updateDref (s : State) (n : Nat) : Int :=
  let r := s.rail n
  if (r.le.setFirst && r.le.startPre) || r.le.setBurstPre then r.bs.preload
  else if r.le.mode == 2 && !r.le.setFirst then s.clampDuty n r.le.duty.toInt
  else r.bs.clamped

/-- The inputs of an update (Table 5.2). -/
def State.updateInputs (s : State) (n : Nat) : LeInputs :=
  let prof := s.updateProfile n
  { err := s.updateErr n, vff := s.input.vff, irail := (s.rail n).pol.irail, setpt := (s.rail n).core.slewed * 16,
    dref := s.updateDref n, flags := s.updateFlags n prof, dmaxq := s.dmax n * 2 ^ 15,
    vinnom := quot (s.vinNom n * 2 ^ 24) 1000, prof := prof }

/-! ### Faulty loop engines (R138 to R140) -/

/-- The re-arm is refused: the rail stays on the backstop until power-on reset (R140). -/
def State.refuseLe (s : State) (n : Nat) : State :=
  let s := s.updLe n fun l => { l with mode := 4, rearmDue := false, envRun := 0, satRun := 0, unfinished := none }
  let s := s.updBs n fun b => { b with cause := 7 }
  ((s.faultOn .loopEngine n true).abortChar n).record 0x5002 n 7 0

/-- The LE is declared faulty: BS_CAUSE, LE_BACKSTOP and a re-arm due. A criterion met in the shadow run, or at a second
declaration, refuses the re-arm, and the one record then carries P0 = 7 (R138 to R140, log entry 10). -/
def State.declareLe (s : State) (n cause p1 : Nat) : State :=
  let le := (s.rail n).le
  if le.mode == 3 || le.mode == 4 then s
  else
    let s := s.updLe n fun l => { l with declared := l.declared + 1 }
    if le.mode == 2 || le.declared ≥ 1 then s.refuseLe n
    else
      let s := s.updLe n fun l => { l with mode := 3, rearmDue := true, envRun := 0, satRun := 0, unfinished := none }
      let s := s.updBs n fun b => { b with cause := BitVec.ofNat 3 cause }
      ((s.faultOn .loopEngine n false).abortChar n).record 0x5002 n cause p1

/-- Why the backstop drives whatever the LE does (Table 5.3): held rail, backup clock, faulty LE or shadow run. -/
def State.backstopDrives (s : State) (n : Nat) : Bool :=
  let r := s.rail n
  r.core.state == .apprenticeHold || r.core.appStop || s.clock.onBackup || r.le.mode == 2 || r.le.mode == 3 || r.le.mode == 4

/-- BS_CAUSE of an update that the backstop drives (Table 5.6): the cause of a declared fault stands, else 5 or 6. -/
def State.driveCause (s : State) (n : Nat) (old : BitVec 3) : BitVec 3 :=
  let r := s.rail n
  if r.le.mode == 2 || r.le.mode == 3 || r.le.mode == 4 then old
  else if r.core.state == .apprenticeHold || r.core.appStop then 5 else if s.clock.onBackup then 6 else old

/-- The backstop drives the update: its integrator follows its own prediction, and the next LE update carries TRACKED. -/
def State.driveBackstop (s : State) (n : Nat) (t : BackstopTerms) (e : Int) : State :=
  let s := s.updBs n fun b => { b with i := t.iPred, ePrev := e, u := t.u, drove := true, cause := s.driveCause n b.cause }
  let s := s.updLe n fun l => { l with setTracked := l.setTracked || l.mode != 2 }
  s.applyDuty n (s.clampDuty n t.u)

/-- The LE's duty drives the update, and the backstop tracks it (R136). -/
def State.driveLe (s : State) (n : Nat) (t : BackstopTerms) (e duty : Int) : State :=
  let d := s.clampDuty n duty
  let s := s.updBs n fun b => { b with i := q31 4 (d - t.p - t.dd), ePrev := e, u := t.u, drove := false, cause := 0 }
  s.applyDuty n d

/-- The samples and flags of an update are used up. -/
def State.consumeUpdate (s : State) (n : Nat) : State :=
  let s := s.updSense n fun x => { x with sum := 0, nSamples := 0, edgeCode := false, switched := false }
  s.updLe n fun l => { l with setFirst := false, setTracked := false, setBurstPre := false, startPre := false }

/-- Add an update to the overrun history of the last 1,024 (R139). -/
def LoopEngine.pushOverrun (l : LoopEngine) (o : Bool) : LoopEngine := { l with overruns := (o :: l.overruns).take 1024 }
/-- OVERRUNS of Table 5.6, before its saturation. -/
def LoopEngine.overrunCount (l : LoopEngine) : Nat := l.overruns.countP id

/-- Runs of the criteria (a) and (b) of R138 after an update with inputs `i`, backstop output `u` and duty `d`. -/
def State.judgeRuns (s : State) (n : Nat) (i : LeInputs) (u d : Int) : State :=
  if field i.flags 0 3 != 0 || bit i.flags 4 then s
  else
    let a := decide ((d - u).natAbs > s.bsEnv n * 2 ^ 15)
    let b := (decide (d ≤ 0) || decide (d ≥ s.dmax n * 2 ^ 15)) && decide (i.err.natAbs * 100 ≤ 2 ^ 24)
    s.updLe n fun l => { l with envRun := if a then l.envRun + 1 else 0, satRun := if b then l.satRun + 1 else 0 }

/-- An update that reached END: outputs latched (R174), criteria judged (R138), the duty applied or the backstop's in its
place. Where criteria (a) and (b) complete on one update the record is that of (a) (DESIGN CHOICE, log entry 56). -/
def State.finishUpdate (s : State) (n : Nat) (i : LeInputs) (t : BackstopTerms) (c addr : Nat) (r : LeRegs) : State :=
  let s := s.updLe n fun l => { (l.pushOverrun false) with
    z := r.z, duty := r.duty, status := r.status, satSeen := l.satSeen || r.sat, prof := BitVec.ofNat 4 i.prof,
    lastProf := BitVec.ofNat 4 i.prof, lastCyc := c, maxCyc := min 1023 (max l.maxCyc c), lastEnd := BitVec.ofNat 8 addr,
    mode := if l.mode == 0 then 1 else l.mode, shadowCount := if l.mode == 2 then l.shadowCount + 1 else l.shadowCount }
  let d := r.duty.toInt
  let s := s.judgeRuns n i t.u d
  let l := (s.rail n).le
  let s := if l.envRun ≥ 8 then s.declareLe n 2 (toBits 32 (quot ((d - t.u).natAbs : Int) (2 ^ 15)))
    else if l.satRun ≥ 8 then s.declareLe n 3 (toBits 32 (quot d (2 ^ 15))) else s
  if s.backstopDrives n then s.driveBackstop n t i.err else s.driveLe n t i.err d

/-- The rail is in a state in which loops update, with its lanes not taken by a burst and its start not waiting (R151,
R157, R162). -/
def State.updates (s : State) (n : Nat) : Bool :=
  let r := s.rail n
  s.clock.loopPresent && !r.pol.burst && !r.core.waitStart && !r.core.waitWake
    && (r.core.state == .softStart || r.core.state == .regulating || r.core.state == .slewing || r.core.state == .softStop
        || r.core.state == .apprenticeHold || (r.core.state == .discharge && r.core.appStop))

/-- The LE itself runs (R157); in its shadow run it computes too. During a warm chip restart without a hold it runs on its emptied
store, which is a store check failure at address 0 (DESIGN CHOICE, log entry 56). -/
def State.leRuns (s : State) (n : Nat) : Bool :=
  let r := s.rail n
  !(r.core.state == .apprenticeHold || r.core.appStop || s.clock.onBackup || r.le.mode == 3 || r.le.mode == 4)

/-- What an update that did not reach END leaves: its z writes, its profile, and SAT if it was set (R175, R181). -/
def State.leaveUpdate (s : State) (n : Nat) (i : LeInputs) (r : LeRegs) : State :=
  (s.consumeUpdate n).updLe n fun l => { l with
    z := r.z, lastProf := BitVec.ofNat 4 i.prof, prof := BitVec.ofNat 4 i.prof, satSeen := l.satSeen || r.sat }

/-- LE_UPDATE (R131, R136, R157, R174). The first update after a burst pre-loads the backstop too (R273). An update that the backstop
drives while the LE does not run is none of the last 1,024 of R139 (DESIGN CHOICE, log entry 56). `upset`: a memory upset in the LE's
stores that its reads may meet: a single-bit error is corrected and counted, once for the update however often it is read (DESIGN CHOICE, log entry 56), a double-bit
error is a store check failure (R178). -/
def execLeUpdate (n : Fin 16) (upset : Option Upset) (s : State) : Host.Outcome State Fault Refusal :=
  if s.updates n && s.railEn n then
    let i := s.updateInputs n
    let s := s.when (s.rail n).le.setBurstPre fun s => s.updBs n fun b => { b with i := b.preload, ePrev := i.err }
    let t := s.backstopTerms n i.err
    let le := (s.rail n).le
    if s.leRuns n then
      let out := leRun le i upset (25 * s.updDiv n)
      let s := match upset with
        | some u => s.when out.regs.hit fun s => s.countSingle (if u.addr < 256 then .leCode else .leCoef)
        | none => s
      match out with
      | .done c a r => complete ((s.consumeUpdate n).finishUpdate n i t c a r)
      | .late a r => complete ((s.leaveUpdate n i r).updLe n fun l => { l with
          unfinished := some (BitVec.ofNat 9 a), lateErr := i.err })
      | .invalid a r => complete (((s.leaveUpdate n i r).declareLe n 4 a).driveBackstop n t i.err)
    else complete ((s.consumeUpdate n).driveBackstop n t i.err)
  else complete s

/-- UPDATE_DEADLINE (R139, R175): an update without its END is abandoned, and the backstop drives it. -/
def execUpdateDeadline (n : Fin 16) (s : State) : Host.Outcome State Fault Refusal :=
  match (s.rail n).le.unfinished with
  | none => complete s
  | some a =>
    let e := (s.rail n).le.lateErr
    let t := s.backstopTerms n e
    let s := s.updLe n fun l => { (l.pushOverrun true) with
      unfinished := none,
      shadowCount := if l.mode == 2 then l.shadowCount + 1 else l.shadowCount }
    let k := (s.rail n).le.overrunCount
    let s := s.record 0x5001 n a.toNat (min 255 k)
    let s := s.when (k ≥ 16) fun s => s.declareLe n 1 k
    complete (s.driveBackstop n t e)

/-- Load an LE's stores from the configuration shadow and clear z0 to z63 (R140, R158, R179, Table 6.10). -/
def State.loadLe (s : State) (n : Nat) : State :=
  let b := 0x100 + 0x2000 * n
  let len := s.cfgField 6 b 0 9
  let code := (List.range len).map fun a => BitVec.ofNat 64 (s.cfg 6 (b + 0x40 + 8 * a) 8)
  let coef := (List.range 512).map fun k =>
    (BitVec.ofNat 32 (s.cfgWord 6 (b + 0x840 + 8 * k)), BitVec.ofNat 5 (s.cfgWord 6 (b + 0x844 + 8 * k)))
  s.updLe n fun l => { l with code := code, coef := coef, profDef := BitVec.ofNat 16 (s.cfgField 6 b 16 16),
                              z := List.replicate 64 0 }

/-- SHADOW_RUN_END (R140 step 4): a run of 1,024 updates that met no criterion is still in progress, and the LE drives the
rail from the next update, which carries TRACKED (R163); one that met a criterion was refused there. -/
def execShadowRunEnd (n : Fin 16) (s : State) : Host.Outcome State Fault Refusal :=
  let le := (s.rail n).le
  if le.mode == 2 && 1024 ≤ le.shadowCount then
    complete (((s.updLe n fun l => { l with mode := 1, setTracked := true, setFirst := false }).updBs n
      fun b => { b with cause := 0 }).faultOff .loopEngine n)
  else complete s

end Sys2Proof.Machine
end

