-- ==== Sys2Proof/Machine/Palette.lean ====
section
/-! DEFINITION. Palette ports, the slew limiter and settling as commands (spec/04). -/

namespace Sys2Proof.Machine

/-- The swatch that SSELp gives: a bit that changes inside the window takes either level (R88, log entry 8). -/
def State.sselLatch (s : State) (before after : BitVec 6) : BitVec 6 × State :=
  if before == after then (after, s)
  else
    let (f, s) := s.freeNat
    ((before &&& after) ||| ((before ^^^ after) &&& BitVec.ofNat 6 f), s)

/-- The rail has a settle to be earned again: the judgement of R104 starts anew (R90). -/
def State.unsettle (s : State) (n : Nat) : State := s.updCore n fun c => { c with settleDone := false, slide := false }

/-- Wake every DEEP_PARKED phase of a rail to PARKED (Table 4.5, ANTIC 1). -/
def State.wakeDeep (s : State) (n : Nat) : State :=
  s.movePhases n fun s => s.mapPhases fun p x =>
    if s.phaseRail p == some n && x.state == .deepParked && !s.linkFault (p / 8) then x.wake true else x

/-- A hardware add brings N up to `f`. A shed accepted in the same LOOP cycle is discarded: its phases are as they were before it
(R107, R194). -/
def State.hardwareAdd (s : State) (n f : Nat) : State :=
  if f ≤ s.nCount n then s
  else
    let back := if (s.rail n).pol.shedAt == some s.clock.tick then (s.rail n).pol.shedNow else []
    let old := s.spacing n ++ back
    let t := s.mapPhases fun p x => if back.contains p && x.state == .decidedShed then { x with state := x.liveState } else x
    let t := if back.isEmpty then s else t.respace n old
    (t.updPol n fun q => { q with addAt := some s.clock.tick, shedNow := [] }).addTo n f

/-- What ANTIC does at the latch edge of a rail that is SOFT_START, REGULATING or SLEWING (Table 4.5, R103, R107, R108). -/
def State.anticipate (s : State) (n : Nat) : State :=
  let a := s.antic n
  if a == 1 then s.wakeDeep n
  else if a ≥ 2 then
    (s.updCore n fun c => { c with prebias := a == 3 && s.rank n == 4 }).hardwareAdd n (s.effFloor n)
  else s

/-- A rail of the group after an accepted edge (R89, R103, R111, R115). In a hold whose Apprentice has stopped, the edge acts as
outside a hold (R348). -/
def State.edgeRail (s : State) (n : Nat) : State :=
  let st := (s.rail n).core.state
  let s := (s.updCore n fun c => { c with prebias := false }).abortChar n
  let s :=
    if st == .apprenticeHold then
      let s := s.when s.appStopped fun s => s.anticipate n
      if s.paletteGoverns n then s.updCore n fun c => { c with base := (s.sourceTarget n).1, baseClass := entSlew (s.entryOf n) } else s
    else if st.live then s.anticipate n else s
  (s.retarget n).unsettle n

/-- Swap the active bank of a port (R98). -/
def Port.swap (p : Port) : Port := { p with actBank := !p.actBank, pendingSwap := false }

/-! ### Swaps without an edge, and what the RM applies (R9, R10, R98, R99) -/

/-- Some port has a swap pending. -/
def State.anyPending (s : State) : Bool := s.ports.any (·.pendingSwap)
/-- The ports whose group names a rail. -/
def State.boundPorts (s : State) : List Nat := (List.range 8).filter fun p => !(s.groupRails p).isEmpty
/-- A port swaps without a latch edge (R98, R99): every rail of its group is retargeted, pre-bias holds end, and no anticipation
starts, which the rule says of a forced swap only (DESIGN CHOICE, log entry 56). SRDYp goes low at a forced swap; at another one
only where the change of target breaks a condition of R104 (R90, R105). Either aborts a characterisation run, as an accepted edge does
(R143; DESIGN CHOICE, log entry 56). -/
def State.swapPort (s : State) (p : Nat) (forced : Bool) : State :=
  let s := s.updPort p Port.swap
  s.forEach (s.groupRails p) fun s n =>
    let s := (s.updCore n fun c => { c with prebias := false }).abortChar n
    let s := s.when ((s.rail n).core.state == .apprenticeHold && s.paletteGoverns n) fun s =>
      s.updCore n fun c => { c with base := entSetpt (s.entryOf n), baseClass := entSlew (s.entryOf n) }
    (s.retarget n).when forced fun s => s.unsettle n
/-- A forced commit as the RM carries it out: the ports that have a swap pending swap, or every bound port when none has (R99). -/
def State.forceSwaps (s : State) : State :=
  let l := if s.anyPending then (List.range 8).filter fun p => (s.port p).pendingSwap else s.boundPorts
  s.forEach l fun s p => s.swapPort p true
/-- A host source of a rail has changed: the characterisation run aborts, and the target moves at HOST_SLEW_CLASS
(R101, R111, R143). -/
def State.hostMoved (s : State) (n : Nat) : State := (s.abortChar n).retargetWith n true false
/-- The RM applies the host registers of a rail (R9): regulation acts on them from here, and a change of the source, or of the set-point
that a source in force gives, moves the target. -/
def State.applyHost (s : State) (n : Nat) (h : RailHost) : State :=
  let t := s.updHosted n fun x => { h with newEnable := x.newEnable || h.newEnable }
  if t.margin n == s.margin n && t.paletteGoverns n == s.paletteGoverns n && t.sourceTarget n == s.sourceTarget n
      && (t.rail n).hosted.voutCommand == (s.rail n).hosted.voutCommand then t
  else t.hostMoved n

/-- SLAT_EDGE (R87 to R90, R98, R103, R107, R108): an accepted edge swaps a pending bank, latches the swatch, and
retargets the group's rails; every other rising edge counts in IGNORED. Without a LOOP clock no edge is seen (Table 1.1). -/
def execSlatEdge (p : Fin 8) (before after : BitVec 6) (lowNs highNs : Nat) (s : State) :
    Host.Outcome State Fault Refusal :=
  if s.boot.held || !s.clock.loopPresent then complete s
  else if s.primed && 5 ≤ lowNs && 5 ≤ highNs && !(s.groupRails p).isEmpty then
    let (sw, s) := s.sselLatch before after
    let s := s.updPort p fun x =>
      let x := if x.pendingSwap then x.swap else x
      { x with swatch := sw, boot := false, edges := x.edges + 1 }
    let s := s.forEach (s.groupRails p) State.edgeRail
    complete (State.hardFrom s (s.triggerCodes [0xD0 + p.val]))
  else complete (s.updPort p fun x => { x with ignored := BitVec.ofNat 4 (satAdd 15 x.ignored.toNat 1) })

/-- PREBIAS_HOLD_END (R105, R108, R115): the target returns to SETPT at the entry's class, and the settle stands on a rail that had
reached SETPT + PREBIAS. -/
def execPrebiasHoldEnd (n : Fin 16) (s : State) : Host.Outcome State Fault Refusal :=
  let c := (s.rail n).core
  if c.prebias then
    let s := s.updCore n fun c => { c with prebias := false }
    let s := if c.state == .apprenticeHold && s.paletteGoverns n then
        s.updCore n fun c => { c with base := entSetpt (s.entryOf n) } else s
    complete (s.retargetWith n false (c.slewed == (c.target : Int) * 512))
  else complete s

/-- One 10 ns step of RATE, in 2^-20 V (R101): RATE × 1 µV. -/
def State.slewStepSize (s : State) (cls : Nat) : Int := quot ((s.slewRate cls * 2 ^ 20 : Nat) : Int) 1000000

/-- One step toward a goal, never past it. -/
def stepToward (x goal step : Int) : Int := if x < goal then min goal (x + step) else max goal (x - step)

/-- The first entry into REGULATING after PRIMED is first light, and a characterisation run is due (R141). -/
def State.firstLit (s : State) (n : Nat) : State :=
  if (s.rail n).core.state == .regulating && !(s.rail n).model.firstLight then
    s.updModel n fun m => { m with firstLight := true, charDue := true, charAborts := 0 }
  else s

/-- The rail reaches its target: SOFT_START and SLEWING end in REGULATING (Table 5.4), the first time with first light (R141),
and a slide ends with the settle it had (R105). -/
def State.atTarget (s : State) (n : Nat) : State :=
  let c := (s.rail n).core
  if (c.state == .softStart || c.state == .slewing) && c.slewed == (c.target : Int) * 512 then
    (s.updCore n fun c => { c with state := .regulating, slide := false }).firstLit n
  else s

/-- The slew limiter of one rail takes a 10 ns step (R101, R102, R149, R150). -/
def State.slewRail (s : State) (n : Nat) : State :=
  let c := (s.rail n).core
  let goal : Int := c.target * 512
  if c.state == .softStart && c.ramping then
    let x := stepToward c.slewed goal (s.slewStepSize (s.ssClass n))
    (s.updCore n fun c => { c with
      slewed := x, lowSideIdle := c.lowSideIdle && decide ((x - c.v0) * 100 < 2 ^ 20) }).atTarget n
  else if c.state == .regulating || c.state == .slewing || c.state == .apprenticeHold && c.ramping then
    let x := stepToward c.slewed goal (s.slewStepSize c.govClass)
    (s.updCore n fun c => { c with slewed := x, lowSideIdle := c.lowSideIdle && decide ((x - c.v0) * 100 < 2 ^ 20) }).atTarget n
  else if c.state == .softStop then
    let stop : Int := s.stopLevel n * 512
    let s := s.updCore n fun c => { c with slewed := min c.slewed (stepToward c.slewed stop (s.slewStepSize (s.stopClass n))) }
    if (s.rail n).core.slewed ≤ stop then s.enterDischarge n else s
  else s

/-- SLEW_STEP (R101). The limiters stand still while no LOOP clock runs. -/
def execSlewStep (s : State) : Host.Outcome State Fault Refusal :=
  if s.clock.loopPresent then complete (s.forEach (List.range 16) State.slewRail) else complete s

/-- SETTLE_ELAPSED (R104): the chosen error has stayed within ±4 set-point LSB for SETTLE of the governing class. -/
def execSettleElapsed (n : Fin 16) (s : State) : Host.Outcome State Fault Refusal :=
  if (s.rail n).core.state.live then complete (s.updCore n fun c => { c with settleDone := true }) else complete s

/-- THROT_RELEASE (R112): the minimum hold is over, and the ball is released if no condition remains. -/
def execThrotRelease (p : Fin 8) (s : State) : Host.Outcome State Fault Refusal :=
  complete ((s.updPort p fun x => { x with throtHold := false }).releaseThrot p)

end Sys2Proof.Machine
end

