-- ==== Sys2Proof/Machine/Crossing.lean ====
section
/-! DEFINITION. The way from the HM to the RM and from the RM to LOOP (R9, R10, R16): the requests that the HM posts, the commands
that the RM writes into the CORE-to-LOOP FIFO, and what LOOP does with each. -/

namespace Sys2Proof.Machine

/-- The stores of an LE that awaits its re-arm are reloaded and its shadow run starts (R140 steps 1 to 3); one of a held rail goes
on waiting. -/
def State.rearmLe (s : State) (n : Nat) : State :=
  let r := s.rail n
  if r.le.mode == 3 && r.le.rearmDue && r.core.state != .apprenticeHold then
    (s.loadLe n).updLe n fun l => { l with
      mode := 2, rearmDue := false, shadowCount := 0, overruns := [], envRun := 0, satRun := 0,
      unfinished := none, setFirst := true, setTracked := true, startPre := false }
  else s

/-- A rail held OFF for want of phases is PRIMED once the count is the minimum again (R74). -/
def State.freeRail (s : State) (n : Nat) : State :=
  if s.boot.heldOff.getLsbD n && s.minActive n ≤ (s.phasesIn n fun x => x.state != .retired).length then
    let s := { s with boot := { s.boot with heldOff := s.boot.heldOff &&& ~~~(BitVec.ofNat 16 (2 ^ n)) } }
    (s.updCore n fun c => { c with state := .primed }).seedStop n
  else s
/-- The restore of a phase (R212): RETRY_WAIT with the retry due, its lane idle, and the discovery begun with its cells' resets. Its
lasting fault stands until probation passes (R310). -/
def State.restorePhase (s : State) (p : Nat) : State :=
  match s.phaseRail p with
  | none => s
  | some n =>
    let s := s.movePhases n fun s => s.updPhase p fun x => { x with
      state := .retryWait, lane := .idle, retryDue := true, retrying := false, restored := true, rounds := 0, sound := 0 }
    (s.beginDiscovery p).freeRail n

/-- A shed command leaves the RM's orders. -/
def State.dropOrder (s : State) (n p : Nat) : State := s.updPol n fun q => { q with shedOrders := q.shedOrders.erase p }
/-- A shed command reaches the phase scheduler (R194): accepted while the phase is ACTIVE or BLIND, no burst holds, N stays at F or above,
no hardware add acts in the same LOOP cycle, the rail is in neither SOFT_START nor SOFT_STOP (R191), and the rail is not held (a takeover
drops the RM's commands, R343) or frozen (R348). -/
def State.shedArrives (s : State) (p : Nat) : State :=
  match s.phaseRail p with
  | none => s
  | some n =>
    let q := (s.rail n).pol
    let st := (s.rail n).core.state
    if (s.phase p).state.spaced && !s.burstHolds n && s.effFloor n + 1 ≤ s.nCount n && !s.frozenRail n
        && st != .softStart && st != .softStop && q.addAt != some s.clock.tick then
      let s := s.movePhases n fun s => s.updPhase p fun x => { x with state := .decidedShed }
      let s := s.updPol n fun q => { q with
        shedNow := (if q.shedAt == some s.clock.tick then q.shedNow else []) ++ [p], shedAt := some s.clock.tick }
      s.dropOrder n p
    else s.dropOrder n p
/-- The RM's command to park a phase deeply reaches LOOP (R196, R302). -/
def State.deepParkArrives (s : State) (p : Nat) : State :=
  match s.phaseRail p with
  | none => s
  | some n =>
    if (s.phase p).state == .parked && s.deepParkTime n != 0 && s.antic n == 0 && !s.frozenRail n && !s.linkFault (p / 8)
        && !(s.rail n).prot.yieldWarm then
      (s.updPhase p fun x => { x with state := .deepParked }).setMode p 2
    else s

/-- LOOP carries out one command of the RM. -/
def State.applyPost (s : State) : RmPost → State
  | .host n h => s.applyHost n h
  | .force => s.forceSwaps
  | .restore p => s.restorePhase p
  | .add n f => s.addTo n f
  | .shed p => s.shedArrives p
  | .deepPark p => s.deepParkArrives p
  | .trim p t => s.updPhase p fun x => { x with trim := t }
  | .width c f => s.sendCell 5 c f
  | .apply l f => s.queueFrame l 4 f
  | .rearm n => s.rearmLe n
/-- The HM posted it; the others are the RM's own commands. -/
def RmPost.fromHm : RmPost → Bool
  | .host _ _ | .force | .restore _ => true
  | .add _ _ | .shed _ | .deepPark _ | .trim _ _ | .width _ _ | .apply _ _ | .rearm _ => false
/-- What waits moves on: a running RM takes the posts, 16 of them fit the FIFO, and LOOP carries them out while it has a clock
(R9, R10, R16). -/
def State.carryPosts (s : State) : State :=
  let all := if s.rm.run == .running && s.clock.corePresent then s.cross.toLoop ++ s.cross.posts else s.cross.toLoop
  let rest := if s.rm.run == .running && s.clock.corePresent then [] else s.cross.posts
  if s.clock.loopPresent then all.foldl State.applyPost { s with cross := { posts := rest, toLoop := [] } }
  else { s with cross := { posts := all.drop 16 ++ rest, toLoop := all.take 16 } }
/-- The HM posts a checked request to the RM, or the RM adds a command of its own. -/
def State.sendRm (s : State) (p : RmPost) : State := { s with cross := { s.cross with posts := s.cross.posts ++ [p] } }.carryPosts
/-- The RM applies again what the HM still holds of a rail (R115, R345), through the FIFO (R10). -/
def State.reapplyHost (s : State) (n : Nat) : State := s.sendRm (.host n (s.rail n).host)
/-- The same for every enabled rail. -/
def State.reapplyHosts (s : State) : State := s.forEach s.enabledRails State.reapplyHost

/-- LE_REARM (R140 steps 1 to 3): a running RM commands it through the FIFO; a due re-arm waits while the Apprentice holds the rail. -/
def execLeRearm (n : Fin 16) (s : State) : Host.Outcome State Fault Refusal :=
  let r := s.rail n
  if r.le.mode == 3 && r.le.rearmDue && r.core.state != .apprenticeHold && s.rm.run == .running then
    complete (s.sendRm (.rearm n.val))
  else complete s

end Sys2Proof.Machine
end

