-- ==== Sys2Proof/Machine/Phases.lean ====
section
/-! DEFINITION. Phases as commands: sheds, retries, wakes, period starts, parking, synchronisation (spec/07). -/

namespace Sys2Proof.Machine

/-- SHED_COMMAND (R10, R191, R194): the RM's command, which reaches the scheduler through the CORE-to-LOOP FIFO. -/
def execShedCommand (p : Fin 128) (s : State) : Host.Outcome State Fault Refusal :=
  if s.rm.run == .running then complete (s.sendRm (.shed p)) else complete s

/-- The retry of a phase that opened with a cell in over-temperature shutdown must wait (R303). -/
def State.tooHot (s : State) (p : Nat) : Bool :=
  match s.phaseRail p with
  | none => false
  | some n => (List.range 8).any fun j => (s.phase p).overTemp.getLsbD j &&
      match (s.cell (8 * p + j)).validTemp with
      | some t => decide (tempCode (s.cellTwarn n) - 20 < t)
      | none => false

/-- RETRY_DUE (R209, R212, R213, R303): the cells are reset and configured, and the wake in probation follows from FRAME_TIME. After a
PHASE_RESTORE that a takeover interrupted the discovery comes first; while one runs, the retry waits for it. -/
def execRetryDue (p : Fin 128) (s : State) : Host.Outcome State Fault Refusal :=
  let x := s.phase p
  match s.phaseRail p with
  | none => complete s
  | some n =>
    let st := (s.rail n).core.state
    if x.state == .retryWait && !x.retrying && (st == .regulating || st == .slewing) && !s.frozenRail n && s.rm.run == .running
        && !s.tooHot p then
      match x.disc with
      | .idle => complete (s.beginRetry n p)
      | .owed => complete (s.beginDiscovery p)
      | _ => complete s
    else complete s

/-- WAKE_END (R184, R190): the phase becomes ACTIVE, BLIND or PARKED, its cells are to be confirmed in their mode in the next
round (R186), and a start that waited may begin. -/
def execWakeEnd (p : Fin 128) (s : State) : Host.Outcome State Fault Refusal :=
  match s.phaseRail p with
  | none => complete s
  | some n =>
    let x := s.phase p
    if x.state == .waking then
      let s := s.movePhases n fun s => s.updPhase p fun x =>
        if x.wakePark then { x with state := .parked, lane := .idle }
        else { x.activate with lane := if x.fired then .high else .idle }
      complete ((s.updPhase p fun x => { x with modeDue := true }).tryRamp n)
    else complete s

/-- No override or wait keeps the lanes of rail `n` from DPWM (Table 9.8, R149, R151); a burst, under which the counters run on (R272),
is looked at apart. -/
def State.lanesFree (s : State) (n : Nat) : Bool :=
  let r := s.rail n
  s.clock.loopPresent && !r.pol.fastStop && !r.pol.tristate && !r.pol.clamp
    && !r.core.waitStart && !r.core.waitWake && (r.core.state.live || r.core.state == .softStop)

/-- One re-spacing step, the shorter way round the period (R199). -/
def State.offsetStep (s : State) (n : Nat) (x : Phase) : Phase :=
  if x.stepsLeft = 0 then x
  else
    let t : Int := s.onGrid 51200000 (s.fsw n)
    let d := (x.targetOff - x.offset) % t
    let d := if 2 * d < t then d else if t < 2 * d then d - t else if Config.roundsUp d t.toNat then d else d - t
    if x.stepsLeft = 1 then { x with offset := x.targetOff, stepsLeft := 0 }
    else { x with offset := (x.offset + s.onGrid d x.stepsLeft) % t, stepsLeft := x.stepsLeft - 1 }

/-- The high interval of a phase's next period, in steps of 19.5 ps: the duty of the counter's present period, on the
interpolator's grid (R12, R133, R200); below 5 ns the lane stays low (R185), or idle where low-side intervals are replaced (R149). -/
def State.takeDuty (s : State) (n : Nat) (x : Phase) : Phase :=
  let d := s.clampDuty n (quot ((s.rail n).bs.applied * (65536 + x.trim)) 65536)
  let h := (s.onGrid (d * 51200000 * (10000 + (s.rail n).pol.periodCorr)) (s.fsw n * 2 ^ 31 * 10000)).toNat
  if h < 256 then { x with highTime := 0, lane := if (s.rail n).core.lowSideIdle then .idle else .low, fallAt := none }
  else { x with highTime := h, lane := .pwm, fallAt := some (s.clock.tick + ceilQuot h 64) }

/-- A draining phase at its period start (R195): TRIM −25 % per period, and TRISTATED after four periods. -/
def Phase.drainStep (x : Phase) : Phase :=
  match x.state with
  | .decidedShed => { x with state := .draining, drain := 1, trim := -16384 }
  | .draining =>
    if x.drain < 4 then { x with drain := x.drain + 1, trim := -(16384 * (x.drain + 1 : Nat)) }
    else { x with state := .tristated, lane := .idle, drain := 0, trim := 0, highTime := 0 }
  | _ => x

/-- A phase's own period starts (R133, R195, R199). Its rising edge opens the EDGE windows (Table 9.3); the falling edge does so
when its time has come. Under a burst the period runs its course unseen, the lane held high (R272). -/
def State.phasePeriod (s : State) (n p : Nat) : State :=
  if !(s.phase p).state.switching then s
  else
    let s := s.movePhases n fun s => s.updPhase p Phase.drainStep
    let s := s.updPol n fun q => { q with stepped := q.stepped || (s.phase p).stepsLeft != 0 }
    let s := s.updPhase p fun x => { s.offsetStep n x with fresh := false }
    if (s.phase p).state.switching && s.lanesFree n && !(s.phase p).held then
      if (s.rail n).pol.burst then s.updPhase p fun x => { s.takeDuty n x with lane := x.lane }
      else
        let s := s.updPhase p fun x => s.takeDuty n x
        if (s.phase p).lane == .pwm then s.openWindow n .edge else s
    else s

/-- The lanes whose high interval ends now fall, and their edges open the EDGE windows (Table 9.3). -/
def State.laneFalls (s : State) : State :=
  s.forEach (indices 128 fun p => match (s.phase p).fallAt with
      | some t => decide (t ≤ s.clock.tick)
      | none => false) fun s p =>
    let was := (s.phase p).lane
    let s := s.updPhase p fun x => { x with fallAt := none }
    match s.phaseRail p with
    | some n => s.when (was == .pwm) fun s => s.openWindow n .edge
    | none => s

/-- The rail counter's period start: period-cleared latches (R256), timer triggers (Table 9.11), and the rising edge of SYNC_OUT
(R200). -/
def State.railPeriod (s : State) (n : Nat) : State :=
  let s := s.updPol n fun q => { q with periodAt := some s.clock.tick }
  let s := s.mapComps fun m c =>
    if m < 64 && s.mrail m == n && s.classP m && !bit (s.cmpWord m) 28 then s.clearLatch c else c
  State.hardFrom s (s.triggerCodes [0xC0 + n])

/-- PERIOD_START (R198, R199): of the rail's counter, or of one of its phases. -/
def execPeriodStart (n : Fin 16) (p : Option (Fin 128)) (s : State) : Host.Outcome State Fault Refusal :=
  if s.clock.loopPresent then
    match p with
    | none => complete (s.railPeriod n)
    | some p => if s.phaseRail p == some n.val then complete (s.phasePeriod n p) else complete s
  else complete s

/-- TRISTATE_IDLE_ELAPSED (R190): 10 µs idle, then PARKED with SET_MODE PARK. -/
def execTristateIdleElapsed (p : Fin 128) (s : State) : Host.Outcome State Fault Refusal :=
  if (s.phase p).state == .tristated then complete ((s.updPhase p fun x => { x with state := .parked }).setMode p 1)
  else complete s

/-- DEEP_PARK_TIME_ELAPSED (R10, R196, R302): the RM commands the new phase state. -/
def execDeepParkTimeElapsed (p : Fin 128) (s : State) : Host.Outcome State Fault Refusal :=
  if s.rm.run == .running then complete (s.sendRm (.deepPark p)) else complete s

/-- One SYNC_IN edge at a rail: its period within ±5 % of T pulls the counter's period by 1 % at most (R200). -/
def State.syncEdge (periodNs : Nat) (s : State) (n : Nat) : State :=
  let off : Int := (s.fsw n * periodNs : Nat) - (1000000 : Int)
  if off.natAbs * 20 ≤ s.fsw n * periodNs then
    s.updPol n fun p =>
      let want := quot off 100
      let corr := clampInt (p.periodCorr - 100) (p.periodCorr + 100) want
      { p with syncEdges := p.syncEdges + 1, periodCorr := corr, syncLocked := corr == want }
  else s

/-- SYNC_IN_EDGE (R48, R200): on MFP0 or MFP1 (`ball`), `periodNs` after the edge before. Before PRIMED the balls keep their reset
state. -/
def execSyncInEdge (ball : Bool) (periodNs : Nat) (s : State) : Host.Outcome State Fault Refusal :=
  if s.clock.loopPresent && s.primed then
    complete (s.forEach (s.enabledRails.filter fun n => s.syncSrc n == (if ball then 2 else 1)) (State.syncEdge periodNs))
  else complete s

/-- SYNC_EDGES_MISSING (R200): the rail runs free at FSW. -/
def execSyncEdgesMissing (n : Fin 16) (s : State) : Host.Outcome State Fault Refusal :=
  complete (s.updPol n fun p => { p with syncLocked := false, syncEdges := 0, periodCorr := 0 })

/-- INTERPOLATOR_RECALIBRATION (R494): between edges; no lane moves. -/
def execInterpolatorRecalibration (s : State) : Host.Outcome State Fault Refusal :=
  complete { s with clock := { s.clock with interpCal := s.clock.interpCal + 1 } }

end Sys2Proof.Machine
end

