-- ==== Sys2Proof/Machine/Protection.lean ====
section
/-! DEFINITION. Protection as commands (spec/10): the evaluation at the end of each telemetry round, with the phase faults
and the phase policy of spec/07, the hiccup, the under-voltage and power-good times, and the input monitor. -/

namespace Sys2Proof.Machine

/-! ### Step 1: phase faults (R205 to R211) -/

/-- A phase that R205 tests. -/
def Phase.tested (x : Phase) : Bool := x.state.switching && x.state != .blind
/-- The sibling mean per cell of R205 as a fraction, in 10 mA: over the rail's other tested phases with a current of their own, a cell
without one counted at its phase's mean (R242). -/
def State.siblingCells (s : State) (n p : Nat) : Int × Nat :=
  let l := ((s.phasesIn n Phase.tested).filter (· != p)).filter fun q => (s.phaseFine q).isSome
  ((l.filterMap s.phaseFine).sum, 840 * (l.flatMap s.loadCells).length)
/-- Below 10 % of the sibling mean. -/
def belowTenth (iavg : Int) (mean : Int × Nat) : Bool := decide (iavg * 10 * mean.2 < mean.1)

/-- The run of R205 for the cells of one phase; a skipped round neither counts nor breaks (R243). -/
def State.openRuns (s : State) (n p : Nat) : State :=
  let m := s.siblingCells n p
  s.forEach ((phaseCells p).filter fun c => s.reports c && !(s.cell c).skipped) fun s c =>
    s.updCell c fun x => { x with lowRun := if belowTenth x.iavg m then x.lowRun + 1 else 0 }

/-- IRAIL in whole amperes and the present capacity, as PHASE_OPEN carries them. -/
def State.openP1 (s : State) (n : Nat) : Nat := toBits 16 (quot (s.rail n).pol.irail 65536) * 65536 + s.capacityA n

/-- A phase is declared open (R206, R207, R209): lane idle, PHASE_OPEN; RETIRED in probation or after its retry, else
RETRY_WAIT. -/
def State.openPhase (s : State) (n p : Nat) : State :=
  let x := s.phase p
  let mask := maskOf 8 fun j => decide (0 < (s.cell (8 * p + j)).lowRun)
  let hot := maskOf 8 fun j => (s.cell (8 * p + j)).flags.getLsbD 2
  let s := s.forEach (phaseCells p) fun s c => s.updCell c fun x => { x with lowRun := 0 }
  let s := s.idleLane n p
  let s := s.movePhases n fun s => s.updPhase p fun x => { x with
    state := .retryWait, probation := false, retryDue := false, fired := false, drain := 0,
    overTemp := BitVec.ofNat 8 hot }
  let s := ((s.phaseEvent n).faultOn .phase p false)
  let s := s.record 0x2010 p (n * 256 + mask) (s.openP1 n)
  if x.probation then s.retire p 3 else if x.retried then s.retire p 2 else s.setMode p 1

/-- One probation round of a phase (R209): it counts while the rail carries 5 %, a cell of the phase reports and none that does is
skipped; the third consecutive sound one ends probation, and the phase is back in service (R310). -/
def State.probationRound (s : State) (p : Nat) : State :=
  let x := s.phase p
  let cells := (phaseCells p).filter s.reports
  if x.probation && x.tested && !cells.isEmpty && cells.all fun c => !(s.cell c).skipped then
    let sound := cells.all fun c => (s.cell c).lowRun == 0
    let s := s.updPhase p fun x => { x with rounds := x.rounds + 1, sound := if sound then x.sound + 1 else 0 }
    let x := s.phase p
    if x.sound ≥ 3 then
      ((s.updPhase p fun x => { x with probation := false, restored := false }).faultMended .phase p).record 0x2013 p (b2n x.restored) x.rounds
    else s
  else s

/-- Open detection on a rail, only at 5 % of present capacity or more; below it, and for a phase that is not tested, every run
restarts. -/
def State.openRound (s : State) (n : Nat) : State :=
  let l := s.phasesIn n Phase.tested
  let s := s.forEach ((s.phasesIn n fun x => !x.tested).flatMap phaseCells) fun s c => s.updCell c fun x => { x with lowRun := 0 }
  if s.atLeastPct n 5 then
    let s := s.forEach l fun s p => s.openRuns n p
    s.forEach l fun s p =>
      if (phaseCells p).any fun c => (s.cell c).lowRun ≥ 3 then s.openPhase n p else s.probationRound p
  else s.forEach (l.flatMap phaseCells) fun s c => s.updCell c fun x => { x with lowRun := 0 }

/-- The means of R210 differ by 10 % or more over seven rounds. -/
def meansMoved (l : List (Int × Nat)) : Bool :=
  match l.head?, (l.drop 6).head? with
  | some (a, ka), some (b, kb) =>
    let d := a * kb - b * ka
    0 < ka && 0 < kb && d != 0 && decide (10 * d.natAbs ≥ b.natAbs * ka)
  | _, _ => false

/-- The criterion of R210 that a cell meets. -/
def State.senseCriterion (s : State) (c : Nat) : Option (BitVec 2) :=
  let x := s.cell c
  if x.flags.getLsbD 5 then some 0 else if x.rangeRun ≥ 3 then some 1 else if meansMoved x.frozenMeans then some 2 else none

/-- Runs of R210 for one cell of a switching phase, and READ_STATUS once a criterion is met. The run of equal codes holds the code,
so that a skipped round with another one does not break it (R243). The link engine sends that READ_STATUS as a probe, so that it waits
neither for the RM nor for the end of a hold (R214, Table 1.8; DEDUCED, log entry 32). -/
def State.senseRound (n p : Nat) (s : State) (c : Nat) : State :=
  let x := s.cell c
  let known := x.senseCheck.isSome || x.snsLost
  if !s.reports c || x.skipped || known then s
  else
    let r : Int := s.rating c
    let out := decide (x.iavg < -2 * r) || decide (20 * r < x.iavg)
    let m := s.siblingCells n p
    let s := s.updCell c fun x => { x with
      rangeRun := if out then x.rangeRun + 1 else 0, frozenCode := x.iavg,
      frozenMeans := (m :: (if x.frozenCode == x.iavg then x.frozenMeans else [])).take 7 }
    match s.senseCriterion c with
    | none => s
    | some k => ((s.updCell c fun x => { x with senseCheck := some k }).sendCell 2 c (statusFrame c)).faultOn .cellSense c false

/-- R210 on a rail; the runs of a phase that does not switch restart. -/
def State.senseRounds (s : State) (n : Nat) : State :=
  let s := s.forEach ((s.phasesIn n fun x => !x.state.switching).flatMap phaseCells) fun s c =>
    s.updCell c fun x => { x with rangeRun := 0, frozenMeans := [] }
  s.forEach (s.phasesIn n fun x => x.state.switching) fun s p => s.forEach (phaseCells p) (State.senseRound n p)

/-- R211: while the rail is heavy a BLIND phase stays only with a valid temperature of its sense-lost cell below
CELL_TWARN. -/
def State.blindRound (s : State) (n : Nat) : State :=
  if s.heavy n then
    s.forEach (s.phasesIn n fun x => x.state == .blind) fun s p =>
      let lost := (phaseCells p).filter fun c => (s.cell c).snsLost
      let ok := lost.all fun c => match (s.cell c).validTemp with
        | some t => decide (t < tempCode (s.cellTwarn n))
        | none => false
      if ok then s else s.retire p 4
  else s

/-- The trim of a phase in which no cell reports is held at 0 (R242). -/
def State.holdTrims (s : State) (n : Nat) : State :=
  s.forEach (s.phasesIn n fun x => x.state.switching && x.state != .draining) fun s p =>
    if (s.phaseOwn p).isSome then s else s.updPhase p fun x => { x with trim := 0 }

/-- Step 1 on a rail: its current joins the averages, and the phase faults are judged. -/
def State.faultRound (s : State) (n : Nat) : State :=
  let s := (s.holdTrims n).updPol n fun q => { q with iRounds := (q.irail :: q.iRounds).take 8 }
  ((s.openRound n).senseRounds n).blindRound n

/-! ### Step 2: load and throttle conditions (R285, R286) -/

/-- L in 0.1 % (Table 10.8). -/
def State.loadOf (s : State) (n : Nat) : Nat :=
  (clampInt 0 65535 (ratio ((s.rail n).pol.irail * 10000) (s.capacity n * 65536))).toNat
/-- L ≥ `pct` per cent. -/
def State.loadAtLeast (s : State) (n pct : Nat) : Bool := decide (0 < (s.rail n).pol.irail) && s.atLeastPct n pct
/-- L > 100 %. -/
def State.overloaded (s : State) (n : Nat) : Bool := exceedsPct (s.rail n).pol.irail 100 (s.capacity n)
/-- L ≤ 95 %. -/
def State.relieved (s : State) (n : Nat) : Bool := !exceedsPct (s.rail n).pol.irail 95 (s.capacity n)

/-- Valid temperatures of the rail's healthy cells. -/
def State.cellTemps (s : State) (n : Nat) : List Nat :=
  (s.railPhases n).flatMap fun p => (s.okCells p).filterMap fun c => (s.cell c).validTemp
/-- The die temperature: the hotter of the two sensors, in 0.0625 °C from −64 °C. -/
def State.dieCode (s : State) : Nat := max (s.input.dies.getD 0 0) (s.input.dies.getD 1 0)
/-- Die code of a temperature in °C. -/
def dieLevel (c : Nat) : Nat := 16 * (c + 64)

/-- Throttle causes 0 to 4 of Table 10.2, with their hysteresis; IIN and YIELD follow stage and yields. -/
def State.throtCauses (s : State) (n : Nat) : BitVec 7 :=
  let old := (s.rail n).prot.throt
  let temps := s.cellTemps n
  let tw := tempCode (s.cellTwarn n)
  let load := s.loadAtLeast n (s.throtPct n) || (old.getLsbD 0 && s.loadAtLeast n (s.throtPct n - 5))
  let beyond := s.overloaded n || (old.getLsbD 1 && (s.rail n).prot.yieldOver)
  let cell := temps.any (fun t => decide (tw < t)) || (old.getLsbD 2 && temps.any fun t => decide (tw - 20 < t))
  let tsns := (List.range 4).any fun t => s.input.tsnsBeyond.getLsbD t && bit (s.tsnsRails t) n
  let die := decide (dieLevel s.dieWarn ≤ s.dieCode) || (old.getLsbD 4 && decide (dieLevel s.dieWarn - 80 ≤ s.dieCode))
  BitVec.ofNat 7 (b2n load + 2 * b2n beyond + 4 * b2n cell + 8 * b2n tsns + 16 * b2n die
    + 32 * b2n (s.input.stage != 0) + 64 * b2n (s.yieldL3 n))

/-- The throttle causes of a rail take new values: status bits at a set, and THROTTLE_ASSERTED when the condition of a rail
without a port begins (R112, R286, Table 16.3). -/
def State.setCauses (s : State) (n : Nat) (new : BitVec 7) : State :=
  let old := (s.rail n).prot.throt
  let s := s.updProt n fun p => { p with throt := new }
  let s := s.when (new &&& ~~~old &&& 3 != 0) fun s => s.setIout n 0x20
  let s := s.when (new &&& ~~~old &&& 0x1C != 0) fun s => s.setTemp n 0x40
  s.when (old == 0 && new != 0 && (s.portOf n).isNone) fun s => s.record 0x1030 0xFF n (s.causeBits n)

/-- Step 2 on a rail. -/
def State.loadRound (s : State) (n : Nat) : State :=
  let s := s.updProt n fun p => { p with load := s.loadOf n }
  s.setCauses n (s.throtCauses n)

/-! ### Step 3: slow over-current (R288, R289) -/

/-- Evaluations in the mean of R288. -/
def State.ocpCount (s : State) (n : Nat) : Nat := ceilQuot (10 * s.ocpWinUs n) 128
/-- The threshold of R288, in 0.1 A × 100. -/
def State.ocpLevel (s : State) (n : Nat) : Nat := min (s.ocpAbs n * 100) (s.ocpPct n * s.capacity n)

/-- A slow over-current trip: hiccup, or latched when it is the second within RETRY_WIN (R289). -/
def State.ocpTrips (s : State) (n : Nat) (sum : Int) : State :=
  let again := s.within (s.rail n).prot.ocpTrip (msTicks (s.retryWin n))
  let p1 := toBits 16 (quot sum (s.ocpCount n * 65536)) * 65536 + toBits 16 (quot (s.ocpLevel n) 1000)
  let s := s.updProt n fun p => { p with
    ocpWin := [], ocpTrip := if again then p.ocpTrip else some s.clock.tick, ocpSource := true }
  let s := (s.setIout n 0x80).latchRail n (if again then .ocpSecond else .ocpFirst)
  (s.when again fun s => s.faultOn .slowOc n true).record 0x1020 n (b2n again) p1

/-- Step 3 on a rail that its lanes can feed. -/
def State.ocpRound (s : State) (n : Nat) : State :=
  let st := (s.rail n).core.state
  if st.running || st == .apprenticeHold then
    let k := s.ocpCount n
    let l := ((s.rail n).pol.irail :: (s.rail n).prot.ocpWin).take k
    let s := s.updProt n fun p => { p with ocpWin := l }
    if l.length ≥ k && decide (l.sum * 1000 > ((k * 65536 * s.ocpLevel n : Nat) : Int)) then s.ocpTrips n l.sum else s
  else s

/-! ### Step 4: yields (R281 to R284, R287, R298 to R302) -/

/-- The YIELD and IIN bits follow at once. -/
def State.followYield (s : State) (n : Nat) : State :=
  let keep := (s.rail n).prot.throt &&& 0x1F
  s.setCauses n (keep ||| BitVec.ofNat 7 (32 * b2n (s.input.stage != 0) + 64 * b2n (s.yieldL3 n)))

/-- The overload yield of a rail: its grace, its begin and its end (R281, R284, R287). -/
def State.overloadRound (s : State) (n : Nat) : State :=
  let p := (s.rail n).prot
  let now := s.clock.tick
  if !(s.rail n).core.state.live then s
  else if p.yieldOver then
    if s.relieved n then
      let since := p.clearSince.getD now
      if s.since since ≥ usTicks (s.yieldHold n) then
        let s := (s.updProt n fun p => { p with yieldOver := false, clearSince := none, grace := none }).yieldRecord n 3 1 true
        (s.retarget n).followYield n
      else s.updProt n fun p => { p with clearSince := some since }
    else s.updProt n fun p => { p with clearSince := none }
  else if s.overloaded n then
    let start := p.grace.getD now
    if s.since start ≥ usTicks (s.throtGrace n) then
      let s := (s.updProt n fun p => { p with yieldOver := true, grace := none, clearSince := none }).yieldRecord n 3 1 false
      (s.retarget n).followYield n
    else s.updProt n fun p => { p with grace := some start }
  else s.updProt n fun p => { p with grace := none }

/-- The cell-warm yield at L5, taken by the RM (R302). -/
def State.warmRound (s : State) (n : Nat) : State :=
  let p := (s.rail n).prot
  let rm := s.rm.run == .running && s.clock.corePresent
  if p.throt.getLsbD 2 then
    if (s.rail n).core.state.live && !p.yieldWarm && rm then
      (s.updProt n fun p => { p with yieldWarm := true }).yieldRecord n 5 3 false
    else s
  else if p.yieldWarm then (s.updProt n fun p => { p with yieldWarm := false }).yieldRecord n 5 3 true
  else s

/-- An accumulator as it reads now: in the LOOP cycle of a block's completion, with the earlier result (R328). -/
def State.asRead (s : State) (x : Accum) : Accum :=
  if s.sameCycle x.doneAt then { x with result := x.prior.getD 0, valid := x.prior.isSome } else x
/-- The accumulator that protection claims on IIN (R298). -/
def State.capAccum (s : State) : Option Nat :=
  (List.range 64).find? fun a => s.accCh a == 2 && s.owner 4 a == 0x22
/-- IIN_AVG as a code of 31.25 µV. -/
def State.iinCode (s : State) : Int :=
  match s.capAccum with
  | some a => (s.asRead (s.telem.accs.getD a Accum.reset)).result
  | none => 0
/-- IIN_AVG exceeds `pct` per cent of IIN_CAP: code × 31.25 µV / RSHUNT against 0.1 A units. -/
def State.iinAbove (s : State) (pct : Nat) : Bool :=
  decide (s.iinCode * 312500 > ((pct * s.iinCap * s.rshunt * 10 : Nat) : Int))
/-- Rails on which graces and yields act (R284). -/
def State.liveRails (s : State) : List Nat := s.enabledRails.filter fun n => (s.rail n).core.state.live
/-- The classes in the order in which they yield: C, B, A. -/
def yieldOrder : List Nat := [2, 1, 0]
/-- Live rails of a class. -/
def State.classRails (s : State) (c : Nat) : List Nat := s.liveRails.filter fun n => s.railClass n == c
/-- y of a class. -/
def State.classY (s : State) (c : Nat) : Nat := ((s.classRails c).map fun n => (s.rail n).prot.y).foldl max 0

/-- Every rail of a class takes the same y (Table 10.3); its first step begins the yield, with its record. -/
def State.setClassY (s : State) (c y : Nat) : State :=
  s.forEach (s.classRails c) fun s n =>
    let begins := !(s.rail n).prot.yieldCap
    let s := s.updProt n fun p => { p with y := y, yieldCap := true }
    ((s.when begins fun s => s.yieldRecord n 3 2 false).retarget n).followYield n

/-- The stage changes, and the IIN cause with it. -/
def State.setStage (s : State) (k : BitVec 2) : State :=
  let s := { s with input := { s.input with stage := k, capFull := none, capGrace := none } }
  s.forEach s.enabledRails State.followYield

/-- Effective floors above N_T yield at L4 while the cap is at stage 1 or later (R110, R282, Table 10.3); not in a hold (R309). -/
def State.floorYields (s : State) : State :=
  if s.input.stage == 0 then s else
  s.forEach (s.liveRails.filter fun n => (s.rail n).core.state != .apprenticeHold) fun s n =>
    let f := s.plainFloor n
    if s.targetCount n f < f && !(s.rail n).prot.yieldFloor then
      (s.updProt n fun p => { p with yieldFloor := true }).yieldRecord n 4 2 false
    else s

/-- GUARANTEE_YIELDED of the device-wide stage 1, at whose entry every rail's floor may yield at L4 (Tables 10.3, 10.4, 10.9; DEDUCED,
log entry 36). -/
def State.stageRecord (s : State) (fin : Bool) : State :=
  s.record 0x1031 0xFFFF 4 (2 ^ 31 * b2n fin + 2 * 65536 + min 65535 s.input.iinAvg)

/-- Stage 3 stops the lowest class that still runs (Table 10.3); a rail on which no yield acts is not reached (R284). -/
def State.capStops (s : State) : State :=
  let runs (n : Nat) : Bool := (s.rail n).core.state.live
  match yieldOrder.find? fun c => s.enabledRails.any fun n => s.railClass n == c && runs n with
  | none => s
  | some c =>
    let s := { s with input := { s.input with stopped := s.input.stopped ||| BitVec.ofNat 3 (2 ^ c), capFull := some s.clock.tick } }
    s.forEach (s.enabledRails.filter fun n => s.railClass n == c && runs n) fun s n =>
      (s.yieldRecord n 3 2 false).latchRail n .inputCap

/-- The cap returns to stage 0: the yields of stages 1 and 2 end with their END records (R300). -/
def State.endCap (s : State) : State :=
  let s := s.forEach s.enabledRails fun s n =>
    let p := (s.rail n).prot
    let s := s.when p.yieldCap fun s => s.yieldRecord n 3 2 true
    let s := s.when p.yieldFloor fun s => s.yieldRecord n 4 2 true
    (s.updProt n fun p => { p with yieldCap := false, yieldFloor := false, y := 0 }).when p.yieldCap fun s => s.retarget n
  (({ s with input := { s.input with stopped := 0 } }).setStage 0).stageRecord true

/-- One round of relief: one step in the reverse order of yielding (R300); from stage 3 on the stops are over. -/
def State.capRelaxes (s : State) : State :=
  let s := if s.input.stage == 3 then ({ s with input := { s.input with stopped := 0 } }).setStage 2 else s
  match yieldOrder.reverse.find? fun c => s.classY c > 0 with
    | some c => s.setClassY c (s.classY c - 1)
    | none => s.endCap

/-- One round above the cap (Table 10.3). -/
def State.capAdvances (s : State) : State :=
  let now := s.clock.tick
  let step (s : State) : State := match yieldOrder.find? fun c => s.liveRails.any fun n => s.railClass n == c && (s.rail n).prot.y < 8 with
    | some c => s.setClassY c (min 8 (s.classY c + 1))
    | none => s
  if s.input.stage == 0 then
    let s := ((s.setStage 1).setInput 2).stageRecord false
    { s with input := { s.input with capGrace := some now } }
  else if s.input.stage == 1 then
    let start := s.input.capGrace.getD now
    if s.since start ≥ usTicks s.iinGrace then step (s.setStage 2)
    else { s with input := { s.input with capGrace := some start } }
  else if s.input.stage == 2 && s.liveRails.any fun n => (s.rail n).prot.y < 8 then step s
  else
    let start := s.input.capFull.getD now
    let s := { s with input := { s.input with capFull := some start } }
    if s.since start ≥ msTicks s.iinStopTime then
      (if s.input.stage == 2 then (s.setStage 3).setInput 4 else s).capStops
    else s

/-- The input cap's evaluation of a round (R298 to R300): at most one step; then the floors. -/
def State.capRound (s : State) : State :=
  let avg := clampInt 0 65535 (ratio (s.iinCode * 3125) (s.rshunt * 10))
  let s := { s with input := { s.input with iinAvg := avg.toNat } }
  if s.iinCap == 0 then (if s.input.stage == 0 then s else s.endCap)
  else if s.iinAbove 100 then s.capAdvances.floorYields
  else
    let s := { s with input := { s.input with capGrace := none, capFull := none } }
    (if s.input.stage != 0 && !s.iinAbove 95 then s.capRelaxes else s).floorYields

/-! ### Step 5: the RM's phase policy (R134, R192 to R194, R201 to R204, R302)

What it decides reaches LOOP as commands of the RM (R10). -/

/-- The RM sets policy: it runs, CORE runs, and the Apprentice does not hold the rails. -/
def State.policyRuns (s : State) : Bool := s.rm.run == .running && s.clock.corePresent && !s.frozen

/-- One trim: TRIM += ((I_mean − I_k) / I_mean) × 2^-TRIM_GAIN, in 2^-16, limited to ±5 % (R134). -/
def trimStep (trim ik sum : Int) (k gain : Nat) : Int :=
  clampInt (-3276) 3276 (trim + ratio ((sum - k * ik) * 65536) (sum * 2 ^ gain))

/-- The trims of a rail (R134, R195, R242). -/
def State.trimRound (s : State) (n : Nat) : State :=
  if s.atLeastPct n 5 then
    let l := (s.phasesIn n Phase.tested).filterMap s.phaseOwn
    s.forEach (s.phasesIn n fun x => x.state.switching && x.state != .draining) fun s p =>
      match s.phaseOwn p with
      | some i => s.sendRm (.trim p (trimStep (s.phase p).trim i l.sum l.length (s.trimGain n)))
      | none => s.sendRm (.trim p 0)
  else s

/-- The band of a phase whose cells carry `i` (2^-16 A) over `k` cells (R201); `hold`: no band is lowered (R302). -/
def State.nextBand (s : State) (n old : Nat) (i : Int) (k : Nat) (hold : Bool) : Nat :=
  let fits (b : Nat) : Bool := decide (i * 10 ≤ ((s.bandHi n b * 65536 * k : Nat) : Int))
  let clear (b : Nat) : Bool := decide (i * 10 < ((s.bandHi n b : Int) - s.widthHyst n) * (65536 * k : Nat))
  let up := ((List.range 7).find? fits).getD 7
  let dn := ((List.range 7).find? clear).getD 7
  if old < up then up else if dn < old && !hold then dn else old

/-- The width R202 wants for a cell. -/
def State.widthFor (s : State) (n b c : Nat) : Nat :=
  let w : Int := s.bandW n b
  let x := match (s.cell c).validTemp with
    | some t => truncQuot (4 * w + s.thGain n * ((t : Int) - 160 - 4 * s.tRef n)) 4
    | none => w
  (clampInt (s.wMin n) (s.wMax n) x).toNat

/-- Bands of the switching phases of a rail, and the widths wanted for every cell of its phases. -/
def State.bandRound (s : State) (n : Nat) : State :=
  let s := s.forEach (s.phasesIn n fun x => x.state.switching) fun s p =>
    let k := (s.okCells p).length
    if k == 0 then s else s.updPhase p fun x => { x with band := s.nextBand n x.band (s.phaseCurrent n p) k (s.rail n).prot.yieldWarm }
  s.forEach (s.railPhases n) fun s p => s.forEach (s.okCells p) fun s c =>
    s.updCell c fun x => { x with wantWidth := BitVec.ofNat 10 (s.widthFor n (s.phase p).band c) }

/-- A SET_WIDTH to the cell is on its way. -/
def Cell.widthPending (x : Cell) : Bool := (x.outstanding.toList ++ x.queue.map (·.2)).any fun f => f.code == 2
/-- How far a cell's width lies from the wanted one. -/
def Cell.widthGap (x : Cell) : Nat := ((x.wantWidth.toNat : Int) - x.width.toNat).natAbs
/-- Insert by falling key, after equals. -/
def insertDown (key : Nat → Nat) (a : Nat) : List Nat → List Nat
  | [] => [a]
  | b :: l => if key b < key a then a :: b :: l else b :: insertDown key a l
/-- Sort by falling key, stably. -/
def sortDown (key : Nat → Nat) (l : List Nat) : List Nat := l.foldl (fun acc a => insertDown key a acc) []

/-- Cells of a link whose width is to change and is not on its way. -/
def State.widthsDue (s : State) (l : Nat) : List Nat :=
  (linkCells l).filter fun c =>
    let x := s.cell c
    x.healthy && x.wantWidth != x.width && !x.widthPending &&
      match s.cellRail c with
      | some n => s.railEn n && !s.frozenRail n
      | none => false

/-- The width changes a link carries this round (R203, R204): at most 16 deferred SET_WIDTH frames, the largest change first,
then one SYNC_APPLY for the lanes of which none waits for the next round. -/
def State.widthRound (s : State) (l : Nat) : State :=
  let due := s.widthsDue l
  let take := (sortDown (fun c => (s.cell c).widthGap) (due.filter fun c => s.widthFree l (cellPhase c))).take 16
  let more (p : Nat) : Bool := due.any fun c => cellPhase c == p && !take.contains c
  let sent (p : Nat) : Bool := (s.phase p).applyDue || take.any fun c => cellPhase c == p
  let lanes := maskOf 8 fun j => s.widthFree l (8 * l + j) && sent (8 * l + j) && !more (8 * l + j)
  if s.linkFault l then s
  else
    let s := s.forEach take fun s c => s.sendRm (.width c (cellFrame c 2 ((s.cell c).wantWidth.toNat * 256) true))
    let s := s.forEach (List.range 8) fun s j => s.updPhase (8 * l + j) fun x => { x with applyDue := sent (8 * l + j) && !bit lanes j }
    if lanes == 0 then s else s.sendRm (.apply l (broadcastFrame 10 (lanes * 65536)))

/-- R192: every evaluation within the last ADD_DWELL exceeded ADD_THR, this one included. -/
def State.addDue (s : State) (n : Nat) : Bool :=
  match (s.rail n).pol.addBelow with
  | none => true
  | some t => decide (s.since t ≥ usTicks (s.addDwell n))

/-- Phases that a shed of `k` takes (R193): BLIND first, then ACTIVE, highest number first. -/
def State.shedChoice (s : State) (n k : Nat) : List Nat :=
  let ok (x : Phase) : Bool := !x.probation
  let l := (s.phasesIn n fun x => x.state == .blind && ok x).reverse ++ (s.phasesIn n fun x => x.state == .active && ok x).reverse
  (l.filter fun p => !s.linkFault (p / 8)).take k

/-- Adds and sheds of a rail (R103, R192 to R194, R302). A floor latched in SOFT_STOP waits for SOFT_START. N below the
floor for another reason than a swatch is brought up without dwell too (DESIGN CHOICE, log entry 56). -/
def State.countRound (s : State) (n : Nat) : State :=
  let now := s.clock.tick
  let r := s.rail n
  let free := r.core.state == .regulating || r.core.state == .slewing
  let above := decide (r.pol.irail * 10 > ((s.addThr n * 65536 * s.nCount n : Nat) : Int))
  let s := if above then s else s.updPol n fun q => { q with addBelow := some now }
  let s := s.when (r.core.state.live && s.nCount n < s.effFloor n) fun s => s.sendRm (.add n (s.effFloor n))
  let s := if free && r.prot.yieldWarm then s.sendRm (.add n (s.nAvail n))
    else if free && above && s.addDue n then s.sendRm (.add n (s.nTarget n)) else s
  let excess := s.nCount n - s.nTarget n
  if excess == 0 then s.updPol n fun q => { q with shedSince := none }
  else
    let first := (s.rail n).pol.shedSince.getD now
    let s := s.updPol n fun q => { q with shedSince := some first }
    let start := max first ((s.rail n).pol.lastShed.getD 0)
    if free && !s.burstHolds n && !r.model.charBusy && !r.prot.yieldWarm && s.since start ≥ usTicks (s.shedDwell n) then
      s.updPol n fun q => { q with lastShed := some now, shedOrders := q.shedOrders ++ s.shedChoice n (min (s.shedStep n) excess) }
    else s

/-- The policy of a round. -/
def State.policyRound (s : State) : State :=
  if s.policyRuns then
    let s := s.forEach (s.enabledRails.filter fun n => !s.frozenRail n) fun s n => ((s.trimRound n).bandRound n).countRound n
    s.forEach (List.range 16) State.widthRound
  else s

/-! ### Faults that age (R310, R311) -/

/-- A link fault is lasting after 1 s and over 1 s after its clearance; a clock loss is lasting after 1 s without REFCLK; a
miscompare is transient once the escalation window has passed. -/
def State.ageFault (s : State) (e : FaultEntry) : State :=
  match e.kind with
  | .link =>
    if s.linkFault e.idx then
      (if !e.lasting && s.since (s.link e.idx).declaredAt ≥ msTicks 1000 then s.faultOn .link e.idx true else s)
    else if s.within (s.link e.idx).clearedAt (msTicks 1000) then s else s.faultMended .link e.idx
  | .clock => if !e.lasting && !s.clock.refclk && s.since e.stamp ≥ msTicks 1000 then s.faultOn .clock e.idx true else s
  | .pairMiscompare => if !e.lasting && s.since e.stamp ≥ msTicks s.escWin then s.faultOff .pairMiscompare e.idx else s
  | _ => s

/-- TELEMETRY_ROUND (R285): the evaluation at the end of a round, each step over every enabled rail before the next. It
needs the LOOP clock; cells that sent nothing new in the next round are skipped in it (R243). -/
def execTelemetryRound (s : State) : Host.Outcome State Fault Refusal :=
  if s.clock.loopPresent then
    let s := s.forEach s.enabledRails State.faultRound
    let s := s.mapCells fun _ c => { c with skipped := true }
    let s := s.forEach s.enabledRails State.loadRound
    let s := s.forEach s.enabledRails State.ocpRound
    let s := s.capRound
    let s := s.forEach s.enabledRails State.overloadRound
    let s := s.forEach s.enabledRails State.warmRound
    complete (s.input.faults.foldl State.ageFault s.policyRound)
  else complete s

/-! ### Hiccup, under-voltage and power-good times -/

/-- HICCUP_OFF_ELAPSED (R289): the first-trip latch clears by itself. -/
def execHiccupOffElapsed (n : Fin 16) (s : State) : Host.Outcome State Fault Refusal := complete (s.clearCause n .ocpFirst)

/-- UV_DELAY_ELAPSED (R292). -/
def execUvDelayElapsed (n : Fin 16) (s : State) : Host.Outcome State Fault Refusal :=
  if (s.comp (4 * n + 3)).out && (s.rail n).core.state.onTarget then
    let resp := s.uvResp n == 1
    let s := (s.setVout n 0x10).record 0x1011 n 2 (2 ^ 31 * b2n resp + s.thr (4 * n + 3) % 65536)
    complete (s.when resp fun s => s.latchRail n .uv)
  else complete s

/-- The conditions of PG_n (R293). -/
def State.pgHolds (s : State) (n : Nat) : Bool :=
  (s.rail n).core.state.onTarget && !(s.comp (4 * n + 3)).out && !(s.comp (4 * n + 2)).latch

/-- PG_ON_DELAY_ELAPSED (R293). -/
def execPgOnDelayElapsed (n : Fin 16) (s : State) : Host.Outcome State Fault Refusal :=
  if s.pgHolds n then complete (s.updProt n fun p => { p with pg := true }) else complete s

/-- PG_OFF_FILTER_ELAPSED (R293). -/
def execPgOffFilterElapsed (n : Fin 16) (s : State) : Host.Outcome State Fault Refusal :=
  if (s.comp (4 * n + 3)).out then complete (s.updProt n fun p => { p with pg := false }) else complete s

/-! ### The input monitor (R295 to R297) -/

/-- INPUT_UV (R295): both VIN_UV twins asserted for 10 µs, or the one in service alone. The reading recorded for both is the lower
twin's (Table 10.9; DESIGN CHOICE, log entry 56). -/
def execInputUv (s : State) : Host.Outcome State Fault Refusal :=
  let a := s.compInService 64
  let b := s.compInService 65
  let low := (a || b) && (!a || (s.comp 64).out) && (!b || (s.comp 65).out)
  if low then
    let mv := 5 * (if a && b then min s.input.vinA s.input.vinB else if a then s.input.vinA else s.input.vinB)
    let s := (s.setInput 0x10).record 0x1040 0 (if a && b then 2 else if a then 0 else 1) mv
    let s := s.when s.clock.corePresent fun s => { s with sketch := s.sketch.closeOpen }
    let s := s.when s.inputAgain fun s => s.faultOn .inputFault 0 true
    complete (s.forEach s.enabledRails fun s n => s.latchRail n .inputUv)
  else complete s

/-- VIN_EST as a fraction (R296): the numerator in 2^-16 V × 10^-7 scaled by 2^15, and the duty over its 800 ticks; none without a
valid visit. -/
def State.vinEst (s : State) : Option (Int × Int) :=
  let l := s.enabledRails.filter fun n => decide (0 < (s.rail n).model.visitDuty.getD 0)
  let best := l.foldl (fun b n => match b with
    | none => some n
    | some m => if (s.rail m).model.visitIrail < (s.rail n).model.visitIrail then some n else some m) none
  best.map fun n =>
    let m := (s.rail n).model
    let y := s.telem.vout.getD n 0 * 81920000 + m.visitIrail * m.rpathEff.toNat
    (y * 800 * 2 ^ 15, m.visitDuty.getD 0)
/-- A reading (5 mV) within 5 % of VIN_EST. -/
def vinNear (est : Int × Int) (reading : Nat) : Bool :=
  let x := reading * est.2 * 50000
  decide (100 * (x - est.1).natAbs ≤ 5 * est.1.natAbs)

/-- A comparator of a failed twin goes out of service with its output not asserted (Table 9.4). -/
def State.takeOut (s : State) (m : Nat) : State :=
  ((s.updComp m fun c => { c with win := 0 }).driveLive m false).updComp m fun c => { c with latch := false }

/-- One input twin is declared failed: its comparators go out of service, VFF moves, and characterisation runs abort (R143, R296). -/
def State.failTwin (s : State) (isB : Bool) : State :=
  let s := { s with input := { s.input with
    vinAFailed := s.input.vinAFailed || !isB, vinBFailed := s.input.vinBFailed || isB,
    vff := quot ((if isB then s.input.vinA else s.input.vinB) * 2 ^ 24) 200 } }
  ((s.takeOut (64 + b2n isB)).takeOut (66 + b2n isB)).forEach s.enabledRails State.abortChar

/-- INPUT_SENSE_VOTE (R296): the disagreement has lasted 1 ms. -/
def execInputSenseVote (s : State) : Host.Outcome State Fault Refusal :=
  if s.input.disagree && !s.input.vinAFailed && !s.input.vinBFailed then
    match s.vinEst with
    | none => complete s
    | some est =>
      let a := vinNear est s.input.vinA
      let b := vinNear est s.input.vinB
      let p1 := quot s.input.vinA 2
      let p1 := toBits 16 p1 * 65536 + toBits 16 (quot s.input.vinB 2)
      if a && b then complete s
      else if !a && !b then complete (s.record 0x1042 0 2 p1)
      else complete ((s.failTwin a).record 0x1042 0 (b2n a) p1)
  else complete s

/-- VIN_AUTO_CLEAR (R297): latches caused only by the input clear once no input comparator in service is asserted. -/
def execVinAutoClear (s : State) : Host.Outcome State Fault Refusal :=
  let quiet := [64, 65, 66, 67].all fun m => !(s.compInService m && (s.comp m).out)
  if s.vinAuto == 1 && quiet then
    complete (s.forEach s.enabledRails fun s n =>
      if (s.rail n).prot.latch &&& 0x3F9 == 0 then (s.clearCause n .vinOv).clearCause n .inputUv else s)
  else complete s

end Sys2Proof.Machine
end

