-- ==== Sys2Proof/Machine/Telemetry.lean ====
section
/-! DEFINITION. Telemetry as commands (spec/11): conversions with their consumers, accumulators and trackers, the pair
check, the recheck, the power cross-check, and the values of the PMBus readings. -/

namespace Sys2Proof.Machine

/-! ### Sequences (R320, Table 11.2) -/

/-- Entry `e` of converter `c`. -/
def State.seqEntry (s : State) (c e : Nat) : Nat := s.cfgWord 9 (0x8 + 64 * c + 4 * e)
/-- CHAN of an entry. -/
def entChan (x : Nat) : Nat := field x 25 7
/-- Gain of an entry: 1, 2 or 4. -/
def entGain (x : Nat) : Nat := 2 ^ field x 23 2
/-- Length of the sequence of pair `i`: its entries before the first empty one. -/
def State.seqLen (s : State) (i : Nat) : Nat := ((List.range 16).find? fun e => entChan (s.seqEntry (2 * i) e) == 0x7F).getD 16
/-- The pair runs a sequence (R321). -/
def State.pairPowered (s : State) (i : Nat) : Bool := s.boot.imageLoaded && 0 < s.seqLen i
/-- The entry that a pair converts next, IDLE entries passed over; none: the check channel. -/
def State.nextEntry (s : State) (i : Nat) : Option Nat :=
  ((List.range (s.seqLen i)).drop (s.pair i).pos).find? fun e => entChan (s.seqEntry (2 * i) e) != 0x7E
/-- Pair that converts a channel (Table 11.1). -/
def chanPair (ch : Nat) : Nat := if ch < 0x10 then 0 else if ch < 0x20 then 1 else if ch < 0x50 then 2 + ch % 16 / 8 else 4
/-- Gain of a channel's entries in its pair's sequence. -/
def State.chanGain (s : State) (ch : Nat) : Nat :=
  let i := chanPair ch
  (((List.range (s.seqLen i)).find? fun e => entChan (s.seqEntry (2 * i) e) == ch).map fun e => entGain (s.seqEntry (2 * i) e)).getD 1
/-- Entries of a channel in one pass. -/
def State.chanCount (s : State) (ch : Nat) : Nat :=
  let i := chanPair ch
  ((List.range (s.seqLen i)).filter fun e => entChan (s.seqEntry (2 * i) e) == ch).length
/-- Nominal length of an entry, ns (R319, R322). -/
def entNs (x : Nat) : Nat := if entChan x == 0x7E then 1000 * field x 0 16 else 10 * (field x 16 7 + 14)
/-- Nominal pass time of a pair, ns: its entries and the check conversion. -/
def State.passNs (s : State) (i : Nat) : Nat := (((List.range (s.seqLen i)).map fun e => entNs (s.seqEntry (2 * i) e)).sum) + 250

/-! ### Accumulators and trackers (R325 to R329) -/

/-- K of accumulator `a`: AVG_K, or for protection's IIN accumulator the largest block that fits IIN_WIN (R326). -/
def State.blockK (s : State) (a : Nat) : Nat :=
  if s.accCh a == 2 && s.owner 4 a == 0x22 then
    (([8, 7, 6, 5, 4, 3, 2].find? fun k => 2 ^ k * s.passNs 0 ≤ s.iinWin * 1000 * s.chanCount 2)).getD 1
  else s.accK a

/-- A sample joins an accumulator at tick `now`; a changed K restarts the block with it (R325, R327, R328). -/
def Accum.take (x : Accum) (k : Nat) (code : Int) (primed : Bool) (now : Nat) : Accum :=
  let (sum, count) := if x.k == k then (x.sum + code, x.count + 1) else (code, 1)
  if count ≥ 2 ^ k then
    { sum := 0, count := 0, k := k, result := sum / 2 ^ k, valid := x.valid || primed, age := 0,
      prior := if x.valid then some x.result else none, doneAt := some now }
  else { x with sum := sum, count := count, k := k, age := x.age + 1 }

/-- A sample joins a tracker at tick `now` (R329). -/
def Track.take (x : Track) (code : Int) (now : Nat) : Track :=
  { x with empty := false,
           max := if x.empty || decide (x.max < code) then code else x.max,
           min := if x.empty || decide (code < x.min) then code else x.min,
           samples := satAdd 8388607 x.samples 1, last := code, lastAt := some now }

/-- Accumulators and trackers of a channel take an in-use sample. -/
def State.feed (s : State) (ch : Nat) (code : Int) : State :=
  { s with telem := { s.telem with
      accs := s.telem.accs.mapIdx fun a x => if s.accCh a == ch then x.take (s.blockK a) code s.primed s.clock.tick else x,
      tracks := s.telem.tracks.mapIdx fun t x => if s.trkCh t == ch then x.take code s.clock.tick else x } }

/-! ### Hardware consumers (R301, R324, R504) -/

/-- Die reading in the 0.25 °C code of records, from −40 °C. -/
def dieQuarter (code : Nat) : Nat := (quot ((code : Int) - 384) 4).toNat

/-- The input readings, VFF and the comparison of the twins (Table 5.2, R296). -/
def State.takeInput (s : State) (isB : Bool) (code : Int) : State :=
  let v := code.toNat
  let s := { s with input := if isB then { s.input with vinB := v } else { s.input with vinA := v } }
  let uses := if isB then s.input.vinAFailed else !s.input.vinAFailed
  let s := if uses then { s with input := { s.input with vff := quot (code * 2 ^ 24) 200, vffAt := s.clock.tick } } else s
  { s with input := { s.input with disagree := decide (((s.input.vinA : Int) - s.input.vinB).natAbs > 100) } }

/-- A die sensor: THERMAL_WARN at DIE_WARN, DIE_OT with its trip (R301, R504). -/
def State.takeDie (s : State) (i : Nat) (code : Int) : State :=
  let s := { s with input := { s.input with dies := s.input.dies.set i code.toNat } }
  let d := s.dieCode
  let warn := dieLevel s.dieWarn
  let ot := dieLevel s.dieOtC
  let s := if warn ≤ d && !s.input.dieWarned then
      ({ s with input := { s.input with dieWarned := true } }).record 0x1050 0 (dieQuarter d) (tempCode s.dieWarn)
    else if d < warn - 80 then { s with input := { s.input with dieWarned := false } } else s
  if ot ≤ d && !s.input.dieOt then
    let s := ({ s with input := { s.input with dieOt := true } }).record 0x1051 0 (dieQuarter d) (tempCode s.dieOtC)
    s.forEach (List.range 16) fun s n => s.setTemp n 0x80
  else if d < warn then { s with input := { s.input with dieOt := false } } else s

/-- A sensor reading (0.125 mV) lies beyond a limit in mV, in the direction of TSNS_POL. -/
def State.tsnsPast (s : State) (t : Nat) (x : Int) (mv : Int) : Bool :=
  if s.tsnsPol t == 0 then decide (x > 8 * mv) else decide (x < 8 * mv)
/-- It is at least 20 mV back inside TSNS_WARN. -/
def State.tsnsBack (s : State) (t : Nat) (x : Int) : Bool :=
  if s.tsnsPol t == 0 then decide (x ≤ 8 * ((s.tsnsWarnMv t : Int) - 20)) else decide (x ≥ 8 * ((s.tsnsWarnMv t : Int) + 20))

/-- A temperature sensor: THERMAL_WARN, TSNS_OTt with its trip, and their release (R301, R504). -/
def State.takeTsns (s : State) (t : Nat) (x : Int) : State :=
  let b : BitVec 4 := BitVec.ofNat 4 (2 ^ t)
  let mv := (quot x 8).toNat
  if s.tsnsBack t x then
    { s with input := { s.input with tsnsBeyond := s.input.tsnsBeyond &&& ~~~b, tsnsOt := s.input.tsnsOt &&& ~~~b } }
  else
    let s := if s.tsnsPast t x (s.tsnsWarnMv t) && !s.input.tsnsBeyond.getLsbD t then
        ({ s with input := { s.input with tsnsBeyond := s.input.tsnsBeyond ||| b } }).record 0x1050 (1 + t) mv (s.tsnsWarnMv t)
      else s
    if s.tsnsPast t x (s.tsnsOtMv t) && !s.input.tsnsOt.getLsbD t then
      let s := ({ s with input := { s.input with tsnsOt := s.input.tsnsOt ||| b } }).record 0x1051 (1 + t) mv (s.tsnsOtMv t)
      s.forEach (indices 16 fun n => bit (s.tsnsRails t) n) fun s n => s.setTemp n 0x80
    else s

/-- A reading of a rail's chosen sense, in 0.125 mV; below 50 mV it ends DISCHARGE (Table 5.4). -/
def State.takeVout (s : State) (n : Nat) (x : Int) : State :=
  let s := { s with telem := { s.telem with vout := s.telem.vout.set n x } }
  if (s.rail n).core.state == .discharge && decide (x < 400) then s.leaveDischarge n else s

/-- One in-use sample goes to its hardware consumers, then to accumulators and trackers. -/
def State.sample (s : State) (ch gain : Nat) (code : Int) : State :=
  let x := code * 4 / gain
  let s := if ch == 0 then s.takeInput false code else if ch == 1 then s.takeInput true code
    else if ch == 4 || ch == 5 then s.takeDie (ch - 4) code
    else if 0x10 ≤ ch && ch < 0x14 then s.takeTsns (ch - 0x10) x
    else if 0x20 ≤ ch && ch < 0x30 then s.takeVout (ch - 0x20) x else s
  s.feed ch code

/-! ### The pair check (R332 to R336) -/

/-- The in-use converter of a pair changes: partial blocks are dropped, trackers mark it (R334). -/
def State.useConverter (s : State) (i : Nat) (isB : Bool) : State :=
  if (s.pair i).inUseB == isB then s
  else
    let s := s.updPair i fun p => { p with inUseB := isB }
    { s with telem := { s.telem with
        accs := s.telem.accs.mapIdx fun a x => if chanPair (s.accCh a) == i then { x with sum := 0, count := 0 } else x,
        tracks := s.telem.tracks.mapIdx fun t x => if chanPair (s.trkCh t) == i then { x with srcChg := true } else x } }

/-- Sum of the 8 codes of one kind in an arbitration, newest first: even passes (1.000 V) or odd ones (0.500 V). -/
def arbSum (l : List Int) (even : Bool) : Int :=
  ((List.range 8).map fun k => l.getD (2 * k + b2n (!even)) 0).sum
/-- Error of a converter over an arbitration, in 1/8 LSB. -/
def arbError (l : List Int) : Nat := (arbSum l true - 16000).natAbs + (arbSum l false - 8000).natAbs
/-- A converter is good (R333). -/
def arbGood (l : List Int) : Bool := decide ((arbSum l true - 16000).natAbs ≤ 32) && decide ((arbSum l false - 8000).natAbs ≤ 32)

/-- The console command that waits for the arbitration of a pair prints its outcome and ends (R485). -/
def State.tellOutcome (s : State) (i outcome : Nat) : State :=
  if s.con.waiting == some (.adc i) then
    s.conEnd [.words [BitVec.ofNat 32 outcome], .ok]
  else s
/-- The outcome of an arbitration (Table 11.4): what it does not set aside is in service. -/
def State.arbitrate (s : State) (i : Nat) : State :=
  let p := s.pair i
  let a := arbGood p.arbA
  let b := arbGood p.arbB
  let p1 := toBits 16 (arbSum p.arbA true) * 65536 + toBits 16 (arbSum p.arbB true)
  let s := s.updPair i fun p => { p with arbitrating := false, arbPass := 0, arbA := [], arbB := [], passes := 0 }
  let s := s.tellOutcome i (if a && b then 2 else if a then 1 else if b then 0 else 3)
  let was := p.aAside || p.bAside
  let s := s.updPair i fun p => { p with aAside := !a && b, bAside := a && !b }
  if a && b then (s.when was fun s => s.faultMended .converter i).record 0x7001 i 2 p1
  else if a then ((s.useConverter i false).faultOn .converter i false).record 0x7001 i 1 p1
  else if b then ((s.useConverter i true).faultOn .converter i false).record 0x7001 i 0 p1
  else
    let ea := arbError p.arbA
    let eb := arbError p.arbB
    let s := s.useConverter i (if ea < eb then false else if eb < ea then true else p.inUseB)
    (((s.updPair i fun p => { p with degraded := true }).faultOn .converter i false).setCml 1).record 0x7001 i 3 p1

/-- The check slot of a pass: a check code, or an arbitration code, and what the end of the pass decides. In P6 the one arbitration
is R336's. -/
def State.checkSlot (s : State) (i : Nat) (a b : Int) : State :=
  let p := s.pair i
  if p.arbitrating then
    let s := s.updPair i fun p => { p with
      pos := 0, arbPass := p.arbPass + 1, arbA := a :: p.arbA, arbB := b :: p.arbB,
      checksA := if p.arbPass % 2 == 1 then (a :: p.checksA).take 16 else p.checksA,
      checksB := if p.arbPass % 2 == 1 then (b :: p.checksB).take 16 else p.checksB }
    if (s.pair i).arbPass ≥ 16 then s.arbitrate i else s
  else
    let s := s.updPair i fun p => { p with
      pos := 0, passes := p.passes + 1, checksA := (a :: p.checksA).take 16, checksB := (b :: p.checksB).take 16 }
    let p := s.pair i
    if s.boot.stage == 6 then s
    else if p.arbDue || (p.passes ≥ 16 && !p.aAside && !p.bAside && decide ((p.checksA.sum - p.checksB.sum).natAbs > 64)) then
      s.updPair i fun p => { p with arbitrating := true, arbDue := false, arbPass := 0, arbA := [], arbB := [] }
    else s

/-- A code limited to the range of its channel (R319). -/
def endCode (ch : Nat) (x : Int) : Int := if ch == 2 then clampInt (-2048) 2047 x else clampInt 0 4095 x

/-- CONVERSION_COMPLETE (R319 to R321): both converters of a pair end the same entry with codes `a` and `b`. -/
def execConversionComplete (pair : Fin 4) (a b : Int) (s : State) : Host.Outcome State Fault Refusal :=
  let i := pair.val
  if s.telem.running && s.pairPowered i && s.clock.loopPresent then
    match s.nextEntry i with
    | some e =>
      let x := s.seqEntry (2 * i) e
      let ch := entChan x
      let s := s.updPair i fun p => { p with pos := e + 1 }
      complete (s.sample ch (entGain x) (endCode ch (if (s.pair i).inUseB then b else a)))
    | none => complete (s.checkSlot i (clampInt 0 4095 a) (clampInt 0 4095 b))
  else complete s

/-- CONVERTER_RECHECK (R335): the 1.000 V codes of TiA and TiB in 16 consecutive passes. -/
def execConverterRecheck (pair : Fin 4) (codes : List (Int × Int)) (s : State) : Host.Outcome State Fault Refusal :=
  let i := pair.val
  let p := s.pair i
  if p.aAside || p.bAside then
    if codes.length == 16 && codes.all fun x => decide ((x.1 - x.2).natAbs ≤ 4) then
      let last := codes.getLastD (0, 0)
      let s := (s.updPair i fun p => { p with aAside := false, bAside := false, lasting := false }).faultMended .converter i
      complete (s.record 0x7001 i 4 (toBits 16 (last.1 * 8) * 65536 + toBits 16 (last.2 * 8)))
    else complete ((s.updPair i fun p => { p with lasting := true }).faultOn .converter i true)
  else complete s

/-! ### PMBus readings (R337, Table 11.6) -/

/-- The lowest-numbered accumulator of telemetry on a channel, with its result while it is VALID. -/
def State.reading (s : State) (ch : Nat) : Option Int :=
  match (List.range 64).find? fun a => s.accCh a == ch && s.owner 4 a == 0x21 with
  | some a =>
    let x := s.asRead (s.telem.accs.getD a Accum.reset)
    if x.valid then some x.result else none
  | none => none
/-- READ_VIN in 5 mV. -/
def State.vinCode (s : State) : Option Int := s.reading (if s.input.vinAFailed then 1 else 0)
/-- READ_VOUT in 2^-11 V, halves up. -/
def State.voutCode (s : State) (n : Nat) : Option Int :=
  (s.reading (0x20 + n)).map fun c => (2 * c * 2048 + 2000 * s.chanGain (0x20 + n)) / (4000 * s.chanGain (0x20 + n))
/-- READ_IOUT as a sum over the last 8 rounds: A × 2^19. -/
def State.ioutSum (s : State) (n : Nat) : Int := (s.rail n).pol.iRounds.sum
/-- Output power of a rail in W × 2^30. -/
def State.poutNum (s : State) (n : Nat) : Int := (s.voutCode n).getD 0 * s.ioutSum n
/-- READ_IIN as a fraction of amperes; 0 A when RSHUNT is 0. -/
def State.iinFrac (s : State) : Option (Int × Nat) :=
  (s.reading 2).map fun c => if s.rshunt == 0 then (0, 1) else (c * 3125, 100 * s.rshunt)
/-- READ_PIN as a fraction of watts. -/
def State.pinFrac (s : State) : Option (Int × Nat) :=
  match s.vinCode, s.iinFrac with
  | some v, some i => some (v * 5 * i.1, 1000 * i.2)
  | _, _ => none

/-- TELEM_XCHECK (R338): the HM's comparison of output and input power. -/
def execTelemXcheck (s : State) : Host.Outcome State Fault Refusal :=
  if s.xchkPct != 0 && s.rshunt != 0 && s.hm.run == .running && s.clock.corePresent && s.primed then
    let out := (s.enabledRails.map s.poutNum).sum
    let (pn, pd) := s.pinFrac.getD (0, 1)
    let bad := decide (out * 100 * pd > 2 ^ 30 * (pn * (100 + s.xchkPct) + 2000 * pd))
    let run := if bad then s.telem.xcheckRun + 1 else 0
    if run ≥ 3 then
      let s := { s with telem := { s.telem with xcheckRun := 0 } }
      complete (s.record 0x7002 0 (toBits 32 (quot out (2 ^ 30))) (toBits 32 (quot pn pd)))
    else complete { s with telem := { s.telem with xcheckRun := run } }
  else complete s

end Sys2Proof.Machine
end

