-- ==== Sys2Proof/Machine/Units.lean ====
section
/-! DEFINITION. The storage units of the image's sections (R502): every field of the field tables, grouped by offset, with
the range each field may hold. A wet unit's range is the widest its limit pair may span (R78). Fields whose range rests on
another field carry their widest range here; the rule itself stands in Machine/Image.lean. -/

namespace Sys2Proof.Machine

/-- A field of a unit: its place, whether it is signed, and the intervals of its allowed values. -/
structure Part where
  lo : Nat
  width : Nat
  signed : Bool
  ranges : List (Int × Int)
  deriving DecidableEq, Repr

/-- The units of one kind: section, first offset, the strides and counts of its repetitions (outermost first), size in bytes,
whether it is wet, and its fields; bits that no field lists are reserved. -/
structure UnitRow where
  sec : Nat
  base : Nat
  reps : List (Nat × Nat)
  size : Nat
  wet : Bool
  parts : List Part
  deriving DecidableEq, Repr

/-- Reserved bytes: section, offset, repetitions and length. -/
structure Reserved where
  sec : Nat
  base : Nat
  reps : List (Nat × Nat)
  size : Nat
  deriving DecidableEq, Repr

/-- Units of section 0x01. -/
def units1 : List UnitRow :=
  [⟨0x1, 0x0, [], 4, false, [⟨0, 32, false, [(0, 4294967295)]⟩]⟩,
   ⟨0x1, 0x4, [], 2, false, [⟨0, 16, false, [(0, 65535)]⟩]⟩,
   ⟨0x1, 0x8, [(4, 8)], 4, false, [⟨0, 32, false, [(0, 4294967295)]⟩]⟩,
   ⟨0x1, 0x28, [], 4, false, [⟨0, 32, false, [(0, 4294967295)]⟩]⟩,
   ⟨0x1, 0x2C, [], 4, false, [⟨0, 32, false, [(0, 4294967295)]⟩]⟩,
   ⟨0x1, 0x30, [], 4, false, [⟨0, 32, false, [(0, 4294967295)]⟩]⟩,
   ⟨0x1, 0x34, [], 4, false, [⟨16, 16, false, [(0, 65535)]⟩]⟩,
   ⟨0x1, 0x40, [], 4, false, [⟨0, 2, false, [(0, 3)]⟩]⟩]

/-- Units of section 0x02. -/
def units2 : List UnitRow :=
  [⟨0x2, 0x0, [], 2, false, [⟨0, 16, false, [(1, 256)]⟩]⟩,
   ⟨0x2, 0x4, [(4, 256)], 4, false, [⟨24, 8, false, [(0, 255)]⟩, ⟨16, 8, false, [(0, 255)]⟩, ⟨8, 8, false, [(0, 255)]⟩, ⟨0, 8, false, [(0, 255)]⟩]⟩]

/-- Units of section 0x03, part 1. -/
def units3a : List UnitRow :=
  [⟨0x3, 0x0, [], 4, false, [⟨0, 32, false, [(0, 4294967295)]⟩]⟩,
   ⟨0x3, 0x4, [], 2, false, [⟨0, 16, false, [(0, 65535)]⟩]⟩,
   ⟨0x3, 0x8, [(64, 16)], 4, false, [⟨31, 1, false, [(0, 1)]⟩, ⟨30, 1, false, [(0, 1)]⟩, ⟨28, 2, false, [(0, 2)]⟩, ⟨26, 2, false, [(0, 1)]⟩, ⟨0, 12, false, [(200, 2500)]⟩]⟩,
   ⟨0x3, 0xC, [(64, 16)], 4, false, [⟨16, 12, false, [(615, 3686)]⟩, ⟨0, 12, false, [(615, 3686)]⟩]⟩,
   ⟨0x3, 0x10, [(64, 16)], 4, false, [⟨16, 16, false, [(1638, 62259)]⟩, ⟨0, 6, false, [(2, 32)]⟩]⟩,
   ⟨0x3, 0x14, [(64, 16)], 4, false, [⟨16, 16, false, [(4500, 16000)]⟩, ⟨0, 16, false, [(1, 65535)]⟩]⟩,
   ⟨0x3, 0x18, [(64, 16)], 4, false, [⟨16, 16, false, [(1, 65535)]⟩, ⟨0, 16, false, [(1, 65535)]⟩]⟩,
   ⟨0x3, 0x1C, [(64, 16)], 4, false, [⟨28, 4, false, [(0, 15)]⟩, ⟨24, 4, false, [(0, 15)]⟩, ⟨12, 12, false, [(1, 1000)]⟩, ⟨0, 12, false, [(0, 4095)]⟩]⟩,
   ⟨0x3, 0x20, [(64, 16)], 4, false, [⟨16, 16, false, [(0, 65535)]⟩, ⟨0, 16, false, [(0, 65535)]⟩]⟩,
   ⟨0x3, 0x24, [(64, 16)], 4, false, [⟨16, 16, false, [(0, 65535)]⟩, ⟨10, 5, false, [(0, 31)]⟩, ⟨5, 5, false, [(0, 31)]⟩, ⟨0, 5, false, [(0, 31)]⟩]⟩,
   ⟨0x3, 0x28, [(64, 16)], 4, false, [⟨16, 16, false, [(1, 16384)]⟩]⟩,
   ⟨0x3, 0x2C, [(64, 16)], 4, true, [⟨0, 32, false, [(0, 2000)]⟩]⟩]

/-- Units of section 0x03, part 2. -/
def units3b : List UnitRow :=
  [⟨0x3, 0x30, [(64, 16)], 4, true, [⟨0, 32, false, [(0, 86400)]⟩]⟩,
   ⟨0x3, 0x34, [(64, 16)], 4, true, [⟨0, 32, false, [(2, 10)]⟩]⟩,
   ⟨0x3, 0x408, [(64, 16)], 4, false, [⟨0, 4, false, [(1, 15)]⟩]⟩,
   ⟨0x3, 0x40C, [(64, 16), (4, 15)], 4, false, [⟨16, 16, false, [(0, 65535)]⟩, ⟨0, 16, false, [(0, 65535)]⟩]⟩]

/-- Units of section 0x04. -/
def units4 : List UnitRow :=
  [⟨0x4, 0x0, [], 4, false, [⟨0, 32, false, [(0, 4294967295)]⟩]⟩,
   ⟨0x4, 0x4, [], 2, false, [⟨0, 16, false, [(0, 65535)]⟩]⟩,
   ⟨0x4, 0x8, [(8, 1024)], 4, false, [⟨31, 1, false, [(0, 1)]⟩, ⟨16, 8, true, [(-64, 63)]⟩, ⟨0, 16, false, [(10, 1000)]⟩]⟩,
   ⟨0x4, 0xC, [(8, 1024)], 4, false, [⟨0, 12, false, [(100, 4095)]⟩]⟩]

/-- Units of section 0x05. -/
def units5 : List UnitRow :=
  [⟨0x5, 0x0, [], 4, false, [⟨0, 32, false, [(0, 4294967295)]⟩]⟩,
   ⟨0x5, 0x4, [], 2, false, [⟨0, 16, false, [(0, 65535)]⟩]⟩,
   ⟨0x5, 0x8, [(8, 8)], 4, false, [⟨24, 8, false, [(0, 15), (255, 255)]⟩, ⟨16, 8, false, [(0, 15), (255, 255)]⟩, ⟨8, 8, false, [(0, 15), (255, 255)]⟩, ⟨0, 8, false, [(0, 15), (255, 255)]⟩]⟩,
   ⟨0x5, 0xC, [(8, 8)], 4, false, [⟨8, 6, false, [(0, 63)]⟩, ⟨0, 6, false, [(0, 63)]⟩]⟩,
   ⟨0x5, 0x48, [(4, 16)], 4, false, [⟨16, 16, false, [(1, 1000)]⟩, ⟨0, 16, false, [(1, 500)]⟩]⟩,
   ⟨0x5, 0x88, [(32, 16)], 4, false, [⟨0, 28, false, [(0, 268435455)]⟩]⟩,
   ⟨0x5, 0x8C, [(32, 16)], 4, false, [⟨8, 1, false, [(0, 1)]⟩, ⟨4, 4, false, [(0, 15)]⟩]⟩,
   ⟨0x5, 0x90, [(32, 16)], 4, true, [⟨0, 32, false, [(0, 63)]⟩]⟩,
   ⟨0x5, 0x94, [(32, 16)], 4, true, [⟨0, 32, false, [(1, 10000)]⟩]⟩,
   ⟨0x5, 0x98, [(32, 16)], 4, true, [⟨0, 32, false, [(0, 15)]⟩]⟩,
   ⟨0x5, 0x288, [(4, 2048)], 4, true, [⟨0, 28, false, [(0, 268435455)]⟩]⟩,
   ⟨0x5, 0x2288, [(4, 2048)], 4, true, [⟨0, 28, false, [(0, 268435455)]⟩]⟩]

/-- Units of section 0x06. -/
def units6 : List UnitRow :=
  [⟨0x6, 0x0, [], 4, false, [⟨0, 32, false, [(0, 4294967295)]⟩]⟩,
   ⟨0x6, 0x4, [], 2, false, [⟨0, 16, false, [(0, 65535)]⟩]⟩,
   ⟨0x6, 0x8, [], 4, false, [⟨0, 16, false, [(0, 65535)]⟩]⟩,
   ⟨0x6, 0x100, [(8192, 16)], 4, false, [⟨16, 16, false, [(0, 65535)]⟩, ⟨0, 9, false, [(1, 256)]⟩]⟩,
   ⟨0x6, 0x104, [(8192, 16)], 4, false, [⟨0, 32, false, [(0, 4294967295)]⟩]⟩,
   ⟨0x6, 0x108, [(8192, 16)], 4, false, [⟨16, 16, false, [(0, 3)]⟩, ⟨0, 16, false, [(0, 65535)]⟩]⟩,
   ⟨0x6, 0x140, [(8192, 16), (8, 256)], 4, false, [⟨0, 32, false, [(0, 4294967295)]⟩]⟩,
   ⟨0x6, 0x144, [(8192, 16), (8, 256)], 4, false, [⟨28, 4, false, [(0, 15)]⟩, ⟨27, 1, false, [(0, 1)]⟩, ⟨20, 7, false, [(0, 127)]⟩, ⟨15, 5, false, [(0, 31)]⟩]⟩,
   ⟨0x6, 0x940, [(8192, 16), (256, 16), (8, 32)], 4, false, [⟨0, 32, false, [(0, 4294967295)]⟩]⟩,
   ⟨0x6, 0x944, [(8192, 16), (256, 16), (8, 32)], 4, false, [⟨0, 5, false, [(0, 31)]⟩]⟩]

/-- Units of section 0x07, part 1. -/
def units7a : List UnitRow :=
  [⟨0x7, 0x0, [], 4, false, [⟨0, 32, false, [(0, 4294967295)]⟩]⟩,
   ⟨0x7, 0x4, [], 2, false, [⟨0, 16, false, [(0, 65535)]⟩]⟩,
   ⟨0x7, 0x8, [(1, 128)], 1, false, [⟨0, 8, false, [(0, 15), (255, 255)]⟩]⟩,
   ⟨0x7, 0x88, [], 4, false, [⟨24, 8, false, [(0, 15), (255, 255)]⟩, ⟨16, 8, false, [(0, 15), (255, 255)]⟩]⟩,
   ⟨0x7, 0x100, [(64, 16)], 4, false, [⟨24, 8, false, [(0, 255)]⟩, ⟨16, 8, false, [(0, 255)]⟩, ⟨8, 8, false, [(0, 255)]⟩, ⟨4, 4, false, [(1, 15)]⟩, ⟨2, 2, false, [(0, 2)]⟩]⟩,
   ⟨0x7, 0x104, [(64, 16)], 4, true, [⟨0, 32, false, [(10, 960)]⟩]⟩,
   ⟨0x7, 0x108, [(64, 16)], 4, true, [⟨0, 32, false, [(0, 950)]⟩]⟩,
   ⟨0x7, 0x10C, [(64, 16)], 4, true, [⟨0, 32, false, [(1, 1000)]⟩]⟩,
   ⟨0x7, 0x110, [(64, 16)], 4, true, [⟨0, 32, false, [(13, 100000)]⟩]⟩,
   ⟨0x7, 0x114, [(64, 16)], 4, true, [⟨0, 32, false, [(0, 0), (100, 1000000)]⟩]⟩,
   ⟨0x7, 0x118, [(64, 16)], 4, true, [⟨0, 32, false, [(0, 50)]⟩]⟩,
   ⟨0x7, 0x11C, [(64, 16)], 4, true, [⟨0, 32, true, [(-32, 32)]⟩]⟩]

/-- Units of section 0x07, part 2. -/
def units7b : List UnitRow :=
  [⟨0x7, 0x120, [(64, 16)], 4, true, [⟨0, 32, false, [(0, 125)]⟩]⟩,
   ⟨0x7, 0x124, [(64, 16)], 4, false, [⟨16, 10, false, [(0, 1023)]⟩, ⟨0, 10, false, [(0, 1023)]⟩]⟩,
   ⟨0x7, 0x500, [(32, 16), (4, 8)], 2, true, [⟨0, 16, false, [(0, 1023)]⟩]⟩,
   ⟨0x7, 0x502, [(32, 16), (4, 8)], 2, true, [⟨0, 16, false, [(1, 960)]⟩]⟩]

/-- Units of section 0x08, part 1. -/
def units8a : List UnitRow :=
  [⟨0x8, 0x0, [], 4, false, [⟨0, 32, false, [(0, 4294967295)]⟩]⟩,
   ⟨0x8, 0x4, [], 2, false, [⟨0, 16, false, [(0, 65535)]⟩]⟩,
   ⟨0x8, 0x8, [(16, 76)], 4, false, [⟨29, 1, false, [(0, 1)]⟩, ⟨28, 1, false, [(0, 1)]⟩, ⟨27, 1, false, [(0, 1)]⟩, ⟨26, 1, false, [(0, 1)]⟩, ⟨25, 1, false, [(0, 1)]⟩, ⟨22, 3, false, [(0, 6)]⟩, ⟨16, 4, false, [(0, 15)]⟩, ⟨12, 3, false, [(0, 7)]⟩, ⟨8, 4, false, [(0, 15)]⟩, ⟨0, 8, false, [(0, 22)]⟩]⟩,
   ⟨0x8, 0xC, [(16, 76)], 4, true, [⟨0, 32, false, [(0, 1023)]⟩]⟩,
   ⟨0x8, 0x10, [(16, 76)], 4, true, [⟨0, 32, false, [(0, 63)]⟩]⟩,
   ⟨0x8, 0x4C8, [(32, 16)], 4, true, [⟨0, 32, false, [(40, 400)]⟩]⟩,
   ⟨0x8, 0x4CC, [(32, 16)], 4, true, [⟨0, 32, false, [(40, 2000)]⟩]⟩,
   ⟨0x8, 0x4D0, [(32, 16)], 4, true, [⟨0, 32, false, [(10, 10000)]⟩]⟩,
   ⟨0x8, 0x4D4, [(32, 16)], 4, true, [⟨0, 32, false, [(10, 10000)]⟩]⟩,
   ⟨0x8, 0x4D8, [(32, 16)], 4, true, [⟨0, 32, false, [(10, 10000)]⟩]⟩,
   ⟨0x8, 0x4DC, [(32, 16)], 4, false, [⟨0, 16, false, [(0, 65535)]⟩]⟩,
   ⟨0x8, 0x6C8, [(16, 8)], 4, false, [⟨24, 8, false, [(0, 99), (192, 207), (208, 215), (254, 254)]⟩, ⟨23, 1, false, [(0, 1)]⟩, ⟨22, 1, false, [(0, 1)]⟩]⟩]

/-- Units of section 0x08, part 2. -/
def units8b : List UnitRow :=
  [⟨0x8, 0x6CC, [(16, 8)], 4, true, [⟨0, 32, false, [(8, 16777215)]⟩]⟩,
   ⟨0x8, 0x800, [(64, 96), (1, 64)], 1, false, [⟨0, 2, false, [(0, 2)]⟩, ⟨2, 2, false, [(0, 2)]⟩, ⟨4, 2, false, [(0, 2)]⟩, ⟨6, 2, false, [(0, 2)]⟩]⟩,
   ⟨0x8, 0x2000, [(64, 16)], 4, false, [⟨16, 12, false, [(0, 4095)]⟩, ⟨8, 8, false, [(100, 200)]⟩, ⟨0, 8, false, [(50, 100)]⟩]⟩,
   ⟨0x8, 0x2004, [(64, 16)], 4, true, [⟨0, 32, false, [(10, 655350)]⟩]⟩,
   ⟨0x8, 0x2008, [(64, 16)], 4, true, [⟨0, 32, false, [(10, 10000)]⟩]⟩,
   ⟨0x8, 0x200C, [(64, 16)], 4, true, [⟨0, 32, false, [(1, 1000)]⟩]⟩,
   ⟨0x8, 0x2010, [(64, 16)], 4, true, [⟨0, 32, false, [(10, 60000)]⟩]⟩,
   ⟨0x8, 0x2014, [(64, 16)], 4, true, [⟨0, 32, false, [(0, 10000)]⟩]⟩,
   ⟨0x8, 0x2018, [(64, 16)], 4, true, [⟨0, 32, false, [(13, 100000)]⟩]⟩,
   ⟨0x8, 0x201C, [(64, 16)], 4, true, [⟨0, 32, false, [(1, 10000)]⟩]⟩,
   ⟨0x8, 0x2020, [(64, 16)], 4, true, [⟨0, 32, false, [(0, 100000)]⟩]⟩,
   ⟨0x8, 0x2024, [(64, 16)], 4, true, [⟨0, 32, false, [(0, 10000)]⟩]⟩]

/-- Units of section 0x08, part 3. -/
def units8c : List UnitRow :=
  [⟨0x8, 0x2028, [(64, 16)], 4, true, [⟨0, 32, false, [(60, 150)]⟩]⟩,
   ⟨0x8, 0x202C, [(64, 16)], 4, false, [⟨16, 16, false, [(0, 65535)]⟩, ⟨0, 1, false, [(0, 1)]⟩]⟩,
   ⟨0x8, 0x2400, [], 4, true, [⟨0, 32, false, [(0, 0), (10, 10000)]⟩]⟩,
   ⟨0x8, 0x2404, [], 4, false, [⟨16, 1, false, [(0, 1)]⟩, ⟨0, 16, false, [(0, 0), (10, 10000)]⟩]⟩,
   ⟨0x8, 0x2408, [], 4, true, [⟨0, 32, false, [(13, 10000)]⟩]⟩,
   ⟨0x8, 0x240C, [], 4, true, [⟨0, 32, false, [(0, 10000)]⟩]⟩,
   ⟨0x8, 0x2410, [], 4, true, [⟨0, 32, false, [(1, 1000)]⟩]⟩,
   ⟨0x8, 0x2414, [], 4, true, [⟨0, 32, false, [(60, 115)]⟩]⟩,
   ⟨0x8, 0x2418, [], 4, false, [⟨0, 8, false, [(100, 125)]⟩]⟩,
   ⟨0x8, 0x2440, [(16, 4)], 4, false, [⟨16, 1, false, [(0, 1)]⟩, ⟨0, 16, false, [(0, 65535)]⟩]⟩,
   ⟨0x8, 0x2444, [(16, 4)], 4, true, [⟨0, 32, false, [(0, 1800)]⟩]⟩,
   ⟨0x8, 0x2448, [(16, 4)], 4, false, [⟨0, 32, false, [(0, 1800)]⟩]⟩]

/-- Units of section 0x09. -/
def units9 : List UnitRow :=
  [⟨0x9, 0x0, [], 4, false, [⟨0, 32, false, [(0, 4294967295)]⟩]⟩,
   ⟨0x9, 0x4, [], 2, false, [⟨0, 16, false, [(0, 65535)]⟩]⟩,
   ⟨0x9, 0x8, [(64, 8), (4, 16)], 4, false, [⟨25, 7, false, [(0, 127)]⟩, ⟨23, 2, false, [(0, 2)]⟩, ⟨16, 7, false, [(0, 127)]⟩, ⟨0, 16, false, [(0, 65535)]⟩]⟩,
   ⟨0x9, 0x208, [(8, 64)], 4, false, [⟨25, 7, false, [(0, 127)]⟩]⟩,
   ⟨0x9, 0x20C, [(8, 64)], 4, true, [⟨0, 32, false, [(1, 8)]⟩]⟩,
   ⟨0x9, 0x408, [(4, 64)], 4, false, [⟨25, 7, false, [(0, 127)]⟩]⟩,
   ⟨0x9, 0x508, [], 4, true, [⟨0, 32, false, [(0, 0), (5, 50)]⟩]⟩]

/-- Units of section 0x0A. -/
def unitsA : List UnitRow :=
  [⟨0xA, 0x0, [], 4, false, [⟨0, 32, false, [(0, 4294967295)]⟩]⟩,
   ⟨0xA, 0x4, [], 2, false, [⟨0, 16, false, [(0, 65535)]⟩]⟩,
   ⟨0xA, 0x8, [], 4, false, [⟨0, 32, false, [(100, 1000000)]⟩]⟩,
   ⟨0xA, 0xC, [], 4, false, [⟨0, 32, false, [(100, 1000000)]⟩]⟩,
   ⟨0xA, 0x10, [], 4, false, [⟨0, 32, false, [(100, 600000)]⟩]⟩,
   ⟨0xA, 0x14, [], 4, false, [⟨16, 16, false, [(0, 8760)]⟩, ⟨4, 4, false, [(1, 7)]⟩, ⟨2, 1, false, [(0, 1)]⟩, ⟨1, 1, false, [(0, 1)]⟩, ⟨0, 1, false, [(0, 1)]⟩]⟩]

/-- Units of section 0x0B. -/
def unitsB : List UnitRow :=
  [⟨0xB, 0x0, [], 4, false, [⟨0, 32, false, [(0, 4294967295)]⟩]⟩,
   ⟨0xB, 0x4, [], 2, false, [⟨0, 16, false, [(0, 65535)]⟩]⟩,
   ⟨0xB, 0x8, [(4, 16)], 4, false, [⟨16, 16, false, [(0, 10000)]⟩, ⟨0, 8, false, [(0, 255)]⟩]⟩]

/-- Units of section 0x0C. -/
def unitsC : List UnitRow :=
  [⟨0xC, 0x0, [], 4, false, [⟨0, 32, false, [(0, 4294967295)]⟩]⟩,
   ⟨0xC, 0x4, [], 2, false, [⟨0, 16, false, [(0, 65535)]⟩]⟩,
   ⟨0xC, 0x8, [(4, 16)], 4, false, [⟨24, 8, false, [(0, 4)]⟩, ⟨16, 8, false, [(0, 4)]⟩, ⟨8, 8, false, [(0, 15), (255, 255)]⟩, ⟨0, 1, false, [(0, 1)]⟩]⟩,
   ⟨0xC, 0x48, [], 4, false, [⟨0, 32, false, [(1, 10000)]⟩]⟩]

/-- Units of section 0x0D. -/
def unitsD : List UnitRow :=
  [⟨0xD, 0x0, [], 4, false, [⟨0, 32, false, [(0, 4294967295)]⟩]⟩,
   ⟨0xD, 0x4, [], 2, false, [⟨0, 16, false, [(0, 65535)]⟩]⟩,
   ⟨0xD, 0x8, [], 4, false, [⟨24, 4, false, [(0, 15)]⟩, ⟨22, 2, false, [(0, 2)]⟩, ⟨21, 1, false, [(0, 1)]⟩, ⟨20, 1, false, [(0, 1)]⟩, ⟨19, 1, false, [(0, 1)]⟩, ⟨0, 16, false, [(1, 60000)]⟩]⟩]

/-- Units of section 0x0E. -/
def unitsE : List UnitRow :=
  [⟨0xE, 0x0, [], 4, false, [⟨0, 32, false, [(0, 4294967295)]⟩]⟩,
   ⟨0xE, 0x4, [], 2, false, [⟨0, 16, false, [(0, 65535)]⟩]⟩,
   ⟨0xE, 0x8, [], 4, false, [⟨1, 1, false, [(0, 1)]⟩, ⟨0, 1, false, [(0, 1)]⟩]⟩,
   ⟨0xE, 0xC, [], 4, false, [⟨0, 8, false, [(1, 15)]⟩]⟩,
   ⟨0xE, 0x10, [], 4, false, [⟨0, 32, false, [(10, 86400)]⟩]⟩]

/-- All units of the tables. Limit-table entries and claim entries beyond them depend on the image (R502). -/
def unitRows : List UnitRow :=
  units1 ++ units2 ++ units3a ++ units3b ++ units4 ++ units5 ++ units6 ++ units7a ++ units7b ++ units8a ++ units8b ++ units8c ++ units9 ++ unitsA ++ unitsB ++ unitsC ++ unitsD ++ unitsE

/-- The reserved bytes of the tables, outside the words of a unit. -/
def reservedRows : List Reserved :=
  [⟨0x1, 0x6, [], 2⟩,
   ⟨0x1, 0x38, [], 8⟩,
   ⟨0x1, 0x44, [], 4⟩,
   ⟨0x2, 0x2, [], 2⟩,
   ⟨0x3, 0x38, [(64, 16)], 8⟩,
   ⟨0x5, 0x9C, [(32, 16)], 12⟩,
   ⟨0x6, 0xC, [], 244⟩,
   ⟨0x6, 0x10C, [(8192, 16)], 52⟩,
   ⟨0x7, 0x8C, [], 116⟩,
   ⟨0x7, 0x128, [(64, 16)], 24⟩,
   ⟨0x8, 0x14, [(16, 76)], 4⟩,
   ⟨0x8, 0x4E0, [(32, 16)], 8⟩,
   ⟨0x8, 0x6D0, [(16, 8)], 8⟩,
   ⟨0x8, 0x748, [], 184⟩,
   ⟨0x8, 0x2030, [(64, 16)], 16⟩,
   ⟨0x8, 0x241C, [], 36⟩,
   ⟨0x8, 0x244C, [(16, 4)], 4⟩,
   ⟨0xA, 0x18, [], 40⟩,
   ⟨0xD, 0xC, [], 20⟩,
   ⟨0xE, 0x14, [], 4⟩]

end Sys2Proof.Machine
end

