-- ==== Sys2Proof/Machine/Fields.lean ====
section
/-! DEFINITION. Field identifiers (R502), the judgement and the commit of a wet write (R79, R80), and the relational rules
that a wet write and the image checks share (R215, R259). -/

namespace Sys2Proof.Machine

/-! ### Units -/

/-- Offsets of the repetitions, outermost first. -/
def repOffsets : List (Nat × Nat) → List Nat
  | [] => [0]
  | (st, n) :: r => (List.range n).flatMap fun i => (repOffsets r).map (st * i + ·)
/-- A distance from the first offset is one of a repetition. -/
def repHits : List (Nat × Nat) → Nat → Bool
  | [], d => d == 0
  | (st, n) :: r, d => d / st < n && repHits r (d % st)
/-- The row of the unit at an offset. -/
def rowAt (sec off : Nat) : Option UnitRow :=
  unitRows.find? fun u => u.sec == sec && u.base ≤ off && repHits u.reps (off - u.base)
/-- Bits of a bundle's low word that its control slot's form gives a field (Table 6.6); an invalid COP has no form, and all its
bits stand. -/
def ctrlMask (cop : Nat) : Nat :=
  if cop ≤ 6 then 0xFFFFFFF0 else if cop ≤ 8 then 0xFFFFF9F0 else if cop ≤ 10 then 0xFFFCFFFF
  else if cop == 11 then 0xFFFF01F0 else if cop == 16 then 0xFDF000FF else 0xFFFFFFFF
/-- Bits of a unit's fields when it holds the value v: a bundle's low word has those of the form that its COP chooses. -/
def UnitRow.mask (u : UnitRow) (v : Nat) : Nat :=
  (u.parts.map fun p => 2 ^ p.width * 2 ^ p.lo - 2 ^ p.lo).foldl (· ||| ·) 0
    &&& (if u.sec == 6 && u.base == 0x140 then ctrlMask (field v 26 6) else 2 ^ 32 - 1)
/-- The unit in which a byte of the shadow lies, with its offset. -/
def unitAt (sec off : Nat) : Option (UnitRow × Nat) :=
  (List.range 4).findSome? fun i => if off < i then none else (rowAt sec (off - i)).bind fun u => if i < u.size then some (u, off - i) else none
/-- A byte lies in reserved bytes of the tables. -/
def reservedByte (sec off : Nat) : Bool :=
  reservedRows.any fun u => u.sec == sec && u.base ≤ off && (List.range u.size).any fun i => u.base + i ≤ off && repHits u.reps (off - u.base - i)
/-- A byte written to the shadow (R4): reserved bytes stay 0, the unit that it lies in keeps only the bits of its fields, and a
byte outside the tables stands whole. -/
def State.putShadowByte (s : State) (sec off v : Nat) : State :=
  if reservedByte sec off then s.putShadow sec off 1 0
  else
    let t := s.putShadow sec off 1 v
    match unitAt sec off with
    | some (u, o) => let w := t.cfg sec o u.size; t.putShadow sec o u.size (w &&& u.mask w)
    | none => t
/-- Value of a part of a unit. -/
def Part.value (p : Part) (v : Nat) : Int := if p.signed then Sys2Proof.Machine.signed p.width (field v p.lo p.width) else (field v p.lo p.width : Nat)
/-- A value lies in one of the part's intervals. -/
def Part.allows (p : Part) (y : Int) : Bool := p.ranges.any fun r => decide (r.1 ≤ y) && decide (y ≤ r.2)
/-- A unit's value is within its ranges, its reserved bits 0. -/
def UnitRow.allows (u : UnitRow) (v : Nat) : Bool :=
  v == (u.parts.map fun p => field v p.lo p.width * 2 ^ p.lo).sum && u.parts.all fun p => p.allows (p.value v)
/-- The one part of a wet unit. -/
def UnitRow.part (u : UnitRow) : Part := u.parts.headD { lo := 0, width := 32, signed := false, ranges := [] }

/-- A limit-table entry's unit, in the sections that have a limit table (R78, R502). -/
def State.limitUnit (s : State) (sec off : Nat) : Bool :=
  let lim := s.cfgWord sec 0
  sec != 2 && 1 ≤ sec && sec ≤ 14 && lim ≤ off && off < lim + 12 * s.cfg sec 4 2 && (off - lim) % 4 == 0
/-- The unit an identifier names (R502): its size in bytes, and its row where it is wet; none where it names no field. -/
def State.unitOf (s : State) (id : Nat) : Option (Nat × Option UnitRow) :=
  let sec := id / 2 ^ 24
  let off := id % 2 ^ 24
  match rowAt sec off with
  | some u =>
    if sec == 2 && 4 ≤ off && s.claimCount ≤ (off - 4) / 4 then none else some (u.size, if u.wet then some u else none)
  | none => if s.limitUnit sec off then some (4, none) else none
/-- A palette entry's identifier (Table 4.3). -/
def paletteField (id : Nat) : Bool := id / 2 ^ 24 == 5 && 0x288 ≤ id % 2 ^ 24 && id % 2 ^ 24 < 0x4288

/-! ### Relational rules -/

/-- R215 for a rail, as far as wet fields can break it. -/
def State.policyBad (s : State) (n : Nat) : Bool :=
  (s.shedThr n != 0 && s.addThr n ≤ s.shedThr n) || (List.range 6).any (fun b => s.bandHi n (b + 1) ≤ s.bandHi n b)
    || (List.range 8).any (fun b => s.bandW n b < s.wMin n || s.wMax n < s.bandW n b)
/-- A comparator enables EDGE for the rail (Table 9.3). -/
def State.usesEdge (s : State) (n : Nat) : Bool :=
  (List.range 76).any fun m => bit (s.cmpWord m) 19 && field (s.cmpWord m) 8 4 == n
/-- R259: 2 × P × EDGE_LEN × FSW ≤ 0.5, in ns and kHz. -/
def State.edgeBad (s : State) (n : Nat) : Bool := s.usesEdge n && 4 * (s.railPhases n).length * s.edgeLen n * s.fsw n > 1000000

/-! ### Wet values -/

/-- The shadow with every committed wet value in it, those that wait for the handback included (R80). -/
def State.committed (s : State) : State := { s with shadow := s.wetHeld.foldl (fun m x => sput 0 m x.1 x.2) s.shadow }
/-- Bytes of the wet area: the wet units in the order of section and offset. -/
def State.wetBytes (s : State) : List Byte :=
  (unitRows.filter (·.wet)).flatMap fun u => (repOffsets u.reps).flatMap fun o => sgets 0 s.shadow (shadowKey u.sec (u.base + o)) u.size
/-- The dry part of the shadow: its bytes outside the wet units. -/
def State.dryBytes (s : State) : List Byte :=
  (s.shadow.filter fun x => !unitRows.any fun u =>
    u.wet && u.sec == x.1 / 2 ^ 24 && (List.range u.size).any fun i => shadowKey u.sec (u.base + i) ≤ x.1
      && repHits u.reps (x.1 - shadowKey u.sec (u.base + i))).flatMap fun x => leBytes 4 x.1 ++ [x.2]

/-- A wet write's commit (R79 step 6): into the shadow's wet area with its CRC; during a hold it waits (R80). -/
def State.wetCommit (s : State) (id size v : Nat) : State :=
  let s := if s.app.holding then { s with wetHeld := s.wetHeld ++ (leBytes size v).mapIdx fun i b => (id + i, b) }
    else s.putShadow (id / 2 ^ 24) (id % 2 ^ 24) size v
  { s with boot := { s.boot with wetCrc := BitVec.ofNat 32 (crc32 s.committed.wetBytes) } }

/-- Step 4 of R79 with R216 and R259: the value, taken as the field's, lies outside its limit pair, its range or a rule. -/
def State.wetOutside (s : State) (u : UnitRow) (id v : Nat) : Bool :=
  let sec := id / 2 ^ 24
  let off := id % 2 ^ 24
  let y := u.part.value v
  (match s.limitPair sec off with
    | some (lo, hi) => decide (y < u.part.value lo) || decide (u.part.value hi < y)
    | none => true)
  || !u.part.allows y
  || (let t := ({ s with app := { s.app with holding := false } }).committed.putShadow sec off u.size v
      (sec == 7 && t.policyBad (if 0x500 ≤ off then (off - 0x500) / 32 else (off - 0x100) / 64))
        || (sec == 8 && 0x4C8 ≤ off && off < 0x6C8 && t.edgeBad ((off - 0x4C8) / 32)))

/-- Step 5 of R79: the resource that the value would use and its owner, where that is not the requester: GTk of LEN, which
nobody but the owner of its claim may write (R278),
and an accumulator of protection (R73, R330). -/
def State.wetConflict (s : State) (id requester : Nat) : Option (Nat × Nat × Nat) :=
  let sec := id / 2 ^ 24
  let off := id % 2 ^ 24
  if sec == 8 && 0x6C8 ≤ off && off < 0x748 then
    let k := (off - 0x6C8) / 16
    let o := s.owner 2 k
    if o != requester then some (2, k, o) else none
  else if sec == 9 && 0x208 ≤ off && off < 0x408 then
    let a := (off - 0x208) / 8
    if s.owner 4 a == 0x22 then some (4, a, 0x22) else none
  else none
/-- RESOURCE_CONFLICT (R73, Table 13.6). -/
def State.conflict (s : State) (type index requester holder : Nat) : State := s.record 0x6002 (256 * type + index) requester holder

/-- A committed wet write to a rail's fields aborts its characterisation run (R143). -/
def State.abortUnit (s : State) (u : UnitRow) (id : Nat) : State :=
  match u.reps with
  | (st, 16) :: _ => s.abortChar ((id % 2 ^ 24 - u.base) / st)
  | _ => s

/-- The RM can take a request now. -/
def State.rmServes (s : State) : Bool := s.rm.run == .running && s.clock.corePresent

/-- R79 from a host identity: the status answered and the state. `size` is the stated size; `none` is for the PMBus commands
that write a wet field of the right size. -/
def State.wetWrite (s : State) (id : Nat) (size : Option Nat) (v : Nat) : Nat × State :=
  if !s.boot.imageLoaded || s.boot.stage != 8 then (2, s)
  else match s.unitOf id with
    | none => (5, s)
    | some (_, none) => (2, s)
    | some (n, some u) =>
      if paletteField id then (2, s)
      else if (size.getD n) != n then (5, s)
      else if 2 ^ (8 * n) ≤ v || s.wetOutside u id v then (4, s)
      else match s.wetConflict id 1 with
        | some (t, i, o) => (3, s.conflict t i 1 o)
        | none => if s.rmServes then (0, (s.wetCommit id n v).abortUnit u id) else (1, s)

/-- WET_READ (Table 14.6): size, value and limit pair; the pair of a dry unit is its value. -/
def State.wetRead (s : State) (id : Nat) : Option (List Word) :=
  match s.unitOf id with
  | none => none
  | some (n, u) =>
    let sec := id / 2 ^ 24
    let off := id % 2 ^ 24
    let w := s.committed.cfg sec off n
    let v := w &&& ((rowAt sec off).map (·.mask w)).getD (2 ^ (8 * n) - 1)
    let lim := if u.isSome then (s.limitPair sec off).getD (v, v) else (v, v)
    some [BitVec.ofNat 32 n, BitVec.ofNat 32 v, BitVec.ofNat 32 lim.1, BitVec.ofNat 32 lim.2]

end Sys2Proof.Machine
end

