-- ==== Sys2Proof/Machine/Crypto.lean ====
section
/-! DEFINITION. The cryptographic functions that the spec names by their standards (spec/17): SHA-384 and SHA-256 (FIPS 180-4),
HMAC-SHA-256 (FIPS 198-1), ECDSA and ECDH on P-384 (FIPS 186-5, SEC 1) and the AES-256 key unwrap (RFC 3394). The spec gives the names
alone: what each computes is taken from its standard (PRESUMED, log entry 6). -/

namespace Sys2Proof.Machine

/-! ### Octet strings -/

/-- The number of an octet string, most significant byte first (FIPS and SEC 1 values, R452). -/
def ofOctets (l : List Byte) : Nat := l.foldl (fun a b => 256 * a + b.toNat) 0
/-- The octet string of a number, most significant byte first. -/
def octets (n x : Nat) : List Byte := (leBytes n x).reverse
/-- `n` bytes of a list from an offset. -/
def slice (l : List Byte) (off n : Nat) : List Byte := (l.drop off).take n

/-! ### SHA-2 -/

/-- One width of SHA-2: bits of a word, and the three amounts of each of its four mixing functions; the last amount of the two that
extend the message is a shift. -/
structure Sha2 where
  bits : Nat
  up0 : Nat × Nat × Nat
  up1 : Nat × Nat × Nat
  low0 : Nat × Nat × Nat
  low1 : Nat × Nat × Nat
  deriving DecidableEq, Repr
/-- The eight working variables of a round. -/
structure ShaVars where
  a : Nat
  b : Nat
  c : Nat
  d : Nat
  e : Nat
  f : Nat
  g : Nat
  h : Nat
  deriving DecidableEq, Repr
/-- A rotation to the right of a word of `w` bits. -/
def rotr (w n x : Nat) : Nat := (x / 2 ^ n) ||| ((x * 2 ^ (w - n)) % 2 ^ w)
/-- Three rotations, joined bit by bit. -/
def mixUp (w : Nat) (r : Nat × Nat × Nat) (x : Nat) : Nat := rotr w r.1 x ^^^ rotr w r.2.1 x ^^^ rotr w r.2.2 x
/-- Two rotations and a shift. -/
def mixLow (w : Nat) (r : Nat × Nat × Nat) (x : Nat) : Nat := rotr w r.1 x ^^^ rotr w r.2.1 x ^^^ (x / 2 ^ r.2.2)
/-- One round with its constant and its word of the message. -/
def shaRound (p : Sha2) (k w : Nat) (v : ShaVars) : ShaVars :=
  let m := 2 ^ p.bits
  let t1 := v.h + mixUp p.bits p.up1 v.e + ((v.e &&& v.f) ^^^ ((m - 1 - v.e) &&& v.g)) + k + w
  let t2 := mixUp p.bits p.up0 v.a + ((v.a &&& v.b) ^^^ (v.a &&& v.c) ^^^ (v.b &&& v.c))
  { a := (t1 + t2) % m, b := v.a, c := v.b, d := v.c, e := (v.d + t1) % m, f := v.e, g := v.f, h := v.g }
/-- The rounds over a sliding window of 16 words of the extended message. -/
def shaRounds (p : Sha2) : List Nat → List Nat → ShaVars → ShaVars
  | [], _, v => v
  | k :: ks, w, v =>
    let x := (mixLow p.bits p.low1 (w.getD 14 0) + w.getD 9 0 + mixLow p.bits p.low0 (w.getD 1 0) + w.headD 0) % 2 ^ p.bits
    shaRounds p ks (w.drop 1 ++ [x]) (shaRound p k (w.headD 0) v)
/-- The words of a block, each of `n` bytes. -/
def blockWords (n : Nat) (l : List Byte) : List Nat := (List.range 16).map fun i => ofOctets (slice l (n * i) n)
/-- A block changes the hash value. -/
def shaBlock (p : Sha2) (ks : List Nat) (v : ShaVars) (l : List Byte) : ShaVars :=
  let r := shaRounds p ks (blockWords (p.bits / 8) l) v
  let m := 2 ^ p.bits
  { a := (v.a + r.a) % m, b := (v.b + r.b) % m, c := (v.c + r.c) % m, d := (v.d + r.d) % m,
    e := (v.e + r.e) % m, f := (v.f + r.f) % m, g := (v.g + r.g) % m, h := (v.h + r.h) % m }
/-- The message as it is padded: a one bit, zeros, and its length in bits. -/
def shaPad (p : Sha2) (l : List Byte) : List Byte :=
  let n := 2 * p.bits
  let used := (l.length + 1 + n / 8) % n
  l ++ [0x80] ++ List.replicate ((n - used) % n) 0 ++ octets (n / 8) (8 * l.length)
/-- A number of blocks, one after the other. -/
def shaBlocks (p : Sha2) (ks : List Nat) : Nat → List Byte → ShaVars → ShaVars
  | 0, _, v => v
  | k + 1, l, v => shaBlocks p ks k (l.drop (2 * p.bits)) (shaBlock p ks v (l.take (2 * p.bits)))
/-- The hash value of a message. -/
def shaOf (p : Sha2) (ks : List Nat) (v : ShaVars) (l : List Byte) : ShaVars :=
  let m := shaPad p l
  shaBlocks p ks (m.length / (2 * p.bits)) m v
/-- The round constants of the 64-bit width; the upper halves of the first 64 are those of the 32-bit width. -/
def shaConsts : List Nat :=
  [0x428a2f98d728ae22, 0x7137449123ef65cd, 0xb5c0fbcfec4d3b2f, 0xe9b5dba58189dbbc, 0x3956c25bf348b538] ++
  [0x59f111f1b605d019, 0x923f82a4af194f9b, 0xab1c5ed5da6d8118, 0xd807aa98a3030242, 0x12835b0145706fbe] ++
  [0x243185be4ee4b28c, 0x550c7dc3d5ffb4e2, 0x72be5d74f27b896f, 0x80deb1fe3b1696b1, 0x9bdc06a725c71235] ++
  [0xc19bf174cf692694, 0xe49b69c19ef14ad2, 0xefbe4786384f25e3, 0x0fc19dc68b8cd5b5, 0x240ca1cc77ac9c65] ++
  [0x2de92c6f592b0275, 0x4a7484aa6ea6e483, 0x5cb0a9dcbd41fbd4, 0x76f988da831153b5, 0x983e5152ee66dfab] ++
  [0xa831c66d2db43210, 0xb00327c898fb213f, 0xbf597fc7beef0ee4, 0xc6e00bf33da88fc2, 0xd5a79147930aa725] ++
  [0x06ca6351e003826f, 0x142929670a0e6e70, 0x27b70a8546d22ffc, 0x2e1b21385c26c926, 0x4d2c6dfc5ac42aed] ++
  [0x53380d139d95b3df, 0x650a73548baf63de, 0x766a0abb3c77b2a8, 0x81c2c92e47edaee6, 0x92722c851482353b] ++
  [0xa2bfe8a14cf10364, 0xa81a664bbc423001, 0xc24b8b70d0f89791, 0xc76c51a30654be30, 0xd192e819d6ef5218] ++
  [0xd69906245565a910, 0xf40e35855771202a, 0x106aa07032bbd1b8, 0x19a4c116b8d2d0c8, 0x1e376c085141ab53] ++
  [0x2748774cdf8eeb99, 0x34b0bcb5e19b48a8, 0x391c0cb3c5c95a63, 0x4ed8aa4ae3418acb, 0x5b9cca4f7763e373] ++
  [0x682e6ff3d6b2b8a3, 0x748f82ee5defb2fc, 0x78a5636f43172f60, 0x84c87814a1f0ab72, 0x8cc702081a6439ec] ++
  [0x90befffa23631e28, 0xa4506cebde82bde9, 0xbef9a3f7b2c67915, 0xc67178f2e372532b, 0xca273eceea26619c] ++
  [0xd186b8c721c0c207, 0xeada7dd6cde0eb1e, 0xf57d4f7fee6ed178, 0x06f067aa72176fba, 0x0a637dc5a2c898a6] ++
  [0x113f9804bef90dae, 0x1b710b35131c471b, 0x28db77f523047d84, 0x32caab7b40c72493, 0x3c9ebe0a15c9bebc] ++
  [0x431d67c49c100d4c, 0x4cc5d4becb3e42b6, 0x597f299cfc657e2a, 0x5fcb6fab3ad6faec, 0x6c44198c4a475817]
/-- The 64-bit width. -/
def sha64 : Sha2 := { bits := 64, up0 := (28, 34, 39), up1 := (14, 18, 41), low0 := (1, 8, 7), low1 := (19, 61, 6) }
/-- The 32-bit width. -/
def sha32 : Sha2 := { bits := 32, up0 := (2, 13, 22), up1 := (6, 11, 25), low0 := (7, 18, 3), low1 := (17, 19, 10) }
/-- The initial hash value of SHA-384. -/
def sha384Start : ShaVars :=
  { a := 0xcbbb9d5dc1059ed8, b := 0x629a292a367cd507, c := 0x9159015a3070dd17, d := 0x152fecd8f70e5939,
    e := 0x67332667ffc00b31, f := 0x8eb44a8768581511, g := 0xdb0c2e0d64f98fa7, h := 0x47b5481dbefa4fa4 }
/-- The initial hash value of SHA-256. -/
def sha256Start : ShaVars :=
  { a := 0x6a09e667, b := 0xbb67ae85, c := 0x3c6ef372, d := 0xa54ff53a,
    e := 0x510e527f, f := 0x9b05688c, g := 0x1f83d9ab, h := 0x5be0cd19 }
/-- Words of `w` bits as one number, the first the most significant. -/
def joinWords (w : Nat) (l : List Nat) : Nat := l.foldl (fun a x => a * 2 ^ w + x) 0
/-- SHA-384 of a byte string (R64, R466). -/
@[irreducible] def sha384 (l : List Byte) : BitVec 384 :=
  let v := shaOf sha64 shaConsts sha384Start l
  BitVec.ofNat 384 (joinWords 64 [v.a, v.b, v.c, v.d, v.e, v.f])
/-- SHA-256 of a byte string. -/
@[irreducible] def sha256 (l : List Byte) : BitVec 256 :=
  let v := shaOf sha32 ((shaConsts.take 64).map (· / 2 ^ 32)) sha256Start l
  BitVec.ofNat 256 (joinWords 32 [v.a, v.b, v.c, v.d, v.e, v.f, v.g, v.h])
/-- HMAC-SHA-256 of a byte string under a 256-bit key (R467). -/
@[irreducible] def hmacSha256 (key : BitVec 256) (l : List Byte) : BitVec 256 :=
  let k := octets 32 key.toNat ++ List.replicate 32 0
  let inner := sha256 (k.map (· ^^^ 0x36) ++ l)
  sha256 (k.map (· ^^^ 0x5C) ++ octets 32 inner.toNat)

/-! ### P-384 -/

/-- The field's prime. -/
def p384 : Nat := 2 ^ 384 - 2 ^ 128 - 2 ^ 96 + 2 ^ 32 - 1
/-- The order of the base point. -/
def n384 : Nat := 0xffffffffffffffffffffffffffffffffffffffffffffffffc7634d81f4372ddf581a0db248b0a77aecec196accc52973
/-- The coefficient b of the curve y² = x³ − 3x + b. -/
def b384 : Nat := 0xb3312fa7e23ee7e4988e056be3f82d19181d9c6efe8141120314088f5013875ac656398d8a2ed19d2a85c8edd3ec2aef
/-- A point of the curve; none: the point at infinity. -/
abbrev Point := Option (Nat × Nat)
/-- The base point. -/
def base384 : Point :=
  some (0xaa87ca22be8b05378eb1c71ef320ad746e1d3b628ba79b9859f741e082542a385502f25dbf55296c3a545e3872760ab7,
    0x3617de4a96262c6f5d9e98bf9292dc29f8f41dbd289a147ce9da3113b5f0b8c00a60b1ce1d7e819d7a431d7c90ea0e5f)
/-- A power modulo `m`, over `fuel` bits of the exponent. -/
def powMod (m : Nat) : Nat → Nat → Nat → Nat
  | 0, _, _ => 1
  | fuel + 1, b, e => (if e % 2 = 1 then b else 1) * powMod m fuel (b * b % m) (e / 2) % m
/-- The inverse modulo a prime of at most 384 bits. -/
def invMod (m x : Nat) : Nat := powMod m 384 (x % m) (m - 2)
/-- A difference modulo `m` of numbers below it. -/
def subMod (m x y : Nat) : Nat := (x + (m - y)) % m
/-- The sum of two points. -/
def Point.add (a b : Point) : Point :=
  match a, b with
  | none, q => q
  | q, none => q
  | some (x, y), some (u, v) =>
    if x = u && (y ≠ v || y = 0) then none
    else
      let t := if x = u then (3 * x * x + (p384 - 3)) * invMod p384 (2 * y) % p384
        else subMod p384 v y * invMod p384 (subMod p384 u x) % p384
      let w := subMod p384 (subMod p384 (t * t % p384) x) u
      some (w, subMod p384 (t * subMod p384 x w % p384) y)
/-- A multiple of a point, over `fuel` bits of the factor. -/
def Point.times : Nat → Nat → Point → Point
  | 0, _, _ => none
  | fuel + 1, k, q => Point.add (if k % 2 = 1 then q else none) (Point.times fuel (k / 2) (Point.add q q))
/-- The x coordinate; 0 for the point at infinity. -/
def Point.x (q : Point) : Nat := (q.getD (0, 0)).1
/-- The point of a 97-byte key in the uncompressed form of SEC 1; none where it gives no point of the curve. -/
def keyPoint (key : List Byte) : Option (Nat × Nat) :=
  let x := ofOctets (slice key 1 48)
  let y := ofOctets (slice key 49 48)
  if key.length = 97 && key.headD 0 == 4 && decide (x < p384) && decide (y < p384)
      && decide (y * y % p384 = (x * x * x + (p384 - 3) * x + b384) % p384) then some (x, y) else none
/-- The private scalar that a draw gives: 1 to n − 1 (FIPS 186-5). -/
def scalarOf (draw : BitVec 384) : BitVec 384 := BitVec.ofNat 384 (draw.toNat % (n384 - 1) + 1)
/-- The 97-byte public key of a private scalar (R464). -/
@[irreducible] def publicKey (scalar : BitVec 384) : List Byte :=
  let q := (Point.times 384 scalar.toNat base384).getD (0, 0)
  [4] ++ octets 48 q.1 ++ octets 48 q.2
/-- ECDSA P-384: the signature (r followed by s) verifies for a digest under a public key (R453 to R461). -/
@[irreducible] def ecdsaVerify (key : List Byte) (digest : BitVec 384) (sig : List Byte) : Bool :=
  let r := ofOctets (slice sig 0 48)
  let t := ofOctets (slice sig 48 48)
  match keyPoint key with
  | none => false
  | some q =>
    let w := invMod n384 t
    let u := digest.toNat * w % n384
    let v := r * w % n384
    let z := Point.add (Point.times 384 u base384) (Point.times 384 v (some q))
    sig.length = 96 && r ≠ 0 && t ≠ 0 && decide (r < n384) && decide (t < n384) && z.isSome && z.x % n384 = r
/-- The ECDSA P-384 signature (r followed by s) by a scalar, over a digest, with the nonce that a draw gives (R466). -/
@[irreducible] def ecdsaSign (scalar digest draw : BitVec 384) : BitVec 768 :=
  let k := (scalarOf draw).toNat
  let r := (Point.times 384 k base384).x % n384
  let t := invMod n384 k * (digest.toNat + r * scalar.toNat) % n384
  BitVec.ofNat 768 (r * 2 ^ 384 + t)
/-- The ECDH P-384 shared secret of a private scalar and a public key; none where the key is no point of the curve (R465). -/
@[irreducible] def ecdhSecret (scalar : BitVec 384) (key : List Byte) : Option (BitVec 384) :=
  (keyPoint key).map fun q => BitVec.ofNat 384 (Point.times 384 scalar.toNat (some q)).x

/-! ### AES-256 -/

/-- A product by x in the field of AES. -/
def gfDouble (x : Nat) : Nat := if x < 128 then 2 * x else (2 * x) ^^^ 0x11B
/-- The product of two bytes in the field of AES, over `fuel` bits of the second. -/
def gfTimes : Nat → Nat → Nat → Nat
  | 0, _, _ => 0
  | fuel + 1, a, b => (if b % 2 = 1 then a else 0) ^^^ gfTimes fuel (gfDouble a) (b / 2)
/-- The inverse of a byte, 0 for 0: its power 254. -/
def gfInverse (x : Nat) : Nat :=
  let sq (y : Nat) : Nat := gfTimes 8 y y
  let x2 := sq x
  let x4 := sq x2
  let x8 := sq x4
  let x16 := sq x8
  let x32 := sq x16
  let x64 := sq x32
  [x4, x8, x16, x32, x64, sq x64].foldl (gfTimes 8) x2
/-- A byte turned to the left. -/
def rotByte (n x : Nat) : Nat := (x * 2 ^ n ||| x / 2 ^ (8 - n)) % 256
/-- The substitution of a byte. -/
def subByte (x : Nat) : Nat :=
  let i := gfInverse x
  i ^^^ rotByte 1 i ^^^ rotByte 2 i ^^^ rotByte 3 i ^^^ rotByte 4 i ^^^ 0x63
/-- The inverse substitution. -/
def invSubByte (x : Nat) : Nat := gfInverse (rotByte 1 x ^^^ rotByte 3 x ^^^ rotByte 6 x ^^^ 5)
/-- Two byte strings, joined bit by bit. -/
def xorBytes (a b : List Nat) : List Nat := List.zipWith (· ^^^ ·) a b
/-- The next word of the key schedule; the words so far are listed newest first. -/
def nextKeyWord (l : List (List Nat)) : List Nat :=
  let i := l.length
  let t := l.headD []
  let t := if i % 8 = 0 then
      xorBytes ((t.drop 1 ++ t.take 1).map subByte) [(List.range (i / 8 - 1)).foldl (fun c _ => gfDouble c) 1, 0, 0, 0]
    else if i % 8 = 4 then t.map subByte else t
  xorBytes (l.getD 7 []) t
/-- The 15 round keys of a 32-byte key. -/
def roundKeys (key : List Nat) : List (List Nat) :=
  let l := (List.range 52).foldl (fun l _ => nextKeyWord l :: l) ((List.range 8).map fun i => (key.drop (4 * i)).take 4).reverse
  (List.range 15).map fun r => ((l.reverse.drop (4 * r)).take 4).flatten
/-- The rows of a block turned back, and its bytes substituted back. -/
def invShiftSub (b : List Nat) : List Nat :=
  (List.range 16).map fun i => invSubByte (b.getD (i % 4 + 4 * ((i / 4 + 4 - i % 4) % 4)) 0)
/-- The columns of a block mixed back. -/
def invMixColumns (b : List Nat) : List Nat :=
  (List.range 16).map fun i =>
    let x (j : Nat) : Nat := b.getD (i / 4 * 4 + (i + j) % 4) 0
    gfTimes 8 (x 0) 14 ^^^ gfTimes 8 (x 1) 11 ^^^ gfTimes 8 (x 2) 13 ^^^ gfTimes 8 (x 3) 9
/-- A block of 16 bytes decrypted under the round keys. -/
def aesDecrypt (ks : List (List Nat)) (b : List Nat) : List Nat :=
  let b := xorBytes b (ks.getD 14 [])
  let b := (List.range 13).foldl (fun b i => invMixColumns (xorBytes (invShiftSub b) (ks.getD (13 - i) []))) b
  xorBytes (invShiftSub b) (ks.getD 0 [])
/-- One step of the unwrap: the check register and the four halves. -/
def unwrapStep (ks : List (List Nat)) (x : List Nat × List (List Nat)) (t : Nat) : List Nat × List (List Nat) :=
  let i := (t - 1) % 4
  let b := aesDecrypt ks (xorBytes x.1 [0, 0, 0, 0, 0, 0, 0, t] ++ x.2.getD i [])
  (b.take 8, x.2.set i (b.drop 8))
/-- The AES-256 key unwrap of 40 wrapped bytes under a 32-byte key; none where its check fails (R465). -/
@[irreducible] def aesUnwrap (kek wrapped : List Byte) : Option (BitVec 256) :=
  let w := wrapped.map BitVec.toNat
  let ks := roundKeys (kek.map BitVec.toNat)
  let (a, r) := ((List.range 24).map (24 - ·)).foldl (unwrapStep ks) (w.take 8, (List.range 4).map fun i => (w.drop (8 * i + 8)).take 8)
  if wrapped.length = 40 && a == List.replicate 8 0xA6 then some (BitVec.ofNat 256 (joinWords 8 r.flatten)) else none

end Sys2Proof.Machine
end

