-- ==== Sys2Proof/Machine/Comparators.lean ====
section
/-! DEFINITION. The comparators, the burst limits, the general timers and the soft router as commands (spec/09). -/

namespace Sys2Proof.Machine

/-- The comparators follow their inputs: the P6 self-test has passed (R255). -/
def State.compsLive (s : State) : Bool := s.boot.stage == 7 || s.boot.stage == 8

/-- The selector of a comparator on a rail's senses is still following a change of the chosen sense, and its output is held
(R127). -/
def State.selectorMoves (s : State) (m : Nat) : Bool :=
  match s.compRail m with
  | some n => s.within (s.rail n).sense.switchAt (nsTicks 100)
  | none => false

/-- The level at a comparator's input: of a rail's senses A (`level`) and B (`levelB`) the chosen one (R127, R252). -/
def State.inputLevel (s : State) (m : Nat) (level levelB : Int) : Int :=
  match s.compRail m with
  | some n => if (s.rail n).sense.sel then levelB else level
  | none => level

/-- COMPARATOR_CROSSING (R127, R253, R254): the live output follows the input level, given in 2^-20 V; for a comparator on a
rail's senses the levels of both. -/
def execComparatorCrossing (m : Fin 76) (level levelB : Int) (s : State) : Host.Outcome State Fault Refusal :=
  if s.compsLive && s.compInService m && !s.selectorMoves m then
    let v := s.compare m (s.inputLevel m level levelB)
    if v == (s.comp m).live then complete s else complete (s.driveLive m v)
  else complete s

/-- BURST_LIMIT_ELAPSED (R271 to R274): the burst ends at its limit. -/
def execBurstLimitElapsed (n : Fin 16) (s : State) : Host.Outcome State Fault Refusal :=
  if (s.rail n).pol.burst then
    complete ((s.endBurst n (5 * (nearest (4 * s.burstLimit n) 5).toNat) true).rearmBurst n)
  else complete s

/-- CLAMP_LIMIT_ELAPSED (R275): a clamp still asserted idles the lanes until its release. -/
def execClampLimitElapsed (n : Fin 16) (s : State) : Host.Outcome State Fault Refusal :=
  if (s.rail n).pol.clamp && s.dest (16 + n) && !(s.rail n).pol.clampIdle then
    complete (((s.updPol n fun p => { p with clampIdle := true }).obeyOverrides n).disturb n)
  else complete s

/-- MASK_WINDOW_CLOSE (R258, R272). -/
def execMaskWindowClose (m : Fin 76) (src : MaskSrc) (s : State) : Host.Outcome State Fault Refusal :=
  if (s.comp m).win.getLsbD (maskIdx src) then complete (s.closeWindow m (maskIdx src)) else complete s

/-- The lowest step that failed of a four-step test (R263); bit i of `passed` is step i + 1. -/
def failingStep (passed : BitVec 4) : Option (Fin 4) :=
  [(0 : Fin 4), 1, 2, 3].find? fun i => !passed.getLsbD i

/-- One self-test of a comparator (R260, R263): a failure waits for its repeat and is outstanding until then. -/
def State.runTest (s : State) (m : Nat) (passed : BitVec 4) : State :=
  let s := s.updComp m fun c => { c with testedAt := s.clock.tick, repeatDue := failingStep passed }
  if passed == 15 then s else s.faultOn .comparator m false

/-- A comparator that may be tested now (R261, R262). -/
def State.testable (s : State) (m : Nat) : Bool :=
  s.primed && s.compInService m && (s.comp m).repeatDue.isNone && s.clock.loopPresent

/-- `cmp test m`, where it waits for this test, prints PASS or the failing step (R485). -/
def State.tellTest (s : State) (m : Nat) (passed : BitVec 4) : State :=
  if s.con.waiting == some (.cmp m) then
    s.conEnd [match failingStep passed with
      | some k => .words [BitVec.ofNat 32 (k.val + 1)]
      | none => .text (ascii ['P', 'A', 'S', 'S']), .ok]
  else s

/-- COMPARATOR_SELFTEST (R260, R262), inside an open mask window. -/
def execComparatorSelftest (m : Fin 76) (passed : BitVec 4) (s : State) : Host.Outcome State Fault Refusal :=
  if s.testable m && (s.comp m).win != 0 then complete ((s.runTest m passed).tellTest m passed) else complete s

/-- No burst, clamp or mask window is in progress on a rail (R24, R262). -/
def State.railQuiet (s : State) (n : Nat) : Bool :=
  !(s.rail n).pol.burst && !(s.rail n).pol.clamp
    && (List.range 76).all fun m => (s.comp m).win == 0 || (s.mrail m != n && !(m < 64 && m / 4 == n))

/-- FORCED_TEST_WINDOW (R262): at a period start of MRAIL at which nothing is in progress on that rail. -/
def execForcedTestWindow (m : Fin 76) (passed : BitVec 4) (s : State) : Host.Outcome State Fault Refusal :=
  if s.testable m && s.railQuiet (s.mrail m) then complete ((s.runTest m passed).tellTest m passed) else complete s

/-- A comparator is declared failed (R263 to R265): its output takes what Table 9.4 holds, and with it the LATCH that soft
crosspoints carry; STATUS_CML[0]. A `cmp test` that waits for it has lost its precondition. -/
def State.failComp (s : State) (m : Nat) : State :=
  let s := ((s.updComp m fun c => { c with failed := true, win := 0 }).faultOn .comparator m true).setCml 1
  let s := s.when (s.con.waiting == some (.cmp m)) fun s => s.conEnd [.err 7]
  if m < 64 && m % 4 == 3 then s
  else
    let v := m ≥ 68 && s.compReset m
    (s.driveLive m v).updComp m fun c => { c with latch := v && s.classP m }

/-- SELFTEST_REPEAT (R263): the one record of a test and its repeat. -/
def execSelftestRepeat (m : Fin 76) (passed : BitVec 4) (s : State) : Host.Outcome State Fault Refusal :=
  match (s.comp m).repeatDue with
  | none => complete s
  | some first =>
    let s := s.updComp m fun c => { c with repeatDue := none, testedAt := s.clock.tick }
    match failingStep passed with
    | none => complete ((s.faultOff .comparator m).record 0x6001 m (first + 1) (2 ^ 31 + s.thr m % 1024))
    | some again => complete ((s.record 0x6001 m (again + 1) (s.thr m % 1024)).failComp m)

/-- LATCH_CLEAR (R256): firmware clears a class P latch with CLR = 1, unless the masked output is asserted; it
acts in LOOP (Table 1.5). -/
def execLatchClear (m : Fin 76) (s : State) : Host.Outcome State Fault Refusal :=
  if s.classP m && bit (s.cmpWord m) 28 && s.clock.loopPresent then complete (s.updComp m s.clearLatch) else complete s

/-- EDGE_FLAG_CLEAR (R257): writing 1 clears a flag of a class M comparator, unless its edge came in the same LOOP cycle; it
acts in LOOP. -/
def execEdgeFlagClear (m : Fin 76) (rise fall : Bool) (s : State) : Host.Outcome State Fault Refusal :=
  complete (s.when s.clock.loopPresent fun s => s.updComp m fun c => { c with
    rise := c.rise && (!rise || s.sameCycle c.riseAt), fall := c.fall && (!fall || s.sameCycle c.downAt) })

/-- SOFT_ROUTE_DELIVERY (R266, R268); while CORE is absent soft destinations keep their state (R269). -/
def execSoftRouteDelivery (src : Fin 256) (s : State) : Host.Outcome State Fault Refusal :=
  if s.clock.corePresent then complete (s.deliver src) else complete s

/-- GT_TRIGGER (R277, R278). -/
def execGtTrigger (k : Fin 8) (s : State) : Host.Outcome State Fault Refusal := complete (State.hardFrom s (s.triggerTimer k))

/-- The comparators whose GT mask names GTk close that window (Table 9.3). -/
def State.closeTimerWindows (s : State) (k : Nat) : State :=
  s.forEach (indices 76 fun m => field (s.cmpWord m) 12 3 == k && (s.comp m).win.getLsbD 0) fun s m => s.closeWindow m 0

/-- GT_EXPIRY (R277): a one-shot output falls; a periodic one toggles and the count restarts, and its mask window, which the expiry
closes and the restart opens, stays open (DESIGN CHOICE, log entry 56). -/
def execGtExpiry (k : Fin 8) (s : State) : Host.Outcome State Fault Refusal :=
  if (s.timer k).running && s.timerRuns k then
    if s.gtPeriodic k == 1 then
      complete (State.hardFrom s (s.updTimer k fun t => { t with out := !t.out, remain := s.gtLen k }))
    else complete ((State.hardFrom s (s.updTimer k fun t => { t with out := false, running := false, remain := 0 })).closeTimerWindows k)
  else complete s

end Sys2Proof.Machine
end

