-- ==== Sys2Proof/Machine/Regulation.lean ====
section
/-! DEFINITION. Senses, the vote, the plausibility model, self-characterisation and the rail state machine as commands
(spec/05). -/

namespace Sys2Proof.Machine

/-! ### The vote (R124 to R130) -/

/-- The vote count of R124, halved on the backup clock (R13). -/
def State.voteCount (s : State) : Nat := if s.clock.onBackup then 32 else 64

/-- A converter's code for a pair voltage in 2^-20 V (R119). -/
def State.senseCode (s : State) (n : Nat) (v : Int) : Int := clampInt (-512) 511 (quot (v - s.convRef n) 256)

/-- Both senses are in the vote. -/
def RailSense.votes (x : RailSense) : Bool := !x.aFailed && !x.bFailed

/-- The vote's counts after a sample pair (R124, R126, R128). -/
def RailSense.count (x : RailSense) : RailSense :=
  let apart := decide ((x.cA - x.cB).natAbs ≥ 62)
  if !x.votes then x
  else if x.votePending then { x with agreeCount := if apart then 0 else x.agreeCount + 1, burstSpent := x.burstSpent && apart }
  else { x with disCount := if apart then x.disCount + 1 else 0, burstSpent := x.burstSpent && apart }

/-- The chosen sample joins the update's mean (R121). -/
def RailSense.collect (x : RailSense) : RailSense :=
  let c := if x.sel then x.cB else x.cA
  { x with sum := x.sum + c, nSamples := x.nSamples + 1, edgeCode := x.edgeCode || c == -512 || c == 511 }

/-- The error of R104, for a pair voltage in 2^-20 V and its code, lies beyond ±4 set-point LSB. The perturbation of a
characterisation run is excluded: what the output gains or loses by following ±2 mV does not count (R142; DEDUCED, log entry
56). -/
def State.offTarget (s : State) (n : Nat) (v c : Int) : Bool :=
  if (s.rail n).model.charBusy then decide ((v - s.vref n).natAbs > 2048 + quot (2 * 2 ^ 20) 1000) else decide (c.natAbs > 8)

/-- The condition of R144 is judged as long as a run lasts: IRAIL at 10 % of present capacity or more, the senses within 5 mV. -/
def State.judgeChar (s : State) (n : Nat) : State :=
  let x := (s.rail n).sense
  let ok := decide (s.capacity n * 65536 ≤ (s.rail n).pol.irail * 100) && decide ((x.cA - x.cB).natAbs * 256000 ≤ 5 * 2 ^ 20)
  s.updModel n fun m => if m.charBusy then { m with charOk := m.charOk && ok } else m

/-- SENSE_SAMPLE (R119, R121, R124): pair voltages in 2^-20 V. A sample counts to the next update's mean where updates run. An
error beyond ±4 set-point LSB breaks the settle (R104), but for the slide of R105. -/
def execSenseSample (n : Fin 16) (vA vB : Int) (s : State) : Host.Outcome State Fault Refusal :=
  if s.railEn n && s.clock.loopPresent then
    let a := s.senseCode n vA
    let b := s.senseCode n vB
    let on := s.updates n
    let s := s.updSense n fun x =>
      let y := { x with cA := a, cB := b }
      (if on then y.collect else y).count
    let x := (s.rail n).sense
    let off := if x.sel then s.offTarget n vB b else s.offTarget n vA a
    complete ((s.judgeChar n).when off fun s => s.updCore n fun c => if c.slide then c else { c with settleDone := false })
  else complete s

/-- Distance of a sense's code from the model, in 2^-20 V. -/
def State.fromModel (s : State) (n : Nat) (c : Int) : Int := c * 256 + s.convRef n - (s.rail n).model.vmodel * 256

/-- Two signed codes in one word (Table 5.8). Of a code beyond 16 signed bits the low 16 are kept (DESIGN CHOICE, log entry
56: no rule says). -/
def codePair (a b : Int) : Nat := toBits 16 a * 65536 + toBits 16 b

/-- P1 of SENSE_OUTVOTED for a decision: both codes less the model, to the nearest code. -/
def State.outvotedP1 (s : State) (n : Nat) : Nat :=
  let x := (s.rail n).sense
  codePair (nearest (s.fromModel n x.cA) 256) (nearest (s.fromModel n x.cB) 256)

/-- A sense is declared failed; a second time since power-on reset makes its fault lasting (Table 10.6). -/
def State.failSense (s : State) (n : Nat) (isB : Bool) : State :=
  let x := (s.rail n).sense
  let again := if isB then x.outvotedB else x.outvotedA
  let s := s.updSense n fun x =>
    if isB then { x with bFailed := true, outvotedB := true }.choose false s.clock.tick
    else { x with aFailed := true, outvotedA := true }.choose true s.clock.tick
  (s.faultOn .sense (2 * n + b2n isB) again).abortChar n

/-- The decision of Table 5.1 with a valid model. -/
def State.decideVote (s : State) (n : Nat) : State :=
  let x := (s.rail n).sense
  let dA := (s.fromModel n x.cA).natAbs
  let dB := (s.fromModel n x.cB).natAbs
  let inA := decide (dA ≤ 40 * 256)
  let inB := decide (dB ≤ 40 * 256)
  let p1 := s.outvotedP1 n
  let s := s.updSense n fun x => { x with disCount := 0, agreeCount := 0, votePending := false, burstSpent := false, missRun := 0 }
  if !inA && !inB then (s.record 0x5012 n 2 p1).latchRail n .vote
  else
    let failB := if inA && inB then decide (dA ≤ dB) else inA
    (s.failSense n failB).record 0x5012 n (b2n failB) p1

/-- VOTE_DECISION (R125, R127): decided against a valid model, else pending with the larger code chosen. -/
def execVoteDecision (n : Fin 16) (s : State) : Host.Outcome State Fault Refusal :=
  let x := (s.rail n).sense
  if x.votes && !x.votePending && s.voteCount ≤ x.disCount then
    if (s.rail n).model.valid then complete (s.decideVote n)
    else
      let big := decide (x.cA < x.cB)
      let s := s.updSense n fun x => { x with
        votePending := true, disCount := 0, agreeCount := 0 }.choose big s.clock.tick
      complete (s.record 0x5012 n 4 (codePair x.cA x.cB))
  else complete s

/-- VOTE_PENDING_END (R126): agreement for the vote count ends the pending vote with sense A chosen. -/
def execVotePendingEnd (n : Fin 16) (s : State) : Host.Outcome State Fault Refusal :=
  let x := (s.rail n).sense
  if x.votePending && s.voteCount ≤ x.agreeCount then
    complete (s.updSense n fun x => { x with
      votePending := false, agreeCount := 0, disCount := 0, burstSpent := false }.choose false s.clock.tick)
  else complete s

/-! ### The plausibility unit (R122, R123, R130) -/

/-- IRAIL changed by less than 5 % of present capacity between the last two rounds (R123). -/
def State.steadyLoad (s : State) (n : Nat) : Bool :=
  let l := (s.rail n).pol.iRounds
  decide ((l.getD 0 0 - l.getD 1 0).natAbs * 200 < s.capacity n * 65536)

/-- The conditions of R123 at a visit. -/
def State.visitValid (s : State) (n : Nat) : Bool :=
  let r := s.rail n
  r.core.state.onTarget && !r.model.disturbed && !r.pol.burst && !r.pol.clamp && !r.pol.tristate && !r.model.countChanged
    && s.steadyLoad n && decide (s.since s.input.vffAt < usTicks (if s.clock.onBackup then 4 else 2))

/-- VMODEL, in 2^-12 V: D_AVG × VIN − IRAIL × RPATH_EFF (R122). -/
def State.computeModel (s : State) (n : Nat) : Int :=
  ratio (s.dutyOver n * s.input.vff * 160000000 - (s.rail n).pol.irail * (s.rail n).model.rpathEff.toNat * 800 * 2 ^ 43)
    (800 * 2 ^ 43 * 160000000)

/-- While one sense is failed: the run of R130 on valid visits. -/
def State.singleSense (s : State) (n : Nat) : State :=
  let x := (s.rail n).sense
  if x.votes then s
  else
    let c := if x.sel then x.cB else x.cA
    if (s.fromModel n c).natAbs ≤ 103 * 256 then s.updSense n fun x => { x with missRun := 0 }
    else
      let s := s.updSense n fun x => { x with missRun := x.missRun + 1 }
      if (s.rail n).sense.missRun ≥ 64 then
        let p1 := s.outvotedP1 n
        ((s.updSense n fun x => { x with missRun := 0 }).record 0x5012 n 3 p1).latchRail n .vote
      else s

/-- The period clear of the comparators above 63, at the unit's 1 µs tick (R256). -/
def State.tickLatches (s : State) : State :=
  s.mapComps fun m c => if 64 ≤ m && s.classP m && !bit (s.cmpWord m) 28 then s.clearLatch c else c

/-- A failed UV_PG n is replaced by the telemetry reading against the same threshold, every 1 µs (Table 9.4). -/
def State.substitutePg (s : State) (n : Nat) : State :=
  let m := 4 * n + 3
  if (s.comp m).failed then s.driveLive m (s.compare m (s.voutReading n)) else s

/-- A visit during a characterisation run adds its D_AVG x VIN, senses and IRAIL to the run's sums (R144). -/
def State.charVisit (s : State) (n : Nat) : State :=
  let x := (s.rail n).sense
  let v := (x.cA + x.cB) * 256 + 2 * s.convRef n
  (s.judgeChar n).updModel n fun m =>
    if m.charBusy then { m with
      charDv := m.charDv + ratio (s.dutyOver n * s.input.vff) (800 * 2 ^ 35), charV := m.charV + v,
      charI := m.charI + (s.rail n).pol.irail, charVisits := m.charVisits + 1 }
    else m

/-- PLAUSIBILITY_VISIT (R122, R123, R125, R130, R144). That of rail 0, enabled or not, marks the 1 µs of R256. -/
def execPlausibilityVisit (n : Fin 16) (s : State) : Host.Outcome State Fault Refusal :=
  let s := s.when (n.val == 0 && s.clock.loopPresent) State.tickLatches
  if s.railEn n && s.clock.loopPresent then
    let ok := s.visitValid n
    let v := s.computeModel n
    let s := s.charVisit n
    let s := s.updModel n fun m => { m with
      valid := ok, vmodel := v, disturbed := false, countChanged := false,
      visitDuty := if ok then some (s.dutyOver n) else m.visitDuty,
      visitIrail := if ok then (s.rail n).pol.irail else m.visitIrail }
    let s := if ok then (if (s.rail n).sense.votePending then s.decideVote n else s.singleSense n) else s
    complete (s.substitutePg n)
  else complete s

/-! ### Self-characterisation (R141 to R146) -/

/-- A run may start now: REGULATING, undisturbed, not held (R141). The 100 µs are the command's own premise. What regulates, the LE
or the backstop, and a pre-bias hold are no bar. -/
def State.charReady (s : State) (n : Nat) : Bool :=
  let r := s.rail n
  r.core.state == .regulating && !r.model.charBusy && !r.pol.burst && !r.pol.clamp

/-- A run begins (R142). -/
def State.beginChar (s : State) (n : Nat) : State :=
  (s.updModel n fun m => { m with
    charBusy := true, charDue := false, charAt := s.clock.tick, charDv := 0, charV := 0, charI := 0, charVisits := 0,
    charOk := true }).judgeChar n

/-- CHAR_RUN_START (R141): at first light, or every CHAR_INTERVAL. -/
def execCharRunStart (n : Fin 16) (s : State) : Host.Outcome State Fault Refusal :=
  let m := (s.rail n).model
  if s.charReady n && m.firstLight && (m.charDue || s.charInterval n != 0) then
    complete ((s.updModel n fun m => { m with charAborts := 0 }).beginChar n)
  else complete s

/-- The candidate for RPATH_EFF, in 0.1 µΩ: (D_AVG x VIN - (VA + VB) / 2) / IRAIL with each term averaged over the run's
visits (R144; DEDUCED, log entry 56). -/
def RailModel.candidate (m : RailModel) : Int := ratio ((2 * m.charDv - m.charV) * 10000000) (32 * m.charI)

/-- CHAR_RUN_END (R142, R144, R145): RPATH_EFF or MODEL_MISMATCH, and COUT_DEGRADED. How the estimates follow from the
response is unstated (log entry 7). A candidate below 0 is recorded in two's complement (DESIGN CHOICE, log entry 56). -/
def execCharRunEnd (n : Fin 16) (s : State) : Host.Outcome State Fault Refusal :=
  let m := (s.rail n).model
  if m.charBusy then
    let (c, s) := s.freeNat
    let (l, s) := s.freeNat
    let cout := BitVec.ofNat 16 c
    let rp := s.rpath n
    let cand := m.candidate
    let good := decide ((rp : Int) ≤ 2 * cand ∧ 2 * cand ≤ 3 * rp)
    let far := decide (4 * ((cout.toNat : Int) - s.coutNom n).natAbs > s.coutNom n)
    let s := s.updModel n fun m => { m with
      charBusy := false, charDue := false, charAborts := 0, coutEst := cout, leffEst := BitVec.ofNat 16 l, coutDeg := far,
      rpathEff := if m.charOk && good then BitVec.ofInt 16 cand else m.rpathEff }
    let s := s.when (m.charOk && !good) fun s => s.record 0x5010 n (toBits 32 cand) rp
    complete (s.when far fun s => s.record 0x5011 n cout.toNat (s.coutNom n))
  else complete s

/-- CHAR_RETRY (R143): an aborted run is tried again; after the third abort it waits for the next interval. -/
def execCharRetry (n : Fin 16) (s : State) : Host.Outcome State Fault Refusal :=
  let m := (s.rail n).model
  if s.charReady n && m.charDue && 1 ≤ m.charAborts && m.charAborts < 3 then complete (s.beginChar n) else complete s

/-! ### The rail state machine (R147 to R152) -/

/-- The enable request of ON_OFF_CONFIG (R440), with OPERATION and ON_OFF_CONFIG as the RM applied them (R9). -/
def State.enableRequest (s : State) (n : Nat) : Bool :=
  let h := (s.rail n).hosted
  (!h.onOff.getLsbD 2 || s.pins.enOn.getLsbD n) && (!h.onOff.getLsbD 3 || h.operation.getLsbD 7)

/-- A sense passes the known-level test (R503): each internal level within ±4 codes, no ball moved by more than 20 mV, and a loop
impedance of 0.5 Ω or more. -/
def senseTestPasses (t : SenseTest) : Bool :=
  decide ((t.low + 256).natAbs ≤ 4) && decide (t.zero.natAbs ≤ 4) && decide ((t.high - 256).natAbs ≤ 4)
    && decide (t.moveP ≤ 200) && decide (t.moveN ≤ 200) && decide (500 ≤ t.loop)
/-- The outcome at sense A or B of rail `n`; a pair that is not listed measures as a sound one. -/
def sensePasses (tests : List SenseTest) (n : Nat) (isB : Bool) : Bool :=
  match tests[2 * n + b2n isB]? with
  | some t => senseTestPasses t
  | none => true

/-- The test of R129 at a start from PRIMED, for each failed sense. -/
def State.retestSenses (s : State) (n : Nat) (tests : List SenseTest) : State :=
  let one (s : State) (isB : Bool) : State :=
    if !(if isB then (s.rail n).sense.bFailed else (s.rail n).sense.aFailed) then s
    else if sensePasses tests n isB then
      (s.updSense n fun x => if isB then { x with bFailed := false } else { x with aFailed := false }).faultMended .sense (2 * n + b2n isB)
    else s.faultOn .sense (2 * n + b2n isB) true
  one (one s false) true


/-- Transitions of a rail for its enable request (Table 5.4, R152, R483). A reversal from SOFT_STOP enters SOFT_START too, with its
phases (R191), and no low-side interval is replaced in it (R148). -/
def State.enableRail (s : State) (n : Nat) (req fresh : Bool) (tests : List SenseTest) : State :=
  let c := (s.rail n).core
  match c.state with
  | .primed =>
    if req && s.startFree n then (s.retestSenses n tests).startRail n true else s
  | .softStart | .regulating | .slewing => if req then s else s.softStop n false
  | .softStop =>
    if req && !c.appStop then
      ((s.freshCounts n).updCore n fun c => { c with state := .softStart, settleDone := false, lowSideIdle := false }).addStart n
    else s
  | .discharge => if req && !c.appStop then s.startRail n false else s
  | .faultLatched => if req && fresh then (s.leaveLatch n).updCore n fun c => { c with state := .reenablePending } else s
  | .reenablePending => if req then s else s.updCore n fun c => { c with state := .faultLatched }
  | .apprenticeHold => if req then s else s.softStop n true
  | .off => s

/-- RLL in use moves 1 µΩ toward its new value each 1 µs (R120). -/
def State.moveRll (s : State) (n : Nat) : State :=
  s.updCore n fun c => { c with rll := if c.rll < s.rllCfg n then c.rll + 1 else if s.rllCfg n < c.rll then c.rll - 1 else c.rll }

/-- Neither the RM nor the Apprentice governs a rail: a trigger found the Apprentice disabled, or it has stopped within a hold.
It keeps its state until the RM takes it (R348). -/
def State.railKept (s : State) (n : Nat) : Bool := s.frozenRail n && (!s.app.holding || s.appStopped || s.app.disabled)

/-- One rail at an evaluation (R147). A margin follows the enable request (R439); a request that changes while the rails keep their
states (R348) is met by the first evaluation after. -/
def State.evaluateRail (tests : List SenseTest) (s : State) (n : Nat) : State :=
  let s := s.moveRll n
  if s.railKept n then s else
  let req := s.enableRequest n
  let old := (s.rail n).core.enReq
  let fresh := (req && !old) || (s.rail n).hosted.newEnable
  let s := (s.updCore n fun c => { c with enReq := req }).updHosted n fun h => { h with newEnable := false }
  let s := s.when (req != old && (s.rail n).core.state != .apprenticeHold) fun s => s.retargetWith n (s.margin n).isSome false
  s.enableRail n req fresh tests

/-- ENABLE_EVALUATION (R35, R147): `high`: EN inputs sampled on; `tests`: what the test of R129 measures at senses 0A, 0B, 1A, ...
of a rail that starts from PRIMED. The TAP may hold every EN input off (R473). -/
def execEnableEvaluation (high : BitVec 16) (tests : List SenseTest) (s : State) : Host.Outcome State Fault Refusal :=
  if s.primed then
    let s := { s with pins := { s.pins with enOn := if s.tap.enHeld then 0 else high } }
    complete (s.forEach s.enabledRails (State.evaluateRail tests))
  else complete s

/-- START_WAIT_ELAPSED (R151). -/
def execStartWaitElapsed (n : Fin 16) (s : State) : Host.Outcome State Fault Refusal :=
  let c := (s.rail n).core
  if (c.state == .softStart || c.state == .apprenticeHold) && c.waitStart then
    complete ((s.updCore n fun c => { c with waitStart := false }).tryRamp n)
  else complete s

/-- DISCHARGE_TIMEOUT (R148). -/
def execDischargeTimeout (n : Fin 16) (s : State) : Host.Outcome State Fault Refusal :=
  if (s.rail n).core.state == .discharge then complete (s.leaveDischarge n) else complete s

end Sys2Proof.Machine
end

