-- ==== Sys2Proof/Machine/Words.lean ====
section
/-! DEFINITION. The status words: Tables 3.2, 4.7, 5.6, 5.7, 6.11, 7.5, 8.10, 9.2, 9.10, 10.8, 11.3, 11.5, 12.6, 12.9,
13.1, 13.4, 14.1, 14.4 and 16.5, each as the words a read returns, and the clearing of RC fields by such a read. -/

namespace Sys2Proof.Machine

/-- A field of a word: `v` in `w` bits from bit `lo`. -/
def fld (lo w v : Nat) : Nat := v % 2 ^ w * 2 ^ lo
/-- A one-bit field. -/
def flg (lo : Nat) (b : Bool) : Nat := b2n b * 2 ^ lo
/-- A word from the sum of its fields. -/
def word (l : List Nat) : Word := BitVec.ofNat 32 l.sum

/-- MFR_PRIMING_STATUS (Table 3.2). -/
def State.primingWord (s : State) : Word :=
  let b := s.boot
  word [fld 28 4 b.stage.toNat, fld 26 2 b.slot.toNat, flg 25 b.aFail, flg 24 b.bFail, flg 23 b.aSuperseded,
    flg 22 b.actPending, flg 21 b.fixative, flg 20 b.strapInvalid, flg 19 b.svcStrap, fld 12 4 b.cause.toNat,
    fld 4 8 b.detail.toNat]

/-- Port status word (Table 4.7). -/
def State.portWord (s : State) (p : Nat) : Word :=
  let x := s.port p
  let g := s.groupRails p
  let settled := maskOf 4 fun k => match s.groupRail p k with
    | some n => s.settled n
    | none => false
  word [flg 29 x.pendingSwap, flg 28 x.actBank, flg 27 x.boot, flg 26 (s.srdy p), flg 25 x.throtLow,
    flg 24 (g.any fun n => s.rank n == 2 || s.rank n == 3), flg 23 (g.any fun n => s.rank n == 1),
    flg 22 (g.any fun n => (s.rail n).core.prebias), fld 16 6 x.swatch.toNat, fld 12 4 settled,
    fld 8 4 x.ignored.toNat, fld 0 8 x.edges.toNat]
/-- A read of the port words clears IGNORED. -/
def State.clearPorts (s : State) : State := { s with ports := s.ports.map fun p => { p with ignored := 0 } }

/-- Rail status word (Table 5.6). -/
def State.railWord (s : State) (n : Nat) : Word :=
  let r := s.rail n
  word [fld 28 4 r.core.state.code, flg 27 r.sense.aFailed, flg 26 r.sense.bFailed, flg 25 r.sense.sel,
    flg 24 r.sense.votePending, flg 23 r.bs.drove, fld 20 3 r.bs.cause.toNat, flg 19 r.model.firstLight,
    flg 18 r.model.charBusy, flg 17 r.model.coutDeg, fld 8 8 (min 255 r.le.overrunCount), fld 4 4 r.le.lastProf.toNat]

/-- Model status words (Table 5.7). A VMODEL outside its field has no stated code (log entry 7). -/
def State.modelWords (s : State) (n : Nat) : List Word :=
  let m := (s.rail n).model
  let v := if 0 ≤ m.vmodel && m.vmodel < 32768 then m.vmodel.toNat else (Config.freeFun 4 [m.vmodel]).toNat
  [word [flg 31 m.valid, fld 16 15 v, fld 0 16 m.rpathEff.toNat], word [fld 16 16 m.coutEst.toNat, fld 0 16 m.leffEst.toNat]]

/-- MODE of Table 6.11. For an LE that is faulty, refused or in its shadow run on a held rail it is 2, 3 or 4, not 5 (DESIGN CHOICE
beside R181, log entry 56). -/
def State.leMode (s : State) (n : Nat) : Nat :=
  let r := s.rail n
  if r.le.mode == 2 || r.le.mode == 3 || r.le.mode == 4 then r.le.mode.toNat
  else if r.core.state.live || r.core.state == .softStop then (if s.leRuns n && !r.pol.burst then 1 else 5)
  else 0
/-- Loop status words (Table 6.11). -/
def State.loopWords (s : State) (n : Nat) : List Word :=
  let l := (s.rail n).le
  [word [fld 29 3 (s.leMode n), flg 28 l.satSeen, fld 24 4 l.prof.toNat, fld 10 10 (min 1023 l.maxCyc), fld 0 10 l.lastCyc],
   word [fld 16 16 (l.status.toNat / 65536), fld 8 8 l.lastEnd.toNat]]
/-- A read of the loop words clears SAT and MAX_CYC. -/
def State.clearLoop (s : State) (n : Nat) : State := s.updLe n fun l => { l with satSeen := false, maxCyc := 0 }

/-- Phase status words (Table 7.5). Outside WAKING, WAKE_TGT reads the last wake's target (R217; DESIGN CHOICE, log entry 56). -/
def State.phaseWords (s : State) (p : Nat) : List Word :=
  let x := s.phase p
  let n := (s.phaseRail p).getD 0
  let trim := clampInt (-128) 127 (quot (x.trim * 1000) 65536)
  [word [fld 28 4 x.state.code, fld 24 4 (if x.state == .unused then 0 else n), flg 23 x.probation, flg 22 x.retried,
     flg 21 x.snsLost, flg 20 x.wakePark, fld 17 3 x.band, fld 0 8 (toBits 8 trim)],
   word [fld 16 16 (toBits 16 (if (s.phaseRail p).isSome then quot (s.phaseCurrent n p * 10) 65536 else 0)),
     fld 8 8 (toBits 8 (quot (x.offset * 256 * s.fsw n) 51200000)), fld 4 4 (s.okCells p).length,
     fld 0 4 ((phaseCells p).filter fun c => s.expect c == 1).length]]

/-- Cell status words (Table 8.10). -/
def State.cellWords (s : State) (c : Nat) : List Word :=
  let x := s.cell c
  [word [fld 29 3 x.state.code, fld 28 1 (s.expect c), fld 26 2 x.mode.toNat, fld 16 10 x.width.toNat, fld 8 8 x.flags.toNat,
     fld 0 8 x.retriesOk.toNat],
   word [fld 20 12 (toBits 12 x.iavg), fld 8 12 x.ipeak, fld 0 8 x.age.toNat],
   word [fld 22 10 x.temp.toNat, flg 21 x.tinv, fld 0 16 (s.rating c)],
   BitVec.ofNat 32 (x.serial.toNat / 2 ^ 32), BitVec.ofNat 32 x.serial.toNat]
/-- A read of a cell's words clears RETRIES_OK. -/
def State.clearCell (s : State) (c : Nat) : State := s.updCell c fun x => { x with retriesOk := 0 }

/-- Comparator status register (Table 9.2). -/
def State.compWord (s : State) (m : Nat) : Word :=
  let c := s.comp m
  let p := s.classP m
  word [flg 31 c.live, flg 30 c.out, flg 29 (p && c.latch), flg 28 (!p && c.rise), flg 27 (!p && c.fall), flg 26 (c.win != 0),
    flg 25 c.testing, flg 24 c.failed, fld 0 16 c.trips.toNat]

/-- Burst counters (Table 9.10). LAST_LEN is t_b in 2 ns. -/
def State.burstWord (s : State) (n : Nat) : Word :=
  let p := (s.rail n).pol
  word [fld 16 16 p.bursts.toNat, fld 8 8 p.limitHits.toNat, fld 0 8 (quot p.tb 8).toNat]

/-! ### Protection (Table 10.8, R310, R313) -/

/-- Kinds that are internal; the others are the external faults of R310. -/
def FaultKind.internal : FaultKind → Bool
  | .slowOc | .outputOv | .inputFault => false
  | _ => true
/-- Internal faults outstanding. -/
def State.outstanding (s : State) : Nat := (s.input.faults.filter fun e => e.kind.internal).length
/-- Lasting faults outstanding. -/
def State.lastingFaults (s : State) : List FaultEntry := s.input.faults.filter (·.lasting)
/-- Hours since the oldest outstanding lasting fault was recorded. -/
def State.oldestHours (s : State) : Nat :=
  (s.lastingFaults.map fun e => s.since e.stamp / 2880000000000).foldl max 0

/-- Throttle word of a rail. The cap's grace runs on the rails on which graces act (R284). -/
def State.throttleWord (s : State) (n : Nat) : Word :=
  let p := (s.rail n).prot
  word [flg 31 (p.throt != 0), flg 30 (p.grace.isSome || (s.railEn n && (s.rail n).core.state.live && s.input.stage == 1 && s.input.capGrace.isSome)),
    fld 27 3 (s.yieldLevel n), fld 23 4 p.y, fld 16 7 p.throt.toNat, fld 0 16 (min 65535 p.load)]
/-- Device word. -/
def State.deviceWord (s : State) : Word :=
  word [flg 31 s.app.disabled, flg 30 s.safe.active, fld 28 2 s.input.stage.toNat, fld 24 4 (min 15 s.outstanding),
    fld 16 8 (min 255 s.lastingFaults.length), fld 0 16 (min 65535 s.oldestHours)]
/-- Every condition of R313 holds for a rail. -/
def State.avail (s : State) (n : Nat) : Bool :=
  s.railEn n && s.outstanding ≤ 1 && s.enabledRails.all (fun k => !s.sparesSpent k)
    && [64, 65, 66, 67].all (fun m => !(s.compInService m && (s.comp m).out)) && s.oldestHours < 720 && !s.app.disabled
/-- Rail guarantee word. -/
def State.guaranteeWord (s : State) (n : Nat) : Word :=
  word [flg 31 (s.avail n), flg 30 (s.rail n).prot.pg, flg 29 (s.sparesSpent n), fld 27 2 (s.railClass n),
    fld 24 3 (s.yieldLevel n), fld 16 8 (s.lost n), fld 8 8 (s.spares n)]
/-- The 17 words of R316. -/
def State.guaranteeWords (s : State) : List Word := s.deviceWord :: (List.range 16).map s.guaranteeWord

/-! ### Telemetry -/

/-- GAIN code of a channel's entries. -/
def State.chanGainCode (s : State) (ch : Nat) : Nat :=
  let i := chanPair ch
  (((List.range (s.seqLen i)).find? fun e => entChan (s.seqEntry (2 * i) e) == ch).map fun e => field (s.seqEntry (2 * i) e) 23 2).getD 0
/-- A tracker's words (Table 11.3). -/
def State.trackWords (s : State) (t : Nat) : List Word :=
  let x := s.telem.tracks.getD t Track.reset
  let ch := s.trkCh t
  [word [flg 31 x.empty, flg 30 x.srcChg, fld 16 12 (if x.empty then 0 else toBits 12 x.max),
     fld 0 12 (if x.empty then 0 else toBits 12 x.min)],
   word [fld 25 7 ch, fld 23 2 (s.chanGainCode ch), fld 0 23 x.samples]]
/-- A check mean in whole LSB. -/
def checkMean (l : List Int) : Nat := if l.isEmpty then 0 else toBits 12 (quot l.sum l.length)
/-- Pair status word (Table 11.5). -/
def State.pairWord (s : State) (i : Nat) : Word :=
  let p := s.pair i
  word [flg 31 p.powered, flg 30 p.arbitrating, flg 29 p.inUseB, flg 28 p.aAside, flg 27 p.bAside, flg 26 p.degraded,
    fld 12 12 (checkMean p.checksA), fld 0 12 (checkMean p.checksB)]

/-! ### Supervision (Tables 12.2, 12.6, 12.9) -/

/-- LOCK of a watchdog (R354). -/
def State.wdLock (s : State) (m : Manager) : Bool :=
  s.boot.fuseWdtHw || (s.boot.fixative && (match m with | .rm => s.fixLockRm | .hm => s.fixLockHm) == 1)
/-- TIMEOUT of a watchdog. -/
def State.wdTimeout (s : State) : Manager → Nat
  | .rm => s.wdRmTimeout
  | .hm => s.wdHmTimeout
/-- WD_STATUS, WD_CHECKS, WD_MASK and WD_TIMEOUT of a watchdog, as its pair's firmware reads them (Table 12.2). -/
def State.wdRegs (s : State) (m : Manager) : List Word :=
  let w := (s.mgr m).wd
  [word [flg 31 w.run, flg 30 s.boot.fuseWdtHw, flg 29 (s.wdLock m), flg 28 w.keyA, fld 0 20 w.remain],
   word [fld 16 16 w.double.toNat, fld 0 16 w.checked.toNat], word [fld 0 16 w.taskMask.toNat],
   word [fld 0 20 (s.wdTimeout m)]]
/-- SINCE: ms since a counted event. -/
def State.sinceMs (s : State) (t : Option Nat) : Nat :=
  match t with
  | none => 0xFFFFFF
  | some x => min 0xFFFFFE (s.since x / 800000)
/-- MFR_WDT_COUNTS (Table 12.6). -/
def State.wdtWords (s : State) : List Word :=
  let r := s.ret
  let one (m : Manager) (recent : Nat) (last : Option Nat) : Word :=
    word [fld 28 4 recent, flg 27 (s.mgr m).wd.run, flg 26 s.boot.fuseWdtHw, flg 25 (s.wdLock m), fld 0 24 (s.sinceMs last)]
  [one .rm r.recentRm r.lastRm, one .hm r.recentHm r.lastHm,
   word [fld 30 2 r.kind.toNat, fld 24 4 r.cause.toNat, fld 16 3 r.clkCause.toNat, fld 0 16 r.warm.toNat],
   word [fld 16 16 r.missingRm.toNat, fld 0 16 r.doubleRm.toNat], word [fld 16 16 r.missingHm.toNat, fld 0 16 r.doubleHm.toNat]]

/-- The slot holds 4,096 words. -/
def Dump.full (d : Dump) : Bool := d.slot.length == 4096
/-- CRC of the first 0x3FFC bytes of a dump (Table 12.8). -/
def dumpCrc (l : List Word) : Nat := crc32 (wordBytes (l.take 4095))
/-- VALID: the slot holds a dump whose CRC matches. -/
def Dump.valid (d : Dump) : Bool := d.full && dumpCrc d.slot == (d.slot.getD 4095 0).toNat
/-- TRIGGER of a dump. -/
def dumpTrigger (l : List Word) : Nat := field (l.getD 1 0).toNat 16 8
/-- MFR_DUMP_INFO (Table 12.9). -/
def State.dumpWords (s : State) : List Word :=
  let d := s.dump
  [word [flg 31 d.valid, flg 30 d.locked, flg 29 s.ret.capPending, flg 28 (d.full && !d.valid),
     fld 24 4 (dumpTrigger d.slot), fld 16 8 s.ret.dropped.toNat, fld 0 16 (field (d.slot.getD 4 0).toNat 16 16)],
   d.slot.getD 2 0, d.slot.getD 4095 0]

/-! ### Records (Tables 13.1 and 13.4) -/

/-- Bytes 0 to 27 of a record. -/
def Rec.body (r : Rec) : List Byte :=
  leBytes 4 r.seq.toNat ++ leBytes 6 r.time.toNat ++ leBytes 2 r.powerCycle.toNat ++ leBytes 2 r.code.toNat ++ leBytes 2 r.src.toNat
    ++ leBytes 4 r.p0.toNat ++ leBytes 4 r.p1.toNat ++ leBytes 2 r.rep.toNat ++ leBytes 2 r.flags.toNat
/-- The 32 bytes of a record, its CRC over the bytes as delivered (R370). -/
def Rec.bytes (r : Rec) : List Byte := r.body ++ leBytes 4 (crc32 r.body)
/-- The record in 8 words. -/
def Rec.words (r : Rec) : List Word := bytesWords r.bytes
/-- Staged records as a read returns them, oldest first: provisional SEQ, STAGED, and OPEN on the open one (R386). -/
def Recorder.stagedRecs (r : Recorder) : List Rec :=
  let base := match r.newest with
    | some k => k.toNat + 1
    | none => 0
  let l := r.closed.map (fun x => { x with flags := x.flags ||| 0x40 })
    ++ (r.opened.map fun x => { x with flags := x.flags ||| 0x41 }).toList
  l.mapIdx fun i x => { x with seq := BitVec.ofNat 32 (base + i) }
/-- CURSOR, which starts at OLDEST. -/
def State.cursor (s : State) : Word := s.ret.cursor.getD s.sketch.oldest
/-- NEWEST as MFR_EVT_HEAD returns it; with no record ever held it is the SEQ before 0 (log entry 7). -/
def Recorder.newestWord (r : Recorder) : Word := r.newest.getD (BitVec.ofNat 32 (Config.freeFun 5 []).toNat)
/-- MFR_EVT_HEAD (Table 13.4). -/
def State.evtHead (s : State) : List Word :=
  let k := s.sketch
  [k.oldest, k.newestWord, s.cursor,
   word [fld 26 6 k.staged, flg 25 k.opened.isSome, flg 24 k.clearing.isSome, fld 0 16 k.powerCycle.toNat],
   word [fld 16 16 k.drops.toNat, fld 0 16 k.suppressed.toNat]]

/-! ### Mailboxes (Tables 14.1 and 14.4) -/

/-- Control register of a channel. -/
def Channel.control (c : Channel) : Word :=
  word [flg 30 c.full, flg 29 c.stale, flg 28 c.orphan, flg 26 c.cross, flg 25 c.recallLate, flg 24 c.eccErr,
    fld 16 8 c.sndEpoch.toNat, fld 8 8 c.rcvEpoch.toNat]
/-- The four epochs, word 2 of Table 14.4. -/
def State.epochWord (s : State) : Word :=
  word [fld 24 8 s.mail.epHost.toNat, fld 16 8 s.mail.epSvc.toNat, fld 8 8 s.mail.epHm.toNat, fld 0 8 s.mail.epRm.toNat]
/-- MFR_MBOX_STATUS. -/
def State.mboxWords (s : State) : List Word :=
  let m (f : Channel → Bool) : Nat := maskOf 16 fun c => f (s.chan c)
  [word [fld 16 16 (m (·.stale)), fld 0 16 (m (·.full))], word [fld 16 16 (m (·.cross)), fld 0 16 (m (·.orphan))],
   s.epochWord, word [fld 28 4 s.mail.lastPost.toNat, fld 24 4 s.mail.lastCh.toNat]]

/-! ### Security (Table 16.5) -/

/-- An owner-key hash is burned. -/
def Fuses.owned (f : Fuses) : Bool := f.keyValid != 0
/-- The owner-key slot in force: the highest burned one (R454); 0 while none is. -/
def Fuses.activeSlot (f : Fuses) : Nat := ([3, 2, 1, 0].find? fun k => f.keyValid.getLsbD k).getD 0
/-- Rollback fuses burned. -/
def Fuses.rbCount (f : Fuses) : Nat := (List.range 64).countP fun i => f.rb.getLsbD i
/-- MFR_SECURITY_STATE. -/
def State.securityWords (s : State) : List Word :=
  let f := s.fuses
  [word [flg 31 f.owned, fld 29 2 f.activeSlot, fld 25 4 f.keyValid.toNat, flg 24 (s.ident.serviceKey != 0), flg 23 s.con.session,
     flg 22 f.debugOff, flg 21 s.ident.checked, fld 8 7 f.rbCount, fld 0 7 s.boot.rollback.toNat],
   s.boot.imageVersion, word [fld 16 16 s.pm.authFails.toNat, fld 0 16 s.pm.attests.toNat]]

end Sys2Proof.Machine
end

