-- ==== Sys2Proof/Machine/Trust.lean ====
section
/-! DEFINITION. Trust (spec/17): octet strings, the Varnish slots, owner statements (R460) and failures of authentication.
The cryptographic functions are those of Crypto.lean. -/

namespace Sys2Proof.Machine

/-- A little-endian field of a byte list. -/
def sliceNat (l : List Byte) (off n : Nat) : Nat := ofBytes (slice l off n)
/-- Every byte is 0. -/
def zeros (l : List Byte) : Bool := l.all (· == 0)

/-- A bit counts as burned when two of its three copies are burned (R452). -/
def Varnish.bank (v : Varnish) : BitVec 2048 := (v.a &&& v.b) ||| (v.a &&& v.c) ||| (v.b &&& v.c)
/-- `w` bits of the bank from a bit. -/
def Varnish.field (v : Varnish) (off w : Nat) : BitVec w := v.bank.extractLsb' off w
/-- The fields of Table 17.1. -/
def Varnish.read (v : Varnish) : Fuses :=
  { keyHash := (List.range 4).map fun k => v.field (384 * k) 384, keyValid := v.field 1536 4, rb := v.field 1540 64
    wdtHw := v.bank.getLsbD 1604, debugOff := v.bank.getLsbD 1605, idGen := v.bank.getLsbD 1606, serial := v.field 1607 64 }
/-- Bits as a mask of the bank. -/
def fuseMask (l : List Nat) : BitVec 2048 := l.foldl (fun m i => m ||| BitVec.ofNat 2048 (2 ^ i)) 0
/-- Burning is one-way: `done` program pulses of the three that each bit of a list takes, bit by bit and copy by copy (R452, R455). -/
def Varnish.burn (v : Varnish) (l : List Nat) (done : Nat) : Varnish :=
  { a := v.a ||| fuseMask (l.take ((done + 2) / 3)), b := v.b ||| fuseMask (l.take ((done + 1) / 3))
    c := v.c ||| fuseMask (l.take (done / 3)) }

/-- SERIAL as the statements and the claim carry it. -/
def Fuses.serialOctets (f : Fuses) : List Byte := octets 8 f.serial.toNat
/-- KEYHASH of a slot. -/
def Fuses.hash (f : Fuses) (k : Nat) : BitVec 384 := f.keyHash.getD k 0
/-- A slot with burned hash bits and VALID = 0 (R453). -/
def Fuses.spoiled (f : Fuses) (k : Nat) : Bool := f.hash k != 0 && !f.keyValid.getLsbD k
/-- Neither valid nor spoiled. -/
def Fuses.fresh (f : Fuses) (k : Nat) : Bool := !f.keyValid.getLsbD k && !f.spoiled k
/-- The key hashes to KEYHASH of the active slot. -/
def Fuses.ownerKey (f : Fuses) (key : List Byte) : Bool := f.owned && sha384 key == f.hash f.activeSlot

/-- An AUTH_FAIL event (Table 13.6), which AUTH_FAILS counts. -/
def State.authFail (s : State) (src p0 p1 : Nat) : State :=
  ({ s with pm := { s.pm with authFails := BitVec.ofNat 16 (satAdd 65535 s.pm.authFails.toNat 1) } }).record 0xA001 src p0 p1

/-! ### Statements (Table 17.5) -/

/-- BODY_LEN. -/
def stLen (st : List Byte) : Nat := sliceNat st 6 2
/-- ARG. -/
def stArg (st : List Byte) : Nat := sliceNat st 0x10 4
/-- BODY. -/
def stBody (st : List Byte) : List Byte := slice st 0x7C (stLen st)
/-- R460 but for the rule of ARG. -/
def Fuses.statement (f : Fuses) (kind : Nat) (st : List Byte) : Bool :=
  let n := 0x7C + stLen st
  n + 96 ≤ st.length && slice st 0 4 == [0x53, 0x54, 0x4D, 0x54] && sliceNat st 4 1 == kind && sliceNat st 5 1 == 1
    && slice st 8 8 == f.serialOctets && f.ownerKey (slice st 0x18 97)
    && ecdsaVerify (slice st 0x18 97) (sha384 (st.take n)) (slice st n 96)
/-- P0 of AUTH_FAIL for a statement of a kind (Table 13.6); for kinds 0x03 and 0x04 the table names none (log entry 7). -/
def statementP0 (kind : Nat) : Nat := match kind with
  | 1 => 1 | 2 => 2 | 5 => 3
  | k => (Config.freeFun 6 [(k : Int)]).toNat

/-! ### Ownership and the signature (R454, R456) -/

/-- What order 5 finds in OWNERSHIP_CLAIM, which holds at least the fields of Table 17.2 up to SERIAL: none, it fails; `some none`, it passes and nothing is burned; otherwise the slot
to burn and whether it is a transfer. -/
def Fuses.ownership (f : Fuses) (claim : Option (List Byte)) : Option (Option (Nat × Bool)) :=
  match claim with
  | none => if f.owned then some none else none
  | some c =>
    let mode := sliceNat c 4 1
    let key := slice c 8 97
    let serial := slice c 0x70 8
    if c.length < 0x78 || slice c 0 4 != [0x4F, 0x57, 0x4E, 0x43] || mode > 1 then none
    else if f.owned then
      if f.ownerKey key then some none
      else if mode == 1 && serial == f.serialOctets then
        let st := c.drop 0x78
        match (List.range 4).find? fun k => f.activeSlot < k && f.fresh k with
        | some k => if f.statement 1 st && stArg st == k && stBody st == key then some (some (k, true)) else none
        | none => none
      else none
    else if mode == 0 && (zeros serial || serial == f.serialOctets) then
      match (List.range 4).find? f.fresh with
      | some k => some (some (k, false))
      | none => none
    else none

/-- The transfer of an OWNERSHIP_CLAIM whose statement R460 refuses, ARG's rule included: AUTH_FAIL records it. -/
def Fuses.transferRefused (f : Fuses) (claim : Option (List Byte)) : Bool :=
  match claim with
  | none => false
  | some c =>
    let st := c.drop 0x78
    f.owned && 0x78 ≤ c.length && slice c 0 4 == [0x4F, 0x57, 0x4E, 0x43] && sliceNat c 4 1 == 1 && !f.ownerKey (slice c 8 97)
      && slice c 0x70 8 == f.serialOctets
      && !(f.statement 1 st && ((List.range 4).find? fun k => f.activeSlot < k && f.fresh k) == some (stArg st))

/-- SIGNER_KEY and SIG of an entry of the SIGNATURE section. -/
def sigEntry (g : List Byte) (i : Nat) : List Byte × List Byte := (slice g (0x10 + 208 * i) 97, slice g (0x78 + 208 * i) 96)
/-- Order 6 (R456): the container is well formed, a transfer image holds two entries, one of them by the new owner, and the
entry of the owner in force verifies over the digest. -/
def Fuses.signatureOk (f : Fuses) (claim : Option (List Byte)) (g : List Byte) (digest : BitVec 384) : Bool :=
  let count := sliceNat g 4 1
  let key := (claim.map fun c => slice c 8 97).getD []
  let l := (List.range count).map (sigEntry g)
  let transfer := (claim.map fun c => sliceNat c 4 1 == 1).getD false
  slice g 0 4 == [0x4D, 0x53, 0x49, 0x47] && (count == 1 || count == 2) && g.length == 8 + 208 * count
    && (List.range count).all (fun i => sliceNat g (8 + 208 * i) 2 == 1)
    && (!transfer || (count == 2 && l.any fun e => e.1 == key))
    && (match l.find? fun e => if f.owned then f.ownerKey e.1 else e.1 == key with
        | some e => ecdsaVerify e.1 digest e.2
        | none => false)

end Sys2Proof.Machine
end

