-- ==== Sys2Proof/Machine/Image.lean ====
section
/-! DEFINITION. The image: the container (Tables 3.3 to 3.5), the checks of Table 3.6 in their order, the claims of P4, and
the load into the shadow. The checks read a trial state whose shadow holds the sections. -/

namespace Sys2Proof.Machine

/-! ### The container -/

/-- A section-table entry. -/
structure Sect where
  id : Nat
  off : Nat
  len : Nat
  hash : List Byte
  deriving DecidableEq, Repr

/-- How the bytes of a slot are read. -/
abbrev Reader := Nat → Nat → List Byte
/-- The reader of a slot. -/
def State.slotReader (s : State) (slotB : Bool) : Reader := s.flashBytes slotB
/-- "MIOL". -/
def magic : List Byte := [0x4D, 0x49, 0x4F, 0x4C]
/-- The reader that takes MAGIC as programmed, for an activation (R84). -/
def withMagic (rd : Reader) : Reader := fun off n => (magic ++ rd 4 (off + n)).drop off |>.take n
/-- A little-endian field. -/
def rdNat (rd : Reader) (off n : Nat) : Nat := ofBytes (rd off n)

/-- Order 2: the header offset of the first failing field. -/
def headerFail (rd : Reader) : Option Nat :=
  ([(0x00, rd 0 4 == magic), (0x04, rdNat rd 4 2 == 2), (0x06, rdNat rd 6 2 == 0x840), (0x10, rdNat rd 0x10 1 ≤ 64),
    (0x11, 15 ≤ rdNat rd 0x11 1 && rdNat rd 0x11 1 ≤ 32), (0x12, zeros (rd 0x12 2)), (0x14, rdNat rd 0x14 4 ≤ 0x400000),
    (0x1C, zeros (rd 0x1C 36))].find? fun x => !x.2).map (·.1)
/-- SUPERSEDE carries a mark. -/
def superseded (rd : Reader) : Bool := rdNat rd 0x18 4 != 0xFFFFFFFF
/-- The used entries of the section table. -/
def sections (rd : Reader) : List Sect :=
  (List.range (rdNat rd 0x11 1)).map fun i =>
    let b := 0x40 + 64 * i
    { id := rdNat rd b 1, off := rdNat rd (b + 4) 4, len := rdNat rd (b + 8) 4, hash := rd (b + 0x10) 48 }
/-- Sections that are loaded into the shadow. -/
def shadowed (id : Nat) : Bool := 1 ≤ id && id ≤ 14
/-- Ids of Table 3.5. -/
def knownId (id : Nat) : Bool := shadowed id || id == 15 || id == 16 || id == 255
/-- The required ids. -/
def requiredIds : List Nat := (List.range' 1 14) ++ [255]
/-- Two entries overlap. -/
def Sect.overlaps (a b : Sect) : Bool := a.off < b.off + b.len && b.off < a.off + a.len
/-- Entry `i` breaks a rule of Table 3.4 or R65. -/
def entryBad (rd : Reader) (l : List Sect) (i : Nat) : Bool :=
  let x := l.getD i { id := 0, off := 0, len := 0, hash := [] }
  let others := (List.range l.length).filterMap fun j => if j == i then none else l[j]?
  !knownId x.id || !zeros (rd (0x41 + 64 * i) 3) || !zeros (rd (0x4C + 64 * i) 4) || x.off % 16 != 0 || x.off < 0x840 || x.len == 0
    || rdNat rd 0x14 4 < x.off + x.len || others.any fun y => y.id == x.id || x.overlaps y
/-- Order 4: the section id that R65 names. Of several missing sections it is the lowest id, SIGNATURE last, and an unused entry of the
table that is not all 0xFF is not judged: Table 3.3 gives its rule, and no order of Table 3.6 names it (DESIGN CHOICE, log entry 56). -/
def layoutFail (rd : Reader) : Option Nat :=
  let l := sections rd
  match (List.range l.length).find? (entryBad rd l) with
  | some i => some ((l[i]?.map (·.id)).getD 0)
  | none =>
    match requiredIds.find? fun k => !l.any fun x => x.id == k with
    | some k => some k
    | none => if ((l.filter fun x => shadowed x.id).map (·.len)).sum ≤ 896 * 1024 then none else some 0
/-- The bytes of a section, where it is present. -/
def sectionBytes (rd : Reader) (id : Nat) : Option (List Byte) := ((sections rd).find? (·.id == id)).map fun x => rd x.off x.len
/-- The digest that the signature covers (R64). -/
def imageDigest (rd : Reader) : BitVec 384 := sha384 (rd 0 0x18 ++ List.replicate 4 0xFF ++ rd 0x1C 0x824)

/-- Orders 2 to 7: CAUSE and DETAIL of the first failure. -/
def headFail (f : Fuses) (rd : Reader) : Option (Nat × Nat) :=
  match headerFail rd with
  | some d => some (2, d)
  | none =>
    if rdNat rd 8 4 != 0x1280 then some (3, 0)
    else match layoutFail rd with
      | some d => some (4, d)
      | none =>
        let claim := sectionBytes rd 16
        if (f.ownership claim).isNone then some (8, 0x10)
        else if !f.signatureOk claim ((sectionBytes rd 255).getD []) (imageDigest rd) then some (5, 0xFF)
        else if rdNat rd 0x10 1 < f.rbCount then some (6, rdNat rd 0x10 1)
        else none

/-- The sections by OFFSET. -/
def insertOff (x : Sect) : List Sect → List Sect
  | [] => [x]
  | y :: t => if x.off < y.off then x :: y :: t else y :: insertOff x t
/-- Sections in OFFSET order. -/
def byOffset (l : List Sect) : List Sect := l.foldl (fun acc x => insertOff x acc) []
/-- Order 8: the first section whose hash differs; the SIGNATURE section's is not checked (R66). -/
def hashFail (rd : Reader) : Option Sect :=
  (byOffset (sections rd)).find? fun x => x.id != 255 && sha384 (rd x.off x.len) != BitVec.ofNat 384 (ofOctets x.hash)

/-- Sections into the shadow, over whatever stood there (R67). -/
def State.loadShadow (s : State) (rd : Reader) (l : List Sect) : State :=
  { s with shadow := l.foldl (fun m x => if shadowed x.id then sputs 0 m (shadowKey x.id 0) (rd x.off x.len) else m) [] }

/-! ### Order 9 -/

/-- A unit belongs to the block of an LE that is not loaded (R180). -/
def State.skipUnit (s : State) (sec off : Nat) : Bool := sec == 6 && 0x100 ≤ off && !bit s.leMask ((off - 0x100) / 0x2000)
/-- Every unit of a section holds allowed values, and its reserved fields 0. -/
def State.rangesOk (s : State) (sec : Nat) : Bool :=
  (unitRows.filter (·.sec == sec)).all (fun u => (repOffsets u.reps).all fun o =>
    (sec == 2 && 4 ≤ u.base) || s.skipUnit sec (u.base + o) || u.wet || u.allows (s.cfg sec (u.base + o) u.size))
  && (reservedRows.filter (·.sec == sec)).all (fun u => (repOffsets u.reps).all fun o =>
    s.skipUnit sec (u.base + o) || zeros (sgets 0 s.shadow (shadowKey sec (u.base + o)) u.size))
/-- Range a wet unit's limit pair may span: that of its field, and W_MIN to W_MAX for BAND_W. -/
def State.wetRange (s : State) (u : UnitRow) (off : Nat) : Part :=
  if u.sec == 7 && u.base == 0x500 then
    let n := (off - 0x500) / 32
    { u.part with ranges := [((s.wMin n : Int), (s.wMax n : Int))] }
  else u.part
/-- R78 for one wet unit. -/
def State.wetOk (s : State) (u : UnitRow) (off : Nat) : Bool :=
  match s.limitPair u.sec off with
  | some (lo, hi) =>
    let p := s.wetRange u off
    let y := p.value (s.cfg u.sec off u.size)
    p.allows (p.value lo) && p.allows (p.value hi) && p.allows y && decide (p.value lo ≤ y) && decide (y ≤ p.value hi)
  | none => false
/-- R78 for a section. -/
def State.wetsOk (s : State) (sec : Nat) : Bool :=
  (unitRows.filter fun u => u.sec == sec && u.wet).all fun u => (repOffsets u.reps).all fun o => s.wetOk u (u.base + o)
/-- Place and size of the limit table: fixed and empty, or at or beyond an offset. -/
def State.limOk (s : State) (sec len : Nat) : Bool :=
  let lim := s.cfgWord sec 0
  let n := s.cfg sec 4 2
  match sec with
  | 1 => lim == 0x48 && n == 0 | 2 => true | 3 => 0x808 ≤ lim && lim + 12 * n ≤ len | 4 => lim == 0x2008 && n == 0
  | 5 => 0x4288 ≤ lim && lim + 12 * n ≤ len | 6 => lim == 0 && n == 0 | 7 => 0x700 ≤ lim && lim + 12 * n ≤ len
  | 8 => 0x2500 ≤ lim && lim + 12 * n ≤ len | 9 => 0x50C ≤ lim && lim + 12 * n ≤ len | 10 => lim == 0x40 && n == 0
  | 11 => lim == 0x48 && n == 0 | 12 => lim == 0x4C && n == 0 | 13 => lim == 0x20 && n == 0 | _ => lim == 0x18 && n == 0
/-- The section holds all its fields; IDENT and LOOP have one length (R86, R180). -/
def State.lenOk (s : State) (sec len : Nat) : Bool :=
  match sec with
  | 1 => len == 0x48 | 2 => 4 + 4 * s.claimCount ≤ len | 3 => 0x808 ≤ len | 4 => 0x2008 ≤ len | 5 => 0x4288 ≤ len
  | 6 => len == 131328 | 7 => 0x700 ≤ len | 8 => 0x2500 ≤ len | 9 => 0x50C ≤ len | 10 => 0x40 ≤ len | 11 => 0x48 ≤ len
  | 12 => 0x4C ≤ len | 13 => 0x20 ≤ len | _ => 0x18 ≤ len

/-- IMAGE_NAME: ASCII, padded with zeros. -/
def State.nameOk (s : State) : Bool :=
  let l := sgets 0 s.shadow (shadowKey 1 8) 32
  let used := l.takeWhile (· != 0)
  used.all (fun b => 0x20 ≤ b.toNat && b.toNat ≤ 0x7E) && zeros (l.drop used.length)
/-- Profile slot `q` is defined in the rail's LOOP block. -/
def State.profDefined (s : State) (n q : Nat) : Bool := bit (s.cfg 6 (0x102 + 0x2000 * n) 2) q
/-- Profiles that a rail's CAP ranges and AUTO_FALLBACK name. -/
def State.namedProfiles (s : State) (n : Nat) : List Nat :=
  s.autoFallback n :: (List.range' 1 15).filter fun q => s.capRange n q != (0, 0)
/-- An entry of the image's palette. -/
def State.imageEntry (s : State) (bank : Bool) (i : Nat) : Nat := s.cfgWord 5 (0x288 + (if bank then 0x2000 else 0) + 4 * i)
/-- The entries of a rail: both banks of its group slot, or DEFAULT_ENTRY. -/
def State.railEntries (s : State) (n : Nat) : List Nat :=
  match s.portOf n with
  | some (p, g) => [false, true].flatMap fun b => (List.range 64).map fun sw => s.imageEntry b (256 * p + 4 * sw + g)
  | none => [s.defaultEntry n]
/-- The conditions of R94, in their order: the index of the first that fails. -/
def State.entryFault (s : State) (n e : Nat) : Option Nat :=
  let setpt := field e 0 12
  let prof := field e 24 4
  [field e 28 4 == 0, s.envMin n ≤ setpt && setpt ≤ s.envMax n, prof == 0 || s.profDefined n prof,
    field e 16 6 ≤ (s.railPhases n).length].findIdx? (!·)
/-- A valid entry for rail `n` (R94). -/
def State.entryOk (s : State) (n e : Nat) : Bool := (s.entryFault n e).isNone

/-- R153. A CAP range or AUTO_FALLBACK is held against the defined profiles only where the rail's LE is in LE_MASK (DESIGN CHOICE, log
entry 17). -/
def State.railsBad (s : State) : Bool :=
  (List.range 16).any fun n => s.envMax n < s.envMin n || s.envMin n < s.stopLevel n || s.updDiv n % 2 != 0
    || (List.range' 1 15).any (fun q => (s.capRange n q).2 < (s.capRange n q).1)
    || (bit s.leMask n && (s.namedProfiles n).any fun q => !s.profDefined n q)
/-- R249. -/
def State.cellsBad (s : State) : Bool :=
  (List.range 1024).any (fun c => (s.expect c == 1 && (s.cellRail c).isNone) || s.ocpLimit c < 10 * s.rating c)
    || (List.range 128).any fun p => (s.phaseRail p).isSome && (phaseCells p).all fun c => s.expect c == 0
/-- Group slots of the ports, with their rails. -/
def State.groupSlots (s : State) : List (Nat × Nat × Option Nat) :=
  (List.range 8).flatMap fun p => (List.range 4).map fun g => (p, g, s.groupRail p g)
/-- R92. -/
def State.paletteBad (s : State) : Bool :=
  let named := s.groupSlots.filterMap (·.2.2)
  named.eraseDups.length != named.length
    || s.groupSlots.any (fun (p, g, r) => [false, true].any fun b => (List.range 64).any fun sw =>
        let e := s.imageEntry b (256 * p + 4 * sw + g)
        match r with
        | some n => !s.entryOk n e
        | none => e != 0)
    || (List.range 16).any fun n => if named.contains n then s.defaultEntry n != 0 else !s.entryOk n (s.defaultEntry n)
/-- R180 for a loaded LE. -/
def State.leBad (s : State) (n : Nat) : Bool :=
  let b := 0x100 + 0x2000 * n
  let len := s.cfgField 6 b 0 9
  (List.range 256).any (fun a =>
      let w := s.cfg 6 (b + 0x40 + 8 * a) 8
      if a < len then !bundleOk len w else w != 0)
    || crc32 (sgets 0 s.shadow (shadowKey 6 (b + 0x40)) (8 * len)) != s.cfgWord 6 (b + 4)
    || (s.namedProfiles n ++ (s.railEntries n).map fun e => field e 24 4).any (fun q => q != 0 && !s.profDefined n q)
    || (List.range 16).any fun q => !s.profDefined n q && !zeros (sgets 0 s.shadow (shadowKey 6 (b + 0x840 + 256 * q)) 256)
/-- R180. -/
def State.loopBad (s : State) : Bool :=
  (List.range 16).any fun n =>
    if bit s.leMask n then s.leBad n
    else s.railEn n || !zeros (sgets 0 s.shadow (shadowKey 6 (0x100 + 0x2000 * n)) 0x1840)
/-- R215, the claims of its SYNC fields included. -/
def State.phasesBad (s : State) : Bool :=
  (List.range 128).any (fun p => match s.phaseRail p with
    | some n => !s.railEn n
    | none => false)
  || (List.range 16).any (fun n =>
    let k := (s.railPhases n).length
    s.policyBad n || s.wMax n < s.wMin n || (s.railEn n && k == 0)
    || (if k == 0 then s.minActive n != 0 || s.startPhases n != 0 || s.spares n != 0
        else s.minActive n == 0 || k < s.minActive n || s.startPhases n < s.minActive n || k < s.startPhases n
          || k < s.minActive n + s.spares n)
    || (s.syncSrc n != 0 && s.mfpFunc (s.syncSrc n - 1) != 1))
  || (s.synco2 != 0xFF && s.mfpFunc 2 != 2) || (s.synco3 != 0xFF && s.mfpFunc 3 != 2)
/-- A timer claimed for the router or protection (R267). -/
def State.gtClaimed (s : State) (k : Nat) : Bool := s.owner 2 k == 0x20 || s.owner 2 k == 0x22
/-- CLASS, TRK, DIR and MRAIL of a comparator against Table 9.1 and R279; R259; its GT mask. -/
def State.compBad (s : State) (m : Nat) : Bool :=
  let w := s.cmpWord m
  let n := field w 8 4
  let k := m % 4
  (if m < 64 then bit w 29 != (k == 3) || bit w 25 != (k == 1 || k == 2) || n != m / 4
   else if m < 68 then bit w 29 != (m < 66) || bit w 25 != (66 ≤ m) || bit w 26
   else bit w 26 && 0x10 ≤ field w 0 8)
  || (bit w 19 && s.edgeBad n) || (bit w 16 && !s.gtClaimed (field w 12 3))
/-- R267 for one crosspoint. -/
def State.xpBad (s : State) (d src : Nat) : Bool :=
  let x := s.xp d src
  x != 0 && ((x == 2 && (100 ≤ src || 64 ≤ d)) || (x == 1 && d < 32) || (193 ≤ src && src ≤ 253)
    || (d == 74 && ((68 ≤ src && src < 76) || 254 ≤ src)) || (92 ≤ src && src < 100 && !s.gtClaimed (src - 92)))
/-- R290, R291 and R301 for a rail, with OCP_PCT and THROT_PCT (R314). -/
def State.protBad (s : State) (n : Nat) : Bool :=
  s.ocpPct n ≤ s.throtPct n || s.voutAbsMax n ≤ s.envMax n
  || (s.railEn n && (s.xp (48 + n) (32 + n) != 2 || s.xp (48 + n) 66 != 2 || s.xp (48 + n) 67 != 2 || s.xp (48 + n) 180 != 1))
/-- R301 and R314 for a sensor. -/
def State.tsnsBad (s : State) (t : Nat) : Bool :=
  (match s.limitPair 8 (0x2444 + 16 * t) with
    | some (lo, hi) => if s.tsnsPol t == 0 then s.tsnsOtMv t ≤ hi else lo ≤ s.tsnsOtMv t
    | none => true)
  || (List.range 16).any fun n => bit (s.tsnsRails t) n && s.xp (48 + n) (181 + t) != 1
/-- An accumulator claimed by protection on IIN. -/
def State.capAccumulator (s : State) : Bool := (List.range 64).any fun a => s.owner 4 a == 0x22 && s.accCh a == 2
/-- R279 and R314. -/
def State.protectBad (s : State) : Bool :=
  (List.range 76).any s.compBad || (List.range 96).any (fun d => (List.range 256).any (s.xpBad d))
  || s.groupSlots.any (fun (p, _, r) => match r with
      | some n => s.xp (64 + p) (116 + n) != 1
      | none => false)
  || (List.range 16).any s.protBad || (List.range 4).any s.tsnsBad
  || (match s.limitPair 8 0x2414 with
      | some (_, hi) => s.dieOtC ≤ hi
      | none => true)
  || (match s.limitPair 8 0x2400 with
      | some (_, hi) => 0 < hi && (s.rshunt == 0 || !s.capAccumulator)
      | none => true)
/-- A channel of Table 11.1 and its gain code. -/
def chanOk (ch gain : Nat) : Bool :=
  if ch == 0x7E then gain == 0
  else if [0, 1, 2, 4, 5].contains ch || (0x14 ≤ ch && ch ≤ 0x18) then gain == 0
  else ((0x10 ≤ ch && ch ≤ 0x13) || (0x20 ≤ ch && ch < 0x50)) && gain ≤ 2
/-- End times in ns of the VINA conversions of a pass of pair 0, from the pass's start. -/
def State.vinaEnds (s : State) : List Nat :=
  ((List.range (s.seqLen 0)).foldl (fun (x : Nat × List Nat) e =>
    let w := s.seqEntry 0 e
    let t := x.1 + entNs w
    (t, if entChan w == 0 then x.2 ++ [t] else x.2)) (0, [])).2
/-- Two successive ends of a list lie more than 1 us apart. -/
def gapBad : List Nat → Bool
  | a :: b :: t => a + 1000 < b || gapBad (b :: t)
  | _ => false
/-- A pair converts a channel. -/
def State.converts (s : State) (ch : Nat) : Bool :=
  chanPair ch < 4 && (List.range (s.seqLen (chanPair ch))).any fun e => entChan (s.seqEntry (2 * chanPair ch) e) == ch
/-- One entry of a sequence (R323). The ranges of SAMP and GAIN hold of an empty one too (Table 11.2). -/
def State.slotBad (s : State) (c e : Nat) : Bool :=
  let w := s.seqEntry c e
  let ch := entChan w
  if field w 16 7 < 4 || 64 < field w 16 7 || field w 23 2 == 3 then true
  else if ch == 0x7F then field w 0 16 != 0
  else s.seqLen (c / 2) ≤ e || !chanOk ch (field w 23 2)
    || (if ch == 0x7E then c < 2 || field w 0 16 < 4 || 250 < field w 0 16 else chanPair ch != c / 2 || field w 0 16 != 0)
    || s.owner 5 (16 * c + e) != 0x21
    || (List.range e).any fun j => ch != 0x7E && entChan (s.seqEntry c j) == ch && field (s.seqEntry c j) 16 9 != field w 16 9
/-- Accumulator owned by telemetry on a channel (R337). -/
def State.telemAcc (s : State) (ch : Nat) : Bool := (List.range 64).any fun a => s.accCh a == ch && s.owner 4 a == 0x21
/-- R323 and R337. -/
def State.telemetryBad (s : State) : Bool :=
  let any := !s.enabledRails.isEmpty
  (List.range 8).any (fun c => (List.range 16).any fun e => s.slotBad c e || s.seqEntry c e != s.seqEntry (c / 2 * 2) e)
  || (List.range 4).any (fun i => 0 < s.seqLen i && 250000 < s.passNs i)
  || (any && (!s.converts 0 || !s.converts 1 || gapBad (s.vinaEnds ++ (s.vinaEnds.head?.map (· + s.passNs 0)).toList)))
  || (List.range 64).any (fun a => s.accCh a != 0x7F && (s.accCh a == 0x7E || !s.converts (s.accCh a) || s.owner 4 a == 0))
  || (List.range 64).any (fun t => s.trkCh t != 0x7F && (s.trkCh t == 0x7E || !s.converts (s.trkCh t) || s.owner 3 t == 0))
  || s.enabledRails.any (fun n => !s.telemAcc (0x20 + n)) || (any && !s.telemAcc 0) || (s.rshunt != 0 && !s.telemAcc 2)
/-- R380. -/
def State.recorderBad (s : State) : Bool :=
  (List.range 16).any fun c =>
    let rate := s.cfgField 0x0B (8 + 4 * c) 16 16
    let depth := s.cfgField 0x0B (8 + 4 * c) 0 8
    if c == 0 || c == 12 then rate != 0 || depth != 0 else rate == 0 || depth == 0
/-- A channel from one identity to another, with a reply channel where one is asked for. -/
def State.bound (s : State) (a b : Nat) (reply : Bool) : Bool :=
  (List.range 16).any fun c => s.chanSender c == a && s.chanReceiver c == b && (!reply || s.replyCh c != 0xFF)
/-- R397. -/
def State.mailboxBad (s : State) : Bool :=
  (List.range 16).any (fun c =>
    let a := s.chanSender c
    let b := s.chanReceiver c
    let r := s.replyCh c
    (a == b && a != 0) || ((a == 0) != (b == 0)) || ((a == 4 || b == 4) && (a == 1 || a == 2 || b == 1 || b == 2))
      || (r != 0xFF && (a == 0 || s.chanSender r != b || s.chanReceiver r != a)))
  || !(s.bound 1 3 true && s.bound 2 3 true && (s.bound 3 4 false || s.bound 4 3 false))
/-- R461, over the bytes of the FIRMWARE_PATCH section. -/
def patchBad (b : List Byte) : Bool :=
  let rm := sliceNat b 0x0C 4
  let hm := sliceNat b 0x10 4
  slice b 0 4 != [0x48, 0x50, 0x41, 0x54] || sliceNat b 4 4 != 0x00030200 || slice b 8 2 != [0x42, 0x31] || 65536 < rm || 65536 < hm
    || b.length < 0xF0 + rm + hm
/-- The signature of a patch (R461). The hash of the patch key in ROM is a constant the spec does not give (log entry 6). -/
def patchSigned (b : List Byte) : Bool :=
  let key := slice b 0x20 97
  sha384 key == Config.patchKeyHash
    && ecdsaVerify key (sha384 (b.take 0x20 ++ slice b 0xF0 (sliceNat b 0x0C 4 + sliceNat b 0x10 4))) (slice b 0x90 96)

/-- A section fails order 9. -/
def State.sectionBad (s : State) (sec len : Nat) : Bool :=
  !s.lenOk sec len || !s.limOk sec len || !s.rangesOk sec || !s.wetsOk sec
  || (match sec with
      | 1 => !s.nameOk | 3 => s.railsBad | 4 => s.cellsBad | 5 => s.paletteBad | 6 => s.loopBad | 7 => s.phasesBad
      | 8 => s.protectBad | 9 => s.telemetryBad | 11 => s.recorderBad | 12 => s.mailboxBad | _ => false)
/-- Order 9, in OFFSET order: the first section that fails. -/
def State.fieldFail (s : State) (rd : Reader) : Option Nat :=
  ((byOffset (sections rd)).find? fun x =>
    if x.id == 15 then patchBad (rd x.off x.len) || !patchSigned (rd x.off x.len)
    else shadowed x.id && s.sectionBad x.id x.len).map (·.id)
/-- The failure of order 9 is that of a patch's signature, which also records AUTH_FAIL (R461). -/
def patchUnsigned (rd : Reader) (fail : Option (Nat × Nat)) : Bool :=
  fail == some (10, 15) && (match sectionBytes rd 15 with
    | some b => !patchBad b
    | none => false)

/-- The failure of order 5 is that of a refused transfer statement, which also records AUTH_FAIL (R460). -/
def statementRefused (f : Fuses) (rd : Reader) (fail : Option (Nat × Nat)) : Bool :=
  fail == some (8, 0x10) && f.transferRefused (sectionBytes rd 16)

/-! ### Writes of palette entries (R96, R97) -/

/-- The status of the first refused entry of a PALETTE_WRITE, with its index. -/
def State.entryRefused (s : State) (p first : Nat) (l : List Word) : Option (Nat × Nat) :=
  ((List.range l.length).map fun k =>
    let e := (l.getD k 0).toNat
    match s.groupRail p ((first + k) % 4) with
    | some n => match s.entryFault n e with
      | some 1 => (4, first + k)
      | some _ => (5, first + k)
      | none => (0, first + k)
    | none => (if e == 0 then 0 else 5, first + k)).find? fun x => x.1 != 0
/-- An accepted PALETTE_WRITE: the entries into the shadow's copy, then into the palette memory (R97). -/
def State.writeEntries (s : State) (bank : Bool) (p first : Nat) (l : List Word) : State :=
  let i := entryIndex bank p 0 0 + first
  let s := { s with
    shadow := sputs 0 s.shadow (shadowKey 5 (0x288 + 4 * i)) (wordBytes l), palette := sputs 0 s.palette i l }
  { s with boot := { s.boot with wetCrc := BitVec.ofNat 32 (crc32 s.committed.wetBytes) } }

/-! ### P4 (R72) -/

/-- OWNER and FUNC of a claim entry are allowed for its TYPE, and its ball for its function (Tables 2.7 and 3.8, R49). -/
def State.claimOk (s : State) (e : Nat) : Bool :=
  let idx := field e 16 8
  let own := field e 8 8
  let fn := field e 0 8
  match field e 24 8 with
  | 1 => match fn with
    | 1 => idx < 2 && own == 0x23 | 2 => (idx == 2 || idx == 3) && own == 0x23 | 3 => 4 ≤ idx && idx < 8 && own == 0x22
    | 4 => 8 ≤ idx && idx < 24 && own == 0x20 && (s.claimOf 2 ((idx - 8) % 8)).isSome
    | 5 => idx < 32 && 0x10 ≤ own && own < 0x20 | 6 => idx < 32 && (own == 1 || own == 3 || own == 4)
    | _ => false
  | 2 => idx < 8 && fn == 0 && (own == 0x20 || own == 0x22 || own == 0x23)
  | 3 => idx < 64 && fn == 0 && (own == 0x21 || own == 0x22 || own == 3)
  | 4 => idx < 64 && fn == 0 && (own == 0x21 || own == 0x22 || own == 3)
  | 5 => idx < 128 && fn == 0 && own == 0x21
  | 6 => idx == 0 && fn == 0 && own == 0x24
  | 7 => idx == 0 && fn == 0 && own == 0x25
  | _ => false
/-- Entry `i` fails: it repeats a TYPE and INDEX, claims a second PG ball for a rail, or is not allowed. -/
def State.claimBad (s : State) (i : Nat) : Bool :=
  let e := s.claim i
  !s.claimOk e || (List.range i).any fun j =>
    let x := s.claim j
    field x 16 16 == field e 16 16 || (field e 24 8 == 1 && field x 24 8 == 1 && field e 0 8 == 5 && field x 0 8 == 5
      && field x 8 8 == field e 8 8)
/-- A section uses a resource that is not claimed for the function that uses it. -/
def State.useBad (s : State) : Bool :=
  (s.claimOf 6 0).isNone || (s.claimOf 7 0).isNone
  || (List.range 8).any (fun c => (List.range 16).any fun e => entChan (s.seqEntry c e) != 0x7F && s.owner 5 (16 * c + e) != 0x21)
  || (List.range 64).any (fun a => s.accCh a != 0x7F && s.owner 4 a == 0)
  || (List.range 64).any (fun t => s.trkCh t != 0x7F && s.owner 3 t == 0)
  || (List.range 16).any (fun n => s.syncSrc n != 0 && s.mfpFunc (s.syncSrc n - 1) != 1)
  || (s.synco2 != 0xFF && s.mfpFunc 2 != 2) || (s.synco3 != 0xFF && s.mfpFunc 3 != 2)
  || (List.range 76).any (fun m => bit (s.cmpWord m) 16 && !s.gtClaimed (field (s.cmpWord m) 12 3))
  || (List.range 96).any fun d => (List.range 8).any fun k => s.xp d (92 + k) != 0 && !s.gtClaimed k
/-- DETAIL of P4's failure. -/
def State.claimsFail (s : State) : Option Nat :=
  match (List.range s.claimCount).find? s.claimBad with
  | some i => some i
  | none => if s.useBad then some 0xFF else none

/-! ### A slot as a whole -/

/-- The trial state of a slot: its sections in the shadow, and the accessors reading them. -/
def State.trial (s : State) (rd : Reader) (l : List Sect) : State :=
  { s.loadShadow rd l with boot := { s.boot with imageLoaded := true } }
/-- Orders 2 to 9 of a slot whose reads may fail in the sections (order 1): CAUSE and DETAIL of the failure, and the state with
what was read into the shadow (R66, R67). -/
def State.checkSlotImage (s : State) (rd : Reader) (err : FlashRead) : Option (Nat × Nat) × State :=
  if err == .errorAtHeader then (some (1, 0), s)
  else match headFail s.fuses rd with
    | some x => (some x, s)
    | none =>
      if err == .errorInSections then (some (1, 0), s)
      else
        let l := byOffset (sections rd)
        match hashFail rd with
        | some x => (some (7, x.id), s.loadShadow rd (l.takeWhile (·.off ≤ x.off)))
        | none => (((s.trial rd l).fieldFail rd).map fun d => (10, d), s.loadShadow rd l)

/-- The passing image takes effect: header fields, the burn it carries, its digest and its patches (R453, R455, R462, R466). -/
def State.adoptImage (s : State) (rd : Reader) : State :=
  let claim := sectionBytes rd 16
  let burn := ((s.fuses.ownership claim).getD none)
  let patch := (sectionBytes rd 15).getD []
  let rm := sliceNat patch 0x0C 4
  let pr := slice patch 0xF0 rm
  let ph := slice patch (0xF0 + rm) (sliceNat patch 0x10 4)
  let s := { s with boot := { s.boot with
    imageLoaded := true, imageVersion := BitVec.ofNat 32 (rdNat rd 0xC 4), rollback := BitVec.ofNat 7 (rdNat rd 0x10 1),
    imageDigest := imageDigest rd, burnClaim := burn.isSome,
    claimSlot := BitVec.ofNat 2 ((burn.map Prod.fst).getD 0), claimTransfer := (burn.map Prod.snd).getD false,
    claimHash := sha384 ((claim.map fun c => slice c 8 97).getD []),
    patchId := BitVec.ofNat 16 (sliceNat patch 0x0A 2), patchRm := pr, patchHm := ph,
    patchRmHash := sha384 pr, patchHmHash := sha384 ph } }
  { s with boot := { s.boot with dryDigest := sha384 s.dryBytes, wetCrc := BitVec.ofNat 32 (crc32 s.wetBytes) } }

/-- The checks of an activation (R84): orders 2 to 9, then P4, on the spare slot with MAGIC taken as programmed. -/
def State.activationFail (s : State) (slotB : Bool) : Option (Nat × Nat) :=
  let rd := withMagic (s.slotReader slotB)
  match (s.checkSlotImage rd .ok).1 with
  | some x => some x
  | none => ((s.trial rd (byOffset (sections rd))).claimsFail).map fun d => (9, d)

/-! ### The spare slot (R83, R84) -/

/-- The spare slot: the one that did not boot, A in the blank canvas. -/
def State.spareB (s : State) : Bool := s.boot.slot == 1

end Sys2Proof.Machine
end

