-- ==== Sys2Proof/Machine/Clearing.lean ====
section
/-! DEFINITION. Clearing: the conditions under which a latched status bit or a latch cause may clear (R447, Table 10.5),
and CLEAR_FAULTS as the RM carries it out (R307). -/

namespace Sys2Proof.Machine

/-! ### Conditions that keep a latched status bit set (R447, Table 16.3) -/

/-- Conditions that still hold of STATUS_VOUT. -/
def State.holdVout (s : State) (n : Nat) : BitVec 8 :=
  let p := (s.rail n).prot
  let low := (s.comp (4 * n + 3)).out && (s.rail n).core.state.onTarget
  BitVec.ofNat 8 (128 * b2n (p.latch.getLsbD 0) + 64 * b2n (s.rail n).pol.clamp + 32 * b2n low + 16 * b2n (p.latch.getLsbD 5 || low))
/-- Conditions that still hold of STATUS_IOUT. -/
def State.holdIout (s : State) (n : Nat) : BitVec 8 :=
  let p := (s.rail n).prot
  BitVec.ofNat 8 (128 * b2n (p.latch.getLsbD 3 || p.latch.getLsbD 4) + 32 * b2n (p.throt &&& 3 != 0))
/-- A thermal source whose over-temperature concerns rail `n`. -/
def State.thermalOn (s : State) (n : Nat) : Bool :=
  s.input.dieOt || (List.range 4).any fun t => s.input.tsnsOt.getLsbD t && bit (s.tsnsRails t) n
/-- Conditions that still hold of STATUS_TEMPERATURE. -/
def State.holdTemp (s : State) (n : Nat) : BitVec 8 :=
  BitVec.ofNat 8 (128 * b2n (s.thermalOn n) + 64 * b2n ((s.rail n).prot.throt &&& 0x1C != 0))
/-- Input comparators in service whose masked output is asserted. -/
def State.inputOn (s : State) (l : List Nat) : Bool := l.any fun m => s.compInService m && (s.comp m).out
/-- Conditions that still hold of STATUS_INPUT. -/
def State.holdInput (s : State) : BitVec 8 :=
  let uv := [64, 65].filter s.compInService
  BitVec.ofNat 8 (128 * b2n (s.inputOn [66, 67]) + 16 * b2n (!uv.isEmpty && uv.all fun m => (s.comp m).out)
    + 4 * b2n (s.input.stage == 3) + 2 * b2n (s.input.stage != 0))
/-- Conditions that still hold of STATUS_CML. -/
def State.holdCml (s : State) : BitVec 8 :=
  BitVec.ofNat 8 (16 * b2n (s.input.faults.any (·.kind == .memory))
    + 8 * b2n (s.rm.miscompare || s.hm.miscompare || s.rm.expired || s.hm.expired)
    + b2n (s.comps.any (·.failed) || s.telem.pairs.any (·.degraded)))

/-- Clear the bits `m` of STATUS_VOUT whose condition no longer holds. -/
def State.clearVout (s : State) (n : Nat) (m : BitVec 8) : State :=
  { s with pm := { s.pm with stVout := s.pm.stVout.modify n fun x => x &&& (~~~m ||| s.holdVout n) } }
/-- The same of STATUS_IOUT. -/
def State.clearIout (s : State) (n : Nat) (m : BitVec 8) : State :=
  { s with pm := { s.pm with stIout := s.pm.stIout.modify n fun x => x &&& (~~~m ||| s.holdIout n) } }
/-- The same of STATUS_TEMPERATURE. -/
def State.clearTemp (s : State) (n : Nat) (m : BitVec 8) : State :=
  { s with pm := { s.pm with stTemp := s.pm.stTemp.modify n fun x => x &&& (~~~m ||| s.holdTemp n) } }
/-- The same of STATUS_INPUT. -/
def State.clearInput (s : State) (m : BitVec 8) : State :=
  { s with pm := { s.pm with stInput := s.pm.stInput &&& (~~~m ||| s.holdInput) } }
/-- The same of STATUS_CML. -/
def State.clearCml (s : State) (m : BitVec 8) : State :=
  { s with pm := { s.pm with stCml := s.pm.stCml &&& (~~~m ||| s.holdCml) } }
/-- Bit 9, OTHER, of a page clears: it has no lasting condition. -/
def State.clearOther (s : State) (n : Nat) : State :=
  { s with pm := { s.pm with stOther := s.pm.stOther &&& ~~~(BitVec.ofNat 16 (2 ^ n)) } }

/-! ### Latch causes (Table 10.5) -/

/-- The causes of Table 10.5 in the order of their bits. -/
def latchCauses : List LatchCause :=
  [.ovSlow, .vinOv, .inputUv, .ocpFirst, .ocpSecond, .uv, .thermal, .inputCap, .vote, .otherStop]

/-- Every source of a destination is released, as it stands now: a soft source that is still delivered, its LATCH cleared a moment ago,
does not count (R266, R307). -/
def State.sourcesReleased (s : State) (d : Nat) : Bool :=
  !s.hardDest d && !((List.range 256).any fun src => s.softSource src && s.xp d src == 1)

/-- CLEAR_FAULTS clears the cause now (Table 10.5, last column). -/
def State.mayClear (s : State) (n : Nat) : LatchCause → Bool
  | .ovSlow => !(s.comp (4 * n + 2)).live
  | .vinOv | .inputUv => !s.inputOn [64, 65, 66, 67]
  | .ocpFirst => false
  | .ocpSecond | .uv | .vote => true
  | .thermal => !((List.range 5).any fun t => s.softSource (180 + t) && s.xp (48 + n) (180 + t) != 0)
  | .inputCap => !s.iinAbove 95
  | .otherStop => s.sourcesReleased (48 + n)

/-- A comparator of rail `n`: the rail's own four, and the ones above whose MRAIL names it. -/
def State.compOfRail (s : State) (n m : Nat) : Bool := if m < 64 then m / 4 == n else s.mrail m == n

/-- Step 1 of R307: firmware-cleared LATCH bits whose live output is released. -/
def State.clearLatches (s : State) (n : Nat) : State :=
  s.mapComps fun m c =>
    if s.compOfRail n m && s.classP m && bit (s.cmpWord m) 28 && !c.live then s.clearLatch c else c

/-- CLEAR_FAULTS on one rail (R307), with its status bits unless a cause is left. -/
def State.clearRail (s : State) (n : Nat) : State :=
  let s := s.clearLatches n
  let s := latchCauses.foldl (fun s c => if s.mayClear n c then s.clearCause n c else s) s
  let s := s.updProt n fun p => { p with ocpTrip := none }
  if (s.rail n).core.state.latched && (s.rail n).prot.latch != 0 then s
  else (((s.clearVout n 0xFF).clearIout n 0xFF).clearTemp n 0xFF).clearOther n

/-- CLEAR_FAULTS to a page, or to page 0xFF (R307, R427, R447). -/
def State.clearFaults (s : State) (page : BitVec 8) : State :=
  let s := s.forEach (indices 16 fun n => page == 0xFF || page.toNat == n) State.clearRail
  let s := (s.clearInput 0xFF).clearCml 0xFF
  if page == 0xFF then { s with bus := { s.bus with alert := false } } else s

/-- The RM carries out the CLEAR_FAULTS that the HM has kept for it (R344, R345). -/
def State.takeClears (s : State) : State :=
  s.app.heldClears.foldl State.clearFaults { s with app := { s.app with heldClears := [] } }

end Sys2Proof.Machine
end

