-- ==== Sys2Proof/Machine/MailOps.lean ====
section
/-! DEFINITION. Mailbox channels: headers, posts, takes, outgoing queues and epochs (R391 to R404). -/

namespace Sys2Proof.Machine

/-- Code of an identity (Table 14.3). -/
def identCode : Identity → Nat
  | .host => 1 | .svc => 2 | .hm => 3 | .rm => 4
/-- The identity is the channel's sender. -/
def State.sends (s : State) (who : Identity) (c : Nat) : Bool := s.chanSender c == identCode who
/-- The identity is the channel's receiver. -/
def State.receives (s : State) (who : Identity) (c : Nat) : Bool := s.chanReceiver c == identCode who
/-- Epoch of an identity code; 0 for an unbound channel. -/
def State.epochOf (s : State) : Nat → BitVec 8
  | 1 => s.mail.epHost | 2 => s.mail.epSvc | 3 => s.mail.epHm | 4 => s.mail.epRm | _ => 0

/-- A pair runs and can do what its firmware does. -/
def State.pairRuns (s : State) (m : Manager) : Bool := (s.mgr m).run == .running && s.clock.corePresent
/-- A pair acts on the channels from its own firmware while it runs, and no other identity has that path: HOST acts through the MFR_MBOX
commands alone, SVC through the service console (R398). -/
def State.pairPath (s : State) : Identity → Bool
  | .hm => s.pairRuns .hm
  | .rm => s.pairRuns .rm
  | .host | .svc => false

/-! ### Headers (Table 14.2) -/

/-- CODE of a header. -/
def hdrCode (d : Word) : BitVec 8 := BitVec.ofNat 8 (field d.toNat 24 8)
/-- TAG. -/
def hdrTag (d : Word) : BitVec 8 := BitVec.ofNat 8 (field d.toNat 16 8)
/-- LEN. -/
def hdrLen (d : Word) : Nat := field d.toNat 12 4
/-- CONT. -/
def hdrCont (d : Word) : Bool := bit d.toNat 11
/-- MORE. -/
def hdrMore (d : Word) : Bool := bit d.toNat 9
/-- URGENT. -/
def hdrUrgent (d : Word) : Bool := bit d.toNat 8
/-- LEN and D0[7:0] pass R392. -/
def hdrOk (d : Word) : Bool := 1 ≤ hdrLen d && hdrLen d ≤ 12 && field d.toNat 0 8 == 0
/-- A header. -/
def mkHeader (code tag : Nat) (len : Nat) (cont orphan more : Bool) : Word :=
  word [fld 24 8 code, fld 16 8 tag, fld 12 4 len, flg 11 cont, flg 10 orphan, flg 9 more]

/-- Fragments of a payload (R403): 11 words each, CONT from the second on, MORE but on the last. `k` counts the fragments
made, and `fuel` bounds them. -/
def fragment (code tag : Nat) (orphan : Bool) : Nat → Nat → List Word → List (List Word)
  | 0, _, _ => []
  | fuel + 1, k, p =>
    let more := decide (11 < p.length)
    let h := mkHeader code tag (1 + (p.take 11).length) (0 < k) orphan more
    (h :: p.take 11) :: (if more then fragment code tag orphan fuel (k + 1) (p.drop 11) else [])
/-- A message as its fragments. -/
def fragments (code tag : Nat) (orphan : Bool) (payload : List Word) : List (List Word) :=
  fragment code tag orphan (payload.length + 1) 0 payload

/-! ### Posting and taking -/

/-- An accepted GO (R392): FULL, both epochs latched, the marks of the message before cleared. -/
def State.post (s : State) (c : Nat) : State :=
  let se := s.epochOf (s.chanSender c)
  let re := s.epochOf (s.chanReceiver c)
  s.updChan c fun x => { x with
    full := true, stale := false, orphan := false, recallLate := false, eccErr := false, sndEpoch := se, rcvEpoch := re,
    read := false, crossTime := 0 }
/-- The pair that sends on a channel runs; a host path always may. -/
def State.senderRuns (s : State) (c : Nat) : Bool :=
  s.clock.corePresent && (match s.chanSender c with
    | 3 => s.hm.run == .running
    | 4 => s.rm.run == .running
    | _ => true)
/-- Messages waiting in an outgoing queue, each counted at its last fragment. -/
def Channel.waiting (x : Channel) : Nat := (x.out.filter fun w => !hdrMore (w.getD 0 0)).length
/-- An answer that is owed joins a queue that holds fewer than 8 messages (R404). -/
def Channel.refill (x : Channel) : Channel :=
  match x.owed with
  | m :: rest => if x.waiting < 8 then { x with out := x.out ++ m, owed := rest } else x
  | [] => x
/-- A free channel takes the next waiting message of its sender (R404). -/
def State.pump (s : State) (c : Nat) : State :=
  match (s.chan c).out with
  | [] => s
  | w :: rest =>
    if (s.chan c).full || !s.senderRuns c then s
    else (s.updChan c fun x =>
      Channel.refill { x with d := w ++ List.replicate (12 - w.length) 0, out := rest }).post c
/-- FULL clears; CROSS clears on the channel and on its reverse (R404). -/
def State.release (s : State) (c : Nat) : State :=
  let s := s.updChan c fun x => { x with full := false, cross := false, crossTime := 0 }
  let rev (k : Nat) : Bool := s.chanSender k == s.chanReceiver c && s.chanReceiver k == s.chanSender c && s.chanSender c != 0
  let s := s.forEach (indices 16 fun k => rev k && (s.replyCh k == c || s.replyCh c == k)) fun s k =>
    s.updChan k fun x => { x with cross := false, crossTime := 0 }
  s.pump c
/-- The receiver's read of the last word takes the message (R393). -/
def State.takeFrom (s : State) (c : Nat) : State := (s.updChan c fun x => { x with read := true }).release c
/-- MBX_ORPHAN at the take of an ORPHAN message (R402). -/
def State.orphanRecord (s : State) (c : Nat) : State :=
  let x := s.chan c
  s.when x.orphan fun s =>
    s.record 0x9004 c (x.d.getD 0 0).toNat (x.sndEpoch.toNat * 65536 + (s.epochOf (s.chanSender c)).toNat)
/-- Queue a message on a channel and post what can be posted. One that finds the queue at its bound of 8 (R404), the answer to a lost or
overdue message that no gate holds back, is owed beside it (DESIGN CHOICE, log entry 56). -/
def State.sendOn (s : State) (c : Nat) (code tag : Nat) (orphan : Bool) (payload : List Word) : State :=
  if c < 16 then
    (s.updChan c fun x => Channel.refill { x with owed := x.owed ++ [fragments code tag orphan payload] }).pump c
  else s

/-- A reply to a request that arrived on channel `c` (R409): CODE OR 0x80, the request's TAG, the status in D1. -/
def State.reply (s : State) (c : Nat) (code : Nat) (m : Message) (status : Nat) (rest : List Word) : State :=
  s.sendOn (s.replyCh c) (code % 128 + 128) m.tag.toNat m.orphan (BitVec.ofNat 32 status :: rest)

/-! ### Epochs (R399, R400) -/

/-- An identity's epoch advances: its FULL channels become STALE or ORPHAN; a pair loses its outgoing queue and its
reassemblies. -/
def State.advanceEpoch (s : State) (who : Identity) : State :=
  let m := s.mail
  let m := match who with
    | .host => { m with epHost := m.epHost + 1 }
    | .svc => { m with epSvc := m.epSvc + 1 }
    | .hm => { m with epHm := m.epHm + 1 }
    | .rm => { m with epRm := m.epRm + 1 }
  let pair := who == .hm || who == .rm
  { s with mail := { m with chans := m.chans.mapIdx fun c x =>
      let r := s.receives who c
      let t := s.sends who c
      { x with stale := x.stale || (x.full && r), orphan := x.orphan || (x.full && t),
               out := if pair && t then [] else x.out, owed := if pair && t then [] else x.owed, frag := if pair && r then none else x.frag } } }

end Sys2Proof.Machine
end

