-- ==== Sys2Proof/Machine/Pentimento.lean ====
section
/-! DEFINITION. The Pentimento dump: the freeze, the capture into retained memory, the commit to the non-volatile slot
(R362, R363, Table 12.8), and the SEQ of the record that names it. -/

namespace Sys2Proof.Machine

/-- CODE, SRC, P0 and TIME of a record that another datum names. -/
abbrev RecKey := BitVec 16 × BitVec 16 × Word × BitVec 48

/-- The record has this key and time. -/
def Rec.is (r : Rec) (k : RecKey) : Bool := r.code == k.1 && r.src == k.2.1 && r.p0 == k.2.2.1 && r.time == k.2.2.2
/-- The key of the event just staged; none where the staging port suppressed or dropped it. -/
def State.keyOf (s : State) (code src p0 : Nat) : Option RecKey :=
  match s.sketch.opened with
  | some o =>
    if o.code == BitVec.ofNat 16 code && o.src == BitVec.ofNat 16 src && o.p0 == BitVec.ofNat 32 p0 then
      some (o.code, o.src, o.p0, o.time) else none
  | none => none
/-- The staged record of a key, with its provisional SEQ. -/
def Recorder.findStaged (r : Recorder) (k : RecKey) : Option Rec := r.stagedRecs.reverse.find? (·.is k)
/-- The stored record of a key. -/
def Recorder.findStored (r : Recorder) (k : RecKey) : Option Rec :=
  (r.store.filterMap fun x => match x.2 with
    | .valid r => if r.is k then some r else none
    | .torn => none).foldl (fun b x => match b with
      | some y => if y.seq.toNat < x.seq.toNat then some x else some y
      | none => some x) none
/-- SEQ of a record by its key: provisional while it is staged; 0xFFFFFFFF where it was lost (R362). -/
def Recorder.seqOf (r : Recorder) (k : Option RecKey) : Word :=
  match k with
  | none => 0xFFFFFFFF
  | some k => ((r.findStaged k).orElse fun _ => r.findStored k).elim 0xFFFFFFFF (·.seq)

/-- The two cores of a pair stop, and their registers freeze (R340, R355). -/
def State.freeze (s : State) (m : Manager) (trigger : Nat) (regs : Frozen) : State :=
  s.updMgr m fun p => { p with
    run := .stopped, frozen := some regs, frozenTime := BitVec.ofNat 48 s.clock.time, trigger := BitVec.ofNat 8 trigger }
/-- The record of the freeze is written, and the pair keeps its key. -/
def State.recordFreeze (s : State) (m : Manager) (code src p0 p1 : Nat) : State :=
  let s := s.record code src p0 p1
  s.updMgr m fun p => { p with causeKey := s.keyOf code src p0 }

/-! ### Table 12.8 -/

/-- `n` words of a list, missing ones 0. -/
def padWords (n : Nat) (l : List Word) : List Word := l.take n ++ List.replicate (n - l.length) 0
/-- A core block: 100 words of registers, output port 0 for an expiry, then zeros. -/
def coreBlock (expiry : Bool) (l : List Word) : List Word :=
  padWords 128 ((padWords 100 (if expiry then l.set 2 0 else l)))
/-- Levels of 32 router destinations. -/
def State.destWord (s : State) (k : Nat) : Word := BitVec.ofNat 32 (maskOf 32 fun i => s.dest (32 * k + i))
/-- The state part of a dump, from 0x0440 on, as it stands at the copy. -/
def State.dumpState (s : State) : List Word :=
  (List.range 16).flatMap (fun n => padWords 64 (s.rail n).le.z)
    ++ (List.range 16).flatMap (fun n => s.railWord n :: s.loopWords n ++ [s.burstWord n])
    ++ (List.range 128).map (fun p => (s.phaseWords p).getD 0 0)
    ++ (List.range 76).map s.compWord
    ++ (List.range 4).map s.pairWord
    ++ (List.range 16).map s.throttleWord
    ++ [s.destWord 0, s.destWord 1, s.destWord 2, s.deviceWord]
    ++ (List.range 8).map s.portWord
    ++ List.replicate 4 0
    ++ (List.range 16).flatMap (fun c => padWords 12 ((s.chan c).d.modify 0 (· &&& 0xFFFFFF00)) ++ [(s.chan c).control])
    ++ padWords 256 (s.sketch.stagedRecs.flatMap Rec.words)
    ++ (List.range 1024).map (fun c => (s.cellWords c).getD 0 0)
    ++ List.replicate 1007 0
/-- The header of a dump, 16 words. -/
def State.dumpHeader (s : State) (p : PairState) (dropped : Nat) : List Word :=
  let t := p.frozenTime.toNat
  [0x4D544E50, word [fld 0 16 1, fld 16 8 p.trigger.toNat], s.sketch.seqOf p.causeKey, word [fld 0 32 t],
    word [fld 0 16 (t / 2 ^ 32), fld 16 16 s.sketch.powerCycle.toNat], word [fld 0 32 (s.clock.time - t)], 0x00030200,
    s.boot.imageVersion, word [fld 0 16 dropped], 0, 0, 0, 0, 0, 0, 0]
/-- A dump closed with its CRC. -/
def closeDump (l : List Word) : List Word := padWords 4095 l ++ [BitVec.ofNat 32 (dumpCrc l)]

/-- The 4,096 words that a pair with frozen registers copies: header, both core blocks, the state as it stands at the copy, the CRC. -/
def State.captureOf (s : State) (p : PairState) (f : Frozen) : List Word :=
  let expiry := decide (3 ≤ p.trigger.toNat)
  closeDump (s.dumpHeader p s.ret.dropped.toNat ++ coreBlock expiry f.core0 ++ coreBlock expiry f.core1 ++ s.dumpState)
/-- The restarted pair copies its frozen registers and the state into the capture area (R362); a capture that finds the
area PENDING is not copied, and DROPPED counts it. -/
def State.copyCapture (s : State) (m : Manager) : State :=
  let p := s.mgr m
  match p.frozen with
  | none => s
  | some f =>
    let t := s.updMgr m fun p => { p with frozen := none }
    if s.ret.capPending then
      { t with ret := { t.ret with dropped := BitVec.ofNat 16 (satAdd 65535 t.ret.dropped.toNat 1) } }
    else
      { t with ret := { t.ret with capture := s.captureOf p f, capPending := true, capCause := p.causeKey } }

/-- The record that a capture names is still staged. -/
def State.captureWaits (s : State) : Bool :=
  match s.ret.capCause with
  | some k => (s.sketch.findStaged k).isSome
  | none => false

/-- Commit of a PENDING capture (R363): the final SEQ and the CRC, then the slot, LOCKED, and PENTIMENTO_WRITTEN. -/
def State.commitCapture (s : State) : State :=
  if s.ret.capPending && !s.dump.locked && !s.captureWaits then
    let seq := s.sketch.seqOf s.ret.capCause
    let l := (s.ret.capture.take 4095).set 2 seq
    let s := { s with dump := { slot := closeDump l, locked := s.dumpLock == 1 },
                      ret := { s.ret with capPending := false } }
    s.record 0x8008 (dumpTrigger l) seq.toNat s.ret.dropped.toNat
  else s

/-- PENTIMENTO_COMMIT (R363): the slot is erased, and then programmed; an HM restart between the two leaves PENDING set. -/
def execPentimentoCommit (e : WorkEdge) (s : State) : Host.Outcome State Fault Refusal :=
  if s.hm.run == .running && s.clock.corePresent then
    match e with
    | .begins =>
      if s.ret.capPending && !s.dump.locked && !s.captureWaits && !s.work.dumping then
        complete { s with dump := { s.dump with slot := List.replicate 4096 0xFFFFFFFF }, work := { s.work with dumping := true } }
      else complete s
    | .ends => complete (s.when s.work.dumping fun s => ({ s with work := { s.work with dumping := false } }).commitCapture)
  else complete s

end Sys2Proof.Machine
end

