-- ==== Sys2Proof/Machine/Supervision.lean ====
section
/-! DEFINITION. Supervision as commands (spec/12): miscompares, watchdogs, the escalation ladder and the safe state, and
the Apprentice with its takeover, handback and self-check. -/

namespace Sys2Proof.Machine

/-! ### Escalation and the safe state (R356 to R360) -/

/-- Number of a pair in records: 0 the RM, 1 the HM (R367). -/
def mgrNo : Manager → Nat
  | .rm => 0 | .hm => 1
/-- RECENT of a pair. -/
def Retained.recent (r : Retained) : Manager → Nat
  | .rm => r.recentRm | .hm => r.recentHm
/-- Tick of a pair's last counted event. -/
def Retained.last (r : Retained) : Manager → Option Nat
  | .rm => r.lastRm | .hm => r.lastHm
/-- Set RECENT of a pair. -/
def Retained.setRecent (r : Retained) (m : Manager) (k : Nat) : Retained :=
  match m with
  | .rm => { r with recentRm := k }
  | .hm => { r with recentHm := k }
/-- Set the tick of a pair's last counted event. -/
def Retained.setLast (r : Retained) (m : Manager) (t : Nat) : Retained :=
  match m with
  | .rm => { r with lastRm := some t }
  | .hm => { r with lastHm := some t }
/-- KIND and CAUSE of a reset (Table 12.6). -/
def State.setReset (s : State) (kind cause : Nat) : State :=
  { s with ret := { s.ret with kind := BitVec.ofNat 2 kind, cause := BitVec.ofNat 4 cause } }

/-- A pair is reset (Table 1.6, MANAGEMENT): its memory and its watchdog, what the RM had not yet commanded of its own, and what the HM was
busy with, which ends undone but for a record commit or an erase of the event store (R363, R383). -/
def State.resetPair (s : State) (m : Manager) (run : PairRun) : State :=
  let s := s.when (m == .hm) fun s => { s with work := { s.work with dumping := false, activating := none, signing := none } }
  let s := s.when (m == .rm) fun s => { s with cross := { s.cross with posts := s.cross.posts.filter RmPost.fromHm } }
  s.updMgr m fun p => { p with run := run, mem := [], wd := { Watchdog.reset with remain := s.wdTimeout m } }

/-- Entry into the safe state (R358). `src`, `recent` and `p1` are those of the SAFE_STATE record; the HM, where it runs,
stops for its one restart into restricted service. -/
def State.enterSafe (s : State) (src recent p1 : Nat) (fromCheck : Bool) : State :=
  let s := { s with sketch := s.sketch.closeOpen }
  let s := s.record 0x8007 src recent p1
  let s := { s with safe := { s.safe with active := true, fromCheck := fromCheck, resumed := false, recordKey := s.keyOf 0x8007 src recent } }
  let s := s.resetPair .rm .heldReset
  s.updMgr .hm fun p => { p with run := if p.run == .running then .stopped else p.run }

/-- A restart of kind `kind` asked for now is absorbed into one in progress: a warm chip restart into a warm one, a pair restart into
that pair's own or a warm one (R23). -/
def State.absorbs (s : State) (m : Manager) (kind : Nat) : Bool :=
  s.safe.warm.isSome || (kind != 1 && ((s.mgr m).run == .restarting || (s.mgr m).run == .heldReset))
/-- The restart that a trigger asks for is the last reset from here on, unless it is absorbed (R23, R361). -/
def State.askReset (s : State) (m : Manager) (kind cause : Nat) : State := if s.absorbs m kind then s else s.setReset kind cause

/-- The ladder of Table 12.4, taken by a counted expiry or miscompare with its CAUSE (R356). The restart it asks for
begins with its own command. In the safe state a further event of the HM holds it in reset (R358). -/
def State.escalate (s : State) (m : Manager) (cause : Nat) : State :=
  let near := s.within (s.ret.last m) (msTicks s.escWin)
  let k := min 7 (s.ret.recent m + 1)
  let s := { s with ret := (s.ret.setRecent m k).setLast m s.clock.tick }
  if s.safe.active then s.resetPair m .heldReset
  else if k ≥ s.safeN then (s.askReset m (mgrNo m + 2) cause).enterSafe (mgrNo m) k 0 false
  else s.askReset m (if near then 1 else mgrNo m + 2) cause


/-- LOCKSTEP_MISMATCH (R340): of a pair that runs, or that runs ROM and firmware in its restart; a pair restart that is asked for then
is absorbed into the one in progress (R23). -/
def execLockstepMismatch (m : Manager) (regs : Frozen) (s : State) : Host.Outcome State Fault Refusal :=
  let run := (s.mgr m).run
  if (run == .running || run == .restarting) && s.clock.corePresent then
    let again := s.within (s.mgr m).mismatchAt (msTicks s.escWin)
    let s := (s.freeze m (mgrNo m + 1) regs).setCml 8
    let s := s.updMgr m fun p => { p with
      run := if run == .restarting then run else p.run, miscompare := true, mismatchAt := some s.clock.tick }
    let s := s.recordFreeze m 0x8004 (mgrNo m) (regs.core0.getD 0 0).toNat (regs.core0.getD 3 0 ^^^ regs.core1.getD 3 0).toNat
    complete ((s.faultOn .pairMiscompare (mgrNo m) again).escalate m 3)
  else complete s

/-! ### Watchdogs (R350 to R355) -/

/-- Tasks of the mask that have not checked in. -/
def Watchdog.missing (w : Watchdog) : BitVec 16 := w.taskMask &&& ~~~w.checked
/-- Change a pair's watchdog. -/
def State.updWd (s : State) (m : Manager) (f : Watchdog → Watchdog) : State := s.updMgr m fun p => { p with wd := f p.wd }
/-- A start: REMAIN loaded, CHECKED, DOUBLE and KEYA cleared (R351). -/
def State.startWd (s : State) (m : Manager) : State :=
  (s.updWd m fun w => { w with
    run := true, remain := s.wdTimeout m, checked := 0, double := 0, keyA := false, serviced := false, staged := 0 }).updMgr m
    fun p => { p with wdOff := false }

/-- An expiry (R355, R360): the pair stops and freezes, WDT_EXPIRY, MISSING and DOUBLE, and the ladder; a forced one is not
counted and asks for the pair restart. A pair that is restarting, or held in reset, stays so. -/
def State.expire (s : State) (m : Manager) (forced : Bool) (regs : Frozen) : State :=
  let w := (s.mgr m).wd
  let run := (s.mgr m).run
  let s := (s.freeze m (mgrNo m + (if forced then 5 else 3)) regs).setCml 8
  let s := s.updMgr m fun p => { p with
    run := if run == .restarting || run == .heldReset then run else p.run, expired := true, wd := { p.wd with keyA := false } }
  let s := s.recordFreeze m 0x8001 (mgrNo m + 16 * b2n forced) w.missing.toNat w.double.toNat
  let r := match m with
    | .rm => { s.ret with missingRm := w.missing, doubleRm := w.double }
    | .hm => { s.ret with missingHm := w.missing, doubleHm := w.double }
  let s := { s with ret := r }
  if forced then s.askReset m (mgrNo m + 2) 6 else s.escalate m 2

/-- Every rail is OFF or PRIMED. -/
def State.railsRest (s : State) : Bool := s.rails.all (·.core.state.resting)

/-- WDT_EXPIRY (R355, R360). The time at which REMAIN reaches 0 is the command's premise. -/
def execWdtExpiry (m : Manager) (why : ExpiryCause) (regs : Frozen) (s : State) : Host.Outcome State Fault Refusal :=
  match why with
  | .forced => if s.pairRuns m && s.railsRest then complete (s.expire m true regs) else complete s
  | _ => if s.pairRuns m && (s.mgr m).wd.run then complete (s.expire m false regs) else complete s

/-- WD_CHECKIN (R352). -/
def execWdCheckin (m : Manager) (task : Fin 16) (s : State) : Host.Outcome State Fault Refusal :=
  let w := (s.mgr m).wd
  let t : BitVec 16 := BitVec.ofNat 16 (2 ^ task.val)
  if s.pairRuns m && w.taskMask.getLsbD task.val then
    if w.checked.getLsbD task.val then
      let s := s.updWd m fun w => { w with double := w.double ||| t, staged := w.staged ||| t }
      complete (if w.staged.getLsbD task.val then s else s.record 0x8002 (mgrNo m) task.val w.checked.toNat)
    else complete (s.updWd m fun w => { w with checked := w.checked ||| t })
  else complete s

/-- KEY_A (Table 12.3): in the cycle in which REMAIN reaches 0 it is an expiry. -/
def execKeyA (m : Manager) (regs : Frozen) (s : State) : Host.Outcome State Fault Refusal :=
  if s.pairRuns m && (s.mgr m).wd.run then
    if (s.mgr m).wd.remain == 0 then complete (s.expire m false regs)
    else complete (s.updWd m fun w => { w with keyA := true })
  else complete s

/-- KEY_B (Table 12.3): accepted, refused, or an expiry. -/
def execKeyB (m : Manager) (regs : Frozen) (s : State) : Host.Outcome State Fault Refusal :=
  let w := (s.mgr m).wd
  if s.pairRuns m && w.run then
    if w.remain == 0 || !w.keyA then complete (s.expire m false regs)
    else if w.taskMask != 0 && w.checked == w.taskMask then
      complete (s.updWd m fun w => { w with
        remain := s.wdTimeout m, checked := 0, double := 0, keyA := false, serviced := true, staged := 0 })
    else complete ((s.record 0x8003 (mgrNo m) w.missing.toNat w.double.toNat).updWd m fun w => { w with keyA := false })
  else complete s

/-- An accepted disable (R354). -/
def State.stopWd (s : State) (m : Manager) : State :=
  ((s.updWd m fun w => { w with run := false }).updMgr m fun p => { p with wdOff := true }).record 0x800D (mgrNo m) 1 0

/-- WD_DISABLE (R354): both keys within 16 CORE cycles, unless LOCK holds. -/
def execWdDisable (m : Manager) (first second : Word) (cycles : Nat) (s : State) : Host.Outcome State Fault Refusal :=
  if s.pairRuns m && field first.toNat 0 16 == 0x5AA5 && field second.toNat 0 16 == 0xA55A && cycles ≤ 16 && !s.wdLock m then
    complete (s.stopWd m)
  else complete s

/-- A GO write (R354): it starts a watchdog that does not run, and records a restart after a disable. -/
def State.goWd (s : State) (m : Manager) : State :=
  if (s.mgr m).wd.run then s
  else
    let again := (s.mgr m).wdOff
    let s := s.startWd m
    if again then s.record 0x800D (mgrNo m) 0 0 else s

/-- GO (R354); the watchdogs do not run during priming (R58). -/
def execGo (m : Manager) (s : State) : Host.Outcome State Fault Refusal :=
  if s.pairRuns m && (s.primed || s.blank) then complete (s.goWd m) else complete s

/-- DECAY_PERIOD (R357). -/
def execDecayPeriod (m : Manager) (s : State) : Host.Outcome State Fault Refusal :=
  if s.decayH == 0 then complete s else complete { s with ret := s.ret.setRecent m (s.ret.recent m - 1) }

/-! ### The Apprentice (R342 to R348) -/

/-- Cause code of Table 12.1. -/
def holdCode : HoldCause → Nat
  | .rmMiscompare => 1 | .rmRestart => 2 | .warmRestart => 3 | .coreLoss => 4 | .loopLoss => 5 | .safeState => 6 | .router => 7
/-- Its bit among the pending end conditions. -/
def holdBit (c : HoldCause) : BitVec 8 := BitVec.ofNat 8 (2 ^ holdCode c)

/-- The recovery of a phase is abandoned at a takeover (R213): a phase in probation goes back to RETRY_WAIT with its cells parked
(Table 7.2), the retry is due no longer, a discovery is owed from its start, and what its cells still were to be sent is dropped. -/
def State.abandonRecovery (s : State) (p : Nat) : State :=
  let x := s.phase p
  if x.probation then
    (s.updPhase p fun x => { x with
      state := .retryWait, lane := .idle, probation := false, retryDue := false, retrying := false, sound := 0, rounds := 0 }).setMode p 1
  else if x.state == .retryWait then
    let s := s.updPhase p fun x => { x with
      lane := .idle, retryDue := false, retrying := false, disc := if x.disc == .idle then .idle else .owed }
    let s := s.updLink (p / 8) fun k => { k with queue := k.queue.erase (6, enumerateFrame p) }
    s.forEach ((phaseCells p).filter fun c => (s.cell c).configuring) fun s c =>
      (s.dropCommands c).updCell c fun x => { x with configuring := false }
  else s
/-- A phase of a rail that enters the hold is brought to ACTIVE or BLIND (R214). One behind a standing link fault cannot be woken
from DEEP_PARKED (R188). -/
def Phase.takeHold (linkDown : Bool) (x : Phase) : Phase :=
  match x.state with
  | .decidedShed | .draining | .tristated => x.activate
  | .parked => x.wake false
  | .deepParked => if linkDown then x else x.wake false
  | .waking => { x with wakePark := false }
  | _ => x

/-- A rail enters APPRENTICE_HOLD (R343 steps 1 to 4): its shed orders are flushed, the target stays, recoveries are abandoned and its
phases brought to ACTIVE. A start that still waits goes on waiting (R151). -/
def State.holdRail (s : State) (n : Nat) : State :=
  let s := (s.abortChar n).updCore n fun c => { c with state := .apprenticeHold, appStop := false }
  let s := s.updPol n fun q => { q with shedOrders := [] }
  let s := s.movePhases n fun s => (s.forEach (s.railPhases n) State.abandonRecovery).mapPhases fun p x =>
    if s.phaseRail p == some n then x.takeHold (s.linkFault (p / 8)) else x
  (s.retarget n).tryRamp n

/-- The rails that a takeover moves. -/
def State.takable (s : State) : List Nat := s.enabledRails.filter fun n => (s.rail n).core.state.running
/-- The Apprentice can act on a trigger (R348). -/
def State.appReady (s : State) : Bool := !s.app.disabled && !s.appStopped

/-- A takeover for a cause (R342, R343, R346, R348). A trigger during a hold adds its end condition; one during a handback
also takes back the rails handed back. A trigger that finds the Apprentice disabled or stopped starts no hold, and the phases stay
frozen until the RM takes the rails. -/
def State.takeover (s : State) (c : HoldCause) : State :=
  if !s.appReady then
    (s.when (!s.app.holding) fun s => { s with app := { s.app with causes := s.app.causes ||| holdBit c } }).record 0x8005 0 (holdCode c) 0
  else if s.app.holding then
    let s := s.when s.app.handback fun s => s.forEach (s.takable.filter s.app.handed.getLsbD) State.holdRail
    let s := { s with app := { s.app with causes := s.app.causes ||| holdBit c, handback := false, handed := 0 } }
    s.record 0x8005 0 (holdCode c) 0
  else
    let l := s.takable
    let s := s.forEach (List.range 16) fun s n => s.updPol n fun q => { q with shedOrders := [] }
    let s := { s with cross := { s.cross with toLoop := [] } }
    let s := s.forEach l State.holdRail
    let s := { s with app := { s.app with holding := true, taking := 0, causes := holdBit c, since := s.clock.tick, handback := false, handed := 0 } }
    s.record 0x8005 0 (holdCode c) (maskOf 16 fun n => l.contains n)

/-- APPRENTICE_TAKEOVER (R343). The trigger is the command's premise. -/
def execApprenticeTakeover (cause : HoldCause) (s : State) : Host.Outcome State Fault Refusal :=
  if s.boot.held then complete s else complete (s.takeover cause)

/-- The RM can take the rails: CORE present and its ready heartbeat posted (R25). -/
def State.rmReady (s : State) : Bool := s.pairRuns .rm && s.safe.warm.isNone
/-- The end condition of a cause is met (Table 12.1). -/
def State.holdMet (s : State) : Nat → Bool
  | 1 | 2 | 3 => s.rmReady
  | 4 => s.rmReady && s.hm.run == .running
  | 5 => s.rmReady && s.clock.loopPresent && !s.clock.onBackup
  | 6 => s.rmReady && !s.safe.active
  | _ => false
/-- A handback may proceed: every pending condition is met (R343), or the Apprentice has stopped (R348). -/
def State.handbackMay (s : State) : Bool :=
  s.app.holding && s.rmReady && (!s.appReady || (List.range 8).all fun c => !s.app.causes.getLsbD c || s.holdMet c)
/-- Rails still held. -/
def State.stillHeld (s : State) : List Nat := indices 16 fun n => (s.rail n).core.state == .apprenticeHold

/-- The RM disables the Apprentice (R28, R347); the fault is outstanding until power-on reset (R310). -/
def State.disableApp (s : State) (why : Nat) : State :=
  if s.app.disabled then s
  else (({ s with app := { s.app with disabled := true } }).faultOn .apprentice 0 true).record 0x800A 0 why 0

/-- Wet values committed during the hold take effect (R80). -/
def State.applyWetHeld (s : State) : State :=
  { s with shadow := s.wetHeld.foldl (fun m x => sput 0 m x.1 x.2) s.shadow, wetHeld := [] }

/-- The end of a handback (R345 steps 4 and 5, R80, R344, R348). A T0 kept in the hold that its source no longer gives is that of a
host source which has changed meanwhile, since edges and swaps move a palette T0 at once: the move is the host's (R111). -/
def State.endHandback (s : State) : State :=
  let handed := s.app.handed
  let s := s.record 0x8009 0 (s.since s.app.since / 800) handed.toNat
  let s := { s with app := { s.app with holding := false, causes := 0, handback := false, handed := 0 } }
  let s := s.applyWetHeld
  let s := s.reapplyHosts
  let s := s.forEach (indices 16 handed.getLsbD) fun s n =>
    s.retargetWith n (decide ((s.rail n).core.base ≠ (s.sourceTarget n).1)) false
  let s := s.takeClears
  if s.app.mismatch then s.disableApp 0 else s

/-- After the last rail that the RM takes without a hold: the CLEAR_FAULTS kept for it, and a stopped Apprentice is disabled (R348). -/
def State.takingDone (s : State) : State :=
  if s.app.taking == 0 then (let s := s.takeClears; if s.app.mismatch then s.disableApp 0 else s) else s
/-- The RM, which runs again and finds no hold, begins to take the rails (R348): those that run at their boundaries of R24, the others at
once. It applies again what the HM holds of each (DESIGN CHOICE, log entry 56). -/
def State.takeRails (s : State) : State :=
  let l := s.takable
  let s := { s with app := { s.app with taking := BitVec.ofNat 16 (maskOf 16 fun n => l.contains n) } }
  (s.forEach (s.enabledRails.filter fun n => !l.contains n) State.reapplyHost).takingDone
/-- The RM takes a rail at a period boundary with no burst, clamp or mask window (R24, R348). -/
def State.takeRail (s : State) (n : Nat) : State :=
  if s.app.taking.getLsbD n && s.rmReady && s.railQuiet n then
    let s := { s with app := { s.app with taking := s.app.taking &&& ~~~(BitVec.ofNat 16 (2 ^ n)) } }
    (s.reapplyHost n).takingDone
  else s

/-- Finish when no rail is left to hand back. -/
def State.handbackDone (s : State) : State := if s.stillHeld.isEmpty then s.endHandback else s

/-- APPRENTICE_HANDBACK (R345 steps 1 and 2): the RM reads the Apprentice's state and begins. -/
def execApprenticeHandback (s : State) : Host.Outcome State Fault Refusal :=
  if s.handbackMay then
    complete ({ s with app := { s.app with
      handback := true, handed := if s.app.handback then s.app.handed else 0 } }).handbackDone
  else complete s

/-- A held rail is handed back (R24, R141, R214, R345, Table 5.4): the LE resumes with FIRST and TRACKED, and the shed dwell
counts from here. A shadow run goes on from its count, and its next update carries both again (DESIGN CHOICE beside R163, log
entry 56). A slide ends where the rail is REGULATING at SETPT (R105). -/
def State.handRail (s : State) (n : Nat) : State :=
  let s := (s.updCore n fun c => 
    if c.slewed == (c.target : Int) * 512 then { c with state := .regulating, slide := false } else { c with state := .slewing }).firstLit n
  let s := s.updLe n fun l => { l with setFirst := true, setTracked := true }
  let s := s.updPol n fun q => { q with lastShed := some s.clock.tick, shedSince := none }
  { s with app := { s.app with handed := s.app.handed ||| BitVec.ofNat 16 (2 ^ n) } }

/-- RAIL_HANDBACK (R24, R348). Without a hold the RM takes the rail. After one, in ascending order, each rail at a period boundary with no burst, clamp or mask window; a rail whose start
still waits has none yet. -/
def execRailHandback (n : Fin 16) (s : State) : Host.Outcome State Fault Refusal :=
  if s.app.handback && s.handbackMay then
    if s.stillHeld.head? == some n.val && s.railQuiet n && (s.rail n).core.ramping then complete (s.handRail n).handbackDone
    else complete s.handbackDone
  else if !s.app.holding then complete (s.takeRail n) else complete s

/-- APP_TAKEOVER_RELEASE (Table 12.1, cause 7): every source of the destination has been released for 1 ms. -/
def execAppTakeoverRelease (s : State) : Host.Outcome State Fault Refusal :=
  if s.dest 75 then complete s
  else
    let t := { s with app := { s.app with causes := s.app.causes &&& 0x7F } }
    complete (if s.app.causes.getLsbD 7 && !s.app.holding && s.rmReady then t.takeRails else t)

/-- APP_MISMATCH (R347). -/
def execAppMismatch (s : State) : Host.Outcome State Fault Refusal :=
  if s.boot.held then complete s else complete { s with app := { s.app with mismatch := true } }

/-- HEARTBEAT_CHECK (R347): the RM's read of APP_MISMATCH and of the heartbeat count. `appLost`: the APP clock has stopped before it
(R11, R27), and with it the Apprentice, the clock monitor and the standby wake (Table 1.3). -/
def execHeartbeatCheck (appLost : Bool) (s : State) : Host.Outcome State Fault Refusal :=
  let s := s.when (appLost && !s.boot.held) fun s => { s with clock := { s.clock with appPresent := false } }
  if s.rmReady && !s.app.disabled then
    let still := s.app.heartbeat == some s.app.beats
    let s := { s with app := { s.app with heartbeat := some s.app.beats } }
    complete (if s.app.mismatch then s.disableApp 0 else if still then s.disableApp 1 else s)
  else complete s

end Sys2Proof.Machine
end

