-- ==== Sys2Proof/Machine/Sketchbook.lean ====
section
/-! DEFINITION. The Sketchbook (spec/13): events, holds and tokens, commits and sector erases, the power-on scan, reads with
the cursor, and the clear. -/

namespace Sys2Proof.Machine

/-! ### Staging commands -/

/-- Event codes that the EM1280 writes (Table 13.7); class 0xF is Holeth internal. -/
def eventCodes : List Nat :=
  [0x0001, 0x0002, 0x0003, 0x1001, 0x1010, 0x1011, 0x1020, 0x1030, 0x1031, 0x1040, 0x1041, 0x1042, 0x1050, 0x1051,
    0x2010, 0x2011, 0x2012, 0x2013, 0x3001, 0x3010, 0x3011, 0x3020, 0x4001, 0x4002, 0x5001, 0x5002, 0x5010, 0x5011, 0x5012,
    0x6001, 0x6002, 0x7001, 0x7002] ++
  [0x8001, 0x8002, 0x8003, 0x8004, 0x8005, 0x8006, 0x8007, 0x8008, 0x8009, 0x800A, 0x800B, 0x800C, 0x800D,
    0x9001, 0x9002, 0x9003, 0x9004, 0xA001, 0xA002, 0xA003, 0xA004, 0xA005, 0xB001, 0xB002, 0xC001, 0xC002, 0xC003]
/-- A code of Table 13.7. -/
def eventCode (c : Nat) : Bool := eventCodes.contains c || c / 4096 == 15

/-- EVENT_STAGE (R374, R375): an event of a source that this model does not see happen. -/
def execEventStage (code src : BitVec 16) (p0 p1 : Word) (s : State) : Host.Outcome State Fault Refusal :=
  if eventCode code.toNat && !s.boot.held then complete (s.record code.toNat src.toNat p0.toNat p1.toNat) else complete s

/-- OPEN_RECORD_CLOSE (R376). -/
def execOpenRecordClose (s : State) : Host.Outcome State Fault Refusal :=
  if s.clock.corePresent then complete { s with sketch := s.sketch.closeOpen } else complete s

/-- A token for a code's bucket, up to DEPTH; with suppressed occurrences its summary falls due (R378, R379). -/
def Recorder.addToken (r : Recorder) (code : BitVec 16) (time : Nat) : Recorder :=
  let b := r.bucket code
  let r := r.putBucket { b with used := b.used - 1 }
  if b.suppressed > 0 then
    { r with dueOrder := if r.dueOrder.contains code then r.dueOrder else r.dueOrder ++ [code] }.settle time
  else r

/-- TOKEN_ADD (R378, R379): every 10 / RATE seconds; the recorder needs the CORE clock. -/
def execTokenAdd (code : BitVec 16) (s : State) : Host.Outcome State Fault Refusal :=
  if s.clock.corePresent && s.recRate code != 0 then complete { s with sketch := s.sketch.addToken code s.clock.time }
  else complete s

/-! ### The store (R382 to R384) -/

/-- Slots of the store. -/
def slotCount : Nat := 16384
/-- The slot of a SEQ. -/
def slotOf (seq : Nat) : Nat := seq % slotCount
/-- What a slot holds; none: blank. -/
def Recorder.slot (r : Recorder) (k : Nat) : Option Slot := (r.store.find? (·.1 == k)).map (·.2)
/-- Put a slot, keeping the store in the order of its slots. -/
def putSlot (k : Nat) (v : Slot) : List (Nat × Slot) → List (Nat × Slot)
  | [] => [(k, v)]
  | (i, w) :: t => if k < i then (k, v) :: (i, w) :: t else if i = k then (k, v) :: t else (i, w) :: putSlot k v t
/-- Erase a sector of 128 slots. -/
def Recorder.eraseSector (r : Recorder) (sec : Nat) : Recorder := { r with store := r.store.filter fun x => x.1 / 128 != sec }
/-- SEQ of the next record. -/
def Recorder.nextSeq (r : Recorder) : Nat := match r.newest with
  | some k => k.toNat + 1
  | none => 0

/-- Sector that the next commit erases. -/
def Recorder.eraseDue (r : Recorder) : Option Nat := if r.nextSeq % 128 == 0 then some (slotOf r.nextSeq / 128) else none
/-- OLDEST rises before a sector erase that is due. -/
def Recorder.raiseOldest (r : Recorder) : Recorder :=
  if r.eraseDue.isSome && r.oldest.toNat + 16256 < r.nextSeq then { r with oldest := BitVec.ofNat 32 (r.nextSeq - 16256) } else r
/-- One commit (R382): the sector erase when one is due, the record, NEWEST. -/
def Recorder.commit (r : Recorder) (x : Rec) : Recorder :=
  let k := r.nextSeq
  let r := match r.eraseDue with
    | some sec => r.raiseOldest.eraseSector sec
    | none => r
  { r with store := putSlot (slotOf k) (.valid { x with seq := BitVec.ofNat 32 k }) r.store, newest := some (BitVec.ofNat 32 k) }

/-- The HM writes the store: it runs, and no commit or erase is in progress. -/
def State.committer (s : State) : Bool := s.pairRuns .hm && !s.boot.held && !s.work.committing && s.work.erasing.isNone

/-- A commit in progress ends: the oldest closed record is stored, its staging entry freed, and the summaries that wait for one placed. -/
def State.finishCommit (s : State) : State :=
  if s.work.committing then
    let s := { s with work := { s.work with committing := false, erasing := none } }
    match s.sketch.closed with
    | [] => s
    | x :: rest => { s with sketch := ({ s.sketch with closed := rest }.commit x).settle s.clock.time }
  else s
/-- RECORD_COMMIT (R382, R383): it begins with the raise of OLDEST and the erase, where one is due; once begun, only power-on reset
interrupts it. -/
def execRecordCommit (e : WorkEdge) (s : State) : Host.Outcome State Fault Refusal :=
  match e with
  | .begins =>
    if s.committer && !s.sketch.exhausted && !s.sketch.closed.isEmpty then
      complete { s with sketch := s.sketch.raiseOldest, work := { s.work with committing := true, erasing := s.sketch.eraseDue } }
    else complete s
  | .ends => complete s.finishCommit

/-- SEQ of a slot that is not blank; a torn one has the SEQ of its place in the ring. -/
def Recorder.slotSeq (r : Recorder) (k : Nat) : Option Nat :=
  (r.slot k).map fun x => match x with
    | .valid y => y.seq.toNat
    | .torn => let n := r.nextSeq - 1; n - (n + slotCount - k) % slotCount
/-- Every slot of a sector holds a SEQ of `n` or less. -/
def Recorder.sectorBelow (r : Recorder) (n sec : Nat) : Bool :=
  (List.range 128).all fun i => match r.slotSeq (128 * sec + i) with
    | some q => q ≤ n
    | none => false

/-- The sectors that a clear up to `n` has still to erase. -/
def Recorder.clearSectors (r : Recorder) (n : Nat) : List Nat := indices 128 (r.sectorBelow n)
/-- CLEARING ends when no sector is left. -/
def Recorder.endClearing (r : Recorder) : Recorder :=
  match r.clearing with
  | some n => if (r.clearSectors n.toNat).isEmpty then { r with clearing := none } else r
  | none => r
/-- CLEAR_SECTOR_ERASE (R389 step 7): one sector, between record commits; CLEARING ends after the last. -/
def execClearSectorErase (e : WorkEdge) (s : State) : Host.Outcome State Fault Refusal :=
  match e with
  | .begins =>
    match s.sketch.clearing with
    | none => complete s
    | some n =>
      if s.committer then
        complete { s with sketch := s.sketch.endClearing, work := { s.work with erasing := (s.sketch.clearSectors n.toNat).head? } }
      else complete s
  | .ends =>
    match s.work.erasing with
    | none => complete s
    | some sec =>
      if s.work.committing then complete s
      else complete { s with sketch := (s.sketch.eraseSector sec).endClearing, work := { s.work with erasing := none } }

/-! ### The scan at P2 (R373, R384) -/

/-- A valid record in its slot. -/
def Recorder.validAt (r : Recorder) (k : Nat) : Option Rec := match r.slot k with
  | some (.valid x) => if slotOf x.seq.toNat == k then some x else none
  | _ => none
/-- Neither blank nor valid. -/
def Recorder.tornAt (r : Recorder) (k : Nat) : Bool := (r.slot k).isSome && (r.validAt k).isNone
/-- Valid records of the store. -/
def Recorder.validRecs (r : Recorder) : List Rec :=
  r.store.filterMap fun x => match x.2 with
    | .valid y => if slotOf y.seq.toNat == x.1 then some y else none
    | .torn => none
/-- The walk over torn slots: how many follow, from the slot of SEQ `q` on; `home` is NEWEST's sector. -/
def Recorder.walk (r : Recorder) (home : Option Nat) : Nat → Nat → Nat
  | 0, _ => 0
  | fuel + 1, q =>
    let k := slotOf q
    let enters := k % 128 != 0 || home == some (k / 128) || r.store.all fun x => x.1 / 128 != k / 128 || x.1 == k
    if r.tornAt k && enters then walk r home fuel (q + 1) + 1 else 0

/-- The scan: the recorder as it stands before POWER_ON, the torn slots walked and the sectors erased again. -/
def Recorder.scan (r : Recorder) : Recorder × Nat × Nat :=
  let best := r.validRecs.foldl (fun (b : Option Rec) x => match b with
    | some y => if y.seq.toNat < x.seq.toNat then some x else some y
    | none => some x) none
  let first := match best with
    | some x => x.seq.toNat + 1
    | none => 0
  let torn := r.walk (best.map fun x => slotOf x.seq.toNat / 128) slotCount first
  let next := first + torn
  let sec := slotOf next / 128
  let again := (next == 0 || slotOf (next - 1) / 128 != sec) && (r.store.any fun x => x.1 / 128 == sec)
    && (match r.validAt (128 * sec) with
      | some x => x.seq.toNat + slotCount != next
      | none => true)
  let r := if again then r.eraseSector sec else r
  let valid := r.validRecs
  let low := (valid.filter fun x => next ≤ x.seq.toNat + slotCount).foldl (fun (b : Option Nat) x =>
    some (min (b.getD x.seq.toNat) x.seq.toNat)) none
  let old := valid.foldl (fun o x => if x.code == 0xC001 && x.p1.toNat < next then max o (x.p1.toNat + 1) else o) (low.getD 0)
  ({ r with
      newest := if next == 0 then none else some (BitVec.ofNat 32 (next - 1)), oldest := BitVec.ofNat 32 old,
      powerCycle := match best with
        | some x => x.powerCycle + 1
        | none => 1 }, torn, b2n again)

/-! ### Reads (R385 to R388) -/

/-- A marker record. -/
def marker (seq p0 p1 : Word) : Rec :=
  { seq := seq, time := 0, powerCycle := 0, code := 0, src := 0, p0 := p0, p1 := p1, rep := 0, flags := 4 }
/-- The record of a SEQ (Table 13.5). -/
def Recorder.read (r : Recorder) (q : Word) : Rec :=
  if q.toNat < r.oldest.toNat then marker q 0 r.oldest
  else if q.toNat < r.nextSeq then
    match r.slot (slotOf q.toNat) with
    | some (.valid x) => if x.seq == q then x else marker q 1 0
    | _ => marker q 1 0
  else match r.stagedRecs[q.toNat - r.nextSeq]? with
    | some x => x
    | none => marker q 2 r.newestWord
/-- The record of a cursor read; staged records are never returned (R388). -/
def State.readCursor (s : State) : Rec :=
  if s.cursor.toNat < s.sketch.nextSeq then s.sketch.read s.cursor else marker s.cursor 2 s.sketch.newestWord
/-- The cursor after it, once the reply is complete. -/
def State.moveCursor (s : State) : State :=
  let c := s.cursor
  let next := if c.toNat < s.sketch.oldest.toNat then s.sketch.oldest
    else if c.toNat < s.sketch.nextSeq then c + 1 else c
  { s with ret := { s.ret with cursor := some next } }

/-! ### Clearing (R389) -/

/-- Steps 2 to 6 of a clear up to `n` by an identity: the status answered, and the state, in which a commit in progress has ended. A
store whose SEQ are exhausted commits no LOG_CLEARED, so that no clear is carried out. -/
def State.clearLog (s : State) (ident : Nat) (n : Word) : Nat × State :=
  if n.toNat < s.sketch.oldest.toNat || s.sketch.nextSeq ≤ n.toNat then (2, s)
  else if s.sketch.clearing.isSome then (1, s)
  else
    let s := s.finishCommit
    let r := s.sketch
    if r.exhausted then (2, { s with sketch := r.drop 0xC001 })
    else
      let x := r.fresh s.clock.time 0xC001 (BitVec.ofNat 16 ident) r.oldest n 0
      (0, { s with sketch := { r.commit x with oldest := n + 1, clearing := some n } })

end Sys2Proof.Machine
end

