-- ==== Sys2Proof/Machine/Priming.lean ====
section
/-! DEFINITION. Power-on reset and the priming stages as commands (spec/03, R52, R53): each PRIME command is the end of its
stage, with the stage's outcomes as operands. -/

namespace Sys2Proof.Machine

/-! ### Console lines -/

/-- A priming line (R57): each stage's command prints its own, before what the stage's end prints. -/
def stageLine (l : List Char) : ConLine := .text (ascii (['P', 'R', 'I', 'M', 'E', ' ', 'P'] ++ l))
/-- The line of a slot in P3; the first of the stage says that the flash has no JESD216 tables (R57, R61). -/
def slotLine (slotB noSfdp : Bool) : ConLine :=
  stageLine (['3', ' ', 'S', 'L', 'O', 'T', ' ', if slotB then 'B' else 'A'] ++
    (if noSfdp then [' ', 'N', 'O', ' ', 'S', 'F', 'D', 'P'] else []))
/-- Lines that stand before what was printed. -/
def State.preface (s : State) (l : List ConLine) : State := s.print (l ++ s.con.out)

/-! ### Power-on reset (R18, R52, R53) -/

/-- A power-on reset resets every domain; the fuse bank, the identity key store, the flash, the event store and the Pentimento
slot are non-volatile, and the balls keep the levels that the board drives. -/
def State.powerOn (s : State) (cause : Nat) : State :=
  { State.reset with
    clock := { Clock.reset with tick := s.clock.tick, refclk := s.clock.refclk }
    pins := { Pins.reset with supplies := s.pins.supplies, porstN := s.pins.porstN }
    boot := { Boot.reset with resetCause := BitVec.ofNat 4 cause }
    varnish := s.varnish, ident := { s.ident with checked := false }, flash := s.flash, dump := s.dump
    sketch := { Recorder.reset with store := s.sketch.store }
    ret := { Retained.reset with cause := BitVec.ofNat 4 cause }
    free := s.free, pending := s.pending }
/-! ### Fuses burned at P7 -/

/-- RB bits still to burn: the lowest unburned ones, until the count is ROLLBACK. -/
def State.rbDue (s : State) : List Nat :=
  (indices 64 fun i => !s.fuses.rb.getLsbD i).take (s.boot.rollback.toNat - s.fuses.rbCount)
/-- The bits that P7 burns, in their order: KEYHASH of the target slot and then its VALID, the rollback thermometer, WDT_HW (R455, R458,
R463). -/
def State.burnList (s : State) : List Nat :=
  let k := s.boot.claimSlot.toNat
  (if s.boot.burnClaim then (indices 384 s.boot.claimHash.getLsbD).map (384 * k + ·) ++ [1536 + k] else [])
    ++ (if s.advanceRb == 1 then s.rbDue.map (1540 + ·) else []) ++ (if s.burnWdtHw == 1 then [1604] else [])
/-- `done` program pulses of the burns of P7. -/
def State.burnPulses (s : State) (done : Nat) : State := { s with varnish := s.varnish.burn s.burnList done }
/-- The owner key that the image claims or transfers (R455). -/
def State.burnOwner (s : State) : State :=
  if s.boot.burnClaim then
    let k := s.boot.claimSlot.toNat
    let s := { s with fuses := { s.fuses with
      keyHash := s.fuses.keyHash.set k s.boot.claimHash, keyValid := s.fuses.keyValid ||| BitVec.ofNat 4 (2 ^ k) } }
    s.record 0xA004 k (ofBytes ((octets 48 s.boot.claimHash.toNat).take 4)) (b2n s.boot.claimTransfer)
  else s
/-- The rollback thermometer (R458). -/
def State.burnRollback (s : State) : State :=
  if s.advanceRb == 1 then
    { s with fuses := { s.fuses with rb := s.fuses.rb ||| BitVec.ofNat 64 (maskOf 64 fun i => s.rbDue.contains i) } }
  else s
/-- WDT_HW (R463). -/
def State.burnWatchdog (s : State) : State :=
  if s.burnWdtHw == 1 then { s with fuses := { s.fuses with wdtHw := true } } else s

/-! ### Work that a power-on reset interrupts -/

/-- A commit or an erase of the event store interrupted (R383, R384): of a sector erase the first `done` slots are blank, and the
program that follows it leaves a torn slot. -/
def State.storePart (s : State) (done : Nat) : State :=
  let erased := match s.work.erasing with
    | some sec => s.sketch.store.filter fun x => !(x.1 / 128 == sec && decide (x.1 % 128 < done))
    | none => s.sketch.store
  let first := if s.work.erasing.isSome then 128 else 0
  { s with sketch := { s.sketch with
      store := if s.work.committing && decide (first < done) then putSlot (slotOf s.sketch.nextSeq) .torn erased else erased } }
/-- An activation interrupted after `done` bytes (Table 3.11): of MAGIC, and of SUPERSEDE in slot A. -/
def State.activatePart (s : State) (done : Nat) : State :=
  if s.work.activating.isSome && (s.activationFail s.spareB).isNone then
    let spare := s.spareB
    (s.putFlash spare 0 (magic.take done)).when spare fun s => s.putFlash false 0x18 (List.replicate (min 4 (done - 4)) 0)
  else s
/-- What a power-on reset leaves of the non-volatile work in progress; `done` is how far it has come. The burns of P7 count program pulses:
bits of KEYHASH without VALID leave the slot spoiled (R455, R458). -/
def State.interruptWork (s : State) (done : Nat) : State :=
  ((s.when (s.boot.stage == 7) fun s => s.burnPulses done).storePart done).activatePart done

/-! ### Triggers of a power-on reset -/

/-- A power-on reset that its trigger starts; one already in progress absorbs it, and keeps its cause (R23). -/
def State.triggerReset (s : State) (cause done : Nat) : State :=
  if s.boot.held then s else (s.interruptWork done).powerOn cause

/-- SUPPLY_FALL (R53); `done` is how far non-volatile work in progress had come. -/
def execSupplyFall (k : Fin 5) (done : Nat) (s : State) : Host.Outcome State Fault Refusal :=
  complete (({ s with pins := { s.pins with supplies := s.pins.supplies.set k false } }).triggerReset 0 done)
/-- PORST_N_LOW (R18, R46), with the same operand. -/
def execPorstNLow (done : Nat) (s : State) : Host.Outcome State Fault Refusal :=
  complete (({ s with pins := { s.pins with porstN := false } }).triggerReset 1 done)
/-- POWER_ON_RESET_RELEASE (R52, R55): time 0 and the start of P0, once the supplies are valid and PORST_N is high. -/
def execPowerOnResetRelease (byPorst : Bool) (s : State) : Host.Outcome State Fault Refusal :=
  let s := { s with pins := { s.pins with supplies := List.replicate 5 true, porstN := s.pins.porstN || byPorst } }
  if s.boot.held && s.pins.porstN then
    complete { s with boot := { s.boot with held := false, stage := 0 }, clock := { s.clock with time := 0 } }
  else complete s

/-- A stage is in progress; priming goes no further in a safe state that it met (R26, R358; log entry 56). -/
def State.inStage (s : State) (k : BitVec 4) : Bool := !s.boot.held && !s.safe.active && s.boot.stage == k
/-- The next stage. -/
def State.toStage (s : State) (k : BitVec 4) : State := { s with boot := { s.boot with stage := k } }

/-! ### The blank canvas (R82, Table 3.10) -/

/-- The watchdogs of a unit with WDT_HW start by themselves (R351). -/
def State.autoWatchdogs (s : State) : State :=
  s.when s.boot.fuseWdtHw fun s => (s.startWd .rm).startWd .hm
/-- A lockout that a power-on reset interrupted restarts in full (R470). -/
def State.restartLockout (s : State) : State :=
  s.when s.ident.lockout fun s => { s with con := { s.con with lockUntil := some (s.clock.tick + msTicks (1000 * s.svcLockS)) } }

/-- REMAIN of a watchdog that does not run reads as TIMEOUT (Table 12.2). -/
def State.loadTimeouts (s : State) : State :=
  let set (m : Manager) (p : PairState) : PairState :=
    if p.wd.run then p else { p with wd := { p.wd with remain := s.wdTimeout m } }
  (s.updMgr .rm (set .rm)).updMgr .hm (set .hm)
/-- The minimal ROM image boots: no image, rails off, lanes idle, links and converters off, both pairs in ROM. -/
def State.enterBlank (s : State) (cause detail : Nat) : State :=
  let b := s.boot
  let s := { s with
    boot := { b with
      stage := 0xE, slot := 0, fixative := true, cause := BitVec.ofNat 4 cause, detail := BitVec.ofNat 8 detail,
      imageLoaded := false, ovNodes := 0, ovReads := [], heldOff := 0, burnClaim := false, claimHash := 0, imageDigest := 0, patchId := 0,
      patchRm := [], patchHm := [], dryDigest := 0, wetCrc := 0, imageVersion := 0, rollback := 0 }
    pins := { s.pins with lanesEnabled := false, fdEnabled := false, fuOn := false, faultReleased := false }
    shadow := [], wetHeld := [], palette := [], ports := List.replicate 8 Port.reset, rails := List.replicate 16 Rail.reset
    phases := List.replicate 128 Phase.reset, cells := List.replicate 1024 Cell.reset, links := List.replicate 16 Link.reset
    comps := Comp.resetAll, timers := List.replicate 8 Timer.reset, router := Router.reset, input := Input.reset
    telem := Telem.reset, cross := Crossing.reset }
  let s := s.loadTimeouts
  let s := (s.updMgr .rm fun p => { p with run := .running }).updMgr .hm fun p => { p with run := .running }
  let s := s.autoWatchdogs.restartLockout
  s.print [.text (ascii ['B', 'L', 'A', 'N', 'K', ' ', 'C', 'A', 'N', 'V', 'A', 'S', ' ', 'C', 'A', 'U', 'S', 'E', ' ', '0', 'x']
    ++ hexText 1 cause ++ ascii [' ', 'D', 'E', 'T', 'A', 'I', 'L', ' ', '0', 'x'] ++ hexText 2 detail)]
/-- A rejection at P2, P4 or P6 (R68, R70). -/
def State.rejectStage (s : State) (cause detail : Nat) : State := (s.record 0x0003 2 cause detail).enterBlank cause detail

/-! ### P0 to P2 -/

/-- PRIME_P0 (R55). -/
def execPrimeP0 (s : State) : Host.Outcome State Fault Refusal :=
  if s.inStage 0 then complete (s.toStage 1) else complete s

/-- Upper edges of the ADDR bands, in ohms (Table 2.6). -/
def addrEdges : List Nat :=
  [5620, 7150, 9070, 11520, 14650, 18610, 23680, 30130, 38330, 48700, 61900, 78680, 100100, 127100, 161300]
/-- The address of a measured resistance; none for an invalid strap (R41, R43, R44). -/
def strapAddress (ohms : Nat) : Option (BitVec 7) :=
  if ohms < 4430 || 205100 < ohms then none else some (BitVec.ofNat 7 (0x40 + (addrEdges.filter (· ≤ ohms)).length))

/-- PRIME_P1 (R41 to R46, R351, R452): the fuse bank and the straps are read; the clocks of LOOP and CORE run for the boot of P2, and the staging port takes
what waited (R374). -/
def execPrimeP1 (ohms : Nat) (svcRxLow : Bool) (s : State) : Host.Outcome State Fault Refusal :=
  if s.inStage 1 then
    let a := strapAddress ohms
    let f := s.varnish.read
    complete ((({ s with
      fuses := f, boot := { s.boot with strapInvalid := a.isNone, svcStrap := svcRxLow, fuseWdtHw := f.wdtHw }
      bus := { s.bus with address := a.getD 0x4F, addrKnown := true }
      pins := { s.pins with svcTx := true }
      clock := { s.clock with corePresent := true, loopPresent := true } }).takeHeld false).toStage 2)
  else complete s

/-- Commit every staged record (R384, Table 3.1). -/
def Recorder.flush (time : Nat) : Nat → Recorder → Recorder
  | 0, r => r
  | fuel + 1, r =>
    match r.closed with
    | [] => r
    | x :: rest => if r.exhausted then r else flush time fuel (({ r with closed := rest }.commit x).settle time)
/-- The open record closes, and all are committed. -/
def State.commitAll (s : State) : State :=
  { s with sketch := Recorder.flush s.clock.time 64 s.sketch.closeOpen }

/-- The device identity key (R464): generated and its commit bit burned while ID_GEN is 0, else checked. -/
def State.identityKey (s : State) (keysOk : Bool) : State :=
  if s.fuses.idGen then { s with ident := { s.ident with checked := keysOk } }
  else
    let (draw, s) := s.random
    let k := scalarOf draw
    { s with
      ident := { s.ident with scalar := k, publicKey := publicKey k, checked := true }
      varnish := s.varnish.burn [1606] 3, fuses := { s.fuses with idGen := true } }

/-- The Sketchbook opens (R373, R384, R388): the store is scanned, CURSOR starts at OLDEST, and POWER_ON opens the new power cycle. -/
def State.openStore (s : State) : State :=
  let (r, torn, again) := s.sketch.scan
  ({ s with sketch := r, ret := { s.ret with cursor := some r.oldest } }).record 0x0001 0 s.boot.resetCause.toNat (torn * 65536 + again)

/-- PRIME_P2 (R55, R373, R384, R464): the HM boots from ROM, the event store is scanned, POWER_ON is committed. -/
def execPrimeP2 (romOk keysOk memOk : Bool) (s : State) : Host.Outcome State Fault Refusal :=
  if s.inStage 2 then
    let s := s.updMgr .hm fun p => { p with run := .running }
    let gen := s.fuses.idGen
    let s := s.openStore.commitAll.identityKey keysOk
    if romOk && memOk && (keysOk || !gen) then
      complete (({ s with pins := { s.pins with qcs := true } }.toStage 3).print [stageLine ['2']])
    else complete ((s.rejectStage 0xD 0).preface [stageLine ['2']])
  else complete s

/-! ### P3 (R66 to R70) -/

/-- A failed slot: its records, the flag, CAUSE and DETAIL. -/
def State.failSlot (s : State) (slotB : Bool) (rd : Reader) (f : Nat × Nat) : State :=
  let s := s.when (f.1 == 6) fun s => s.record 0xA003 (b2n slotB) (rdNat rd 0x10 1) s.fuses.rbCount
  let s := s.when (patchUnsigned rd (some f)) fun s => s.authFail 3 5 0
  let s := s.when (statementRefused s.fuses rd (some f)) fun s => s.authFail 3 1 0
  let s := s.record 0x0003 (b2n slotB) f.1 f.2
  { s with boot := { s.boot with
    aFail := s.boot.aFail || !slotB, bFail := s.boot.bFail || slotB,
    cause := BitVec.ofNat 4 f.1, detail := BitVec.ofNat 8 f.2 } }
/-- What the image gives the blocks at its load: the palette memory, the reset states of the general comparators, TIMEOUT, and the
crosspoints that standing sources assert. -/
def State.loadBlocks (s : State) : State :=
  let s := { s with palette := (List.range 4096).foldl (fun m i =>
    sput 0 m i (BitVec.ofNat 32 (s.imageEntry (2048 ≤ i) (i % 2048)))) [] }
  let s := s.mapComps fun m c => if m < 68 then c else { c with 
    live := s.compReset m, out := s.compReset m, seen := s.compReset m }
  let s := s.loadTimeouts
  { s with router := { s.router with
      levels := s.router.levels.mapIdx fun i v => if 68 ≤ i && i < 76 then s.softSource i else v,
      delivered := s.router.delivered.mapIdx fun i v => if 68 ≤ i && i < 76 then s.softSource i else v } }.seedSoft
/-- One slot: whether it passed, and the state after it. -/
def State.trySlot (s : State) (slotB : Bool) (err : FlashRead) : Bool × State :=
  let rd := s.slotReader slotB
  match s.checkSlotImage rd err with
  | (some f, t) => (false, t.failSlot slotB rd f)
  | (none, t) =>
    let t := (t.adoptImage rd).loadBlocks
    (true, ({ t with boot := { t.boot with slot := if slotB then 2 else 1 } }).toStage 4)
/-- Slot A carries a mark that can be read. -/
def State.markA (s : State) : Bool := superseded (s.slotReader false)
/-- The slot to be tried next: A first, B when A failed or is superseded, A in full when a superseded A's other slot failed. -/
def State.nextSlot (s : State) (marked : Bool) : Option Bool :=
  if !s.boot.aFail && !marked then some false
  else if !s.boot.bFail then some true
  else if !s.boot.aFail then some false
  else none
/-- The slots in turn, until one passes or none is left; `said` are the lines of the slots before. -/
def State.trySlots (readA readB : FlashRead) (marked : Bool) : Nat → List ConLine → State → State
  | 0, _, s => s
  | fuel + 1, said, s =>
    match s.nextSlot marked with
    | none => (s.enterBlank s.boot.cause.toNat s.boot.detail.toNat).preface said
    | some b =>
      let (ok, t) := s.trySlot b (if b then readB else readA)
      let said := said ++ [slotLine b (said.isEmpty && !s.boot.sfdp)]
      if ok then t.print said else trySlots readA readB marked fuel said t

/-- The read mode that P3 takes: the widest that the tables advertise, at the lower of 104 MHz and their maximum, with their
dummy cycles; without tables, or with none of these modes in them (log entry 56), instruction 0x03 at 20 MHz (R61). -/
def flashAccess : Option Sfdp → FlashAccess
  | none => ⟨.slow, 20000, 0⟩
  | some t =>
    match [FlashMode.m144, .m114, .m122, .m112, .m111].findSome? fun m => t.modes.find? (·.1 == m) with
    | some (m, d) => ⟨m, min 104000 t.maxKhz, d⟩
    | none => ⟨.slow, 20000, 0⟩
/-- The line of a slot A that is read and skipped for its mark. -/
def State.skipLine (s : State) (marked noSfdp : Bool) : List ConLine :=
  if marked && !s.boot.aFail && !s.boot.bFail then [slotLine false noSfdp] else []
/-- PRIME_P3 (R61, R66 to R70). -/
def execPrimeP3 (sfdp : Option Sfdp) (readA readB : FlashRead) (s : State) : Host.Outcome State Fault Refusal :=
  if s.inStage 3 then
    let marked := readA != .errorAtHeader && s.markA
    let s := { s with boot := { s.boot with sfdp := sfdp.isSome, access := flashAccess sfdp, aSuperseded := marked } }
    complete (State.trySlots readA readB marked 4 (s.skipLine marked sfdp.isNone) s)
  else complete s

/-! ### P4 and P5 -/

/-- A pair's number among the identities (R398). -/
def mgrCode : Manager → Nat
  | .rm => 4 | .hm => 3
/-- The patch memory of a pair is judged at its boot; on a mismatch the pair runs from ROM alone (R462). -/
def State.bootPatch (s : State) (m : Manager) : State :=
  let (p, h) := match m with
    | .rm => (s.boot.patchRm, s.boot.patchRmHash)
    | .hm => (s.boot.patchHm, s.boot.patchHmHash)
  let bad := !p.isEmpty && sha384 p != h
  (s.updMgr m fun q => { q with romOnly := bad }).when bad fun s => s.authFail (mgrCode m) 5 0
/-- The HM takes its patch through one restart of its pair (R462), which closes the open record (R376). -/
def State.patchRestart (s : State) : State :=
  if s.boot.patchHm.isEmpty then s
  else
    let s := s.advanceEpoch .hm
    ({ s with ret := { s.ret with kind := 3 }, sketch := s.sketch.closeOpen }).bootPatch .hm
/-- PRIME_P4 (R72). -/
def execPrimeP4 (s : State) : Host.Outcome State Fault Refusal :=
  if s.inStage 4 then
    match s.claimsFail with
    | some d => complete ((s.rejectStage 9 d).preface [stageLine ['4']])
    | none =>
      let s := { s with pins := { s.pins with fuOn := true } }
      complete ((s.patchRestart.toStage 5).print [stageLine ['4']])
  else complete s

/-- An expected cell that discovery did not give: ABSENT or SILENT, with CELL_MISSING and its cause (Table 8.8). -/
def State.missingCell (s : State) (c cause : Nat) : State := s.record 0x3020 c cause (cellPhase c)
/-- A reply complete in its sense of R239. -/
def foundOk (f : FoundCell) : Bool := f.reply.isSome && !f.otherVersion
/-- Commands of R238 step 5 that the cell was sent. -/
def foundSent (f : FoundCell) : Nat := match f.failsAt with
  | some k => k.val + 1
  | none => 4
/-- The frames of R238 step 5 to a found cell: SEQ inverted for each new command and kept for a resend (R230, R232). -/
def State.configActs (s : State) (f : FoundCell) : List LinkAct :=
  let l := (s.configFrames f.cell.val (s.firstWidth f.cell.val) 1).take (foundSent f)
  (l.mapIdx fun k g =>
    let g := LinkAct.frame { g with seq := k % 2 == 0 }
    if (f.retried.any fun r => r.1.val == k) || (f.failsAt.any fun i => i.val == k) then [g, g] else [g]).flatten
/-- The pattern and ENUMERATE on a lane (R236). The lane of an UNUSED phase never leaves idle (Table 2.5, R187), so that it has the
ENUMERATE of R238 step 2 without the pattern (DEDUCED, log entry 56). -/
def State.laneActs (s : State) (p : Nat) : List LinkAct :=
  (if (s.phaseRail p).isSome then [.pattern (p % 8)] else []) ++ [.frame (enumerateFrame p)]
/-- What a link drives and sends in P5 (R236, R238): two resets that forget the slots, pattern and ENUMERATE on each lane, once more
where an expected position gave no complete reply, the configurations, and QUARANTINE to the cells at unexpected positions. -/
def State.discoveryActs (s : State) (found : List FoundCell) (l : Nat) : List LinkAct :=
  let reset := LinkAct.frame (broadcastFrame 8 0xA50000)
  let lanes := (List.range 8).map (8 * l + ·)
  let first (c : Nat) : Bool := found.any fun f => f.cell.val == c && foundOk f && !f.late
  let again := lanes.filter fun p => (phaseCells p).any fun c => s.expect c == 1 && !first c
  let cells := found.filter fun f => foundOk f && cellLink f.cell.val == l
  [reset, reset] ++ lanes.flatMap s.laneActs ++ again.flatMap s.laneActs
    ++ (cells.filter fun f => s.expect f.cell.val == 1).flatMap s.configActs
    ++ (cells.filter fun f => s.expect f.cell.val != 1).map fun f => .frame { modeFrame f.cell.val 3 with seq := true }
/-- A link at the end of P5: what it drove, and a running disparity that depends on how many IDLE frames went between (log entry 56). -/
def State.openLink (found : List FoundCell) (s : State) (l : Nat) : State :=
  let (x, s) := s.freeNat
  s.updLink l fun k => { k with acts := s.discoveryActs found l, rdPos := x % 2 == 1 }

/-- A cell found at an expected position after the commands of R238 step 5 (Table 8.8): it is CONFIGURED, parked, at the width of band
0; where a second attempt failed it becomes SILENT as at run time (R232, R244). Each command that its second attempt passed is
recorded with what failed the first (R251). -/
def State.configureFound (s : State) (f : FoundCell) (id : BitVec 64) : State :=
  let c := f.cell.val
  let w := BitVec.ofNat 10 (s.firstWidth c)
  let s := s.updCell c fun x => { x with
    serial := id, straps := BitVec.ofNat 3 c, seq := foundSent f % 2 == 1, state := .discovered, configuring := true,
    wantWidth := w, width := if foundSent f == 4 then w else x.width }
  let s := (f.retried.filter fun r => decide (r.1.val < foundSent f)).foldl (fun s r =>
    (s.updCell c fun x => { x with retriesOk := BitVec.ofNat 8 (satAdd 255 x.retriesOk.toNat 1) }).record 0x4001 c (b2n r.2)
      ([5, 3, 2, 4].getD r.1.val 0)) s
  if f.failsAt.isSome then s.silence c
  else s.updCell c fun x => { x with state := .configured, configuring := false, mode := 1 }

/-- Discovery at one cell number (R74, R239, Table 8.8). -/
def State.discover (found : List FoundCell) (s : State) (c : Nat) : State :=
  let want := s.expect c == 1
  match found.find? fun f => f.cell.val == c with
  | none => if want then s.missingCell c 0 else s
  | some f =>
    if f.otherVersion then (if want then s.missingCell c 2 else s)
    else match f.reply with
      | none => if want then s.missingCell c 1 else s.record 0x3001 c 0xFFFFFFFF 0xFFFFFFFF
      | some id =>
        if want then s.configureFound f id
        else (s.updCell c fun x => { x with
          state := .quarantined, mode := 3, serial := id, straps := BitVec.ofNat 3 c, seq := true }).record
          0x3001 c (id.toNat / 2 ^ 32) id.toNat

/-- PRIME_P5 (R55, R74, R238, R239): the RM boots, the LEs are loaded, the links discover and fill the cell table, and as P6
begins the converter pairs run their sequences (R320, R336). -/
def execPrimeP5 (found : List FoundCell) (s : State) : Host.Outcome State Fault Refusal :=
  if s.inStage 5 then
    let s := (s.updMgr .rm fun p => { p with run := .running }).bootPatch .rm
    let s := s.forEach (indices 16 fun n => bit s.leMask n) State.loadLe
    let s := { s with pins := { s.pins with lanesEnabled := true, fdEnabled := true } }
    let s := { s with cells := List.replicate 1024 Cell.reset, telem := { s.telem with running := true } }
    let s := s.forEach (List.range 16) (State.openLink found)
    let s := s.forEach ((List.range 4).filter s.pairPowered) fun s i => s.updPair i fun p => { p with powered := true }
    complete (((s.forEach (List.range 1024) (State.discover found)).toStage 6).print [stageLine ['5']])
  else complete s

/-! ### P6 (R75, R76, R261, R503) -/

/-- The set-points and host registers that a rail starts with (R36, R101, R120, R438). -/
def State.bootRails (s : State) : State :=
  let ports := s.ports.mapIdx fun p x => { x with boot := true, swatch := BitVec.ofNat 6 (s.bootSwatch p), actBank := false }
  let s := { s with ports := ports }
  s.forEach s.enabledRails fun s n =>
    let (t, cls) := s.sourceTarget n
    let s := s.updCore n fun c => { c with
      target := s.clampTarget n t, base := t, baseClass := cls, govClass := cls, rll := s.rllCfg n }
    let margins (h : RailHost) : RailHost :=
      { h with marginHigh := BitVec.ofNat 16 (s.envMax n), marginLow := BitVec.ofNat 16 (s.envMin n) }
    let s := (s.updHost n margins).updHosted n margins
    s.updModel n fun m => { m with rpathEff := BitVec.ofNat 16 (s.rpath n) }
/-- A node above the threshold of its OV_SLOW comparator at the boot set-point (R76). -/
def State.nodeHigh (s : State) (r : SelfTest) (n : Nat) : Bool :=
  let t := s.bootRails.updCore n fun c => { c with slewed := (s.bootRails.rail n).core.target * 512 }
  decide (t.threshold (4 * n + 2) < ((r.vout.getD n 0 * 256 : Nat) : Int) * 1000)
/-- A comparator's P6 test and repeat: the record of R263, and whether it failed both. -/
def State.primeComp (s : State) (x : Nat × BitVec 4 × BitVec 4) : State :=
  match failingStep x.2.1 with
  | none => s
  | some i => match failingStep x.2.2 with
    | none => s.record 0x6001 x.1 (i + 1) (2 ^ 31 + s.thr x.1 % 1024)
    | some j => (s.record 0x6001 x.1 (j + 1) (s.thr x.1 % 1024)).failComp x.1
/-- A comparator failed both. -/
def compFails (r : SelfTest) (m : Nat) : Bool :=
  r.comps.any fun x => x.1 == m && (failingStep x.2.1).isSome && (failingStep x.2.2).isSome
/-- The arbitration of a converter pair at P6 (R336): the good converter is used, and the outcome is recorded (R333). A running
arbitration ends with it, and the 16 passes of R332 count from it. -/
def State.primePair (r : SelfTest) (s : State) (i : Nat) : State :=
  let p1 := toBits 16 (r.diffs.getD (2 * i) 0) * 65536 + toBits 16 (r.diffs.getD (2 * i + 1) 0)
  let a := !r.convA.getLsbD i
  let b := !r.convB.getLsbD i
  let s := s.updPair i fun p => { p with
    arbitrating := false, arbDue := false, arbPass := 0, arbA := [], arbB := [], passes := 0,
    aAside := !a && b, bAside := a && !b }
  if a && b then s.record 0x7001 i 2 p1
  else if a then ((s.useConverter i false).faultOn .converter i false).record 0x7001 i 1 p1
  else if b then ((s.useConverter i true).faultOn .converter i false).record 0x7001 i 0 p1
  else ((s.updPair i fun p => { p with degraded := true }).setCml 1).record 0x7001 i 3 p1
/-- DETAIL of the first failure of R75, in the order of its list: the sense pairs of every rail, the comparators of every rail, 0xE0,
0xE1, then the converter pairs. The order across rails and checks is the model's (DESIGN CHOICE, log entry 56). -/
def State.selfTestFail (s : State) (r : SelfTest) : Option Nat :=
  match s.enabledRails.find? fun n => !sensePasses r.senses n false || !sensePasses r.senses n true with
  | some n => some n
  | none =>
    match s.enabledRails.find? fun n => (List.range 4).any fun k => compFails r (4 * n + k) with
    | some n => some n
    | none =>
      let any := !s.enabledRails.isEmpty
      if any && compFails r 64 && compFails r 65 then some 0xE0
      else if any && compFails r 66 && compFails r 67 then some 0xE1
      else ((List.range 4).find? fun i => s.pairPowered i && r.convA.getLsbD i && r.convB.getLsbD i).map (0xF0 + ·)

/-- PRIME_P6 (R75, R76, R261). With several OV nodes DETAIL of CAUSE 0xC names the lowest rail (DESIGN CHOICE, log entry 56). -/
def execPrimeP6 (r : SelfTest) (s : State) : Host.Outcome State Fault Refusal :=
  if s.inStage 6 then
    let s := (r.comps.filter fun x => s.compUsed x.1).foldl State.primeComp s
    let s := s.forEach ((List.range 4).filter s.pairPowered) (State.primePair r)
    match s.selfTestFail r with
    | some d => complete ((s.rejectStage 0xB d).preface [stageLine ['6']])
    | none =>
      let ov := s.enabledRails.filter (s.nodeHigh r)
      let s := { s with boot := { s.boot with ovNodes := BitVec.ofNat 16 (maskOf 16 fun n => ov.contains n), ovReads := r.vout } }
      let s := match ov.head? with
        | some n => { s with boot := { s.boot with cause := 0xC, detail := BitVec.ofNat 8 n } }
        | none => s
      complete ((s.toStage 7).print [stageLine ['6']])
  else complete s

/-! ### P7 -/

/-- Phases and rails at PRIMED (R74, Tables 5.4 and 7.3): the phases of a cell absent at an expected position retire, and
a rail left with too few stays OFF. -/
def State.primeRails (s : State) : State :=
  let s := s.mapPhases fun p x => if (s.phaseRail p).isSome then { x with state := .parked } else x
  let s := s.mapRails fun n r => if s.railEn n then { r with core := { r.core with state := .primed } } else r
  let lost := indices 128 fun p => (phaseCells p).any fun c => s.expect c == 1 && (s.cell c).state == .absent
  let s := s.forEach lost fun s p => s.retire p 1
  let off := s.enabledRails.filter fun n => (s.phasesIn n fun x => x.state != .retired).length < s.minActive n
  let s := { s with boot := { s.boot with heldOff := BitVec.ofNat 16 (maskOf 16 fun n => off.contains n) } }
  s.forEach off fun s n => s.updCore n fun c => { c with state := .off }
/-- A rail whose node was too high at P6 is latched, and RAIL_OV_TRIP holds its telemetry reading (R76, Table 10.9). One that R74
keeps OFF is not latched; its record and its STATUS_VOUT bit stand (DESIGN CHOICE, log entry 56). -/
def State.latchNode (s : State) (n : Nat) : State :=
  let s := s.when ((s.rail n).core.state != .off) fun s => s.updPol n fun p => { p with fastStop := true }
  let s := (s.latchRail n .ovSlow).setVout n 0x80
  s.record 0x1010 n 2 (s.boot.ovReads.getD n 0)

/-- PRIME_P7 (R33, R45, R77, R351, R455, R458, R463, R470). -/
def execPrimeP7 (s : State) : Host.Outcome State Fault Refusal :=
  if s.inStage 7 then
    let s := (s.burnPulses (3 * s.burnList.length)).burnOwner.burnRollback.burnWatchdog
    let s := ({ s with boot := { s.boot with fixative := true } }).toStage 8
    let s := s.bootRails.primeRails
    let s := s.forEach (indices 16 s.boot.ovNodes.getLsbD) State.latchNode
    let s := (s.record 0x0002 s.boot.slot.toNat s.boot.imageVersion.toNat s.clock.time).commitAll.seedSoft
    let s := { s with
      pins := { s.pins with faultReleased := !s.rails.any fun r => r.core.state.latched }
      con := { s.con with baud := if s.boot.svcStrap then 0 else BitVec.ofNat 2 s.svcBaud } }
    complete (s.autoWatchdogs.restartLockout.print [stageLine ['7'], .text (ascii ['P', 'R', 'I', 'M', 'E', 'D'])])
  else complete s

/-- STAGE_MAXIMUM_EXCEEDED (Table 3.1): `found` is what discovery had found before P5's maximum. An overrun of P4 or P6 shows
DETAIL 0, and one of P2 has opened the Sketchbook (DESIGN CHOICE, log entry 56). -/
def execStageMaximumExceeded (found : List FoundCell) (s : State) : Host.Outcome State Fault Refusal :=
  if s.boot.held || s.safe.active then complete s
  else match s.boot.stage.toNat with
    | 0 | 1 =>
      let t := s.powerOn s.boot.resetCause.toNat
      complete { t with boot := { t.boot with held := false } }
    | 2 => complete ((s.openStore.rejectStage 0xD 0).preface [stageLine ['2']])
    | 3 =>
      let marked := s.markA
      let s := { s with boot := { s.boot with aSuperseded := marked } }
      match s.nextSlot marked with
      | some b =>
        let line := s.skipLine marked false ++ [slotLine b false]
        let s := s.failSlot b (s.slotReader b) (1, 0)
        if (s.nextSlot marked).isNone then complete ((s.enterBlank 1 0).preface line) else complete (s.print line)
      | none => complete s
    | 4 => complete ((s.rejectStage 9 0).preface [stageLine ['4']])
    | 5 => execPrimeP5 found s
    | 6 => complete ((s.rejectStage 0xB 0).preface [stageLine ['6']])
    | _ => complete s

end Sys2Proof.Machine
end

