-- ==== Sys2Proof/Machine/Clocks.lean ====
section
/-! DEFINITION. Restarts, clocks, scrubbing, standby and plain register writes as commands (spec/01, R349, R361, R425), and
the idle cycle of the model's clock. -/

namespace Sys2Proof.Machine

/-! ### Restarts (R18 to R25) -/

/-- Identity code of a pair: 3 the HM, 4 the RM (R398). -/
def mgrIdent : Manager → Identity
  | .rm => .rm | .hm => .hm
/-- CAUSE of Table 12.6 that a restart's trigger names; the ladder and a patch keep the one recorded. -/
def causeCode (s : State) : RestartCause → BitVec 4
  | .wdExpiry => 2 | .miscompare => 3 | .coreReturn => 4 | .memory => 5 | .resume => 7 | .pllReturn => 8
  | .ladder | .hmPatch => s.ret.cause
/-- Every static level and the ATB selection are undone (R477, R483). -/
def State.undoTests (s : State) : State :=
  let s := s.mapPhases fun _ x => { x with held := false, hold := .idle }
  { s with links := s.links.map fun l => { l with fdHeld := false, fdLevel := .idle }, con := { s.con with atb := 0 } }
/-- The service session closes: its tests undone, the SVC epoch advanced (R399, R477). -/
def State.closeSession (s : State) : State :=
  ({ s with con := { s.con with session := false, challenge := none } }).undoTests.advanceEpoch .svc
/-- The service session ends with its record (R477): 0 closed, 2 timed out. -/
def State.endSession (s : State) (how : Nat) : State :=
  if s.con.session then (s.record 0xB001 2 how s.con.sessionNo).closeSession else s
/-- A restart of the HM ends the session, the command that waits and the line in progress; the restarted HM owes the record (R477). -/
def State.cutSession (s : State) : State :=
  let s := { s with con := { s.con with waiting := none, line := [], afterCr := false } }
  if s.con.session then ({ s with con := { s.con with endOwed := true } }).closeSession else s
/-- A pair goes down for a restart (R18): it is reset, its mailbox queues are lost, and its epoch advances (R399). -/
def State.downPair (s : State) (m : Manager) : State := (s.resetPair m .restarting).advanceEpoch (mgrIdent m)
/-- A restart of one pair begins (Table 1.6). -/
def State.beginPair (s : State) (m : Manager) (cause : BitVec 4) : State :=
  let s := s.when (m == .hm) fun s => ({ s with sketch := s.sketch.closeOpen }).cutSession
  let s := s.downPair m
  { s with ret := { s.ret with kind := BitVec.ofNat 2 (mgrNo m + 2), cause := cause } }
/-- A pair may restart now: nothing wider is in progress, and it is not held (R23, R358). -/
def State.mayRestart (s : State) (m : Manager) : Bool :=
  !s.boot.held && s.safe.warm.isNone && (s.mgr m).run != .heldReset && (s.mgr m).run != .restarting
    && (s.primed || s.blank || (m == .hm && 2 < s.boot.stage.toNat) || (m == .rm && 5 < s.boot.stage.toNat))

/-- A pair is up again: the capture copied, its sources fallen, the answers that waited for it posted (R395), a watchdog of WDT_HW
started (R351, R362, R366). A miscompare stays an outstanding fault until the escalation window has passed (R311). -/
def State.upPair (s : State) (m : Manager) : State :=
  let s := (s.copyCapture m).updMgr m fun p => { p with run := .running, miscompare := false, expired := false }
  let s := s.bootPatch m
  let s := s.when (m == .hm && s.con.endOwed) fun s =>
    ({ s with con := { s.con with endOwed := false } }).record 0xB001 2 0 s.con.sessionNo
  let s := s.forEach (indices 16 fun c => s.sends (mgrIdent m) c) State.pump
  s.when (s.boot.fuseWdtHw && (s.primed || s.blank)) fun s => s.startWd m

/-- A transaction that the restart cuts, its command code acknowledged (R422): the bytes written after the one in progress are
refused, those read from there on are 0xFF, nothing is committed, and OTHER_COMM_FAULT is owed until the HM runs again. -/
def State.cutBus (s : State) : Option CutXfer → State
  | none => s
  | some (.send refused) => { s with bus := { s.bus with cut := true, refused := refused, reply := [] } }
  | some (.recv got further) =>
    { s with bus := { s.bus with cut := true, refused := 0, reply := got ++ List.replicate further 0xFF } }

/-- PAIR_RESTART_RM (R18). -/
def execPairRestartRm (s : State) : Host.Outcome State Fault Refusal :=
  if s.mayRestart .rm then complete (s.beginPair .rm s.ret.cause) else complete s

/-- PAIR_RESTART_HM (R21, R422): a transaction that it cuts leaves OTHER_COMM_FAULT once the HM runs again. -/
def execPairRestartHm (e : RestartEdge) (s : State) : Host.Outcome State Fault Refusal :=
  match e with
  | .begins cause cut =>
    if s.mayRestart .hm then
      complete ((s.beginPair .hm (causeCode s cause)).cutBus cut)
    else complete s
  | .ends =>
    if s.hm.run == .restarting && s.safe.warm.isNone && s.clock.corePresent then
      let s := s.upPair .hm
      let s := s.when s.bus.cut fun s => s.setCml 2
      complete { s with bus := { s.bus with cut := false } }
    else complete s

/-- The RM copies the inactive bank of every port from the shadow before it accepts a message (R97). -/
def State.copyBanks (s : State) : State :=
  { s with palette := (List.range 4096).foldl (fun m i =>
      let b : Bool := decide (2048 ≤ i)
      if (s.port (i % 2048 / 256)).actBank != b then sput 0 m i (BitVec.ofNat 32 (s.imageEntry b (i % 2048))) else m) s.palette }

/-- RM_READY_HEARTBEAT (R25, R97, R349, R362). Where no hold was started, the RM begins to take the rails
(R348); trigger 7 stands until its source is released. -/
def execRmReadyHeartbeat (s : State) : Host.Outcome State Fault Refusal :=
  if s.rm.run == .restarting && s.safe.warm.isNone && s.clock.corePresent then
    let s := s.upPair .rm
    let s := (s.when s.boot.imageLoaded State.copyBanks).carryPosts
    let s := s.when (!s.app.holding) fun s =>
      ({ s with app := { s.app with causes := s.app.causes &&& 0x80 } }).takeRails
    match s.ret.lossOwed with
    | some us => complete { (s.record 0x8006 0 s.ret.clkCause.toNat us) with ret := { s.ret with lossOwed := none } }
    | none => complete s
  else complete s

/-- The LE of a rail under the reset of LOOP (R19, R140, R180): its stores, z registers, outputs and the
counts of R138 and R139 clear, its fault state and history stand, and an LE in its shadow run or awaiting its re-arm starts that again. -/
def LoopEngine.warm (l : LoopEngine) : LoopEngine :=
  { l with
    code := [], coef := [], z := List.replicate 64 0, duty := 0, status := 0, unfinished := none
    satSeen := false, prof := 0, lastProf := 0, maxCyc := 0, lastCyc := 0, lastEnd := 0, lateErr := 0
    overruns := [], envRun := 0, satRun := 0
    mode := if l.mode == 2 then 3 else if l.mode == 1 then 0 else l.mode
    rearmDue := l.rearmDue || l.mode == 2 || l.mode == 3, shadowCount := 0 }
/-- A warm chip restart begins (Table 1.6): LOOP and both pairs reset, one restart in progress, both epochs advanced (R399). In the safe
state only a RESUME frees the RM (R359), and a held HM stays held (R358). -/
def State.beginWarm (s : State) (cause : BitVec 4) (resume : Bool) (cut : Option CutXfer) : State :=
  let s := ({ s with sketch := s.sketch.closeOpen }).cutSession
  let s := if s.rm.run != .heldReset || resume then s.downPair .rm else s.advanceEpoch .rm
  let s := if s.hm.run != .heldReset then s.downPair .hm else s.advanceEpoch .hm
  let s := s.mapRails fun _ r => { r with le := r.le.warm }
  let s := { s with cross := { s.cross with toLoop := [] } }
  let s := { s with ret := { s.ret with
    kind := 1, cause := cause, warm := BitVec.ofNat 16 (satAdd 65535 s.ret.warm.toNat 1) } }
  ({ s with safe := { s.safe with warm := some cause } }).cutBus cut
/-- LOOP runs from PLL_LOOP again after a warm chip restart that found REFCLK and PLL_LOOP good for 10 ms (R15, R366). -/
def State.backToPll (s : State) : State :=
  if s.clock.onBackup && s.clock.refclk && s.clock.pllReady then
    let s := { s with clock := { s.clock with onBackup := false, clockLossSource := !s.clock.corePresent } }
    ({ s with input := { s.input with lossAt := some s.clock.tick } }).faultOff .clock 0
  else s
/-- A warm chip restart ends (R19, R20, R81, R358, R359): the shadow checked, the LEs reloaded, the HM up; the RM is up with
its ready heartbeat. A failed check is the safe state; the blank canvas has no image to check. -/
def State.endWarm (s : State) : State :=
  let digestOk := !s.boot.imageLoaded || s.boot.dryDigest == sha384 s.dryBytes
  let resume := s.safe.warm == some 7 && s.safe.resumed
  let s := { s with safe := { s.safe with warm := none } }
  let s := s.backToPll
  let s := s.when (s.hm.run == .restarting) fun s => s.upPair .hm
  let s := s.when s.bus.cut fun s => s.setCml 2
  let s := { s with bus := { s.bus with cut := false } }
  if digestOk && (!s.boot.imageLoaded || s.boot.wetCrc.toNat == crc32 s.committed.wetBytes) then
    let s := s.forEach (indices 16 fun n => bit s.leMask n) fun s n =>
      (s.loadLe n).updLe n fun l => { l with setFirst := true, setTracked := true }
    s.when resume fun s => { s with safe := Safe.reset }
  else
    let hm := s.hm.run
    (s.enterSafe 0x0F s.ret.recentRm (if digestOk then 2 else 1) true).updMgr .hm fun p => { p with run := hm }

/-- WARM_CHIP_RESTART (R19, R20); the ladder asks for one in the blank canvas too (R356). -/
def execWarmChipRestart (e : RestartEdge) (s : State) : Host.Outcome State Fault Refusal :=
  match e with
  | .begins cause cut =>
    if (s.primed || s.blank) && s.safe.warm.isNone then complete (s.beginWarm (causeCode s cause) (cause == .resume && s.safe.resumed) cut)
    else complete s
  | .ends =>
    if s.safe.warm.isSome && s.clock.corePresent then complete s.endWarm else complete s

/-! ### Clocks (R12 to R15, R349) -/

/-- CLOCK_LOSS (R14, R349): which clocks the monitor, which runs on APP (Table 1.3), declares missing, and whether REFCLK is absent. A
LOOP loss ends the bursts (R270).
The record is written at once while CORE stays, and owed by the RM otherwise; a loss within 1 s of the last return is lasting (Table
10.6). -/
def execClockLoss (core loop refclk : Bool) (s : State) : Host.Outcome State Fault Refusal :=
  if s.boot.held || !(core || loop) || !s.clock.appPresent then complete s
  else
    let again := s.within s.input.lossAt (msTicks 1000)
    let core := core && s.clock.corePresent
    let s := s.when loop fun s =>
      let s := { s with clock := { s.clock with loopPresent := false, suspendLinks := true, suspendRounds := 2, pllReady := false } }
      s.forEach s.enabledRails fun s n => ((s.endBurst n (s.burstSpan n) false).idleLanes n).abortChar n
    let s := s.when core fun s => { s with clock := { s.clock with corePresent := false, coreLossAt := s.clock.tick } }
    let s := { s with clock := { s.clock with refclk := !refclk, clockLossSource := true } }
    let bits : Nat := 4 * b2n refclk + 2 * b2n core + b2n loop
    let s := { s with ret := { s.ret with clkCause := BitVec.ofNat 3 bits } }
    let s := s.faultOn .clock 0 again
    if core then complete { s with ret := { s.ret with lossOwed := some 0 } } else complete (s.record 0x8006 0 bits 0)

/-- The lanes of a rail obey what its overrides have become while no LOOP clock ran (R270, R276). -/
def State.resumeLanes (s : State) (n : Nat) : State :=
  let s := s.setTristate n (s.dest (32 + n))
  (s.when (!s.dest (16 + n)) fun s => s.clampOff n).obeyOverrides n
/-- PLL_BACKUP_LOCK (R11, R12, R14, R247): LOOP runs again from APP x 8, sees what the comparators' outputs have become, its edges on
the doubled step (R494), and sees the present level of every FFLTn_N;
a round that has begun is not one of the two full ones. -/
def execPllBackupLock (s : State) : Host.Outcome State Fault Refusal :=
  if s.boot.held || s.clock.loopPresent || !s.clock.appPresent then complete s
  else
    let s := { s with clock := { s.clock with
      loopPresent := true, onBackup := true, interpCal := s.clock.interpCal + 1
      suspendRounds := if (s.link 0).frameTime == 0 then 2 else 3 } }
    let s := s.mapPhases fun _ x => { x with offset := s.onGrid x.offset 1, targetOff := s.onGrid x.targetOff 1 }
    let s := (State.hardFrom s { s with links := s.links.map fun k => k.seeFflt }).seeComps
    complete ((s.forEach (List.range 16) State.resumeLanes).forEach (List.range 16) State.drainLink).carryPosts

/-- CORE runs again: what its sources held enters, and the soft paths are replayed (R269, R374). -/
def State.coreBack (s : State) : State :=
  (({ s with clock := { s.clock with corePresent := true } }).takeHeld true).replaySoft

/-- CORE_RETURNED (R349). `cut`: the transaction that the restart of the HM pair cuts (R422). -/
def execCoreReturned (cut : Option CutXfer) (s : State) : Host.Outcome State Fault Refusal :=
  if s.boot.held || s.clock.corePresent || s.clock.standby then complete s
  else
    let us := s.since s.clock.coreLossAt / 800
    let s := { s with
      ret := { s.ret with lossOwed := s.ret.lossOwed.map fun _ => us }
      clock := { s.clock with clockLossSource := s.clock.onBackup || !s.clock.loopPresent } }
    let s := s.coreBack
    let s := s.when (s.mayRestart .rm) fun s => s.beginPair .rm 4
    let s := s.when (s.mayRestart .hm) fun s => (s.beginPair .hm 4).cutBus cut
    if s.clock.onBackup || !s.clock.loopPresent then complete s
    else complete (({ s with input := { s.input with lossAt := some s.clock.tick } }).faultOff .clock 0)

/-- RETURN_TO_PLL_LOOP (R15): REFCLK has been present and PLL_LOOP locked for 10 ms. `cut`: the transaction that the warm chip restart
cuts (R422). -/
def execReturnToPllLoop (cut : Option CutXfer) (s : State) : Host.Outcome State Fault Refusal :=
  if s.boot.held || !s.clock.onBackup then complete s
  else
    let s := { s with clock := { s.clock with refclk := true, pllReady := true } }
    if s.primed && s.safe.warm.isNone && s.clock.corePresent then complete (s.beginWarm 8 false cut) else complete s

/-! ### Standby (R425, R426) -/

/-- Every condition of R425 but the time. -/
def State.quiet (s : State) : Bool :=
  (s.rails.all fun r => r.core.state.resting && !r.core.enReq)
    && (s.mail.chans.all fun c => !c.full && c.out.isEmpty && c.owed.isEmpty) && s.sketch.staged == 0 && s.sketch.clearing.isNone
    && !s.ret.capPending && !s.salertLow && !s.bus.notifyDue && !s.con.session
/-- STANDBY_ENTRY (R425). -/
def execStandbyEntry (s : State) : Host.Outcome State Fault Refusal :=
  if s.primed && s.standbyEn == 1 && s.clock.corePresent && s.quiet then
    complete { s with clock := { s.clock with standby := true, corePresent := false } }
  else complete s
/-- The wake from standby, by the APP domain (Table 1.3, R426): the CORE clock runs again, and what waited for it is delivered. -/
def State.wakeUp (s : State) : State :=
  if s.clock.standby && s.clock.appPresent then ({ s with clock := { s.clock with standby := false } }).coreBack else s
/-- STANDBY_WAKE (R426): the CORE clock runs again, and what waited for it is delivered. -/
def execStandbyWake (_cause : WakeCause) (s : State) : Host.Outcome State Fault Refusal :=
  complete s.wakeUp

/-! ### Scrubbing (R26, Table 1.7) -/

/-- Number of a memory among the outstanding faults. -/
def memNo : MemName → Nat
  | .leCode => 0 | .leCoef => 1 | .leState => 2 | .palette => 3 | .cellTable => 4 | .shadow => 5 | .rmMemory => 6
  | .hmMemory => 7 | .rmPatch => 8 | .hmPatch => 9 | .rom => 10 | .mailbox => 11 | .staging => 12 | .retained => 13
  | .eventStore => 14 | .pentimento => 15 | .keyStore => 16
/-- A pair restarts for a double-bit error in its memory (CAUSE 5); that of the HM may cut a transaction (R422). -/
def State.memoryRestart (s : State) (m : Manager) (cut : Option CutXfer) : State :=
  if s.mayRestart m then (let s := s.beginPair m 5; if m == .hm then s.cutBus cut else s) else s
/-- A byte of a memory holds an unstated value after a double-bit error. -/
def State.spoil (s : State) (m : Memory) (i : Nat) : Memory × State :=
  let (f, s) := s.freeNat
  (sput 0 m i (BitVec.ofNat 8 f), s)
/-- The same in a pair's memory. -/
def State.spoilPair (s : State) (m : Manager) (i : Nat) : State :=
  let (x, s) := s.spoil (s.mgr m).mem i
  s.updMgr m fun p => { p with mem := x }
/-- A byte of a patch memory reads as an unstated value after a double-bit error. -/
def State.spoilPatch (s : State) (m : Manager) (i : Nat) : State :=
  let (f, s) := s.freeNat
  let l (p : List Byte) : List Byte := p.modify i fun _ => BitVec.ofNat 8 f
  match m with
  | .rm => { s with boot := { s.boot with patchRm := l s.boot.patchRm } }
  | .hm => { s with boot := { s.boot with patchHm := l s.boot.patchHm } }
/-- The reaction to a double-bit error at a word of a memory (Table 1.7, R178, R395). -/
def State.doubleBit (s : State) (m : MemName) (i : Nat) (cut : Option CutXfer) : State :=
  match m with
  | .leCode => s.declareLe (i / 256) 4 (i % 256)
  | .leCoef => s.declareLe (i / 512) 4 (0x100 + i % 512)
  | .leState => s.declareLe (i / 64) 4 ((Config.freeFun 7 [(i % 64 : Nat)]).toNat % 65536)
  | .palette => { s with palette := sput 0 s.palette i (BitVec.ofNat 32 (s.imageEntry (decide (2048 ≤ i)) (i % 2048))) }
  | .cellTable =>
    let s := s.updCell i fun x => { x with idOwed := true, statusOwed := true, parts := [none, none, none] }
    (s.sendCell 6 i (cellFrame i 6 0 false)).sendCell 6 i (statusFrame i)
  | .shadow => if 4 ≤ s.boot.stage.toNat && !s.safe.active then s.enterSafe 0x0F s.ret.recentRm 1 false else s
  | .rmMemory => (s.spoilPair .rm i).memoryRestart .rm cut
  | .hmMemory => (s.spoilPair .hm i).memoryRestart .hm cut
  | .rmPatch => (s.spoilPatch .rm i).memoryRestart .rm cut
  | .hmPatch => (s.spoilPatch .hm i).memoryRestart .hm cut
  | .rom =>
    let (x, s) := s.spoil s.rom i
    ({ s with rom := x }).memoryRestart (if i % 2 == 0 then .rm else .hm) cut
  | .mailbox =>
    let c := i / 13
    let x := s.chan c
    if x.full then
      let h := if i % 13 == 0 then 0 else x.d.getD 0 0
      let s := (s.updChan c fun x => { x with eccErr := true }).release c
      if s.chanReceiver c == 3 || s.chanReceiver c == 4 then
        s.reply c (hdrCode h).toNat { tag := hdrTag h, orphan := x.orphan, stale := x.stale, body := [] } 5 []
      else s
    else s
  | .staging =>
    match s.sketch.closed[i]?, s.sketch.opened with
    | some _, _ => { s with sketch := ({ s.sketch with closed := s.sketch.closed.eraseIdx i }.drop 0xFFFF).settle s.clock.time }
    | none, some _ =>
      if i == s.sketch.closed.length then
        { s with sketch := ({ s.sketch with opened := none }.drop 0xFFFF).settle s.clock.time }
      else s
    | none, none => s
  | .retained => { s with ret := { s.ret with recentRm := 0, recentHm := 0, warm := 0, cause := 0xF } }
  | .eventStore =>
    match s.sketch.slot i with
    | some _ => { s with sketch := { s.sketch with store := putSlot i .torn s.sketch.store } }
    | none => s
  | .pentimento => { s with dump := { s.dump with slot := s.dump.slot.set 4095 (~~~(BitVec.ofNat 32 (dumpCrc s.dump.slot))) } }
  | .keyStore => s

/-- Number of the word of a double-bit error among the outstanding faults. -/
def ScrubFinding.word : ScrubFinding → Option Nat
  | .double m i => some (65536 * memNo m + i)
  | _ => none
/-- The LE whose microcode store has a double-bit error. -/
def ScrubFinding.codeLe : ScrubFinding → Option Nat
  | .double .leCode i => some (i / 256)
  | _ => none
/-- The word's fault is outstanding already: it failed at the scrub before (Table 10.6). -/
def State.memoryFault (s : State) (m : MemName) (i : Nat) : Bool :=
  s.input.faults.any fun e => e.kind == .memory && e.idx == 65536 * memNo m + i
/-- One error of a scrub pass that began in state `old`. -/
def State.scrubError (old : State) (cut : Option CutXfer) (codes : List Nat) (s : State) : ScrubFinding → State
  | .single m _ => s.countSingle m
  | .double m i => ((s.faultOn .memory (65536 * memNo m + i) (old.memoryFault m i)).setCml 0x10).doubleBit m i cut
  | .crc n => if codes.contains n.val then s else s.declareLe n 4 0xFFFF

/-- SCRUB (R26, R178): a pass over every memory, with the errors it finds. A double-bit error is a memory fault until a pass reads that
word clean, lasting where the same word failed at the scrub before (Table 10.6). A CRC mismatch beside a double-bit error in the same
store is not reported (R178). `cut`: the transaction that a restart of the HM pair cuts (R422). -/
def execScrub (found : List ScrubFinding) (cut : Option CutXfer) (s : State) : Host.Outcome State Fault Refusal :=
  if s.boot.held then complete s
  else
    let bad := found.filterMap ScrubFinding.word
    let s := { s with input := { s.input with
      faults := s.input.faults.filter fun e => !(e.kind == .memory) || e.lasting || bad.contains e.idx } }
    complete (found.foldl (s.scrubError cut (found.filterMap ScrubFinding.codeLe)) s)

/-! ### Registers with no behaviour of their own -/

/-- TASK_MASK may be written (R350, R351). -/
def Watchdog.maskOpen (w : Watchdog) : Bool := !w.run || !w.serviced
/-- REGISTER_WRITE (R350, R391, R398, R77): the value is stored where the write is allowed, its reserved bits as 0 (R4). D0[7:0] keeps
what was written, which a GO judges (R392). The RM's write of a palette entry is that of an accepted PALETTE_WRITE (R94, R96, R97). -/
def execRegisterWrite (t : RegTarget) (v : Word) (s : State) : Host.Outcome State Fault Refusal :=
  if s.boot.held then complete s
  else match t with
    | .wdMask m =>
      if s.pairRuns m && (s.mgr m).wd.maskOpen then
        complete (s.updWd m fun w => { w with taskMask := BitVec.ofNat 16 v.toNat })
      else complete s
    | .mailboxData ch i who =>
      if s.pairPath who && s.sends who ch && !(s.chan ch).full then
        complete (s.updChan ch fun x => { x with d := x.d.set i v })
      else complete s
    | .paletteEntry i =>
      let p := i.val % 2048 / 256
      let bank := decide (2048 ≤ i.val)
      if s.pairRuns .rm && s.primed && (s.port p).actBank != bank && (s.entryRefused p (i.val % 256) [v]).isNone then
        complete (s.writeEntries bank p (i.val % 256) [v])
      else complete s
    | .shadowByte sec off =>
      if s.boot.fixative then complete s
      else complete (s.putShadowByte sec off v.toNat)

/-! ### The idle cycle (log entry 3) -/

/-- A watchdog over one microsecond (R351): REMAIN falls while it runs and CORE is present. -/
def State.wdMicro (s : State) (m : Manager) : State :=
  if (s.mgr m).wd.run && s.pairRuns m then s.updWd m fun w => { w with remain := w.remain - 1 } else s
/-- `mbx loop` ends with ERR 7 when a message has no reply within 10 ms (R486). -/
def State.loopMicro (s : State) : State :=
  match s.con.waiting with
  | some (.loop _ _ _ _ _ stamp) =>
    if s.since stamp > msTicks 10 then s.conEnd [.err 7] else s
  | _ => s
/-- What LOOP does in a cycle: the general timers count, two ticks each on PLL_BACKUP (R12, R277), and lanes fall when their high
intervals end. -/
def State.loopCycle (s : State) : State :=
  s.when s.clock.loopPresent fun s =>
    (s.when (s.clock.tick % s.loopTicks == 0) fun s =>
      { s with timers := s.timers.map fun t => if t.running then { t with remain := t.remain - 1 } else t }).laneFalls
/-- Every 16th cycle is an APP cycle, which the Apprentice's heartbeat counts until it has stopped (R347). -/
def State.appCycle (s : State) : State :=
  s.when (s.clock.tick % 16 == 0 && s.appReady) fun s => { s with app := { s.app with beats := s.app.beats + 1 } }
/-- A microsecond of TIME ends (R372), and of the watchdogs. -/
def State.microsecond (s : State) : State :=
  ((({ s with clock := { s.clock with time := min (2 ^ 48 - 1) (s.clock.time + 1) } }).wdMicro .rm).wdMicro .hm).loopMicro
/-- One LOOP cycle of 1.25 ns: the model's clock; every 800th ends a microsecond. -/
def State.idleTick (s : State) : State :=
  let s := { s with clock := { s.clock with tick := s.clock.tick + 1 } }
  if s.boot.held then s
  else
    let s := s.loopCycle.appCycle
    if s.clock.tick % 800 == 0 then s.microsecond else s

end Sys2Proof.Machine
end

