-- ==== Sys2Proof/Machine/Messages.lean ====
section
/-! DEFINITION. The host messages (R409, R410, Table 14.6): each request's checks, effect and reply, and what the HM serves in
each state. -/

namespace Sys2Proof.Machine

/-- What a request does: the status and the payload words of its reply after D1, and the state. -/
structure Answer where
  status : Nat
  words : List Word
  state : State

/-- An answer that changes nothing. -/
def State.refuse (s : State) (status : Nat) : Answer := ⟨status, [], s⟩
/-- Word `i` of a payload, 0 where it is missing. -/
def bodyWord (b : List Word) (i : Nat) : Nat := (b.getD i 0).toNat
/-- Sender code of a request's channel. -/
def State.asker (s : State) (c : Nat) : Nat := s.chanSender c
/-- A request that needs a statement is authorised (R410, R460): by the statement, or by an open session from SVC. -/
def State.authorised (s : State) (c kind : Nat) (st : List Byte) (argOk : Nat → Bool) : Bool :=
  if s.asker c == 2 then s.con.session else s.fuses.statement kind st && argOk (stArg st)
/-- A refused statement: AUTH_FAIL, recorded for a statement (R460). -/
def State.refuseStatement (s : State) (c code kind : Nat) : Answer :=
  ⟨7, [], s.when (s.asker c != 2) fun s => s.authFail (s.asker c) (statementP0 kind) code⟩

/-! ### PING and ATTEST -/

/-- PING. The word of a request without one is not stated (log entry 7). -/
def State.servePing (s : State) (b : List Word) : Answer :=
  ⟨0, [b.headD (BitVec.ofInt 32 (Config.freeFun 8 [])), 0x00030200, s.epochWord], s⟩
/-- FLAGS of the measurement. -/
def State.attestFlags (s : State) : Nat :=
  b2n s.blank + 2 * b2n s.safe.active + 4 * b2n s.fuses.owned + 8 * b2n s.app.disabled + 16 * b2n s.con.session
/-- Bytes 0x000 to 0x113 of Table 17.8. -/
def State.measurement (s : State) (nonce : List Word) : List Byte :=
  let f := s.fuses
  [0x41, 0x54, 0x53, 0x54] ++ leBytes 2 1 ++ leBytes 2 s.attestFlags ++ f.serialOctets ++ wordBytes nonce
    ++ octets 48 s.boot.imageDigest.toNat ++ leBytes 4 0x00030200 ++ leBytes 2 s.boot.patchId.toNat ++ leBytes 2 0
    ++ wordBytes [s.boot.imageVersion, s.securityWords.headD 0] ++ octets 48 (if f.owned then (f.hash f.activeSlot).toNat else 0)
    ++ wordBytes [s.sketch.newestWord] ++ leBytes 2 s.sketch.powerCycle.toNat ++ leBytes 2 0 ++ leBytes 8 s.clock.time
    ++ (s.ident.publicKey ++ List.replicate (97 - s.ident.publicKey.length) 0) ++ leBytes 3 0
/-- The signature of an ATTEST over a snapshot, its record, and the reply (R466). -/
def State.signAttest (s : State) (g : Signing) : Answer :=
  let (k, s) := s.random
  let sig := ecdsaSign s.ident.scalar (sha384 g.snapshot) k
  let s := { s with pm := { s.pm with attests := BitVec.ofNat 16 (satAdd 65535 s.pm.attests.toNat 1) } }
  ⟨0, bytesWords (g.snapshot ++ octets 96 sig.toNat), s.record 0xA002 (s.asker g.ch) (bodyWord g.message.body 0) g.newest.toNat⟩
/-- The snapshot that the HM takes with an ATTEST. -/
def State.snapshot (s : State) (c : Nat) (m : Message) : Signing :=
  { ch := c, message := m, snapshot := s.measurement m.body, newest := s.sketch.newestWord }
/-- Why an ATTEST is not signed (R464, R466). -/
def State.attestRefused (s : State) (b : List Word) : Option Nat :=
  if b.length != 8 then some 5
  else if !s.ident.checked then some 2
  else if s.work.signing.isSome then some 1
  else none
/-- ATTEST (R464, R466). -/
def State.serveAttest (s : State) (c : Nat) (m : Message) : Answer :=
  match s.attestRefused m.body with
  | some status => s.refuse status
  | none => s.signAttest (s.snapshot c m)

/-! ### The palette (R96 to R99) -/

/-- PALETTE_WRITE (R96, R97). -/
def State.servePaletteWrite (s : State) (b : List Word) : Answer :=
  let d := bodyWord b 0
  let l := b.drop 1
  let p := field d 24 3
  let bank := bit d 16
  let first := field d 0 8
  let none' : List Word := [0xFFFFFFFF]
  if b.isEmpty || field d 27 5 != 0 || field d 17 7 != 0 || field d 8 8 != 0 || l.isEmpty || 10 < l.length || 256 < first + l.length then
    ⟨5, none', s⟩
  else if bank == (s.port p).actBank then ⟨2, none', s⟩
  else if s.anyPending then ⟨1, none', s⟩
  else match s.entryRefused p first l with
    | some (st, i) => ⟨st, [BitVec.ofNat 32 i], s⟩
    | none => if s.rmServes then ⟨0, none', s.writeEntries bank p first l⟩ else ⟨1, none', s⟩

/-- D2 of the reply. -/
def State.pendingWord (s : State) : Word := BitVec.ofNat 32 (maskOf 8 fun p => (s.port p).pendingSwap)
/-- PALETTE_COMMIT without FORCE (R98). -/
def State.servePaletteCommit (s : State) : Answer :=
  if s.anyPending || !s.rmServes then ⟨1, [s.pendingWord], s⟩
  else
    let s := s.forEach s.boundPorts fun s p => s.updPort p fun x => { x with pendingSwap := true }
    let s := s.forEach (s.boundPorts.filter fun p => (s.port p).boot) fun s p => s.swapPort p false
    ⟨0, [s.pendingWord], s⟩
/-- PALETTE_COMMIT with FORCE (R99): never BUSY; an RM that cannot take it now carries it out when it can. -/
def State.servePaletteForce (s : State) : Answer :=
  let s := s.sendRm .force
  ⟨0, [s.pendingWord], s⟩

/-! ### Image updates (R83, R84) -/

/-- Erase the 4 KiB sectors of a slot whose first byte lies in a range of offsets. -/
def State.eraseSectors (s : State) (slotB : Bool) (off len : Nat) : State :=
  let base := if slotB then 0x400000 else 0
  let lo := base + 4096 * ceilQuot off 4096
  let hi := base + 4096 * ceilQuot (off + len) 4096
  { s with flash := s.flash.filter fun x => !(decide (lo ≤ x.1) && decide (x.1 < hi)) }
/-- Next expected offset. -/
def State.nextOffset (s : State) : Word := BitVec.ofNat 32 (s.boot.updOffset.getD 0)
/-- IMAGE_CHUNK (R83, R84): MAGIC is always written as erased; BUSY during an activation. -/
def State.serveImageChunk (s : State) (b : List Word) : Answer :=
  let off := bodyWord b 0
  let len := bodyWord b 1
  let data := wordBytes (b.drop 2)
  if s.work.activating.isSome then ⟨1, [s.nextOffset], s⟩
  else if b.length < 3 || off % 4 != 0 || len % 4 != 0 || len < 4 || 4096 < len || data.length != len then ⟨5, [s.nextOffset], s⟩
  else if 0x400000 < off + len then ⟨2, [s.nextOffset], s⟩
  else if off != 0 && s.boot.updOffset != some off then ⟨5, [s.nextOffset], s⟩
  else
    let data := if off == 0 then List.replicate 4 0xFF ++ data.drop 4 else data
    let s := ((s.eraseSectors s.spareB off len).putFlash s.spareB off data)
    let s := { s with boot := { s.boot with updOffset := some (off + len) } }
    ⟨0, [s.nextOffset], s⟩
/-- IMAGE_ACTIVATE (R84, R453, R457). BUSY while another is carried out (DESIGN CHOICE, log entry 22). -/
def State.serveImageActivate (s : State) (c : Nat) : Answer :=
  let spare := s.spareB
  let rd := s.slotReader spare
  if s.work.activating.isSome then ⟨1, [0], s⟩
  else match s.activationFail spare with
  | some (cause, detail) =>
    let w := word [fld 12 4 cause, fld 4 8 detail]
    let s := s.when (patchUnsigned (withMagic rd) (some (cause, detail))) fun s => s.authFail (s.asker c) 5 6
    let s := s.when (statementRefused s.fuses (withMagic rd) (some (cause, detail))) fun s => s.authFail (s.asker c) 1 6
    if cause == 5 then ⟨7, [w], s.authFail (s.asker c) 0 6⟩
    else if cause == 6 then ⟨2, [w], s.record 0xA003 2 (rdNat rd 0x10 1) s.fuses.rbCount⟩
    else ⟨2, [w], s⟩
  | none =>
    let s := s.putFlash spare 0 magic
    let s := s.when spare fun s => s.putFlash false 0x18 (leBytes 4 0)
    let s := { s with boot := { s.boot with actPending := true } }
    ⟨0, [0], s.record 0xA005 (b2n spare) (rdNat rd 0xC 4) (rdNat rd 0x10 1)⟩

/-! ### Records and dumps (R364, R389) -/

/-- EVT_CLEAR_AUTH (R389). The statement's ARG is N; from SVC, which sends no statement, D1 is. -/
def State.serveEvtClear (s : State) (c : Nat) (b : List Word) : Answer :=
  let st := wordBytes b
  if !s.authorised c 2 st (fun _ => true) then s.refuseStatement c 7 2
  else
    let n := if s.asker c == 2 then bodyWord b 0 else stArg st
    let (status, s) := s.clearLog (s.asker c) (BitVec.ofNat 32 n)
    ⟨status, [s.sketch.oldest], s⟩
/-- The dump of the slot is released (R364): LOCKED clears, the record, and a pending capture is committed. -/
def State.releaseDump (s : State) (ident : Nat) : State :=
  let seq := s.dump.slot.getD 2 0
  let s := { s with dump := { s.dump with locked := false } }
  (s.record 0x800C ident seq.toNat 0).commitCapture
/-- DUMP_READ, with or without RELEASE (R364). -/
def State.serveDumpRead (s : State) (c : Nat) (b : List Word) : Answer :=
  let d := bodyWord b 0
  let first := field d 0 12
  let count := bodyWord b 1
  if b.length < 2 || field d 12 19 != 0 || count == 0 || 4096 < first + count then s.refuse 5
  else if !s.dump.valid then s.refuse 2
  else
    let words := s.dumpWords.headD 0 :: (s.dump.slot.drop first).take count
    if bit d 31 then
      let st := wordBytes (b.drop 2)
      if s.authorised c 3 st (· == (s.dump.slot.getD 2 0).toNat) then ⟨0, words, s.releaseDump (s.asker c)⟩
      else s.refuseStatement c 8 3
    else ⟨0, words, s⟩

/-! ### Cells, wet values, phases and guarantees -/

/-- CELL_QUERY (R250). -/
def State.serveCellQuery (s : State) (b : List Word) : Answer :=
  let k := bodyWord b 0
  if b.length != 1 || 1024 ≤ k then s.refuse 5 else ⟨0, s.cellWords k, s.clearCell k⟩
/-- WET_WRITE (R79). -/
def State.serveWetWrite (s : State) (b : List Word) : Answer :=
  if b.length != 3 then s.refuse 5
  else
    let (status, s) := s.wetWrite (bodyWord b 0) (some (bodyWord b 1)) (bodyWord b 2)
    ⟨status, [], s⟩
/-- WET_READ (R502). -/
def State.serveWetRead (s : State) (b : List Word) : Answer :=
  match if b.length != 1 then none else s.wetRead (bodyWord b 0) with
  | some w => ⟨0, w, s⟩
  | none => s.refuse 5

/-- Why a phase may not be restored (R212). -/
def State.restoreRefused (s : State) (p : Nat) : Option Nat :=
  let x := s.phase p
  match s.phaseRail p with
  | none => some 2
  | some n =>
    if !s.railEn n || x.state == .unused || !(x.state == .retired || x.state == .blind || x.state == .retryWait || x.snsLost)
        || x.probation then some 2
    else if (s.rail n).core.state == .apprenticeHold || !s.rmServes then some 1
    else none
/-- PHASE_RESTORE (R212). -/
def State.servePhaseRestore (s : State) (b : List Word) : Answer :=
  let p := bodyWord b 0
  if b.length != 1 || 128 ≤ p then s.refuse 5
  else match s.restoreRefused p with
    | some status => s.refuse status
    | none => ⟨0, [], s.sendRm (.restore p)⟩

/-! ### The service key and RESUME -/

/-- The service key in the body of a statement (R465): an ephemeral key of 97 bytes, then the wrapped key, unwrapped under the first 32
bytes of SHA-384(Z ‖ SERIAL). An ephemeral key that is no point of the curve gives no key (DEDUCED, log entry 6). -/
def State.unwrapKey (s : State) (body : List Byte) : Option (BitVec 256) :=
  (ecdhSecret s.ident.scalar (body.take 97)).bind fun z =>
    aesUnwrap ((octets 48 (sha384 (octets 48 z.toNat ++ s.fuses.serialOctets)).toNat).take 32) ((body.drop 97).take 40)
/-- SERVICE_KEY_SET (R465). -/
def State.serveServiceKey (s : State) (c : Nat) (b : List Word) : Answer :=
  let st := wordBytes b
  if !s.authorised c 4 st (fun a => s.ident.serviceKey == 0 || decide (s.ident.serviceArg.toNat < a)) then s.refuseStatement c 12 4
  else match s.unwrapKey (stBody st) with
    | none => s.refuse 5
    | some k =>
      let s := { s with ident := { s.ident with serviceKey := k, serviceArg := BitVec.ofNat 32 (stArg st) } }
      ⟨0, [], s.endSession 0⟩
/-- An accepted RESUME (R359): both counts return to 0. -/
def State.acceptResume (s : State) (ident : Nat) : State :=
  let r := s.ret
  let s := { s with ret := { s.ret with recentRm := 0, recentHm := 0 }, safe := { s.safe with resumed := true } }
  s.record 0x800B ident r.recentRm r.recentHm
/-- RESUME (R359). -/
def State.serveResume (s : State) (c : Nat) (b : List Word) : Answer :=
  if !s.safe.active || s.safe.fromCheck || s.safe.resumed then s.refuse 2
  else if !s.authorised c 5 (wordBytes b) (· == (s.sketch.seqOf s.safe.recordKey).toNat) then s.refuseStatement c 15 5
  else ⟨0, [], s.acceptResume (s.asker c)⟩

/-! ### Serving -/

/-- Codes of Table 14.6. -/
def knownCode (code : Nat) : Bool := 1 ≤ code && code ≤ 15
/-- Served although STALE (R401). -/
def isQuery (code : Nat) : Bool := [1, 2, 11, 9, 14].contains code
/-- Served in the blank canvas (Table 3.10). -/
def blankServes (code : Nat) : Bool := [1, 2, 5, 6, 8, 7, 12].contains code
/-- Served in the safe state (R358). -/
def safeServes (code : Nat) : Bool := [1, 2, 8, 14, 15].contains code

/-- The effect of a request by its code. -/
def State.carryOut (s : State) (c code : Nat) (m : Message) : Answer :=
  let b := m.body
  match code with
  | 1 => s.servePing b
  | 2 => s.serveAttest c m
  | 3 => s.servePaletteWrite b
  | 4 => if bit (bodyWord b 0) 0 then s.servePaletteForce else s.servePaletteCommit
  | 5 => s.serveImageChunk b
  | 6 => s.serveImageActivate c
  | 7 => s.serveEvtClear c b
  | 8 => s.serveDumpRead c b
  | 9 => s.serveCellQuery b
  | 10 => s.serveWetWrite b
  | 11 => s.serveWetRead b
  | 12 => s.serveServiceKey c b
  | 13 => s.servePhaseRestore b
  | 14 => ⟨0, s.guaranteeWords, s⟩
  | 15 => s.serveResume c b
  | _ => s.refuse 8

/-- The refusals of a request that do not depend on its payload (R401, R409). -/
def State.turnedAway (s : State) (c code : Nat) (m : Message) : Option Nat :=
  if m.stale && !isQuery code then some 6
  else if !knownCode code then some 8
  else if s.asker c != 1 && s.asker c != 2 then some 2
  else if s.blank && !blankServes code then some 2
  else if s.safe.active && !safeServes code then some 2
  else none
/-- What the HM answers to a request (R401, R409). -/
def State.answer (s : State) (c code : Nat) (m : Message) : Answer :=
  match s.turnedAway c code m with
  | some status => s.refuse status
  | none => s.carryOut c code m
/-- The answer, sent as the reply. -/
def State.serve (s : State) (c code : Nat) (m : Message) : State :=
  let a := s.answer c code m
  a.state.reply c code m a.status a.words

/-- A request that the HM has just taken: an activation and a signature begin, and every other is answered at once (R84, R466). -/
def State.beginRequest (s : State) (c code : Nat) (m : Message) : State :=
  if (s.turnedAway c code m).isSome then s.serve c code m
  else if code == 6 && s.work.activating.isNone then { s with work := { s.work with activating := some (c, m) } }
  else if code == 2 && (s.attestRefused m.body).isNone then { s with work := { s.work with signing := some (s.snapshot c m) } }
  else s.serve c code m
/-- The activation in progress is carried out and answered. -/
def State.finishActivation (s : State) (x : Nat × Message) : State :=
  ({ s with work := { s.work with activating := none } }).serve x.1 6 x.2
/-- The signature in progress is made, and the reply sent. -/
def State.finishSigning (s : State) (g : Signing) : State :=
  let a := ({ s with work := { s.work with signing := none } }).signAttest g
  a.state.reply g.ch 2 g.message a.status a.words

/-- The HM takes messages (R56, R404) of channels on which it receives: it runs outside priming, and the reply's queue has room. -/
def State.hmServes (s : State) (c : Nat) : Bool :=
  s.pairRuns .hm && (s.primed || s.blank) && s.safe.warm.isNone && s.receives .hm c && (s.chan (s.replyCh c)).waiting < 8

/-- A request of a code on its channel. -/
def State.request (s : State) (ch : Fin 16) (code : Nat) (m : Message) : Host.Outcome State Fault Refusal :=
  if s.hmServes ch then complete (s.serve ch code m) else complete s

/-- PING. -/
def execPing (ch : Fin 16) (m : Message) (s : State) : Host.Outcome State Fault Refusal := s.request ch 1 m
/-- ATTEST (R466): the end of the signature that the HM has begun for the channel, or the whole request. -/
def execAttest (ch : Fin 16) (m : Message) (s : State) : Host.Outcome State Fault Refusal :=
  match s.work.signing with
  | some g => if g.ch == ch.val && s.hmServes ch then complete (s.finishSigning g) else s.request ch 2 m
  | none => s.request ch 2 m
/-- PALETTE_WRITE (R96). -/
def execPaletteWrite (ch : Fin 16) (m : Message) (s : State) : Host.Outcome State Fault Refusal := s.request ch 3 m
/-- A body whose FORCE bit is set or clear. -/
def withForce (force : Bool) (b : List Word) : List Word :=
  let d := bodyWord b 0
  BitVec.ofNat 32 (d - d % 2 + b2n force) :: b.drop 1
/-- PALETTE_COMMIT without FORCE (R98). -/
def execPaletteCommit (ch : Fin 16) (m : Message) (s : State) : Host.Outcome State Fault Refusal :=
  s.request ch 4 { m with body := withForce false m.body }
/-- PALETTE_COMMIT with FORCE (R99). -/
def execPaletteCommitForce (ch : Fin 16) (m : Message) (s : State) : Host.Outcome State Fault Refusal :=
  s.request ch 4 { m with body := withForce true m.body }
/-- IMAGE_CHUNK (R83). -/
def execImageChunk (ch : Fin 16) (m : Message) (s : State) : Host.Outcome State Fault Refusal := s.request ch 5 m
/-- IMAGE_ACTIVATE (R84): the end of the activation that the HM has begun for the channel, or the whole request. -/
def execImageActivate (ch : Fin 16) (m : Message) (s : State) : Host.Outcome State Fault Refusal :=
  match s.work.activating with
  | some x => if x.1 == ch.val && s.hmServes ch then complete (s.finishActivation x) else s.request ch 6 m
  | none => s.request ch 6 m
/-- EVT_CLEAR_AUTH (R389). -/
def execEvtClearAuth (ch : Fin 16) (m : Message) (s : State) : Host.Outcome State Fault Refusal := s.request ch 7 m
/-- The payload of a DUMP_READ with RELEASE set or clear. -/
def withRelease (rel : Bool) (b : List Word) : List Word :=
  BitVec.ofNat 32 (bodyWord b 0 % 2 ^ 31 + 2 ^ 31 * b2n rel) :: b.drop 1
/-- DUMP_READ without RELEASE (R364). -/
def execDumpRead (ch : Fin 16) (m : Message) (s : State) : Host.Outcome State Fault Refusal :=
  s.request ch 8 { m with body := withRelease false m.body }
/-- DUMP_READ with RELEASE (R364). -/
def execDumpReadRelease (ch : Fin 16) (m : Message) (s : State) : Host.Outcome State Fault Refusal :=
  s.request ch 8 { m with body := withRelease true m.body }
/-- CELL_QUERY (R250). -/
def execCellQuery (ch : Fin 16) (m : Message) (s : State) : Host.Outcome State Fault Refusal := s.request ch 9 m
/-- WET_WRITE (R79). -/
def execWetWrite (ch : Fin 16) (m : Message) (s : State) : Host.Outcome State Fault Refusal := s.request ch 10 m
/-- WET_READ (R502). -/
def execWetRead (ch : Fin 16) (m : Message) (s : State) : Host.Outcome State Fault Refusal := s.request ch 11 m
/-- SERVICE_KEY_SET (R465). -/
def execServiceKeySet (ch : Fin 16) (m : Message) (s : State) : Host.Outcome State Fault Refusal := s.request ch 12 m
/-- PHASE_RESTORE (R212). -/
def execPhaseRestore (ch : Fin 16) (m : Message) (s : State) : Host.Outcome State Fault Refusal := s.request ch 13 m
/-- GUARANTEE_QUERY (R316). -/
def execGuaranteeQuery (ch : Fin 16) (m : Message) (s : State) : Host.Outcome State Fault Refusal := s.request ch 14 m
/-- RESUME (R359). -/
def execResume (ch : Fin 16) (m : Message) (s : State) : Host.Outcome State Fault Refusal := s.request ch 15 m

/-! ### The channels' own events (R392 to R404) -/

/-- GO_POST (R392): the control register is written from a pair's firmware (R398); the posts of HOST and SVC are MFR_MBOX_POST's and the
console's. -/
def execGoPost (ch : Fin 16) (who : Identity) (s : State) : Host.Outcome State Fault Refusal :=
  if s.pairPath who && s.sends who ch && !(s.chan ch).full && hdrOk ((s.chan ch).d.getD 0 0) then complete (s.post ch)
  else complete s
/-- The effect of a RECALL by the sender (R394). -/
def State.recallOn (s : State) (c : Nat) : State :=
  let x := s.chan c
  if x.read then s.updChan c fun x => { x with recallLate := true }
  else if x.full then s.release c
  else s
/-- RECALL by a pair (R394, R398); HOST's is MFR_MBOX_CONTROL's. -/
def execRecall (ch : Fin 16) (who : Identity) (s : State) : Host.Outcome State Fault Refusal :=
  if s.pairPath who && s.sends who ch then complete (s.recallOn ch) else complete s

/-- Records at the take of a message by a pair (R401, R402). -/
def State.takeRecords (s : State) (c : Nat) : State :=
  let x := s.chan c
  let d := x.d.getD 0 0
  (s.when x.stale fun s => s.record 0x9002 c d.toNat (if isQuery (hdrCode d).toNat then 0 else 1)).orphanRecord c
/-- The message of a reassembly, and its code. -/
def Fragments.message (f : Fragments) : Nat × Message :=
  (f.code.toNat, { tag := f.tag, orphan := f.orphan, stale := f.stale, body := f.payload })
/-- One fragment or message taken by a pair (R403): the reassembly that stands after it, the message that it completes, and whether it is
longer than 512 fragments. A fragment that continues nothing is discarded (log entry 56). -/
def Channel.takeFragment (x : Channel) (now : Nat) : Option Fragments × Option Fragments × Bool :=
  let d := x.d.getD 0 0
  let words := (x.d.drop 1).take (hdrLen d - 1)
  let made : Fragments :=
    { code := hdrCode d, tag := hdrTag d, epoch := x.sndEpoch, count := 1, payload := words, stamp := now, orphan := x.orphan,
      stale := x.stale }
  if hdrCont d then
    match x.frag with
    | none => (none, none, false)
    | some f =>
      if f.code != hdrCode d || f.tag != hdrTag d || f.epoch != x.sndEpoch then (none, none, false)
      else
        let f := { f with
          count := f.count + 1, payload := f.payload ++ words, stamp := now, orphan := f.orphan || x.orphan, stale := f.stale || x.stale }
        if 512 < f.count || (hdrMore d && f.count == 512) then (none, none, true)
        else if hdrMore d then (some f, none, false) else (none, some f, false)
  else if hdrMore d then (some made, none, false)
  else (none, some made, false)
/-- A pair takes what a channel holds (R393, R401 to R403): its records, the reassembly, and the answers that need no whole message:
BAD_FORMAT to one of more than 512 fragments, STALE_REJECTED to a STALE fragment that continues nothing. -/
def State.takeMessage (s : State) (c : Nat) : Option Fragments × State :=
  let x := s.chan c
  let d := x.d.getD 0 0
  let s := s.takeRecords c
  let (frag, whole, long) := x.takeFragment s.clock.tick
  let s := (s.updChan c fun x => { x with frag := frag }).takeFrom c
  let answer (status : Nat) : State :=
    s.reply c (hdrCode d).toNat { tag := hdrTag d, orphan := x.orphan, stale := x.stale, body := [] } status []
  (whole, if long then answer 5
    else if whole.isNone && frag.isNone && x.stale && !isQuery (hdrCode d).toNat then answer 6 else s)
/-- The HM takes the message of a channel and serves it (R393, R403, R409). -/
def State.hmTake (s : State) (c : Nat) : State :=
  match s.takeMessage c with
  | (some f, s) => s.beginRequest c f.message.1 f.message.2
  | (none, s) => s
/-- A pair takes a message that it does not serve as a request; a STALE one that is no query is answered STALE_REJECTED (R401). -/
def State.pairTake (s : State) (c : Nat) : State :=
  match s.takeMessage c with
  | (some f, s) => s.when (f.stale && !isQuery f.message.1) fun s => s.reply c f.message.1 f.message.2 6 []
  | (none, s) => s
/-- The channel is served as URGENT. -/
def State.urgent (s : State) (c : Nat) : Bool := s.urgentCh c || hdrUrgent ((s.chan c).d.getD 0 0)
/-- The channels with a message that the HM may take now, whoever sent it. -/
def State.hmReady (s : State) : List Nat := (List.range 16).filter fun c => (s.chan c).full && s.hmServes c
/-- The channel that the HM takes next (R409). -/
def State.hmNext (s : State) : Option Nat :=
  match s.hmReady.find? s.urgent with
  | some c => some c
  | none => s.hmReady.head?
/-- What the HM does with the message that it takes next: a request is served, from whomever it comes (R409), a reply of the RM taken. -/
def State.hmTakeNext (s : State) (c : Nat) : State :=
  if s.asker c == 1 || s.asker c == 2 || decide ((hdrCode ((s.chan c).d.getD 0 0)).toNat < 128) then s.hmTake c else s.pairTake c
/-- HOST_MESSAGE_TAKE (R409): the message of the channel, when it is the one the HM takes next. -/
def execHostMessageTake (ch : Fin 16) (s : State) : Host.Outcome State Fault Refusal :=
  if s.hmNext == some ch.val then complete (s.hmTakeNext ch) else complete s

/-! ### Replies that the console waits for (R478, R486) -/

/-- The channel on which SVC sends to the HM. -/
def State.svcChannel (s : State) : Option Nat := (List.range 16).find? fun c => s.sends .svc c && s.receives .hm c
/-- A PING of `mbx loop` is queued, and waited for. -/
def State.loopPost (s : State) (total tag passed longest : Nat) : State :=
  match s.svcChannel with
  | some c =>
    ({ s with con := { s.con with waiting := some (.loop (s.replyCh c) total tag passed longest s.clock.tick) } }).sendOn c 1 tag
      false [BitVec.ofNat 32 (0x5A00A500 + tag)]
  | none => s
/-- SVC has taken a reply of words `d` from a channel. -/
def State.conTake (s : State) (ch : Nat) (d : List Word) : State :=
  let tag := (hdrTag (d.getD 0 0)).toNat
  match s.con.waiting with
  | some (.reply c t) =>
    if c == ch && t == tag then s.conEnd [if d.getD 1 0 == 0 then .ok else .refused (d.getD 1 0).toNat] else s
  | some (.loop c total t passed longest stamp) =>
    if c == ch && t == tag then
      let us := s.since stamp / 800
      let good := (hdrCode (d.getD 0 0)).toNat == 0x81 && d.getD 1 0 == 0 && (d.getD 2 0).toNat == 0x5A00A500 + t
      let passed := passed + b2n good
      let longest := max longest us
      if us > 10000 then s.conEnd [.err 7]
      else if t < total then s.loopPost total (t + 1) passed longest
      else s.conEnd [.words [BitVec.ofNat 32 passed, BitVec.ofNat 32 longest], .ok]
    else s
  | _ => s

/-- The console waits for a reply on the channel, so that SVC reads it (R398, R478, R486). -/
def State.conReads (s : State) (ch : Nat) : Bool :=
  s.pairRuns .hm && (match s.con.waiting with
    | some (.reply c _) | some (.loop c _ _ _ _ _) => c == ch
    | _ => false)
/-- MAILBOX_TAKE_ACK (R393, R398, R401, R402): the receiver's read of the last word. The HM takes messages in its order alone (R409), the
RM what it receives, and SVC the reply that a console command waits for; HOST takes by MFR_MBOX_TAKE. -/
def execMailboxTakeAck (ch : Fin 16) (who : Identity) (s : State) : Host.Outcome State Fault Refusal :=
  match who with
  | .hm => if s.hmNext == some ch.val then complete (s.hmTakeNext ch) else complete s
  | .rm => if s.pairPath .rm && s.receives .rm ch && (s.chan ch).full then complete (s.pairTake ch) else complete s
  | .svc =>
    if s.conReads ch && s.receives .svc ch && (s.chan ch).full then
      complete (((s.orphanRecord ch).takeFrom ch).conTake ch (s.chan ch).d)
    else complete s
  | .host => complete s

/-- A channel bound in the reverse direction whose replies go with this one. -/
def State.reverseOf (s : State) (c : Nat) : Option Nat :=
  (List.range 16).find? fun k => k != c && s.chanSender c != 0 && s.chanSender k == s.chanReceiver c && s.chanReceiver k == s.chanSender c
    && (s.replyCh c == k || s.replyCh k == c)
/-- CROSS_WAIT (R404): both channels of a reverse-bound pair have been FULL for another T_CROSS. -/
def execCrossWait (ch : Fin 16) (s : State) : Host.Outcome State Fault Refusal :=
  match s.reverseOf ch with
  | some k =>
    if (s.chan ch).full && (s.chan k).full && s.clock.corePresent then
      let a := min ch.val k
      let b := max ch.val k
      let t := (s.chan a).crossTime + 1
      let s := s.forEach [a, b] fun s c => s.updChan c fun x => { x with cross := true, crossTime := t }
      complete (s.record 0x9003 a b (s.tCross * t))
    else complete s
  | none => complete s

/-- FRAGMENT_TIMEOUT (R403): the receiving pair discards the reassembly and answers. -/
def execFragmentTimeout (ch : Fin 16) (s : State) : Host.Outcome State Fault Refusal :=
  match (s.chan ch).frag with
  | some f =>
    if s.pairRuns (if s.receives .rm ch then .rm else .hm) then
      let s := s.updChan ch fun x => { x with frag := none }
      complete (s.reply ch f.code.toNat { tag := f.tag, orphan := f.orphan, stale := f.stale, body := [] } 5 [])
    else complete s
  | none => complete s

end Sys2Proof.Machine
end

