-- ==== Sys2Proof/Machine/Bus.lean ====
section
/-! DEFINITION. The two-wire bus (spec/15): which addresses and command codes are answered, PEC, the commit points of reads
and writes, bus errors, the alert response and Host Notify. -/

namespace Sys2Proof.Machine

/-! ### Acceptance (R412, R416, R417, Table 15.5) -/

/-- The own address is acknowledged: from P2 onwards, by the bus interface or by the standby recogniser. -/
def State.busUp (s : State) : Bool :=
  !s.boot.held && 2 ≤ s.boot.stage.toNat && (s.clock.corePresent || (s.clock.standby && s.clock.appPresent))
/-- A match of the own address ends standby (R426). -/
def State.busWake (s : State) : State :=
  s.wakeUp
/-- Codes of Table 3.10. -/
def blankCodes : List Nat :=
  [0x78, 0x79, 0x7A, 0x7B, 0x7C, 0x7D, 0x7E, 0x80, 0x98, 0x99, 0x9A, 0x9B, 0xAD, 0xAE, 0xD0, 0xD1, 0xD2, 0xD3, 0xD8, 0xD9,
   0xDF, 0xE0]
/-- Codes of R358. -/
def safeCodes : List Nat :=
  [0x78, 0x79, 0x7A, 0x7B, 0x7C, 0x7D, 0x7E, 0x80, 0x99, 0x9A, 0x9B, 0xAD, 0xAE, 0xD0, 0xD1, 0xD2, 0xD3, 0xD8, 0xD9, 0xDA,
   0xDC, 0xDE, 0xDF, 0xE0]
/-- Every code of Tables 16.1 and 16.4. -/
def busCodes : List Nat :=
  [0x00, 0x01, 0x02, 0x03, 0x04, 0x10, 0x19, 0x20, 0x21, 0x24, 0x25, 0x26, 0x27, 0x46, 0x78, 0x79, 0x7A, 0x7B, 0x7C, 0x7D,
   0x7E, 0x80, 0x88, 0x89, 0x8B, 0x8C, 0x8D, 0x96, 0x97, 0x98, 0x99, 0x9A, 0x9B, 0xAD, 0xAE]
    ++ (List.range 22).map (0xD0 + ·)
/-- Codes acknowledged during an image activation. -/
def activationCodes : List Nat := [0x78, 0x79, 0x7A, 0x7B, 0x7C, 0x7D, 0x7E, 0x80, 0xDF]
/-- A state in which the HM does not serve the bus: it is not running, or a warm chip restart is in progress. -/
def State.hmAway (s : State) : Bool := s.hm.run != .running || s.safe.warm.isSome
/-- Every state of Table 15.5 in force accepts the code of a supported command; an HM held in reset accepts none, in priming too. -/
def State.accepts (s : State) (code : Nat) : Bool :=
  if 2 ≤ s.boot.stage.toNat && s.boot.stage.toNat ≤ 7 then code == 0xDF && s.hm.run != .heldReset
  else !s.hmAway && (!s.blank || blankCodes.contains code) && (!s.safe.active || safeCodes.contains code)
    && (s.work.activating.isNone || activationCodes.contains code) && (s.work.erasing.isNone || code != 0xD9)
    && (!s.work.dumping || code != 0xDE)

/-- A transaction addressed to the EM1280 with the code of a supported command: its address and code bytes, then `f`. -/
def State.transact (s : State) (code : Nat) (f : State → State) : Host.Outcome State Fault Refusal :=
  if s.busUp then
    let s := s.busWake
    let s := { s with bus := { s.bus with addrAcked := true, acked := s.accepts code, reply := [], pecAcked := true } }
    if s.accepts code then complete (f s) else complete s
  else complete { s with bus := { s.bus with addrAcked := false, acked := false, reply := [], pecAcked := true } }

/-- UNSUPPORTED_COMMAND_CODE (R417, R56): refused, with INVALID_COMMAND in a state in which the HM serves the bus. Without a code it is
the quick command, whose address is acknowledged and which has no effect (Table 15.1). -/
def execUnsupportedCommandCode (code : Option Byte) (_x : BusXfer) (s : State) : Host.Outcome State Fault Refusal :=
  if code.any fun c => busCodes.contains c.toNat then complete s
  else if s.busUp then
    let s := s.busWake
    let s := { s with bus := { s.bus with addrAcked := true, acked := false, reply := [], pecAcked := true } }
    if code.isSome && (s.primed || s.blank) && !s.hmAway then complete (s.setCml 0x80) else complete s
  else complete { s with bus := { s.bus with addrAcked := false, acked := false, reply := [], pecAcked := true } }

/-! ### PEC and commit points (R419, R420, R423, R424) -/

/-- The own address byte with write, or with read. -/
def State.ownByte (s : State) (read : Bool) : Byte := BitVec.ofNat 8 (2 * s.bus.address.toNat + b2n read)
/-- A PEC byte. -/
def pecOf (bs : List Byte) : Byte := BitVec.ofNat 8 (crc8 bs)
/-- BUS_ERROR (Table 13.6). -/
def State.busRecord (s : State) (code : Option Nat) (what index : Nat) : State := s.record 0x9001 (code.getD 0xFFFF) what index
/-- INVALID_DATA. -/
def State.invalidData (s : State) : State := s.setCml 0x40
/-- A write discarded for a missing or wrong PEC; `index` is the place of its PEC byte. -/
def State.pecFail (s : State) (code index : Nat) : State := (s.setCml 0x20).busRecord (some code) 1 index

/-- Codes whose writes WRITE_PROTECT never holds off (R446). -/
def unguarded : List Nat := [0x00, 0x04, 0xD6, 0xD0, 0xD3]
/-- WRITE_PROTECT refuses a write of a code (R446). -/
def State.guarded (s : State) (code : Nat) : Bool :=
  let l := s.pm.writeProtect.toNat
  let free := (if l == 0x80 then [0x10] else if l == 0x40 then [0x10, 0x01] else [0x10, 0x01, 0x02, 0x21]) ++ unguarded
  l != 0 && !free.contains code

/-- A write whose command takes `n` bytes (R419, R423, R446): its format, its PEC and its protection, then `f` on its bytes. -/
def State.busWrite (s : State) (code n : Nat) (b : List Byte) (f : List Byte → State → State) : State :=
  let d := b.take n
  if b.length == n && s.pecReq == 1 then s.pecFail code (n + 2)
  else if b.length == n || b.length == n + 1 then
    if b.length == n + 1 && pecOf ([s.ownByte false, BitVec.ofNat 8 code] ++ d) != b.getD n 0 then
      ({ s with bus := { s.bus with pecAcked := false } }).pecFail code (n + 2)
    else if s.guarded code then s.invalidData
    else f d s
  else s.invalidData

/-- A read whose reply is `data` after `sent` (R420, R423): the bytes that the host clocks, and `commit` once every byte of
the reply has been complete, with PEC_REQ = 1 the PEC byte included. -/
def State.busRead (s : State) (code : Nat) (sent data : List Byte) (clocked : Nat) (commit : State → State) : State :=
  let pec := pecOf ([s.ownByte false, BitVec.ofNat 8 code] ++ sent ++ [s.ownByte true] ++ data)
  let s := { s with bus := { s.bus with reply := (data ++ [pec]).take clocked } }
  s.when (decide (data.length + s.pecReq ≤ clocked)) commit
/-- A read for which the command has no reply: its bytes are not stated (log entry 7). -/
def State.openRead (s : State) (code clocked : Nat) : State :=
  { s with bus := { s.bus with reply := (List.range clocked).map fun (i : Nat) => BitVec.ofInt 8 (Config.freeFun 9 [(code : Int), (i : Int)]) } }
/-- The bytes of a block read: its byte count, then its words (R437). -/
def blockOf (ws : List Word) : List Byte := BitVec.ofNat 8 (4 * ws.length) :: wordBytes ws

/-! ### Errors and timeouts (R420, R421) -/

/-- A transaction that ended inside a byte: a write is discarded whole with OTHER_COMM_FAULT, and BUS_ERROR is recorded. -/
def State.busCut (s : State) (code : Option Byte) (write : Bool) (what index : Nat) : State :=
  (s.when write fun s => s.setCml 2).busRecord (code.map (·.toNat)) what index
/-- BUS_ERROR (R420). -/
def execBusError (code : Option Byte) (write : Bool) (index : Nat) (s : State) : Host.Outcome State Fault Refusal :=
  if s.busUp && s.clock.corePresent then complete (s.busCut code write 0 index) else complete s
/-- BUS_TIMEOUT (R421). -/
def execBusTimeout (code : Option Byte) (write : Bool) (index : Nat) (s : State) : Host.Outcome State Fault Refusal :=
  if s.busUp && s.clock.corePresent then complete (s.busCut code write 2 index) else complete s

/-! ### The alert response and Host Notify (R427 to R431) -/

/-- ALERT_RESPONSE (R428): a read of 0x0C while SALERT_N is driven low. `won`: no bit that the EM1280 released read low. -/
def execAlertResponse (won complete' pec : Bool) (s : State) : Host.Outcome State Fault Refusal :=
  if s.busUp && s.clock.corePresent && s.salertLow then
    let b := s.ownByte false
    let s := { s with bus := { s.bus with
      addrAcked := true, acked := false, pecAcked := true
      reply := if won then [b] ++ (if pec then [pecOf [0x19, b]] else []) else [] } }
    if won && complete' then complete { s with bus := { s.bus with alert := false } } else complete s
  else complete { s with bus := { s.bus with addrAcked := false, acked := false, reply := [], pecAcked := true } }

/-- NOTIFY_WORD: the OR of STATUS_WORD over the enabled rails. -/
def State.notifyWord (s : State) : Nat := (s.enabledRails.map s.statusWord).foldl (· ||| ·) 0
/-- The bytes of an attempt. -/
def State.notifyBytes (s : State) : List Byte :=
  let l := [0x10, s.ownByte false] ++ leBytes 2 s.notifyWord
  if s.pecReq == 1 then l ++ [pecOf l] else l
/-- The bytes that an attempt completes: a byte that is refused was sent whole, one in which arbitration is lost, or into which a START
or a STOP falls, was not, and nothing is driven from there on (R430, R431). -/
def State.notifyDriven (s : State) : Option NotifyFail → List Byte
  | none => s.notifyBytes
  | some (.refused i) => s.notifyBytes.take (i + 1)
  | some (.lost i) | some (.misplaced i) => s.notifyBytes.take i
/-- The byte at which an attempt fails. -/
def failedByte : NotifyFail → Nat
  | .lost i | .refused i | .misplaced i => i
/-- HOST_NOTIFY (R429, R431): one attempt at bus idle, acknowledged throughout or failed at a byte. -/
def execHostNotify (failed : Option NotifyFail) (s : State) : Host.Outcome State Fault Refusal :=
  if s.bus.notifyDue && s.busUp && s.clock.corePresent then
    let s := { s with bus := { s.bus with notifySent := s.notifyDriven failed } }
    match failed.map failedByte with
    | none => complete { s with bus := { s.bus with notifyDue := false, notifyTries := 0 } }
    | some i =>
      if s.bus.notifyTries ≥ 3 then
        complete (({ s with bus := { s.bus with
          notifyDue := false, notifyTries := 0, abandoned := s.bus.abandoned + 1 } }).busRecord none 3 i)
      else complete { s with bus := { s.bus with notifyTries := s.bus.notifyTries + 1 } }
  else complete s

end Sys2Proof.Machine
end

