-- ==== Sys2Proof/Machine/Pmbus.lean ====
section
/-! DEFINITION. The standard PMBus commands (spec/16, Table 16.1): pages and phases, control and set-point writes, status
registers and readings. -/

namespace Sys2Proof.Machine

/-! ### Transactions -/

/-- What a command does with each shape of transaction: a write of its bytes, or a read of which the host clocks so many
bytes. A read with bytes before its repeated START is a write of them, whose commit point is that START (R419), and then a
read that no command gives (log entry 7). -/
def State.plain (s : State) (code : Nat) (x : BusXfer) (send : List Byte → State → State) (recv : Nat → State → State) :
    Host.Outcome State Fault Refusal :=
  s.transact code fun s => match x with
    | .send b => send b s
    | .recv k => recv k s
    | .call [] k => recv k s
    | .call b k => (send b s).openRead code k

/-- A write to a read-only standard command (R445). -/
def noWrite (_ : List Byte) (s : State) : State := s.setCml 0x80
/-- A read-only command whose reply does not depend on PAGE. -/
def State.readOnly (s : State) (code : Nat) (x : BusXfer) (data : State → List Byte) : Host.Outcome State Fault Refusal :=
  s.plain code x noWrite fun k s => s.busRead code [] (data s) k id
/-- Block data of ASCII or other bytes. -/
def bytesBlock (b : List Byte) : List Byte := BitVec.ofNat 8 b.length :: b

/-! ### Pages (R434, R443) -/

/-- PAGE names one rail. -/
def State.pageAll (s : State) : Bool := s.pm.page == 0xFF
/-- The rails that a paged command concerns: every enabled rail for PAGE = 0xFF. -/
def State.pageRails (s : State) : List Nat := if s.pageAll then s.enabledRails else [s.pm.page.toNat]
/-- A paged write has no rail to go to. -/
def State.pageOff (s : State) : Bool := !s.pageAll && !s.railEn s.pm.page.toNat
/-- A paged write (R434, R443): discarded on a rail with RAIL_EN = 0 or when any rail refuses it. -/
def State.pagedWrite (s : State) (ok : Nat → Bool) (f : State → Nat → State) : State :=
  if s.pageOff || !s.pageRails.all ok then s.invalidData else s.forEach s.pageRails f
/-- The bytes, all in place, of the OR of byte strings. -/
def orBytes (n : Nat) (l : List (List Byte)) : List Byte :=
  (List.range n).map fun i => l.foldl (fun a b => a ||| b.getD i 0) 0
/-- A paged write of a value that is allowed or not, whatever the page holds: one that is not is discarded (R439, R440). -/
def State.valueWrite (s : State) (ok : Bool) (f : State → Nat → State) : State :=
  if ok then s.pagedWrite (fun _ => true) f else s.invalidData
/-- The `n` data bytes of a paged read (R434); `orAll`: PAGE = 0xFF reads the OR over the enabled rails. -/
def State.pagedData (s : State) (n : Nat) (orAll : Bool) (f : Nat → List Byte) : List Byte :=
  if s.pageAll then (if orAll then orBytes n (s.enabledRails.map f) else List.replicate n 0xFF)
  else if s.railEn s.pm.page.toNat then f s.pm.page.toNat
  else List.replicate n 0
/-- A paged read: a read of every page that has no OR sets INVALID_DATA. `frame` puts the byte count before a block. -/
def State.pagedRead (s : State) (code n : Nat) (orAll : Bool) (frame : List Byte → List Byte) (f : Nat → List Byte) (k : Nat)
    (commit : State → State) : State :=
  (s.when (s.pageAll && !orAll) State.invalidData).busRead code [] (frame (s.pagedData n orAll f)) k
    fun s => s.when (!s.pageAll && s.railEn s.pm.page.toNat) commit
/-- A read-only paged command that returns one word of 16 bits. -/
def State.pagedWord (s : State) (code : Nat) (x : BusXfer) (f : State → Nat → Nat) : Host.Outcome State Fault Refusal :=
  s.plain code x noWrite fun k s => s.pagedRead code 2 false id (fun n => leBytes 2 (f s n)) k id

/-- PAGE (R432). -/
def execPage (x : BusXfer) (s : State) : Host.Outcome State Fault Refusal :=
  s.plain 0x00 x
    (fun b s => s.busWrite 0x00 1 b fun d s =>
      let v := d.headD 0
      if v.toNat < 16 || v == 0xFF then { s with pm := { s.pm with page := v, phase := 0xFF } } else s.invalidData)
    fun k s => s.busRead 0x00 [] [s.pm.page] k id
/-- PHASE (R433). -/
def execPhase (x : BusXfer) (s : State) : Host.Outcome State Fault Refusal :=
  s.plain 0x04 x
    (fun b s => s.busWrite 0x04 1 b fun d s =>
      let v := d.headD 0
      let ok := v == 0xFF || (!s.pageAll && v.toNat < 128 && s.phaseRail v.toNat == some s.pm.page.toNat)
      if s.pageOff || !ok then s.invalidData else { s with pm := { s.pm with phase := v } })
    fun k s => s.pagedRead 0x04 1 false id (fun _ => [s.pm.phase]) k id

/-! ### Enables and set-points (R438 to R440) -/

/-- Change a rail's host registers, which the HM keeps and the host reads back, and post them to the RM, which applies them
(R9, R10). -/
def State.changeHost (s : State) (n : Nat) (f : RailHost → RailHost) : State :=
  let h := f (s.rail n).host
  (s.updHost n fun _ => { h with newEnable := false }).sendRm (.host n h)
/-- A value lies outside a rail's envelope. -/
def State.outside (s : State) (n v : Nat) : Bool := decide (v < s.envMin n) || decide (s.envMax n < v)
/-- A write that carries a host set-point for each of the page's rails (R438, R443): refused whole with HOST_ALLOWED = 0 or a
value outside the envelope, which also warns in STATUS_VOUT. -/
def State.setpointWrite (s : State) (value : Nat → Nat) (f : State → Nat → State) : State :=
  if s.pageOff then s.invalidData
  else
    let out := s.pageRails.filter fun n => s.outside n (value n)
    if out.isEmpty && s.pageRails.all fun n => s.hostAllowed n == 1 then s.forEach s.pageRails f
    else (s.forEach out fun s n => s.setVout n 8).invalidData

/-- OPERATION (R439). -/
def execOperation (x : BusXfer) (s : State) : Host.Outcome State Fault Refusal :=
  s.plain 0x01 x
    (fun b s => s.busWrite 0x01 1 b fun d s =>
      let v := d.headD 0
      let set (s : State) (n : Nat) : State :=
        s.changeHost n fun h => { h with operation := v, newEnable := h.newEnable || v.getLsbD 7 }
      if v == 0x98 then s.setpointWrite (fun n => (s.rail n).host.marginLow.toNat) set
      else if v == 0xA8 then s.setpointWrite (fun n => (s.rail n).host.marginHigh.toNat) set
      else s.valueWrite (v == 0x00 || v == 0x40 || v == 0x80) set)
    fun k s => s.pagedRead 0x01 1 false id (fun n => [(s.rail n).host.operation]) k id
/-- ON_OFF_CONFIG (R440). -/
def execOnOffConfig (x : BusXfer) (s : State) : Host.Outcome State Fault Refusal :=
  s.plain 0x02 x
    (fun b s => s.busWrite 0x02 1 b fun d s =>
      let v := d.headD 0
      s.valueWrite (v == 0x16 || v == 0x1A || v == 0x1E) fun s n => s.changeHost n fun h => { h with onOff := v })
    fun k s => s.pagedRead 0x02 1 false id (fun n => [(s.rail n).host.onOff]) k id
/-- CLEAR_FAULTS (R307, R344, R447): the RM carries it out; during a hold, or while the RM does not run, it is kept for after. -/
def execClearFaults (x : BusXfer) (s : State) : Host.Outcome State Fault Refusal :=
  s.plain 0x03 x
    (fun b s => s.busWrite 0x03 0 b fun _ s =>
      if s.pageOff then s.invalidData
      else if s.app.holding || !s.rmServes then { s with app := { s.app with heldClears := s.app.heldClears ++ [s.pm.page] } }
      else s.clearFaults s.pm.page)
    fun k s => s.openRead 0x03 k
/-- WRITE_PROTECT (R446). -/
def execWriteProtect (x : BusXfer) (s : State) : Host.Outcome State Fault Refusal :=
  s.plain 0x10 x
    (fun b s => s.busWrite 0x10 1 b fun d s =>
      let v := d.headD 0
      if v == 0x80 || v == 0x40 || v == 0x20 || v == 0x00 then { s with pm := { s.pm with writeProtect := v } } else s.invalidData)
    fun k s => s.busRead 0x10 [] [s.pm.writeProtect] k id
/-- CAPABILITY (Table 16.1). -/
def execCapability (x : BusXfer) (s : State) : Host.Outcome State Fault Refusal := s.readOnly 0x19 x fun _ => [0xD0]
/-- VOUT_MODE (R435). -/
def execVoutMode (x : BusXfer) (s : State) : Host.Outcome State Fault Refusal := s.readOnly 0x20 x fun _ => [0x15]
/-- VOUT_COMMAND (R438, R111): 0x0000 releases a held set-point, and does nothing with HOST_ALLOWED = 0. -/
def execVoutCommand (x : BusXfer) (s : State) : Host.Outcome State Fault Refusal :=
  s.plain 0x21 x
    (fun b s => s.busWrite 0x21 2 b fun d s =>
      let v := ofBytes d
      let set (s : State) (n : Nat) : State := s.changeHost n fun h => { h with voutCommand := BitVec.ofNat 16 v }
      if v = 0 then s.pagedWrite (fun _ => true) fun s n => s.when (s.hostAllowed n == 1) fun s => set s n
      else s.setpointWrite (fun _ => v) set)
    fun k s => s.pagedRead 0x21 2 false id (fun n => leBytes 2 (s.rail n).host.voutCommand.toNat) k id
/-- VOUT_MAX (R438). -/
def execVoutMax (x : BusXfer) (s : State) : Host.Outcome State Fault Refusal := s.pagedWord 0x24 x State.envMax
/-- VOUT_MARGIN_HIGH (R438). -/
def execVoutMarginHigh (x : BusXfer) (s : State) : Host.Outcome State Fault Refusal :=
  s.plain 0x25 x
    (fun b s => s.busWrite 0x25 2 b fun d s =>
      s.setpointWrite (fun _ => ofBytes d) fun s n => s.changeHost n fun h => { h with marginHigh := BitVec.ofNat 16 (ofBytes d) })
    fun k s => s.pagedRead 0x25 2 false id (fun n => leBytes 2 (s.rail n).host.marginHigh.toNat) k id
/-- VOUT_MARGIN_LOW (R438). -/
def execVoutMarginLow (x : BusXfer) (s : State) : Host.Outcome State Fault Refusal :=
  s.plain 0x26 x
    (fun b s => s.busWrite 0x26 2 b fun d s =>
      s.setpointWrite (fun _ => ofBytes d) fun s n => s.changeHost n fun h => { h with marginLow := BitVec.ofNat 16 (ofBytes d) })
    fun k s => s.pagedRead 0x26 2 false id (fun n => leBytes 2 (s.rail n).host.marginLow.toNat) k id

/-! ### Wet fields that PMBus writes (R441, R442) -/

/-- A WET_WRITE from HOST on each of the page's rails, each judged before any changes. -/
def State.pagedWet (s : State) (id : Nat → Nat) (value : Nat → Option Nat) : State :=
  s.pagedWrite (fun n => match value n with
      | some v => (s.wetWrite (id n) none v).1 == 0
      | none => false) fun s n => (s.wetWrite (id n) none ((value n).getD 0)).2
/-- Identifier of HOST_SLEW_CLASS. -/
def hostClassId (n : Nat) : Nat := shadowKey 5 (0x98 + 32 * n)
/-- Identifier of OCP_ABS. -/
def ocpAbsId (n : Nat) : Nat := shadowKey 8 (0x2004 + 64 * n)
/-- The class that a rate in mV/µs, `num / den`, selects (R441): the largest RATE at or below it, the lowest class of equals. -/
def State.rateClass (s : State) (n : Nat) (num : Int) (den : Nat) : Option Nat :=
  let (lo, hi) := (s.limitPair 5 (0x98 + 32 * n)).getD (1, 0)
  let l := (List.range 16).filter fun c => decide (lo ≤ c) && decide (c ≤ hi) && decide ((s.slewRate c * den : Nat) ≤ 10 * num)
  l.foldl (fun b c => match b with
    | some k => if s.slewRate k < s.slewRate c then some c else b
    | none => some c) none
/-- VOUT_TRANSITION_RATE (R441, R442). -/
def execVoutTransitionRate (x : BusXfer) (s : State) : Host.Outcome State Fault Refusal :=
  s.plain 0x27 x
    (fun b s => s.busWrite 0x27 2 b fun d s =>
      let (num, den) := linear11Value (ofBytes d)
      s.pagedWet hostClassId fun n => s.rateClass n num den)
    fun k s => s.pagedRead 0x27 2 false id (fun n => leBytes 2 (linear11 (s.slewRate (s.hostClass n)) 10)) k id
/-- A LINEAR11 value in tenths, rounded to the nearest, halves away from zero (R436, log entry 12); none below 0. -/
def tenths (w : Nat) : Option Nat :=
  let (num, den) := linear11Value w
  if num < 0 then (if 20 * num.natAbs < den then some 0 else none) else some ((20 * num.toNat + den) / (2 * den))
/-- IOUT_OC_FAULT_LIMIT (R442, R288). -/
def execIoutOcFaultLimit (x : BusXfer) (s : State) : Host.Outcome State Fault Refusal :=
  s.plain 0x46 x
    (fun b s => s.busWrite 0x46 2 b fun d s => s.pagedWet ocpAbsId fun _ => tenths (ofBytes d))
    fun k s => s.pagedRead 0x46 2 false id (fun n => leBytes 2 (linear11 (s.ocpAbs n) 10)) k id

/-! ### Status registers (R447) -/

/-- A paged status byte: read, or bits cleared by a write of 1. -/
def State.pagedStatus (s : State) (code : Nat) (x : BusXfer) (get : State → Nat → BitVec 8)
    (clear : State → Nat → BitVec 8 → State) : Host.Outcome State Fault Refusal :=
  s.plain code x
    (fun b s => s.busWrite code 1 b fun d s => s.pagedWrite (fun _ => true) fun s n => clear s n (d.headD 0))
    fun k s => s.pagedRead code 1 true id (fun n => [get s n]) k id
/-- A device-wide status byte. -/
def State.deviceStatus (s : State) (code : Nat) (x : BusXfer) (get : State → BitVec 8) (clear : State → BitVec 8 → State) :
    Host.Outcome State Fault Refusal :=
  s.plain code x (fun b s => s.busWrite code 1 b fun d s => clear s (d.headD 0)) fun k s => s.busRead code [] [get s] k id

/-- STATUS_BYTE (Table 16.2). -/
def execStatusByte (x : BusXfer) (s : State) : Host.Outcome State Fault Refusal :=
  s.plain 0x78 x noWrite fun k s => s.pagedRead 0x78 1 true id (fun n => leBytes 1 (s.statusWord n)) k id
/-- STATUS_WORD (Table 16.2). -/
def execStatusWord (x : BusXfer) (s : State) : Host.Outcome State Fault Refusal :=
  s.plain 0x79 x noWrite fun k s => s.pagedRead 0x79 2 true id (fun n => leBytes 2 (s.statusWord n)) k id
/-- STATUS_VOUT (Table 16.3). -/
def execStatusVout (x : BusXfer) (s : State) : Host.Outcome State Fault Refusal :=
  s.pagedStatus 0x7A x State.statusVout State.clearVout
/-- STATUS_IOUT (Table 16.3). -/
def execStatusIout (x : BusXfer) (s : State) : Host.Outcome State Fault Refusal :=
  s.pagedStatus 0x7B x State.statusIout State.clearIout
/-- STATUS_INPUT (Table 16.3). -/
def execStatusInput (x : BusXfer) (s : State) : Host.Outcome State Fault Refusal :=
  s.deviceStatus 0x7C x State.statusInput State.clearInput
/-- STATUS_TEMPERATURE (Table 16.3). -/
def execStatusTemperature (x : BusXfer) (s : State) : Host.Outcome State Fault Refusal :=
  s.pagedStatus 0x7D x State.statusTemp State.clearTemp
/-- STATUS_CML (Table 16.3). -/
def execStatusCml (x : BusXfer) (s : State) : Host.Outcome State Fault Refusal :=
  s.deviceStatus 0x7E x (fun s => s.pm.stCml) State.clearCml
/-- STATUS_MFR_SPECIFIC (Table 16.3): every bit is RO, so a write changes none. -/
def execStatusMfrSpecific (x : BusXfer) (s : State) : Host.Outcome State Fault Refusal :=
  s.pagedStatus 0x80 x State.statusMfr fun s _ _ => s

/-! ### Readings (R337, R436, Table 11.6) -/

/-- A device-wide reading, 0x0000 while it is not valid. -/
def State.deviceReading (s : State) (code : Nat) (x : BusXfer) (f : State → Option (Int × Nat)) : Host.Outcome State Fault Refusal :=
  s.readOnly code x fun s => leBytes 2 (match f s with
    | some (num, den) => linear11 num den
    | none => 0)
/-- READ_VIN. -/
def execReadVin (x : BusXfer) (s : State) : Host.Outcome State Fault Refusal :=
  s.deviceReading 0x88 x fun s => s.vinCode.map fun c => (c, 200)
/-- READ_IIN. -/
def execReadIin (x : BusXfer) (s : State) : Host.Outcome State Fault Refusal := s.deviceReading 0x89 x State.iinFrac
/-- READ_PIN. -/
def execReadPin (x : BusXfer) (s : State) : Host.Outcome State Fault Refusal := s.deviceReading 0x97 x State.pinFrac
/-- READ_VOUT (R435). -/
def execReadVout (x : BusXfer) (s : State) : Host.Outcome State Fault Refusal :=
  s.pagedWord 0x8B x fun s n => ((s.voutCode n).getD 0).toNat
/-- The phase that PHASE selects. -/
def State.phaseSel (s : State) : Option Nat := if s.pm.phase == 0xFF then none else some s.pm.phase.toNat
/-- IPH of a phase as Table 7.5 returns it, 0.1 A. -/
def State.iph (s : State) (p : Nat) : Int := signed 16 (field ((s.phaseWords p).getD 1 0).toNat 16 16)
/-- READ_IOUT: the rail's current over the last 8 rounds, or the phase's. -/
def execReadIout (x : BusXfer) (s : State) : Host.Outcome State Fault Refusal :=
  s.pagedWord 0x8C x fun s n => match s.phaseSel with
    | some p => linear11 (s.iph p) 10
    | none => linear11 (s.ioutSum n) (2 ^ 19)
/-- The higher of the two DIE accumulators, 0.0625 °C from −64 °C; none while neither is valid. -/
def State.dieReading (s : State) : Option Int :=
  match s.reading 4, s.reading 5 with
  | some a, some b => some (max a b)
  | some a, none => some a
  | none, b => b
/-- READ_TEMPERATURE_1 as a LINEAR11 word. That of a phase without a valid temperature is not stated (log entry 7). -/
def State.temperature1 (s : State) (n : Nat) : Nat :=
  let hot (l : List Nat) : Nat := linear11 ((l.foldl max 0 : Nat) - 160) 4
  match s.phaseSel with
  | some p =>
    let l := (s.okCells p).filterMap fun c => (s.cell c).validTemp
    if l.isEmpty then (Config.freeFun 10 [(p : Int)]).toNat % 65536 else hot l
  | none =>
    if !(s.cellTemps n).isEmpty then hot (s.cellTemps n)
    else match s.dieReading with
      | some c => linear11 (c - 1024) 16
      | none => 0
/-- READ_TEMPERATURE_1. -/
def execReadTemperature1 (x : BusXfer) (s : State) : Host.Outcome State Fault Refusal := s.pagedWord 0x8D x State.temperature1
/-- READ_POUT. -/
def execReadPout (x : BusXfer) (s : State) : Host.Outcome State Fault Refusal :=
  s.pagedWord 0x96 x fun s n => linear11 (s.poutNum n) (2 ^ 30)

/-! ### Identification (Table 16.1) -/

/-- PMBUS_REVISION. -/
def execPmbusRevision (x : BusXfer) (s : State) : Host.Outcome State Fault Refusal := s.readOnly 0x98 x fun _ => [0x33]
/-- MFR_ID. -/
def execMfrId (x : BusXfer) (s : State) : Host.Outcome State Fault Refusal :=
  s.readOnly 0x99 x fun _ => bytesBlock (ascii ['H', 'O', 'L', 'E', 'T', 'H'])
/-- MFR_MODEL. -/
def execMfrModel (x : BusXfer) (s : State) : Host.Outcome State Fault Refusal :=
  s.readOnly 0x9A x fun _ => bytesBlock (ascii ['E', 'M', '1', '2', '8', '0'])
/-- MFR_REVISION. -/
def execMfrRevision (x : BusXfer) (s : State) : Host.Outcome State Fault Refusal :=
  s.readOnly 0x9B x fun _ => bytesBlock (ascii ['B', '1', '-', '3', '.', '2'])
/-- IC_DEVICE_ID. -/
def execIcDeviceId (x : BusXfer) (s : State) : Host.Outcome State Fault Refusal :=
  s.readOnly 0xAD x fun _ => bytesBlock [0x80, 0x12, 0x00, 0x00]
/-- IC_DEVICE_REV. -/
def execIcDeviceRev (x : BusXfer) (s : State) : Host.Outcome State Fault Refusal :=
  s.readOnly 0xAE x fun _ => bytesBlock (ascii ['B', '1'])

end Sys2Proof.Machine
end

