-- ==== Sys2Proof/Machine/Holeth.lean ====
section
/-! DEFINITION. The Holeth-specific commands D0h to E5h (spec/16, Table 16.4): mailbox posts and takes, the status blocks, the
recorder, trackers, GPIO and the claims table. -/

namespace Sys2Proof.Machine

/-! ### Transactions -/

/-- A read-only block of words; a write of one is not of its format (R419). -/
def State.blockRead (s : State) (code : Nat) (x : BusXfer) (words : State → List Word) (commit : State → State) :
    Host.Outcome State Fault Refusal :=
  s.plain code x (fun _ s => s.invalidData) fun k s => s.busRead code [] (blockOf (words s)) k commit
/-- A read-only block of a rail's words. -/
def State.pagedBlock (s : State) (code n : Nat) (x : BusXfer) (words : State → Nat → List Word) (commit : State → Nat → State) :
    Host.Outcome State Fault Refusal :=
  s.plain code x (fun _ s => s.invalidData) fun k s =>
    s.pagedRead code n false bytesBlock (fun i => wordBytes (words s i)) k fun s => commit s s.pm.page.toNat
/-- A process call (R448): `serve` gives the reply to the written bytes, with the state after taking them and what completing
the reply does; none where they do not match the format, which is answered with a byte count of 0. -/
def State.processCall (s : State) (code : Nat) (x : BusXfer)
    (serve : List Byte → State → Option (List Byte × State × (State → State))) : Host.Outcome State Fault Refusal :=
  let go (b : List Byte) (k : Nat) (s : State) : State :=
    match serve b s with
    | some (data, s, commit) => s.busRead code b data k commit
    | none => s.invalidData.busRead code b [0] k id
  s.transact code fun s => match x with
    | .send _ => s.invalidData
    | .recv k => go [] k s
    | .call b k => go b k s

/-! ### Mailboxes (R405 to R408) -/

/-- Whether a host post may be posted: the LAST_POST result of the first check that fails (Table 14.4). -/
def State.postResult (s : State) (c count : Nat) (d0 : Word) : Nat :=
  if 16 ≤ c || !s.sends .host c then 1
  else if (s.chan c).full then 2
  else if count < 5 then 4
  else if !hdrOk d0 then 3
  else if count != 1 + 4 * hdrLen d0 then 4
  else 0
/-- LAST_POST and LAST_CH; a channel number that no channel has is not stated in LAST_CH (log entry 7). -/
def State.setLastPost (s : State) (result c : Nat) : State :=
  { s with mail := { s.mail with
      lastPost := BitVec.ofNat 4 result
      lastCh := if c < 16 then BitVec.ofNat 4 c else BitVec.ofInt 4 (Config.freeFun 11 [(c : Int)]) } }
/-- The words of a post, then GO. -/
def State.hostPost (s : State) (b : List Byte) : State :=
  let c := (b.getD 0 0).toNat
  let ws := bytesWords (b.drop 1)
  let r := s.postResult c b.length (ws.headD 0)
  let s := s.setLastPost r c
  if r = 0 then (s.updChan c fun x => { x with d := ws ++ x.d.drop ws.length }).post c else s.invalidData
/-- MFR_MBOX_POST (R405): a block write of a channel byte and its words; an empty block names no channel. -/
def execMfrMboxPost (x : BusXfer) (s : State) : Host.Outcome State Fault Refusal :=
  s.plain 0xD0 x
    (fun b s => s.busWrite 0xD0 (1 + (b.headD 0).toNat) b fun d s =>
      if d.length ≤ 1 then { s with mail := { s.mail with lastPost := 4 } }.invalidData else s.hostPost (d.drop 1))
    fun k s => s.openRead 0xD0 k
/-- MFR_MBOX_TAKE (R406): an incomplete reply that clocked D0 counts as a read of the message (R394). -/
def execMfrMboxTake (x : BusXfer) (s : State) : Host.Outcome State Fault Refusal :=
  s.processCall 0xD1 x fun b s =>
    let c := (b.getD 1 0).toNat
    if b.length != 2 || b.headD 0 != 1 || 16 ≤ c then none
    else
      let m := s.chan c
      if m.full && s.receives .host c then
        let clocked := match x with
          | .call _ k => k
          | _ => 0
        let s := s.when (decide (9 ≤ clocked)) fun s => s.updChan c fun x => { x with read := true }
        some (blockOf (m.control :: m.d.take (hdrLen (m.d.headD 0))), s, fun s => (s.orphanRecord c).takeFrom c)
      else some (blockOf [m.control], s, id)
/-- MFR_MBOX_STATUS (R407). -/
def execMfrMboxStatus (x : BusXfer) (s : State) : Host.Outcome State Fault Refusal := s.blockRead 0xD2 x State.mboxWords id

/-- The actions of MFR_MBOX_CONTROL (R408) on a channel. -/
def State.mboxAction (s : State) (action c : Nat) : State :=
  if action = 1 then s.advanceEpoch .host
  else if action = 2 && c < 16 && s.sends .host c then s.recallOn c
  else if action = 3 && c < 16 then { s with mail := { s.mail with selected := BitVec.ofNat 4 c } }
  else s.invalidData
/-- A transaction of D3h: a write word of the channel byte and the ACTION, or a read of the selected control register. -/
def State.mboxControl (s : State) (x : BusXfer) : Host.Outcome State Fault Refusal :=
  s.plain 0xD3 x
    (fun b s => s.busWrite 0xD3 2 b fun d s => s.mboxAction (d.getD 1 0).toNat (d.getD 0 0).toNat)
    fun k s => s.busRead 0xD3 [] (blockOf [(s.chan s.mail.selected.toNat).control]) k id
/-- EPOCH_BUMP (R399, R408). -/
def execEpochBump (x : BusXfer) (s : State) : Host.Outcome State Fault Refusal := s.mboxControl x
/-- RECALL of a host-sent channel (R394, R408). -/
def execMboxControlRecall (x : BusXfer) (s : State) : Host.Outcome State Fault Refusal := s.mboxControl x
/-- SELECT (R408). -/
def execSelect (x : BusXfer) (s : State) : Host.Outcome State Fault Refusal := s.mboxControl x
/-- MFR_MBOX_CONTROL read (R408). -/
def execMfrMboxControlRead (x : BusXfer) (s : State) : Host.Outcome State Fault Refusal := s.mboxControl x

/-! ### Status blocks -/

/-- MFR_RAIL_STATE (R154). -/
def execMfrRailState (x : BusXfer) (s : State) : Host.Outcome State Fault Refusal :=
  s.pagedBlock 0xD4 4 x (fun s n => [s.railWord n]) fun s _ => s
/-- MFR_PHASE_STATE (R217, R434): of the phase that PHASE selects; without one every data byte is 0xFF. -/
def execMfrPhaseState (x : BusXfer) (s : State) : Host.Outcome State Fault Refusal :=
  s.plain 0xD5 x (fun _ s => s.invalidData) fun k s => match s.phaseSel with
    | some p => s.busRead 0xD5 [] (blockOf (s.phaseWords p)) k id
    | none => s.invalidData.busRead 0xD5 [] (bytesBlock (List.replicate 8 0xFF)) k id
/-- MFR_CELL_SELECT (R250). -/
def execMfrCellSelect (x : BusXfer) (s : State) : Host.Outcome State Fault Refusal :=
  s.plain 0xD6 x
    (fun b s => s.busWrite 0xD6 2 b fun d s =>
      if ofBytes d < 1024 then { s with pm := { s.pm with cellSelect := BitVec.ofNat 16 (ofBytes d) } } else s.invalidData)
    fun k s => s.busRead 0xD6 [] (leBytes 2 s.pm.cellSelect.toNat) k id
/-- MFR_CELL_STATUS (R250): a complete read clears RETRIES_OK. -/
def execMfrCellStatus (x : BusXfer) (s : State) : Host.Outcome State Fault Refusal :=
  s.blockRead 0xD7 x (fun s => s.cellWords s.pm.cellSelect.toNat) fun s => s.clearCell s.pm.cellSelect.toNat
/-- MFR_EVT_HEAD (R385). -/
def execMfrEvtHead (x : BusXfer) (s : State) : Host.Outcome State Fault Refusal := s.blockRead 0xD8 x State.evtHead id
/-- MFR_EVT_READ (R386, R388): the record of a SEQ, or of the cursor, which moves once the reply is complete. -/
def execMfrEvtRead (x : BusXfer) (s : State) : Host.Outcome State Fault Refusal :=
  s.processCall 0xD9 x fun b s =>
    if b.length != 5 || b.headD 0 != 4 then none
    else
      let q : Word := BitVec.ofNat 32 (ofBytes (b.drop 1))
      if q == 0xFFFFFFFF then some (blockOf s.readCursor.words, s, State.moveCursor)
      else some (blockOf (s.sketch.read q).words, s, id)
/-- MFR_WDT_COUNTS (R361). -/
def execMfrWdtCounts (x : BusXfer) (s : State) : Host.Outcome State Fault Refusal := s.blockRead 0xDA x State.wdtWords id
/-- MFR_PALETTE_STATE (R116): a complete read clears IGNORED. -/
def execMfrPaletteState (x : BusXfer) (s : State) : Host.Outcome State Fault Refusal :=
  s.blockRead 0xDB x (fun s => (List.range 8).map s.portWord) State.clearPorts
/-- MFR_GUARANTEE_STATE (R316). -/
def execMfrGuaranteeState (x : BusXfer) (s : State) : Host.Outcome State Fault Refusal := s.blockRead 0xDC x State.guaranteeWords id
/-- Clear a tracker (R329, R331); a sample of the same LOOP cycle is the new period's first. -/
def State.clearTracker (s : State) (t : Nat) : State :=
  let next (x : Track) : Track := if s.sameCycle x.lastAt then Track.reset.take x.last s.clock.tick else Track.reset
  { s with telem := { s.telem with tracks := s.telem.tracks.modify t next } }
/-- MFR_TELEM_MINMAX (R449, R330, R331): no sample falls between the snapshot and the commit of one transaction. -/
def execMfrTelemMinmax (x : BusXfer) (s : State) : Host.Outcome State Fault Refusal :=
  s.processCall 0xDD x fun b s =>
    let t := (b.getD 0 0).toNat
    let c := b.getD 1 0
    if b.length != 2 || 64 ≤ t || 2 ≤ c.toNat then none
    else if s.trkCh t = 0x7F then some (bytesBlock (List.replicate 8 0), s.invalidData, id)
    else if c == 1 && s.owner 3 t != 0x21 && s.owner 3 t != 3 then
      some (blockOf (s.trackWords t), (s.conflict 3 t 1 (s.owner 3 t)).invalidData, id)
    else some (blockOf (s.trackWords t), s, fun s => s.when (c == 1) fun s => s.clearTracker t)
/-- MFR_DUMP_INFO (R365). -/
def execMfrDumpInfo (x : BusXfer) (s : State) : Host.Outcome State Fault Refusal := s.blockRead 0xDE x State.dumpWords id
/-- MFR_PRIMING_STATUS (R56). -/
def execMfrPrimingStatus (x : BusXfer) (s : State) : Host.Outcome State Fault Refusal := s.blockRead 0xDF x (fun s => [s.primingWord]) id
/-- MFR_SECURITY_STATE (R453). -/
def execMfrSecurityState (x : BusXfer) (s : State) : Host.Outcome State Fault Refusal := s.blockRead 0xE0 x State.securityWords id
/-- MFR_LOOP_STATE (R181): a complete read clears SAT and MAX_CYC. -/
def execMfrLoopState (x : BusXfer) (s : State) : Host.Outcome State Fault Refusal :=
  s.pagedBlock 0xE3 8 x State.loopWords State.clearLoop
/-- MFR_MODEL_STATE (R155). -/
def execMfrModelState (x : BusXfer) (s : State) : Host.Outcome State Fault Refusal :=
  s.pagedBlock 0xE4 8 x State.modelWords fun s _ => s
/-- MFR_THROTTLE_STATE (R315). -/
def execMfrThrottleState (x : BusXfer) (s : State) : Host.Outcome State Fault Refusal :=
  s.pagedBlock 0xE5 4 x (fun s n => [s.throttleWord n]) fun s _ => s

/-! ### GPIO and claims (R450, R451) -/

/-- A ball is claimed as GPIO by HOST. -/
def State.hostGpio (s : State) (b : Nat) : Bool := s.owner 1 b == 1 && s.mfpFunc b == 6
/-- The class that the image sets for a GPIO ball: 0 input, 1 push-pull output, 2 open drain. Table 2.7 says that the image sets
it, and no table gives its field (log entry 7). -/
def gpioClass (b : Nat) : Nat := (Config.freeFun 12 [(b : Int)] % 3).toNat
/-- Drive one ball to a value; an open-drain ball with value 1 is released. -/
def Pins.drive (p : Pins) (b : Nat) (v : Bool) : Pins :=
  let m : BitVec 32 := BitVec.ofNat 32 (2 ^ b)
  { p with mfpDrive := if v then p.mfpDrive ||| m else p.mfpDrive &&& ~~~m
           mfpDriven := if v && gpioClass b == 2 then p.mfpDriven &&& ~~~m else p.mfpDriven ||| m }
/-- SYNC_OUT of a rail: a 50 % square wave that rises at the rail's period start (R200); not driven where no rail is named. -/
def State.syncOutLevel (s : State) (n : Nat) : Option Bool :=
  if n == 0xFF then none
  else
    let q := (s.rail n).pol
    match q.periodAt with
    | some t => some (decide ((s.since t * 2 * s.fsw n * 10000 : Nat) < 800000 * (10000 + q.periodCorr)))
    | none => some false
/-- The level of a ball, where the EM1280 itself sets it: driven, or pulled low on an open-drain ball; none: the board's. -/
def State.ownLevel (s : State) (b : Nat) : Option Bool :=
  match s.claimOf 1 b with
  | none => some false
  | some e =>
    let f := field e 0 8
    if !s.primed then some false
    else if f == 6 then
      (if s.pins.mfpDriven.getLsbD b then some (s.pins.mfpDrive.getLsbD b) else none)
    else if f == 3 then (if s.vrHotLow then some false else none)
    else if f == 2 then s.syncOutLevel (if b == 2 then s.synco2 else s.synco3)
    else if f == 4 then some (s.timer ((b - 8) % 8)).out
    else if f == 5 then (if (s.rail (field e 8 8 - 16)).prot.pg then none else some false)
    else none
/-- Levels of the balls from `b` on, `n` of them, as a mask; a level that the board gives is a free value. -/
def State.levels (s : State) : Nat → Nat → Nat × State
  | _, 0 => (0, s)
  | b, n + 1 =>
    let (v, s) := match s.ownLevel b with
      | some v => (v, s)
      | none => let (f, s) := s.freeNat; (f % 2 == 1, s)
    let (m, s) := s.levels (b + 1) n
    (m + b2n v * 2 ^ b, s)
/-- MFR_GPIO (R450). -/
def execMfrGpio (x : BusXfer) (s : State) : Host.Outcome State Fault Refusal :=
  s.plain 0xE1 x
    (fun b s => s.busWrite 0xE1 9 b fun d s =>
      let mask := ofBytes ((d.drop 1).take 4)
      let value := ofBytes (d.drop 5)
      let l := indices 32 fun i => bit mask i
      if d.headD 0 != 8 then s.invalidData
      else match l.find? fun i => !(s.hostGpio i && gpioClass i != 0) with
        | some i => (s.conflict 1 i 1 (s.owner 1 i)).invalidData
        | none => { s with pins := l.foldl (fun p i => p.drive i (bit value i)) s.pins })
    fun k s =>
      let (m, s) := s.levels 0 32
      s.busRead 0xE1 [] (blockOf [BitVec.ofNat 32 m, BitVec.ofNat 32 (maskOf 32 s.hostGpio)]) k id
/-- MFR_RESOURCE_CLAIMS (R451). -/
def execMfrResourceClaims (x : BusXfer) (s : State) : Host.Outcome State Fault Refusal :=
  s.processCall 0xE2 x fun b s =>
    let first := (b.headD 0).toNat
    if b.length != 1 then none
    else
      let n := s.claimCount
      let k := min 62 (n - first)
      some (blockOf (word [fld 16 8 first, fld 0 16 n] :: (List.range k).map fun i => BitVec.ofNat 32 (s.claim (first + i))), s, id)

end Sys2Proof.Machine
end

