-- ==== Sys2Proof/Machine/Console.lean ====
section
/-! DEFINITION. The service console (spec/18): its read-only commands, `mbx loop`, and the sessions of R467 to R470. -/

namespace Sys2Proof.Machine

/-! ### Lines (R475) -/

/-- The console works: the HM serves it, outside priming; in standby the line wakes the EM1280. -/
def State.conUp (s : State) : Bool :=
  !s.boot.held && (s.primed || s.blank) && !s.hmAway && (s.clock.corePresent || (s.clock.standby && s.clock.appPresent))
/-- A complete line: discarded while the console is down or a command waits, else carried out. -/
def State.line (s : State) (f : State → State) : Host.Outcome State Fault Refusal :=
  if s.conUp && s.con.waiting.isNone then complete (f s.busWake) else complete s
/-- A command that prints and changes nothing else: its lines, then OK. -/
def State.show (s : State) (f : State → List ConLine) : Host.Outcome State Fault Refusal := s.line fun s => s.print (f s ++ [.ok])
/-- A command with an argument that must lie below a bound (ERR 2). -/
def State.showBelow (s : State) (k bound : Nat) (f : State → List ConLine) : Host.Outcome State Fault Refusal :=
  s.line fun s => s.print (if k < bound then f s ++ [.ok] else [.err 2])
/-- The index given, or every index. -/
def oneOrAll (k : Option Nat) (n : Nat) : List Nat := match k with
  | some i => [i]
  | none => List.range n
/-- The same with an optional argument. -/
def State.showSome (s : State) (k : Option Nat) (bound : Nat) (f : State → Nat → ConLine) : Host.Outcome State Fault Refusal :=
  s.line fun s => s.print (if k.getD 0 < bound then (oneOrAll k bound).map (f s) ++ [.ok] else [.err 2])
/-- A command that is BUSY in a state of Table 15.5 (Table 18.2). -/
def State.lineUnless (s : State) (busy : State → Bool) (f : State → State) : Host.Outcome State Fault Refusal :=
  s.line fun s => if busy s then s.print [.err 4] else f s
/-- The event store is being erased. -/
def State.eraseBusy (s : State) : Bool := s.work.erasing.isSome
/-- A Pentimento commit is in progress. -/
def State.dumpBusy (s : State) : Bool := s.work.dumping
/-- An image is being activated. -/
def State.activateBusy (s : State) : Bool := s.work.activating.isSome
/-- One number as a line. -/
def numLine (x : Nat) : ConLine := .words [BitVec.ofNat 32 x]

/-- The command words of Tables 18.3 and 18.4. -/
def commandWords : List (List Char) :=
  [['h', 'e', 'l', 'p'],
   ['v', 'e', 'r'],
   ['p', 'r', 'i', 'm', 'e'],
   ['s', 't', 'a', 't', 'u', 's'],
   ['r', 'a', 'i', 'l'],
   ['s', 'e', 'n', 's', 'e'],
   ['l', 'o', 'o', 'p'],
   ['m', 'o', 'd', 'e', 'l'],
   ['p', 'a', 'l', 'e', 't', 't', 'e'],
   ['p', 'h', 'a', 's', 'e'],
   ['c', 'e', 'l', 'l'],
   ['l', 'i', 'n', 'k'],
   ['c', 'm', 'p'],
   ['b', 'u', 'r', 's', 't'],
   ['a', 'd', 'c'],
   ['t', 'e', 'l', 'e', 'm'],
   ['t', 'e', 'm', 'p'],
   ['w', 'd', 't'],
   ['d', 'u', 'm', 'p'],
   ['e', 'v', 't'],
   ['b', 'u', 's'],
   ['s', 'e', 'c'],
   ['c', 'l', 'a', 'i', 'm', 's'],
   ['e', 'c', 'c'],
   ['f', 'l', 'a', 's', 'h'],
   ['m', 'b', 'x'],
   ['a', 'u', 't', 'h'],
   ['b', 'y', 'e'],
   ['a', 't', 'b'],
   ['l', 'a', 'n', 'e'],
   ['r', 'e', 's', 't', 'o', 'r', 'e'],
   ['r', 'e', 's', 'u', 'm', 'e'],
   ['w', 'e', 't']]

/-- Names of the event codes of classes 0x0 and 0x1 (Table 13.7). -/
def eventNames0 : List (Nat × List Char) :=
  [
   (0x0001, ['P', 'O', 'W', 'E', 'R', '_', 'O', 'N']),
   (0x0002, ['P', 'R', 'I', 'M', 'I', 'N', 'G', '_', 'D', 'O', 'N', 'E']),
   (0x0003, ['I', 'M', 'A', 'G', 'E', '_', 'R', 'E', 'J', 'E', 'C', 'T', 'E', 'D']),
   (0x1001, ['R', 'A', 'I', 'L', '_', 'E', 'N', 'A', 'B', 'L', 'E', 'D']),
   (0x1010, ['R', 'A', 'I', 'L', '_', 'O', 'V', '_', 'T', 'R', 'I', 'P']),
   (0x1011, ['R', 'A', 'I', 'L', '_', 'U', 'V']),
   (0x1020, ['R', 'A', 'I', 'L', '_', 'O', 'C', 'P', '_', 'S', 'L', 'O', 'W']),
   (0x1030, ['T', 'H', 'R', 'O', 'T', 'T', 'L', 'E', '_', 'A', 'S', 'S', 'E', 'R', 'T', 'E', 'D']),
   (0x1031, ['G', 'U', 'A', 'R', 'A', 'N', 'T', 'E', 'E', '_', 'Y', 'I', 'E', 'L', 'D', 'E', 'D']),
   (0x1040, ['I', 'N', 'P', 'U', 'T', '_', 'U', 'V']),
   (0x1041, ['I', 'N', 'P', 'U', 'T', '_', 'O', 'V']),
   (0x1042, ['I', 'N', 'P', 'U', 'T', '_', 'S', 'E', 'N', 'S', 'E', '_', 'O', 'U', 'T', 'V', 'O', 'T', 'E', 'D']),
   (0x1050, ['T', 'H', 'E', 'R', 'M', 'A', 'L', '_', 'W', 'A', 'R', 'N']),
   (0x1051, ['T', 'H', 'E', 'R', 'M', 'A', 'L', '_', 'T', 'R', 'I', 'P'])]

/-- Names of the event codes of classes 0x2 to 0x5 (Table 13.7). -/
def eventNames2 : List (Nat × List Char) :=
  [
   (0x2010, ['P', 'H', 'A', 'S', 'E', '_', 'O', 'P', 'E', 'N']),
   (0x2011, ['P', 'H', 'A', 'S', 'E', '_', 'S', 'E', 'N', 'S', 'E', '_', 'L', 'O', 'S', 'T']),
   (0x2012, ['P', 'H', 'A', 'S', 'E', '_', 'R', 'E', 'T', 'I', 'R', 'E', 'D']),
   (0x2013, ['P', 'H', 'A', 'S', 'E', '_', 'R', 'E', 'T', 'R', 'Y', '_', 'O', 'K']),
   (0x3001, ['C', 'E', 'L', 'L', '_', 'N', 'E', 'W']),
   (0x3010, ['C', 'E', 'L', 'L', '_', 'O', 'C', 'P']),
   (0x3011, ['C', 'E', 'L', 'L', '_', 'O', 'T']),
   (0x3020, ['C', 'E', 'L', 'L', '_', 'M', 'I', 'S', 'S', 'I', 'N', 'G']),
   (0x4001, ['L', 'I', 'N', 'K', '_', 'R', 'E', 'T', 'R', 'Y', '_', 'O', 'K']),
   (0x4002, ['L', 'I', 'N', 'K', '_', 'L', 'A', 'N', 'E', '_', 'F', 'A', 'U', 'L', 'T']),
   (0x5001, ['L', 'E', '_', 'O', 'V', 'E', 'R', 'R', 'U', 'N']),
   (0x5002, ['L', 'E', '_', 'B', 'A', 'C', 'K', 'S', 'T', 'O', 'P']),
   (0x5010, ['M', 'O', 'D', 'E', 'L', '_', 'M', 'I', 'S', 'M', 'A', 'T', 'C', 'H']),
   (0x5011, ['C', 'O', 'U', 'T', '_', 'D', 'E', 'G', 'R', 'A', 'D', 'E', 'D']),
   (0x5012, ['S', 'E', 'N', 'S', 'E', '_', 'O', 'U', 'T', 'V', 'O', 'T', 'E', 'D'])]

/-- Names of the event codes of classes 0x6 to 0x8 (Table 13.7, Table 12.10). -/
def eventNames6 : List (Nat × List Char) :=
  [
   (0x6001, ['C', 'M', 'P', '_', 'S', 'E', 'L', 'F', 'T', 'E', 'S', 'T', '_', 'F', 'A', 'I', 'L']),
   (0x6002, ['R', 'E', 'S', 'O', 'U', 'R', 'C', 'E', '_', 'C', 'O', 'N', 'F', 'L', 'I', 'C', 'T']),
   (0x7001, ['A', 'D', 'C', '_', 'P', 'A', 'I', 'R', '_', 'M', 'I', 'S', 'M', 'A', 'T', 'C', 'H']),
   (0x7002, ['T', 'E', 'L', 'E', 'M', '_', 'X', 'C', 'H', 'E', 'C', 'K']),
   (0x8001, ['W', 'D', 'T', '_', 'E', 'X', 'P', 'I', 'R', 'Y']),
   (0x8002, ['W', 'D', 'T', '_', 'D', 'O', 'U', 'B', 'L', 'E', '_', 'C', 'H', 'E', 'C', 'K', 'I', 'N']),
   (0x8003, ['W', 'D', 'T', '_', 'S', 'E', 'R', 'V', 'E', '_', 'R', 'E', 'F', 'U', 'S', 'E', 'D']),
   (0x8004, ['L', 'O', 'C', 'K', 'S', 'T', 'E', 'P', '_', 'M', 'I', 'S', 'M', 'A', 'T', 'C', 'H']),
   (0x8005, ['A', 'P', 'P', 'R', 'E', 'N', 'T', 'I', 'C', 'E', '_', 'T', 'A', 'K', 'E', 'O', 'V', 'E', 'R']),
   (0x8006, ['C', 'L', 'O', 'C', 'K', '_', 'L', 'O', 'S', 'S']),
   (0x8007, ['S', 'A', 'F', 'E', '_', 'S', 'T', 'A', 'T', 'E']),
   (0x8008, ['P', 'E', 'N', 'T', 'I', 'M', 'E', 'N', 'T', 'O', '_', 'W', 'R', 'I', 'T', 'T', 'E', 'N']),
   (0x8009, ['A', 'P', 'P', 'R', 'E', 'N', 'T', 'I', 'C', 'E', '_', 'H', 'A', 'N', 'D', 'B', 'A', 'C', 'K']),
   (0x800A, ['A', 'P', 'P', 'R', 'E', 'N', 'T', 'I', 'C', 'E', '_', 'D', 'I', 'S', 'A', 'B', 'L', 'E', 'D']),
   (0x800B, ['R', 'E', 'S', 'U', 'M', 'E', 'D']),
   (0x800C, ['P', 'E', 'N', 'T', 'I', 'M', 'E', 'N', 'T', 'O', '_', 'R', 'E', 'L', 'E', 'A', 'S', 'E', 'D']),
   (0x800D, ['W', 'D', 'T', '_', 'D', 'I', 'S', 'A', 'B', 'L', 'E', 'D'])]

/-- Names of the event codes of classes 0x9 to 0xC (Table 13.6). -/
def eventNames9 : List (Nat × List Char) :=
  [
   (0x9001, ['B', 'U', 'S', '_', 'E', 'R', 'R', 'O', 'R']),
   (0x9002, ['M', 'B', 'X', '_', 'S', 'T', 'A', 'L', 'E']),
   (0x9003, ['M', 'B', 'X', '_', 'C', 'R', 'O', 'S', 'S', '_', 'W', 'A', 'I', 'T']),
   (0x9004, ['M', 'B', 'X', '_', 'O', 'R', 'P', 'H', 'A', 'N']),
   (0xA001, ['A', 'U', 'T', 'H', '_', 'F', 'A', 'I', 'L']),
   (0xA002, ['A', 'T', 'T', 'E', 'S', 'T']),
   (0xA003, ['R', 'O', 'L', 'L', 'B', 'A', 'C', 'K', '_', 'R', 'E', 'F', 'U', 'S', 'E', 'D']),
   (0xA004, ['O', 'W', 'N', 'E', 'R', '_', 'S', 'E', 'T']),
   (0xA005, ['I', 'M', 'A', 'G', 'E', '_', 'A', 'C', 'T', 'I', 'V', 'A', 'T', 'E', 'D']),
   (0xB001, ['S', 'V', 'C', '_', 'S', 'E', 'S', 'S', 'I', 'O', 'N']),
   (0xB002, ['S', 'V', 'C', '_', 'A', 'C', 'T', 'I', 'O', 'N']),
   (0xC001, ['L', 'O', 'G', '_', 'C', 'L', 'E', 'A', 'R', 'E', 'D']),
   (0xC002, ['R', 'A', 'T', 'E', '_', 'L', 'I', 'M', 'I', 'T', 'E', 'D']),
   (0xC003, ['S', 'T', 'A', 'G', 'I', 'N', 'G', '_', 'O', 'V', 'E', 'R', 'F', 'L', 'O', 'W'])]

/-- Names of the FLAGS bits, from bit 0 (Table 13.2). -/
def flagNames : List (List Char) :=
  [['O', 'P', 'E', 'N'],
   ['R', 'E', 'P', 'E', 'A', 'T', 'E', 'D'],
   ['G', 'O', 'N', 'E'],
   ['R', 'A', 'T', 'E', '_', 'S', 'U', 'M', 'M', 'A', 'R', 'Y'],
   ['O', 'V', 'E', 'R', 'F', 'L', 'O', 'W'],
   ['D', 'E', 'F', 'E', 'R', 'R', 'E', 'D'],
   ['S', 'T', 'A', 'G', 'E', 'D']]

/-- The name of an event code. A code of class 0xF has no disclosed name; its number stands for it (log entry 13). -/
def eventName (c : Nat) : List Byte :=
  match (eventNames0 ++ eventNames2 ++ eventNames6 ++ eventNames9).find? (·.1 == c) with
  | some x => ascii x.2
  | none => (ascii ['0', 'x']) ++ hexText 4 c
/-- Text with a space before it. -/
def sp (l : List Byte) : List Byte := 0x20 :: l
/-- The names of the set FLAGS, `-` when none is; several are set apart by commas (log entry 13). -/
def flagText (f : Nat) : List Byte :=
  match (flagNames.zipIdx.filter fun x => bit f x.2).map (·.1) with
  | [] => (ascii ['-'])
  | a :: l => ascii a ++ l.flatMap fun x => 0x2C :: ascii x
/-- Six decimal digits. -/
def sixDigits (x : Nat) : List Byte := ((List.range 6).map fun i => BitVec.ofNat 8 (48 + x / 10 ^ i % 10)).reverse
/-- Decimal digits of a number of any size. -/
def decLong (x : Nat) : List Byte :=
  if x < 10000000000 then decText x
  else decText (x / 10000000000) ++ ((List.range 10).map fun i => BitVec.ofNat 8 (48 + x / 10 ^ i % 10)).reverse
/-- A record as `evt` prints it (R487). -/
def Rec.text (r : Rec) : List Byte :=
  let head := (ascii ['S', 'E', 'Q', ' ']) ++ decText r.seq.toNat
  if r.flags.toNat == 4 && r.code == 0 then
    head ++ (ascii [' ', 'G', 'O', 'N', 'E', ' ']) ++ (if r.p0 == 0 then (ascii ['O', 'V', 'E', 'R', 'W', 'R', 'I', 'T', 'T', 'E', 'N']) else if r.p0 == 1 then (ascii ['T', 'O', 'R', 'N']) else (ascii ['N', 'O', 'T', '_', 'Y', 'E', 'T']))
  else
    head ++ (ascii [' ', 'P', 'C', ' ']) ++ decText r.powerCycle.toNat ++ (ascii [' ', 'T', ' ']) ++ decLong (r.time.toNat / 1000000) ++ [0x2E] ++ sixDigits (r.time.toNat % 1000000)
      ++ sp (eventName r.code.toNat) ++ (ascii [' ', 'S', 'R', 'C', ' ']) ++ decText r.src.toNat ++ (ascii [' ', 'P', '0', ' ', '0', 'x']) ++ hexText 8 r.p0.toNat
      ++ (ascii [' ', 'P', '1', ' ', '0', 'x']) ++ hexText 8 r.p1.toNat ++ (ascii [' ', 'R', 'E', 'P', ' ']) ++ decText r.rep.toNat ++ (ascii [' ', 'F', 'L', ' ']) ++ flagText r.flags.toNat

/-! ### Read-only commands (Table 18.3) -/

/-- `help`. -/
def execSvcHelp (s : State) : Host.Outcome State Fault Refusal := s.show fun _ => commandWords.map fun l => .text (ascii l)
/-- `ver`: part, silicon revision, firmware, IMAGE_VERSION, IMAGE_NAME, BOARD_ID, BOARD_REV and SERIAL (Table 3.13). -/
def execSvcVer (s : State) : Host.Outcome State Fault Refusal :=
  s.show fun s =>
    [.text (ascii ['E', 'M', '1', '2', '8', '0']), .text (ascii ['B', '1']), .text (ascii ['3', '.', '2']), .words [s.boot.imageVersion],
     .text ((sgets 0 s.shadow (shadowKey 1 8) 32).takeWhile (· != 0)), numLine (s.cfgWord 1 0x30), numLine (s.cfgField 1 0x34 16 16),
     .text (hexText 16 s.fuses.serial.toNat)]
/-- `prime`. -/
def execSvcPrime (s : State) : Host.Outcome State Fault Refusal := s.show fun s => [.words [s.primingWord]]
/-- STATUS_WORD and the status bytes of a page. -/
def State.statusLine (s : State) (n : Nat) : ConLine :=
  .words [BitVec.ofNat 32 (s.statusWord n), (s.statusVout n).setWidth 32, (s.statusIout n).setWidth 32, s.statusInput.setWidth 32,
    (s.statusTemp n).setWidth 32, s.pm.stCml.setWidth 32, (s.statusMfr n).setWidth 32]
/-- `status [page]`. -/
def execSvcStatus (page : Option Nat) (s : State) : Host.Outcome State Fault Refusal := s.showSome page 16 State.statusLine
/-- `rail n`. -/
def execSvcRail (n : Nat) (s : State) : Host.Outcome State Fault Refusal := s.showBelow n 16 fun s => [.words [s.railWord n]]
/-- `sense n`: the vote's state, both codes and VMODEL. -/
def execSvcSense (n : Nat) (s : State) : Host.Outcome State Fault Refusal :=
  s.showBelow n 16 fun s =>
    let x := (s.rail n).sense
    [.words [s.railWord n, BitVec.ofInt 32 x.cA, BitVec.ofInt 32 x.cB, (s.modelWords n).headD 0]]
/-- `loop n`. -/
def execSvcLoop (n : Nat) (s : State) : Host.Outcome State Fault Refusal := s.showBelow n 16 fun s => [.words (s.loopWords n)]
/-- `model n`. -/
def execSvcModel (n : Nat) (s : State) : Host.Outcome State Fault Refusal := s.showBelow n 16 fun s => [.words (s.modelWords n)]
/-- `palette p`. -/
def execSvcPalette (p : Nat) (s : State) : Host.Outcome State Fault Refusal := s.showBelow p 8 fun s => [.words [s.portWord p]]
/-- `phase a [b]`. -/
def execSvcPhase (a : Nat) (b : Option Nat) (s : State) : Host.Outcome State Fault Refusal :=
  s.line fun s =>
    let b := b.getD a
    if a ≤ b && b < 128 then s.print ((List.range' a (b + 1 - a)).map (fun p => .words (s.phaseWords p)) ++ [.ok])
    else s.print [.err 2]
/-- `cell c`. -/
def execSvcCell (c : Nat) (s : State) : Host.Outcome State Fault Refusal := s.showBelow c 1024 fun s => [.words (s.cellWords c)]
/-- `link n`: a standing LINK_LANE_FAULT, the SILENT cells, the FFLTn_N level and the last cause. -/
def execSvcLink (n : Nat) (s : State) : Host.Outcome State Fault Refusal :=
  s.showBelow n 16 fun s =>
    [.words [BitVec.ofNat 32 (b2n (s.linkFault n)), BitVec.ofNat 32 ((linkCells n).countP fun c => (s.cell c).state == .silent),
      BitVec.ofNat 32 (b2n !(s.link n).ffltLow), BitVec.ofNat 32 (s.link n).lastCause]]
/-- `cmp [m]`. -/
def execSvcCmp (m : Option Nat) (s : State) : Host.Outcome State Fault Refusal := s.showSome m 76 fun s m => .words [s.compWord m]
/-- `burst [n]`. -/
def execSvcBurst (n : Option Nat) (s : State) : Host.Outcome State Fault Refusal := s.showSome n 16 fun s n => .words [s.burstWord n]
/-- `adc`. -/
def execSvcAdc (s : State) : Host.Outcome State Fault Refusal := s.show fun s => [.words ((List.range 4).map s.pairWord)]
/-- An accumulator's result: VALID, AGE and the code (R328). -/
def Accum.word (x : Accum) : Word := Sys2Proof.Machine.word [flg 31 x.valid, fld 16 15 (min 32767 x.age), fld 0 16 (toBits 16 x.result)]
/-- `telem`: the accumulators, then the trackers. -/
def execSvcTelem (s : State) : Host.Outcome State Fault Refusal :=
  s.show fun s => [.words (s.telem.accs.map fun x => (s.asRead x).word), .words ((List.range 64).flatMap s.trackWords)]
/-- `temp`: TSNS0 to TSNS3, then DIE0 and DIE1, each from its accumulator (R324). -/
def execSvcTemp (s : State) : Host.Outcome State Fault Refusal :=
  s.show fun s => [.words ([0x10, 0x11, 0x12, 0x13].map fun c => BitVec.ofInt 32 ((s.reading c).getD 0)),
    .words ([4, 5].map fun c => BitVec.ofInt 32 ((s.reading c).getD 0))]
/-- `wdt`. -/
def execSvcWdt (s : State) : Host.Outcome State Fault Refusal := s.show fun s => [.words s.wdtWords]
/-- `dump` (R488): the header, Table 12.9 word 0 and the two core blocks. -/
def execSvcDump (s : State) : Host.Outcome State Fault Refusal :=
  s.lineUnless State.dumpBusy fun s => s.print ((
    if s.dump.valid then
      [.words (s.dump.slot.take 16), .words (s.dumpWords.take 1), .words ((s.dump.slot.drop 16).take 128), .words ((s.dump.slot.drop 144).take 128)]
    else if s.dump.full then [.text (ascii ['I', 'N', 'V', 'A', 'L', 'I', 'D'])]
    else [.text (ascii ['N', 'O', ' ', 'D', 'U', 'M', 'P'])]) ++ [.ok])
/-- `dump w a n`. -/
def execSvcDumpWords (a n : Nat) (s : State) : Host.Outcome State Fault Refusal :=
  s.lineUnless State.dumpBusy fun s =>
    if 64 < n || 4096 < a + n then s.print [.err 2]
    else s.print [if s.dump.full then .words ((s.dump.slot.drop a).take n) else .text (ascii ['N', 'O', ' ', 'D', 'U', 'M', 'P']), .ok]
/-- `evt`. -/
def execSvcEvt (s : State) : Host.Outcome State Fault Refusal := s.show fun s => [.words s.evtHead]
/-- `evt a [b]` (R487): 64 lines at most. CURSOR does not move. -/
def execSvcEvtRange (a : Nat) (b : Option Nat) (s : State) : Host.Outcome State Fault Refusal :=
  s.lineUnless State.eraseBusy fun s =>
    let b := b.getD a
    if a ≤ b && b < 2 ^ 32 then
      s.print ((List.range' a (min 64 (b + 1 - a))).map (fun q => .text (s.sketch.read (BitVec.ofNat 32 q)).text) ++ [.ok])
    else s.print [.err 2]
/-- `bus` (R431). -/
def execSvcBus (s : State) : Host.Outcome State Fault Refusal :=
  s.show fun s => [.words [BitVec.ofNat 32 s.bus.address.toNat, BitVec.ofNat 32 (b2n s.bus.alert), BitVec.ofNat 32 (b2n (s.dest 72)),
    BitVec.ofNat 32 s.bus.abandoned]]
/-- `sec`. -/
def execSvcSec (s : State) : Host.Outcome State Fault Refusal := s.show fun s => [.words s.securityWords]
/-- `claims`. -/
def execSvcClaims (s : State) : Host.Outcome State Fault Refusal :=
  s.show fun s => [.words (if s.boot.imageLoaded then (List.range s.claimCount).map fun i => BitVec.ofNat 32 (s.claim i) else [])]
/-- The memories of Table 1.7, in the order of their numbers. -/
def memNames : List MemName :=
  [.leCode, .leCoef, .leState, .palette, .cellTable, .shadow, .rmMemory, .hmMemory, .rmPatch, .hmPatch, .rom, .mailbox, .staging,
   .retained, .eventStore, .pentimento, .keyStore]
/-- `ecc`: corrected errors per memory. -/
def execSvcEcc (s : State) : Host.Outcome State Fault Refusal :=
  s.show fun s => [.words (memNames.map fun m => BitVec.ofNat 32 (((s.ecc.find? (·.1 == m)).map (·.2)).getD 0))]
/-- `flash s off len` (R62, Table 18.3). -/
def execSvcFlash (slot a n : Nat) (s : State) : Host.Outcome State Fault Refusal :=
  s.lineUnless State.activateBusy fun s =>
    if 1 < slot || 256 < n || 0x400000 < a + n then s.print [.err 2]
    else s.print [.text (s.flashBytes (slot == 1) a n), .ok]

/-- `mbx loop [k]` (R486): the first PING is posted; each reply that SVC takes posts the next. -/
def execSvcMbxLoop (k : Option Nat) (s : State) : Host.Outcome State Fault Refusal :=
  s.line fun s =>
    let k := k.getD 10
    if k = 0 || 100 < k then s.print [.err 2]
    else if s.svcChannel.isNone then s.print [.err 5]
    else (s.print []).loopPost k 1 0 0

/-! ### Sessions (R467 to R470, R476, R477) -/

/-- Seconds left of a lockout. -/
def State.lockLeft (s : State) : Nat := ceilQuot (s.con.lockUntil.getD s.clock.tick - s.clock.tick) (msTicks 1000)
/-- Eight groups of 8 hexadecimal digits. -/
def challengeText (c : BitVec 256) : List Byte :=
  ((List.range 8).reverse.map fun i => sp (hexText 8 (c.toNat / 2 ^ (32 * i)))).flatten
/-- What bars a challenge or an answer: a signature in progress, which has the HM's cryptography (Table 18.2; DEDUCED, log entry 51),
an open session, a lockout, or no service key (log entry 51). -/
def State.authBarred (s : State) : Option ConLine :=
  if s.work.signing.isSome then some (.err 4)
  else if s.con.session then some (.err 5)
  else if s.ident.lockout then some (.locked s.lockLeft)
  else if s.ident.serviceKey == 0 then some (.err 5)
  else none
/-- `auth` (R467, R468, R476). -/
def execSvcAuth (s : State) : Host.Outcome State Fault Refusal :=
  s.line fun s => match s.authBarred with
    | some e => s.print [e]
    | none =>
      let (r, s) := s.random
      let c := r.setWidth 256
      let s := { s with con := { s.con with challenge := some c, challengeAt := s.clock.tick } }
      s.print [.text ((ascii ['C', 'H', 'A', 'L']) ++ challengeText c ++ (ascii [' ', 'S', ' ']) ++ decText (s.con.sessionNo + 1)), .ok]
/-- The answer that a challenge asks for (R467). -/
def State.rightAnswer (s : State) (c : BitVec 256) : BitVec 256 :=
  hmacSha256 s.ident.serviceKey
    ((ascii ['E', 'M', '1', '2', '8', '0', '-', 'S', 'V', 'C']) ++ s.fuses.serialOctets ++ octets 32 c.toNat ++ octets 4 (s.con.sessionNo + 1))
/-- The answer opens a session: a challenge in force, not older than 60 s, and its answer. -/
def State.answerOk (s : State) (answer : BitVec 256) : Bool :=
  match s.con.challenge with
  | some c => s.since s.con.challengeAt ≤ msTicks 60000 && answer == s.rightAnswer c
  | none => false
/-- A session opens (R467, R470, R476). -/
def State.openSession (s : State) : State :=
  let s := { s with
    con := { s.con with session := true, sessionNo := s.con.sessionNo + 1, challenge := none }
    ident := { s.ident with failCount := 0 } }
  (s.advanceEpoch .svc).record 0xB001 2 1 s.con.sessionNo
/-- A failed answer (R469, R470). -/
def State.failAnswer (s : State) : State :=
  let k := s.ident.failCount + 1
  let s := { s with con := { s.con with challenge := none }, ident := { s.ident with failCount := k } }
  let s := s.authFail 2 4 0
  if s.svcLockout ≤ k then
    { s with
      ident := { s.ident with lockout := true }
      con := { s.con with lockUntil := some (s.clock.tick + msTicks (1000 * s.svcLockS)) } }
  else s
/-- `auth` with an answer (R467 to R470, R476). -/
def execSvcAuthAnswer (answer : BitVec 256) (s : State) : Host.Outcome State Fault Refusal :=
  s.line fun s => match s.authBarred with
    | some e => s.print [e]
    | none => if s.answerOk answer then s.openSession.print [.ok] else s.failAnswer.print [.refused 7]
/-- `bye` (R477). -/
def execSvcBye (s : State) : Host.Outcome State Fault Refusal :=
  s.line fun s => if s.con.session then (s.endSession 0).print [.ok] else s.print [.err 3]
/-- SESSION_TIMEOUT (R477): 600 s without a complete line. -/
def execSessionTimeout (s : State) : Host.Outcome State Fault Refusal :=
  if s.conUp && s.con.session then complete (s.endSession 2) else complete s
/-- LOCKOUT_END (R470). -/
def execLockoutEnd (s : State) : Host.Outcome State Fault Refusal :=
  if s.ident.lockout && s.con.lockUntil.isSome then
    complete { s with ident := { s.ident with lockout := false, failCount := 0 }, con := { s.con with lockUntil := none } }
  else complete s
/-- SVC_ABORT (R475): a received 0x03 ends a command that waits. -/
def execSvcAbort (s : State) : Host.Outcome State Fault Refusal :=
  if s.conUp && s.con.waiting.isSome then complete (s.conEnd [.err 7]) else complete s

end Sys2Proof.Machine
end

