-- ==== Sys2Proof/Machine/ServiceTests.lean ====
section
/-! DEFINITION. The authenticated console commands (Table 18.4): ATB, static levels, link, converter and comparator tests,
watchdogs and posted requests; and the boundary-scan port (R472, R473). -/

namespace Sys2Proof.Machine

/-! ### Acceptance (R478) -/

/-- An authenticated command: ERR 3 without a session, ERR 2 for an argument out of range, ERR 4 in a busy state that bars it, ERR 5 where
its precondition fails; else SVC_ACTION is recorded and the command carried out. -/
def State.authedUnless (s : State) (busy range pre : State → Bool) (action : Nat) (arg : State → Nat) (f : State → State) :
    Host.Outcome State Fault Refusal :=
  s.line fun s =>
    if !s.con.session then s.print [.err 3]
    else if !range s then s.print [.err 2]
    else if busy s then s.print [.err 4]
    else if !pre s then s.print [.err 5]
    else f (s.record 0xB002 2 action (arg s))
/-- No condition. -/
def always (_ : State) : Bool := true
/-- No busy state. -/
def never (_ : State) : Bool := false
/-- An authenticated command that no busy state bars. -/
def State.authed (s : State) (range pre : State → Bool) (action : Nat) (arg : State → Nat) (f : State → State) :
    Host.Outcome State Fault Refusal := s.authedUnless never range pre action arg f
/-- The last line of a command that ends at once. -/
def State.done (s : State) (l : List ConLine) : State := s.print (l ++ [.ok])

/-! ### The ATB ball (R479, Table 18.5) -/

/-- Selection codes. -/
def atbCode : AtbSel → Nat
  | .off => 0 | .ref1v0 => 1 | .ref0v5 => 2 | .vsa n => 0x10 + n | .vsb n => 0x20 + n | .cmp m => 0x40 + m
/-- The selection exists. -/
def atbRange : AtbSel → Bool
  | .vsa n | .vsb n => n < 16
  | .cmp m => m < 76
  | _ => true
/-- `atb sel` (R479). -/
def execSvcAtb (sel : AtbSel) (s : State) : Host.Outcome State Fault Refusal :=
  s.authed (fun _ => atbRange sel) always 1 (fun _ => atbCode sel) fun s =>
    ({ s with con := { s.con with atb := BitVec.ofNat 8 (atbCode sel) } }).done []

/-! ### Static levels (R481 to R483) -/

/-- Input undervoltage stands on every VIN_UV twin in service. -/
def State.inputDown (s : State) : Bool :=
  let l := [64, 65].filter s.compInService
  !l.isEmpty && l.all fun m => (s.comp m).out
/-- Every cell of a list that is there is QUARANTINED. -/
def State.allQuarantined (s : State) (l : List Nat) : Bool := l.all fun c => (s.cell c).state == .absent || (s.cell c).state == .quarantined
/-- R481 for the cells that a lane or link serves. -/
def State.levelOk (s : State) (cells : List Nat) : Bool := s.railsRest && (s.inputDown || s.allQuarantined cells)
/-- Code of a level. -/
def levelCode : LaneLevel → Nat
  | .idle => 0 | .hi => 1 | .lo => 2
/-- Level that a lane or FD pair is held at. -/
def levelCmd : LaneLevel → LaneCmd
  | .idle => .idle | .hi => .high | .lo => .low
/-- `lane k hi / lo / idle` (R481, R482). -/
def execSvcLane (p : Nat) (lvl : LaneLevel) (s : State) : Host.Outcome State Fault Refusal :=
  s.authed (fun s => p < 128 && (s.phase p).state != .unused) (fun s => s.levelOk (phaseCells p)) 2 (fun _ => levelCode lvl * 256 + p)
    fun s => (s.updPhase p fun x => { x with held := lvl != .idle, hold := levelCmd lvl }).done []
/-- `link n fd hi / lo / idle` (R481, R482). -/
def execSvcLinkFd (n : Nat) (lvl : LaneLevel) (s : State) : Host.Outcome State Fault Refusal :=
  s.authed (fun _ => n < 16) (fun s => s.levelOk (linkCells n)) 3 (fun _ => levelCode lvl * 256 + n)
    fun s => (s.updLink n fun l => { l with fdHeld := lvl != .idle, fdLevel := levelCmd lvl }).done []
/-- The lanes and links that hold a level whose precondition fails, as the console names them. -/
def State.lostLevels (s : State) : List ConLine :=
  ((indices 128 fun p => (s.phase p).held && !s.levelOk (phaseCells p)).map fun p =>
      .text (ascii ['A', 'B', 'O', 'R', 'T', 'E', 'D', ' ', 'L', 'A', 'N', 'E', ' '] ++ decText p))
    ++ (indices 16 fun n => (s.link n).fdHeld && !s.levelOk (linkCells n)).map fun n =>
      .text (ascii ['A', 'B', 'O', 'R', 'T', 'E', 'D', ' ', 'L', 'I', 'N', 'K', ' '] ++ decText n)
/-- STATIC_LEVEL_ABORT (R483): the precondition of a held level fails, every held level is idled, and a command that waits ends
with ERR 7. The ATB selection stays. -/
def execStaticLevelAbort (s : State) : Host.Outcome State Fault Refusal :=
  let l := s.lostLevels
  if l.isEmpty then complete s
  else
    let atb := s.con.atb
    let s := s.undoTests
    let s := { s with con := { s.con with atb := atb } }
    if s.con.waiting.isSome then complete (s.conEnd (l ++ [.err 7])) else complete (s.print l)

/-! ### Links, cells, converters and comparators (R484, R485) -/

/-- Cells of a link that `link n loop` tests. -/
def State.loopCells (s : State) (n : Nat) : List Nat :=
  (linkCells n).filter fun c => (s.cell c).healthy || (s.cell c).state == .silent
/-- `link n loop [pat]` (R484): LOOPBACK to each cell in slot order; the command waits for the last check. -/
def execSvcLinkLoop (n : Nat) (pat : Option (BitVec 24)) (s : State) : Host.Outcome State Fault Refusal :=
  s.authed (fun _ => n < 16) (fun s => !s.linkFault n) 4 (fun _ => n) fun s =>
    let l := s.loopCells n
    if l.isEmpty then s.done []
    else ((s.print []).conWait (.loopback n l [])).forEach l fun s c => s.sendCell 6 c (cellFrame c 9 (pat.getD 0xA5C35A).toNat false)
/-- `cell id c` (R484): READ_ID; the command waits for the three parts of its reply. -/
def execSvcCellId (c : Nat) (s : State) : Host.Outcome State Fault Refusal :=
  s.authed (fun _ => c < 1024) (fun s => (s.cell c).state != .absent) 5 (fun _ => c) fun s =>
    ((s.print []).conWait (.cellId c [none, none, none])).sendCell 6 c (cellFrame c 6 0 false)
/-- `adc check i` (R485): the arbitration starts at the end of the current pass, and the command waits for its outcome. -/
def execSvcAdcCheck (c : Nat) (s : State) : Host.Outcome State Fault Refusal :=
  s.authed (fun _ => c < 4) (fun s => s.pairPowered c) 6 (fun _ => c) fun s =>
    let s := (s.print []).conWait (.adc c)
    if (s.pair c).arbitrating then s else s.updPair c fun p => { p with arbDue := true }
/-- `cmp test m` (R485): the command waits for the test that the window rules of R262 give the comparator, after a repeat that is due. -/
def execSvcCmpTest (m : Nat) (s : State) : Host.Outcome State Fault Refusal :=
  s.authed (fun _ => m < 76) (fun s => s.compInService m) 7 (fun _ => m) fun s => (s.print []).conWait (.cmp m)

/-! ### Watchdogs (R354, R360) -/

/-- `wdt off` (R354): refused with HW, or with Fixative and FIX_LOCK; only with every rail OFF or PRIMED, and by a pair that runs. An
accepted disable is recorded, also where the watchdog does not run. -/
def execSvcWdtOff (m : Manager) (s : State) : Host.Outcome State Fault Refusal :=
  s.authed always (fun s => !s.wdLock m && s.railsRest && s.pairRuns m) 8 (fun _ => mgrNo m) fun s =>
    (s.stopWd m).done []
/-- `wdt on` (R354). -/
def execSvcWdtOn (m : Manager) (s : State) : Host.Outcome State Fault Refusal :=
  s.authed always (fun s => s.pairRuns m && (s.primed || s.blank)) 9 (fun _ => mgrNo m) fun s => (s.goWd m).done []
/-- `wdt force` (R360): OK is printed before the expiry acts. Whether the pair runs is no precondition. -/
def execSvcWdtForce (m : Manager) (regs : Frozen) (s : State) : Host.Outcome State Fault Refusal :=
  s.authed always State.railsRest 0xA (fun _ => mgrNo m) fun s => (s.done []).expire m true regs

/-! ### Records, dumps, RESUME (R389, R364, R359) -/

/-- `evt clear N` (R389): SRC = 2, no statement. -/
def execSvcEvtClear (n : Nat) (s : State) : Host.Outcome State Fault Refusal :=
  s.line fun s =>
    if !s.con.session then s.print [.err 3]
    else if 2 ^ 32 ≤ n then s.print [.err 2]
    else match (s.clearLog 2 (BitVec.ofNat 32 n)).1 with
      | 0 => (((s.record 0xB002 2 0xB n).clearLog 2 (BitVec.ofNat 32 n)).2).done []
      | 1 => s.print [.err 4]
      | _ => s.print [.err 2]
/-- `dump release` (R364, R488). -/
def execSvcDumpRelease (s : State) : Host.Outcome State Fault Refusal :=
  s.authedUnless State.dumpBusy always (fun s => s.dump.valid) 0xC (fun s => (s.dump.slot.getD 2 0).toNat) fun s => (s.releaseDump 2).done []
/-- `resume` (R359). -/
def execSvcResume (s : State) : Host.Outcome State Fault Refusal :=
  s.authed always (fun s => s.safe.active && !s.safe.fromCheck && !s.safe.resumed) 0xD (fun _ => 0) fun s =>
    (s.acceptResume 2).done []

/-! ### Posted requests (R212, R79) -/

/-- A request posted on the SVC channel, with TAG 0, for whose reply the command waits. -/
def State.svcPost (s : State) (code : Nat) (payload : List Word) : State :=
  match s.svcChannel with
  | some c =>
    ((s.print []).conWait (.reply (s.replyCh c) 0)).sendOn c code 0 false payload
  | none => s
/-- The binding gives SVC a channel to the HM. -/
def State.svcBound (s : State) : Bool := s.svcChannel.isSome
/-- `restore p` (R212). -/
def execSvcRestore (p : Nat) (s : State) : Host.Outcome State Fault Refusal :=
  s.authed (fun _ => p < 128) State.svcBound 0xE (fun _ => p) fun s => s.svcPost 13 [BitVec.ofNat 32 p]
/-- `wet id value` (R79): the size is that of the unit which the identifier names. -/
def execSvcWet (id v : Word) (s : State) : Host.Outcome State Fault Refusal :=
  s.authed always State.svcBound 0xF (fun _ => id.toNat) fun s =>
    s.svcPost 10 [id, BitVec.ofNat 32 (((s.unitOf id.toNat).map (·.1)).getD 4), v]

/-! ### The boundary-scan port (R472, R473) -/

/-- Instructions that take over the balls. -/
def takesBalls : TapInstr → Bool
  | .extest | .clamp | .highz => true
  | _ => false
/-- What the data register of an instruction captures: the identification code of version 0x1, part 0x1280 and the Holeth manufacturer
field; 0 in the bypass register. -/
def tapData : TapInstr → Option Word
  | .idcode => some 0x112805AB
  | .samplePreload | .extest => none
  | .bypass | .clamp | .highz | .other => some 0
/-- The instruction that a load leaves in the register: BYPASS for any other code, and for EXTEST, CLAMP and HIGHZ unless every
rail is OFF or PRIMED. -/
def State.tapLoaded (s : State) (i : TapInstr) : TapInstr :=
  if i == .other || (takesBalls i && !s.railsRest) then .bypass else i
/-- TAP_INSTRUCTION_LOAD (R472, R473): while EXTEST, CLAMP or HIGHZ is loaded every EN input is held off. -/
def execTapInstructionLoad (i : TapInstr) (s : State) : Host.Outcome State Fault Refusal :=
  if !s.primed then complete s
  else
    let j := s.tapLoaded i
    let s := { s with tap := { instr := j, data := tapData j, enHeld := takesBalls j } }
    complete (s.when (takesBalls j) fun s => { s with pins := { s.pins with enOn := 0 } })

end Sys2Proof.Machine
end

