-- ==== Sys2Proof/Machine/Terminal.lean ====
section
/-! DEFINITION. The console as characters (R474, R475): the line discipline, tokens and numbers, the command that a line spells, and
what is sent back. -/

namespace Sys2Proof.Machine

/-! ### Tokens (R475) -/

/-- Lower case of an ASCII letter. -/
def lowerCase (c : Byte) : Byte := if 65 ≤ c.toNat && c.toNat ≤ 90 then c + 32 else c
/-- Tokens, set apart by one or more spaces; `w` is the token in progress. -/
def splitTokens : List Byte → List Byte → List (List Byte)
  | [], w => if w.isEmpty then [] else [w]
  | c :: l, w =>
    if c == 0x20 then (if w.isEmpty then splitTokens l [] else w :: splitTokens l []) else splitTokens l (w ++ [c])
/-- The token is a command word, in either case. -/
def isWord (t : List Byte) (w : List Char) : Bool := t.map lowerCase == ascii w
/-- A digit's value in a base. -/
def digitOf (base : Nat) (c : Byte) : Option Nat :=
  let x := (lowerCase c).toNat
  let v := if 48 ≤ x && x ≤ 57 then x - 48 else if 97 ≤ x && x ≤ 102 then x - 87 else base
  if v < base then some v else none
/-- The number of a list of digits; none where it is empty or one of them is no digit. -/
def digitsOf (base : Nat) (l : List Byte) : Option Nat :=
  if l.isEmpty then none
  else l.foldl (fun a c => match a, digitOf base c with
    | some x, some d => some (base * x + d)
    | _, _ => none) (some 0)
/-- A number: decimal, or hexadecimal written with 0x. -/
def numberOf (t : List Byte) : Option Nat := if isWord (t.take 2) ['0', 'x'] then digitsOf 16 (t.drop 2) else digitsOf 10 t
/-- The numbers of a list of tokens; none where one is malformed. -/
def numbersOf (l : List (List Byte)) : Option (List Nat) := l.mapM numberOf

/-! ### Commands (Tables 18.3 and 18.4) -/

/-- The pair that a word names. -/
def managerOf (t : List Byte) : Option Manager :=
  if isWord t ['r', 'm'] then some .rm else if isWord t ['h', 'm'] then some .hm else none
/-- The level that a word names. -/
def levelOf (t : List Byte) : Option LaneLevel :=
  if isWord t ['h', 'i'] then some .hi else if isWord t ['l', 'o'] then some .lo else if isWord t ['i', 'd', 'l', 'e'] then some .idle else none
/-- An authenticated command whose number does not fit its operand. -/
def State.outOfRange (s : State) : Host.Outcome State Fault Refusal := s.authed (fun _ => false) always 0 (fun _ => 0) id
/-- The answer of `auth`: eight groups of 8 hexadecimal digits (R476). -/
def answerOf (l : List (List Byte)) : Option (BitVec 256) :=
  if l.length == 8 && l.all (·.length == 8) then (digitsOf 16 l.flatten).map (BitVec.ofNat 256) else none
/-- The selection of `atb` (Table 18.5). -/
def atbOf (l : List (List Byte)) : Option AtbSel :=
  match l with
  | [a] => if isWord a ['o', 'f', 'f'] then some .off else none
  | [a, b] =>
    if isWord a ['r', 'e', 'f'] then
      (if isWord b ['1', 'v', '0'] then some .ref1v0 else if isWord b ['0', 'v', '5'] then some .ref0v5 else none)
    else if isWord a ['v', 's', 'a'] then (numberOf b).map .vsa
    else if isWord a ['v', 's', 'b'] then (numberOf b).map .vsb
    else if isWord a ['c', 'm', 'p'] then (numberOf b).map .cmp
    else none
  | _ => none
/-- A command, as its effect on the state. -/
abbrev Typed : Type := State → Host.Outcome State Fault Refusal
/-- A command without arguments. -/
def bare (l : List Nat) (f : Typed) : Option Typed := if l.isEmpty then some f else none
/-- A command of one number. -/
def oneNumber (l : List Nat) (f : Nat → Typed) : Option Typed := match l with
  | [a] => some (f a)
  | _ => none
/-- A command of at most one number. -/
def upToOne (l : List Nat) (f : Option Nat → Typed) : Option Typed := match l with
  | [] => some (f none)
  | [a] => some (f (some a))
  | _ => none
/-- A command of one number and perhaps a second. -/
def oneOrTwo (l : List Nat) (f : Nat → Option Nat → Typed) : Option Typed := match l with
  | [a] => some (f a none)
  | [a, b] => some (f a (some b))
  | _ => none

/-- A command word followed by numbers alone. -/
def plainCommand (w : List Byte) (l : List Nat) : Option Typed :=
  if isWord w ['h', 'e', 'l', 'p'] then bare l execSvcHelp
  else if isWord w ['v', 'e', 'r'] then bare l execSvcVer
  else if isWord w ['p', 'r', 'i', 'm', 'e'] then bare l execSvcPrime
  else if isWord w ['s', 't', 'a', 't', 'u', 's'] then upToOne l execSvcStatus
  else if isWord w ['r', 'a', 'i', 'l'] then oneNumber l execSvcRail
  else if isWord w ['s', 'e', 'n', 's', 'e'] then oneNumber l execSvcSense
  else if isWord w ['l', 'o', 'o', 'p'] then oneNumber l execSvcLoop
  else if isWord w ['m', 'o', 'd', 'e', 'l'] then oneNumber l execSvcModel
  else if isWord w ['p', 'a', 'l', 'e', 't', 't', 'e'] then oneNumber l execSvcPalette
  else if isWord w ['p', 'h', 'a', 's', 'e'] then oneOrTwo l execSvcPhase
  else if isWord w ['c', 'e', 'l', 'l'] then oneNumber l execSvcCell
  else if isWord w ['l', 'i', 'n', 'k'] then oneNumber l execSvcLink
  else if isWord w ['c', 'm', 'p'] then upToOne l execSvcCmp
  else if isWord w ['b', 'u', 'r', 's', 't'] then upToOne l execSvcBurst
  else if isWord w ['a', 'd', 'c'] then bare l execSvcAdc
  else if isWord w ['t', 'e', 'l', 'e', 'm'] then bare l execSvcTelem
  else if isWord w ['t', 'e', 'm', 'p'] then bare l execSvcTemp
  else if isWord w ['w', 'd', 't'] then bare l execSvcWdt
  else if isWord w ['d', 'u', 'm', 'p'] then bare l execSvcDump
  else if isWord w ['e', 'v', 't'] then
    (match l with
      | [] => some execSvcEvt
      | _ => oneOrTwo l execSvcEvtRange)
  else if isWord w ['b', 'u', 's'] then bare l execSvcBus
  else if isWord w ['s', 'e', 'c'] then bare l execSvcSec
  else if isWord w ['c', 'l', 'a', 'i', 'm', 's'] then bare l execSvcClaims
  else if isWord w ['e', 'c', 'c'] then bare l execSvcEcc
  else if isWord w ['f', 'l', 'a', 's', 'h'] then
    (match l with
      | [a, b, c] => some (execSvcFlash a b c)
      | _ => none)
  else if isWord w ['b', 'y', 'e'] then bare l execSvcBye
  else if isWord w ['r', 'e', 's', 'u', 'm', 'e'] then bare l execSvcResume
  else if isWord w ['r', 'e', 's', 't', 'o', 'r', 'e'] then oneNumber l execSvcRestore
  else if isWord w ['w', 'e', 't'] then
    (match l with
      | [a, b] => some (if a < 2 ^ 32 && b < 2 ^ 32 then execSvcWet (BitVec.ofNat 32 a) (BitVec.ofNat 32 b) else State.outOfRange)
      | _ => none)
  else none
/-- `wdt off`, `wdt on` and `wdt force`; `regs` is what a forced expiry freezes. -/
def wdtCommand (regs : Frozen) (a b : List Byte) : Option Typed :=
  (managerOf b).bind fun m =>
    if isWord a ['o', 'f', 'f'] then some (execSvcWdtOff m) else if isWord a ['o', 'n'] then some (execSvcWdtOn m)
    else if isWord a ['f', 'o', 'r', 'c', 'e'] then some (execSvcWdtForce m regs) else none
/-- `link n fd hi / lo / idle` and `link n loop [pat]`. -/
def linkCommand (l : List (List Byte)) : Option Typed :=
  match l with
  | [n, a] => if isWord a ['l', 'o', 'o', 'p'] then (numberOf n).map fun n => execSvcLinkLoop n none else none
  | [n, a, b] =>
    if isWord a ['f', 'd'] then (numberOf n).bind fun n => (levelOf b).map (execSvcLinkFd n)
    else if isWord a ['l', 'o', 'o', 'p'] then
      (numberOf n).bind fun n => (numberOf b).map fun p =>
        if p < 2 ^ 24 then execSvcLinkLoop n (some (BitVec.ofNat 24 p)) else State.outOfRange
    else none
  | _ => none
/-- A command whose arguments hold further words. -/
def wordCommand (regs : Frozen) (w : List Byte) (l : List (List Byte)) : Option Typed :=
  if isWord w ['a', 't', 'b'] then (atbOf l).map execSvcAtb
  else if isWord w ['l', 'i', 'n', 'k'] then linkCommand l
  else match l with
    | [a, b] =>
      if isWord w ['l', 'a', 'n', 'e'] then (numberOf a).bind fun k => (levelOf b).map (execSvcLane k)
      else if isWord w ['c', 'e', 'l', 'l'] && isWord a ['i', 'd'] then (numberOf b).map execSvcCellId
      else if isWord w ['a', 'd', 'c'] && isWord a ['c', 'h', 'e', 'c', 'k'] then (numberOf b).map execSvcAdcCheck
      else if isWord w ['c', 'm', 'p'] && isWord a ['t', 'e', 's', 't'] then (numberOf b).map execSvcCmpTest
      else if isWord w ['w', 'd', 't'] then wdtCommand regs a b
      else if isWord w ['e', 'v', 't'] && isWord a ['c', 'l', 'e', 'a', 'r'] then (numberOf b).map execSvcEvtClear
      else if isWord w ['m', 'b', 'x'] && isWord a ['l', 'o', 'o', 'p'] then (numberOf b).map fun k => execSvcMbxLoop (some k)
      else none
    | [a, b, c] =>
      if isWord w ['d', 'u', 'm', 'p'] && isWord a ['w'] then (numberOf b).bind fun x => (numberOf c).map (execSvcDumpWords x) else none
    | [a] =>
      if isWord w ['d', 'u', 'm', 'p'] && isWord a ['r', 'e', 'l', 'e', 'a', 's', 'e'] then some execSvcDumpRelease
      else if isWord w ['m', 'b', 'x'] && isWord a ['l', 'o', 'o', 'p'] then some (execSvcMbxLoop none)
      else none
    | _ => none
/-- The command that a word and its arguments spell; none for an unknown command, a wrong token count or a malformed number. -/
def commandOf (regs : Frozen) (w : List Byte) (l : List (List Byte)) : Option Typed :=
  if isWord w ['a', 'u', 't', 'h'] then (if l.isEmpty then some execSvcAuth else (answerOf l).map execSvcAuthAnswer)
  else match wordCommand regs w l with
    | some f => some f
    | none => (numbersOf l).bind (plainCommand w)

/-! ### The line discipline (R474, R475) -/

/-- The state after a command. -/
def State.typed (s : State) (f : Typed) : State := match f s with
  | .next t => t
  | .fault _ | .refused _ => s
/-- A line ends: ERR 1 for one that spells no command or is longer than 80 characters; an empty one has the prompt alone (DESIGN
CHOICE, log entry 13). -/
def State.endLine (s : State) (regs : Frozen) : State :=
  let l := s.con.line
  let s := { s with con := { s.con with line := [] } }
  let wrong : Typed := fun s => s.line fun s => s.print [.err 1]
  if 80 < l.length then s.typed wrong
  else match splitTokens l [] with
    | [] => s.typed fun s => s.line fun s => { s with con := { s.con with out := [], prompt := s.promptText } }
    | w :: args => s.typed ((commandOf regs w args).getD wrong)
/-- One event of SVC_RX. While a command waits every character but 0x03 is discarded. Other characters that are not printable are
ignored (DESIGN CHOICE, log entry 13). -/
def State.receive (regs : Frozen) (s : State) (e : RxEvent) : State :=
  if !s.conUp then s
  else match e with
    | .framing => s
    | .lowLine => { s with con := { s.con with line := [] } }
    | .char b =>
      if s.con.waiting.isSome then (if b == 3 then s.conEnd [.err 7] else s)
      else
        let cr := s.con.afterCr
        let s := { s with con := { s.con with afterCr := b == 0x0D } }
        if b == 0x0A && cr then s
        else if b == 0x0D || b == 0x0A then s.endLine regs
        else if b == 0x08 || b == 0x7F then { s with con := { s.con with line := s.con.line.dropLast } }
        else if 0x20 ≤ b.toNat && b.toNat ≤ 0x7E then { s with con := { s.con with line := s.con.line ++ [b], echo := s.con.echo ++ [b] } }
        else s
/-- UNKNOWN_CONSOLE_COMMAND (R474, R475): what SVC_RX brings, as it comes. A line that spells a command of Tables 18.3 and 18.4 is that
command; every other ends in ERR 1 SYNTAX. `regs` is what `wdt force` freezes. -/
def execUnknownConsoleCommand (rx : List RxEvent) (regs : Frozen) (s : State) : Host.Outcome State Fault Refusal :=
  complete (rx.foldl (State.receive regs) { s with con := { s.con with echo := [] } })

/-! ### What the console sends (R475) -/

/-- Names of the error replies (Table 18.2). -/
def errName (n : Nat) : List Byte :=
  ascii ([['S', 'Y', 'N', 'T', 'A', 'X'], ['R', 'A', 'N', 'G', 'E'], ['A', 'U', 'T', 'H'], ['B', 'U', 'S', 'Y'], ['S', 'T', 'A', 'T', 'E'],
    ['L', 'O', 'C', 'K', 'E', 'D'], ['A', 'B', 'O', 'R', 'T', 'E', 'D'], ['R', 'E', 'F', 'U', 'S', 'E', 'D']].getD (n - 1) [])
/-- Names of the reply statuses (Table 14.5). -/
def statusName (n : Nat) : List Byte :=
  ascii ([['O', 'K'], ['B', 'U', 'S', 'Y'], ['D', 'E', 'N', 'I', 'E', 'D'], ['C', 'O', 'N', 'F', 'L', 'I', 'C', 'T'],
    ['O', 'U', 'T', '_', 'O', 'F', '_', 'E', 'N', 'V', 'E', 'L', 'O', 'P', 'E'], ['B', 'A', 'D', '_', 'F', 'O', 'R', 'M', 'A', 'T'],
    ['S', 'T', 'A', 'L', 'E', '_', 'R', 'E', 'J', 'E', 'C', 'T', 'E', 'D'], ['A', 'U', 'T', 'H', '_', 'F', 'A', 'I', 'L'],
    ['U', 'N', 'K', 'N', 'O', 'W', 'N']].getD n [])
/-- `ERR n NAME`. -/
def errText (n : Nat) : List Byte := ascii ['E', 'R', 'R', ' '] ++ decText n ++ sp (errName n)
/-- A line's characters; register words as 8 hexadecimal digits each (DESIGN CHOICE, log entry 13). -/
def lineChars : ConLine → List Byte
  | .text b => b
  | .words l => ((l.map fun w => sp (hexText 8 w.toNat)).flatten).drop 1
  | .ok => ascii ['O', 'K']
  | .err n => errText n
  | .locked k => errText 6 ++ sp (decText k)
  | .refused k => errText 8 ++ sp (statusName k)
/-- The characters that the console has sent since the last ones were received: the echo, each output line with CR LF, the prompt. -/
def State.consoleSent (s : State) : List Byte :=
  s.con.echo ++ (s.con.out.flatMap fun l => lineChars l ++ [0x0D, 0x0A]) ++ s.con.prompt

end Sys2Proof.Machine
end

