-- ==== Sys2Proof/Machine/Dispatch.lean ====
section
/-! DEFINITION. The dispatch of a command to its meaning, one arm per constructor. -/

namespace Sys2Proof.Machine

/-- One direct call of the meaning per command; a command without a meaning is rejected by its mnemonic. -/
def exec (i : Instr) (s : State) : Host.Outcome State Fault Refusal :=
  match i with
  | .supplyFall k done => Sys2Proof.Machine.execSupplyFall k done s
  | .porstNLow done => Sys2Proof.Machine.execPorstNLow done s
  | .powerOnResetRelease byPorst => Sys2Proof.Machine.execPowerOnResetRelease byPorst s
  | .primeP0 => Sys2Proof.Machine.execPrimeP0 s
  | .primeP1 ohms svcRxLow => Sys2Proof.Machine.execPrimeP1 ohms svcRxLow s
  | .primeP2 romOk keysOk memOk => Sys2Proof.Machine.execPrimeP2 romOk keysOk memOk s
  | .primeP3 sfdp readA readB => Sys2Proof.Machine.execPrimeP3 sfdp readA readB s
  | .primeP4 => Sys2Proof.Machine.execPrimeP4 s
  | .primeP5 found => Sys2Proof.Machine.execPrimeP5 found s
  | .primeP6 r => Sys2Proof.Machine.execPrimeP6 r s
  | .primeP7 => Sys2Proof.Machine.execPrimeP7 s
  | .stageMaximumExceeded found => Sys2Proof.Machine.execStageMaximumExceeded found s
  | .warmChipRestart e => Sys2Proof.Machine.execWarmChipRestart e s
  | .pairRestartRm => Sys2Proof.Machine.execPairRestartRm s
  | .pairRestartHm e => Sys2Proof.Machine.execPairRestartHm e s
  | .rmReadyHeartbeat => Sys2Proof.Machine.execRmReadyHeartbeat s
  | .clockLoss core loop refclk => Sys2Proof.Machine.execClockLoss core loop refclk s
  | .pllBackupLock => Sys2Proof.Machine.execPllBackupLock s
  | .coreReturned cut => Sys2Proof.Machine.execCoreReturned cut s
  | .returnToPllLoop cut => Sys2Proof.Machine.execReturnToPllLoop cut s
  | .slatEdge p before after lowNs highNs => Sys2Proof.Machine.execSlatEdge p before after lowNs highNs s
  | .prebiasHoldEnd n => Sys2Proof.Machine.execPrebiasHoldEnd n s
  | .slewStep => Sys2Proof.Machine.execSlewStep s
  | .settleElapsed n => Sys2Proof.Machine.execSettleElapsed n s
  | .throtRelease p => Sys2Proof.Machine.execThrotRelease p s
  | .senseSample n vA vB => Sys2Proof.Machine.execSenseSample n vA vB s
  | .voteDecision n => Sys2Proof.Machine.execVoteDecision n s
  | .votePendingEnd n => Sys2Proof.Machine.execVotePendingEnd n s
  | .plausibilityVisit n => Sys2Proof.Machine.execPlausibilityVisit n s
  | .leUpdate n upset => Sys2Proof.Machine.execLeUpdate n upset s
  | .updateDeadline n => Sys2Proof.Machine.execUpdateDeadline n s
  | .leRearm n => Sys2Proof.Machine.execLeRearm n s
  | .shadowRunEnd n => Sys2Proof.Machine.execShadowRunEnd n s
  | .charRunStart n => Sys2Proof.Machine.execCharRunStart n s
  | .charRunEnd n => Sys2Proof.Machine.execCharRunEnd n s
  | .charRetry n => Sys2Proof.Machine.execCharRetry n s
  | .enableEvaluation high tests => Sys2Proof.Machine.execEnableEvaluation high tests s
  | .startWaitElapsed n => Sys2Proof.Machine.execStartWaitElapsed n s
  | .dischargeTimeout n => Sys2Proof.Machine.execDischargeTimeout n s
  | .scrub found cut => Sys2Proof.Machine.execScrub found cut s
  | .telemetryRound => Sys2Proof.Machine.execTelemetryRound s
  | .shedCommand p => Sys2Proof.Machine.execShedCommand p s
  | .retryDue p => Sys2Proof.Machine.execRetryDue p s
  | .wakeEnd p => Sys2Proof.Machine.execWakeEnd p s
  | .periodStart n p => Sys2Proof.Machine.execPeriodStart n p s
  | .tristateIdleElapsed p => Sys2Proof.Machine.execTristateIdleElapsed p s
  | .deepParkTimeElapsed p => Sys2Proof.Machine.execDeepParkTimeElapsed p s
  | .syncInEdge ball periodNs => Sys2Proof.Machine.execSyncInEdge ball periodNs s
  | .syncEdgesMissing n => Sys2Proof.Machine.execSyncEdgesMissing n s
  | .interpolatorRecalibration => Sys2Proof.Machine.execInterpolatorRecalibration s
  | .frameTime => Sys2Proof.Machine.execFrameTime s
  | .upstreamFrame link slot bits => Sys2Proof.Machine.execUpstreamFrame link slot bits s
  | .linkSilenceTimeout link => Sys2Proof.Machine.execLinkSilenceTimeout link s
  | .ffltAssert link low => Sys2Proof.Machine.execFfltAssert link low s
  | .comparatorCrossing m level levelB => Sys2Proof.Machine.execComparatorCrossing m level levelB s
  | .burstLimitElapsed n => Sys2Proof.Machine.execBurstLimitElapsed n s
  | .clampLimitElapsed n => Sys2Proof.Machine.execClampLimitElapsed n s
  | .maskWindowClose m src => Sys2Proof.Machine.execMaskWindowClose m src s
  | .comparatorSelftest m passed => Sys2Proof.Machine.execComparatorSelftest m passed s
  | .forcedTestWindow m passed => Sys2Proof.Machine.execForcedTestWindow m passed s
  | .selftestRepeat m passed => Sys2Proof.Machine.execSelftestRepeat m passed s
  | .latchClear m => Sys2Proof.Machine.execLatchClear m s
  | .edgeFlagClear m rise fall => Sys2Proof.Machine.execEdgeFlagClear m rise fall s
  | .softRouteDelivery src => Sys2Proof.Machine.execSoftRouteDelivery src s
  | .gtTrigger k => Sys2Proof.Machine.execGtTrigger k s
  | .gtExpiry k => Sys2Proof.Machine.execGtExpiry k s
  | .hiccupOffElapsed n => Sys2Proof.Machine.execHiccupOffElapsed n s
  | .uvDelayElapsed n => Sys2Proof.Machine.execUvDelayElapsed n s
  | .pgOnDelayElapsed n => Sys2Proof.Machine.execPgOnDelayElapsed n s
  | .pgOffFilterElapsed n => Sys2Proof.Machine.execPgOffFilterElapsed n s
  | .inputUv => Sys2Proof.Machine.execInputUv s
  | .inputSenseVote => Sys2Proof.Machine.execInputSenseVote s
  | .vinAutoClear => Sys2Proof.Machine.execVinAutoClear s
  | .conversionComplete pair a b => Sys2Proof.Machine.execConversionComplete pair a b s
  | .converterRecheck pair codes => Sys2Proof.Machine.execConverterRecheck pair codes s
  | .telemXcheck => Sys2Proof.Machine.execTelemXcheck s
  | .lockstepMismatch m regs => Sys2Proof.Machine.execLockstepMismatch m regs s
  | .apprenticeTakeover cause => Sys2Proof.Machine.execApprenticeTakeover cause s
  | .apprenticeHandback => Sys2Proof.Machine.execApprenticeHandback s
  | .railHandback n => Sys2Proof.Machine.execRailHandback n s
  | .appTakeoverRelease => Sys2Proof.Machine.execAppTakeoverRelease s
  | .appMismatch => Sys2Proof.Machine.execAppMismatch s
  | .heartbeatCheck appLost => Sys2Proof.Machine.execHeartbeatCheck appLost s
  | .wdCheckin m task => Sys2Proof.Machine.execWdCheckin m task s
  | .keyA m regs => Sys2Proof.Machine.execKeyA m regs s
  | .keyB m regs => Sys2Proof.Machine.execKeyB m regs s
  | .wdDisable m first second cycles => Sys2Proof.Machine.execWdDisable m first second cycles s
  | .go m => Sys2Proof.Machine.execGo m s
  | .wdtExpiry m why regs => Sys2Proof.Machine.execWdtExpiry m why regs s
  | .decayPeriod m => Sys2Proof.Machine.execDecayPeriod m s
  | .pentimentoCommit e => Sys2Proof.Machine.execPentimentoCommit e s
  | .eventStage code src p0 p1 => Sys2Proof.Machine.execEventStage code src p0 p1 s
  | .openRecordClose => Sys2Proof.Machine.execOpenRecordClose s
  | .tokenAdd code => Sys2Proof.Machine.execTokenAdd code s
  | .recordCommit e => Sys2Proof.Machine.execRecordCommit e s
  | .clearSectorErase e => Sys2Proof.Machine.execClearSectorErase e s
  | .goPost ch who => Sys2Proof.Machine.execGoPost ch who s
  | .recall ch who => Sys2Proof.Machine.execRecall ch who s
  | .mailboxTakeAck ch who => Sys2Proof.Machine.execMailboxTakeAck ch who s
  | .crossWait ch => Sys2Proof.Machine.execCrossWait ch s
  | .fragmentTimeout ch => Sys2Proof.Machine.execFragmentTimeout ch s
  | .hostMessageTake ch => Sys2Proof.Machine.execHostMessageTake ch s
  | .ping ch m => Sys2Proof.Machine.execPing ch m s
  | .attest ch m => Sys2Proof.Machine.execAttest ch m s
  | .paletteWrite ch m => Sys2Proof.Machine.execPaletteWrite ch m s
  | .paletteCommit ch m => Sys2Proof.Machine.execPaletteCommit ch m s
  | .paletteCommitForce ch m => Sys2Proof.Machine.execPaletteCommitForce ch m s
  | .imageChunk ch m => Sys2Proof.Machine.execImageChunk ch m s
  | .imageActivate ch m => Sys2Proof.Machine.execImageActivate ch m s
  | .evtClearAuth ch m => Sys2Proof.Machine.execEvtClearAuth ch m s
  | .dumpRead ch m => Sys2Proof.Machine.execDumpRead ch m s
  | .dumpReadRelease ch m => Sys2Proof.Machine.execDumpReadRelease ch m s
  | .cellQuery ch m => Sys2Proof.Machine.execCellQuery ch m s
  | .wetWrite ch m => Sys2Proof.Machine.execWetWrite ch m s
  | .wetRead ch m => Sys2Proof.Machine.execWetRead ch m s
  | .serviceKeySet ch m => Sys2Proof.Machine.execServiceKeySet ch m s
  | .phaseRestore ch m => Sys2Proof.Machine.execPhaseRestore ch m s
  | .guaranteeQuery ch m => Sys2Proof.Machine.execGuaranteeQuery ch m s
  | .resume ch m => Sys2Proof.Machine.execResume ch m s
  | .busError code write index => Sys2Proof.Machine.execBusError code write index s
  | .busTimeout code write index => Sys2Proof.Machine.execBusTimeout code write index s
  | .alertResponse won complete pec => Sys2Proof.Machine.execAlertResponse won complete pec s
  | .hostNotify failed => Sys2Proof.Machine.execHostNotify failed s
  | .standbyEntry => Sys2Proof.Machine.execStandbyEntry s
  | .standbyWake cause => Sys2Proof.Machine.execStandbyWake cause s
  | .page x => Sys2Proof.Machine.execPage x s
  | .operation x => Sys2Proof.Machine.execOperation x s
  | .onOffConfig x => Sys2Proof.Machine.execOnOffConfig x s
  | .clearFaults x => Sys2Proof.Machine.execClearFaults x s
  | .phase x => Sys2Proof.Machine.execPhase x s
  | .writeProtect x => Sys2Proof.Machine.execWriteProtect x s
  | .capability x => Sys2Proof.Machine.execCapability x s
  | .voutMode x => Sys2Proof.Machine.execVoutMode x s
  | .voutCommand x => Sys2Proof.Machine.execVoutCommand x s
  | .voutMax x => Sys2Proof.Machine.execVoutMax x s
  | .voutMarginHigh x => Sys2Proof.Machine.execVoutMarginHigh x s
  | .voutMarginLow x => Sys2Proof.Machine.execVoutMarginLow x s
  | .voutTransitionRate x => Sys2Proof.Machine.execVoutTransitionRate x s
  | .ioutOcFaultLimit x => Sys2Proof.Machine.execIoutOcFaultLimit x s
  | .statusByte x => Sys2Proof.Machine.execStatusByte x s
  | .statusWord x => Sys2Proof.Machine.execStatusWord x s
  | .statusVout x => Sys2Proof.Machine.execStatusVout x s
  | .statusIout x => Sys2Proof.Machine.execStatusIout x s
  | .statusInput x => Sys2Proof.Machine.execStatusInput x s
  | .statusTemperature x => Sys2Proof.Machine.execStatusTemperature x s
  | .statusCml x => Sys2Proof.Machine.execStatusCml x s
  | .statusMfrSpecific x => Sys2Proof.Machine.execStatusMfrSpecific x s
  | .readVin x => Sys2Proof.Machine.execReadVin x s
  | .readIin x => Sys2Proof.Machine.execReadIin x s
  | .readVout x => Sys2Proof.Machine.execReadVout x s
  | .readIout x => Sys2Proof.Machine.execReadIout x s
  | .readTemperature1 x => Sys2Proof.Machine.execReadTemperature1 x s
  | .readPout x => Sys2Proof.Machine.execReadPout x s
  | .readPin x => Sys2Proof.Machine.execReadPin x s
  | .pmbusRevision x => Sys2Proof.Machine.execPmbusRevision x s
  | .mfrId x => Sys2Proof.Machine.execMfrId x s
  | .mfrModel x => Sys2Proof.Machine.execMfrModel x s
  | .mfrRevision x => Sys2Proof.Machine.execMfrRevision x s
  | .icDeviceId x => Sys2Proof.Machine.execIcDeviceId x s
  | .icDeviceRev x => Sys2Proof.Machine.execIcDeviceRev x s
  | .mfrMboxPost x => Sys2Proof.Machine.execMfrMboxPost x s
  | .mfrMboxTake x => Sys2Proof.Machine.execMfrMboxTake x s
  | .mfrMboxStatus x => Sys2Proof.Machine.execMfrMboxStatus x s
  | .epochBump x => Sys2Proof.Machine.execEpochBump x s
  | .mboxControlRecall x => Sys2Proof.Machine.execMboxControlRecall x s
  | .select x => Sys2Proof.Machine.execSelect x s
  | .mfrMboxControlRead x => Sys2Proof.Machine.execMfrMboxControlRead x s
  | .mfrRailState x => Sys2Proof.Machine.execMfrRailState x s
  | .mfrPhaseState x => Sys2Proof.Machine.execMfrPhaseState x s
  | .mfrCellSelect x => Sys2Proof.Machine.execMfrCellSelect x s
  | .mfrCellStatus x => Sys2Proof.Machine.execMfrCellStatus x s
  | .mfrEvtHead x => Sys2Proof.Machine.execMfrEvtHead x s
  | .mfrEvtRead x => Sys2Proof.Machine.execMfrEvtRead x s
  | .mfrWdtCounts x => Sys2Proof.Machine.execMfrWdtCounts x s
  | .mfrPaletteState x => Sys2Proof.Machine.execMfrPaletteState x s
  | .mfrGuaranteeState x => Sys2Proof.Machine.execMfrGuaranteeState x s
  | .mfrTelemMinmax x => Sys2Proof.Machine.execMfrTelemMinmax x s
  | .mfrDumpInfo x => Sys2Proof.Machine.execMfrDumpInfo x s
  | .mfrPrimingStatus x => Sys2Proof.Machine.execMfrPrimingStatus x s
  | .mfrSecurityState x => Sys2Proof.Machine.execMfrSecurityState x s
  | .mfrGpio x => Sys2Proof.Machine.execMfrGpio x s
  | .mfrResourceClaims x => Sys2Proof.Machine.execMfrResourceClaims x s
  | .mfrLoopState x => Sys2Proof.Machine.execMfrLoopState x s
  | .mfrModelState x => Sys2Proof.Machine.execMfrModelState x s
  | .mfrThrottleState x => Sys2Proof.Machine.execMfrThrottleState x s
  | .registerWrite t v => Sys2Proof.Machine.execRegisterWrite t v s
  | .svcHelp => Sys2Proof.Machine.execSvcHelp s
  | .svcVer => Sys2Proof.Machine.execSvcVer s
  | .svcPrime => Sys2Proof.Machine.execSvcPrime s
  | .svcStatus page => Sys2Proof.Machine.execSvcStatus page s
  | .svcRail n => Sys2Proof.Machine.execSvcRail n s
  | .svcSense n => Sys2Proof.Machine.execSvcSense n s
  | .svcLoop n => Sys2Proof.Machine.execSvcLoop n s
  | .svcModel n => Sys2Proof.Machine.execSvcModel n s
  | .svcPalette p => Sys2Proof.Machine.execSvcPalette p s
  | .svcPhase a b => Sys2Proof.Machine.execSvcPhase a b s
  | .svcCell c => Sys2Proof.Machine.execSvcCell c s
  | .svcLink n => Sys2Proof.Machine.execSvcLink n s
  | .svcCmp m => Sys2Proof.Machine.execSvcCmp m s
  | .svcBurst n => Sys2Proof.Machine.execSvcBurst n s
  | .svcAdc => Sys2Proof.Machine.execSvcAdc s
  | .svcTelem => Sys2Proof.Machine.execSvcTelem s
  | .svcTemp => Sys2Proof.Machine.execSvcTemp s
  | .svcWdt => Sys2Proof.Machine.execSvcWdt s
  | .svcDump => Sys2Proof.Machine.execSvcDump s
  | .svcDumpWords a n => Sys2Proof.Machine.execSvcDumpWords a n s
  | .svcEvt => Sys2Proof.Machine.execSvcEvt s
  | .svcEvtRange a b => Sys2Proof.Machine.execSvcEvtRange a b s
  | .svcBus => Sys2Proof.Machine.execSvcBus s
  | .svcSec => Sys2Proof.Machine.execSvcSec s
  | .svcClaims => Sys2Proof.Machine.execSvcClaims s
  | .svcEcc => Sys2Proof.Machine.execSvcEcc s
  | .svcFlash slot a n => Sys2Proof.Machine.execSvcFlash slot a n s
  | .svcMbxLoop k => Sys2Proof.Machine.execSvcMbxLoop k s
  | .svcAuth => Sys2Proof.Machine.execSvcAuth s
  | .svcAuthAnswer answer => Sys2Proof.Machine.execSvcAuthAnswer answer s
  | .svcBye => Sys2Proof.Machine.execSvcBye s
  | .sessionTimeout => Sys2Proof.Machine.execSessionTimeout s
  | .lockoutEnd => Sys2Proof.Machine.execLockoutEnd s
  | .svcAbort => Sys2Proof.Machine.execSvcAbort s
  | .svcAtb sel => Sys2Proof.Machine.execSvcAtb sel s
  | .svcLane p lvl => Sys2Proof.Machine.execSvcLane p lvl s
  | .svcLinkFd n lvl => Sys2Proof.Machine.execSvcLinkFd n lvl s
  | .staticLevelAbort => Sys2Proof.Machine.execStaticLevelAbort s
  | .svcLinkLoop n pat => Sys2Proof.Machine.execSvcLinkLoop n pat s
  | .svcCellId c => Sys2Proof.Machine.execSvcCellId c s
  | .svcAdcCheck c => Sys2Proof.Machine.execSvcAdcCheck c s
  | .svcCmpTest m => Sys2Proof.Machine.execSvcCmpTest m s
  | .svcWdtOff m => Sys2Proof.Machine.execSvcWdtOff m s
  | .svcWdtOn m => Sys2Proof.Machine.execSvcWdtOn m s
  | .svcWdtForce m regs => Sys2Proof.Machine.execSvcWdtForce m regs s
  | .svcEvtClear n => Sys2Proof.Machine.execSvcEvtClear n s
  | .svcDumpRelease => Sys2Proof.Machine.execSvcDumpRelease s
  | .svcResume => Sys2Proof.Machine.execSvcResume s
  | .svcRestore p => Sys2Proof.Machine.execSvcRestore p s
  | .svcWet id v => Sys2Proof.Machine.execSvcWet id v s
  | .tapInstructionLoad instr => Sys2Proof.Machine.execTapInstructionLoad instr s
  | .unsupportedCommandCode code x => Sys2Proof.Machine.execUnsupportedCommandCode code x s
  | .unknownConsoleCommand rx regs => Sys2Proof.Machine.execUnknownConsoleCommand rx regs s

end Sys2Proof.Machine
end

