-- ==== Sys2Proof/Safety.lean ====
section
/-! DEFINITION. What counts as a safe run: the invariant that every step keeps, and the relation in which the Varnish fuses
only move one way. -/

namespace Sys2Proof.Machine

/-- The three sparse memories are in canonical form: keys strictly rising, no listed entry equal to what an unlisted one reads. -/
def State.Canonical (s : State) : Prop :=
  Memory.wf 0xFF s.flash ∧ Memory.wf 0 s.shadow ∧ Sparse.wf (0 : Word) s.palette

/-- The groups of the state have the device's sizes: 8 palette ports, 16 rails, 128 phases, 1,024 cells, 16 links, 76
comparators, 8 general timers, 4 checking pairs and 16 mailbox channels. -/
def State.Sized (s : State) : Prop :=
  s.ports.length = 8 ∧ s.rails.length = 16 ∧ s.phases.length = 128 ∧ s.cells.length = 1024 ∧ s.links.length = 16 ∧
  s.comps.length = 76 ∧ s.timers.length = 8 ∧ s.telem.pairs.length = 4 ∧ s.mail.chans.length = 16

/-- The invariant of the model. -/
def State.Inv (s : State) : Prop := s.Canonical ∧ s.Sized

/-- Varnish only burns: a burned bit of any copy stays burned (R452). -/
def Varnish.Burns (v w : Varnish) : Prop := v.a &&& w.a = v.a ∧ v.b &&& w.b = v.b ∧ v.c &&& w.c = v.c
/-- The same of the fields of Table 17.1. -/
def Fuses.Burns (f g : Fuses) : Prop :=
  (∀ k < 4, f.hash k &&& g.hash k = f.hash k) ∧ f.keyValid &&& g.keyValid = f.keyValid ∧ f.rb &&& g.rb = f.rb ∧ (f.wdtHw = true → g.wdtHw = true) ∧
  (f.debugOff = true → g.debugOff = true) ∧ (f.idGen = true → g.idGen = true)

/-- A run of the machine that stays in next states. -/
inductive Reaches : State → State → Prop where
  | here (s : State) : Reaches s s
  | more {s t u : State} (h : step s = .next t) (r : Reaches t u) : Reaches s u

/-- A safe state: every run from it keeps the invariant and unburns no fuse. -/
def State.SafeRuns (s : State) : Prop := ∀ t, Reaches s t → t.Inv ∧ s.varnish.Burns t.varnish

end Sys2Proof.Machine
end

