-- ==== Sys2Proof/Certificates/Slice0/Obligations.lean ====
section
/-! DEFINITION. The statements about the model that the provers settle. Each docstring says which rules a statement
formalises, or that it rests on a choice of the model and which log entry names it. -/

open Sys2Proof Sys2Proof.Machine

/-- The commands that may write the image flash: the two that update an image, the takes that serve them, and a power-on reset that
cuts an activation short. -/
def WritesFlash : Instr → Bool
  | .imageChunk .. | .imageActivate .. | .supplyFall .. | .porstNLow .. | .mailboxTakeAck .. | .hostMessageTake .. => true
  | _ => false

/-- The commands that enter or overrun a stage of priming, or power-on reset. -/
def Primes : Instr → Bool
  | .supplyFall .. | .porstNLow .. | .stageMaximumExceeded .. | .primeP2 .. | .primeP3 .. | .primeP4 | .primeP6 .. => true
  | _ => false

/-- The commands that may write the configuration shadow. -/
def WritesShadow : Instr → Bool
  | .registerWrite .. | .apprenticeHandback | .railHandback .. | .ioutOcFaultLimit .. | .voutTransitionRate .. | .wetWrite ..
  | .paletteWrite .. | .mailboxTakeAck .. | .hostMessageTake .. => true
  | c => Primes c

/-- The commands that may write the palette memory. -/
def WritesPalette : Instr → Bool
  | .registerWrite .. | .rmReadyHeartbeat | .scrub .. | .paletteWrite .. | .mailboxTakeAck .. | .hostMessageTake .. => true
  | c => Primes c

/-- The commands that may write the Pentimento slot. -/
def WritesDump : Instr → Bool
  | .pentimentoCommit .. | .scrub .. | .svcDumpRelease | .unknownConsoleCommand .. | .dumpReadRelease .. | .mailboxTakeAck .. | .hostMessageTake .. => true
  | c => Primes c

/-- The commands that may write the identity key store. -/
def WritesIdentity : Instr → Bool
  | .serviceKeySet .. | .svcAuthAnswer .. | .unknownConsoleCommand .. | .lockoutEnd | .mailboxTakeAck .. | .hostMessageTake .. => true
  | c => Primes c

/-- P3 as it begins: the flash is read at the mode and clock that its tables give, and the mark of slot A is known. -/
def startP3 (s : State) (sfdp : Option Sfdp) (readA : FlashRead) : State :=
  { s with boot := { s.boot with
      sfdp := sfdp.isSome, access := flashAccess sfdp,
      aSuperseded := readA != .errorAtHeader && superseded (s.slotReader false) } }
/-- CAUSE and DETAIL with which a slot fails the checks of orders 1 to 9; none where it passes. -/
def slotFails (s : State) (slotB : Bool) (read : FlashRead) : Option (Nat × Nat) :=
  (s.checkSlotImage (s.slotReader slotB) read).1
/-- An image has been loaded from a slot, and P4 begins. -/
def SlotLoaded (t s : State) (slotB : Bool) : Prop :=
  t.boot.stage = 4 ∧ t.boot.imageLoaded = true ∧ t.boot.slot = (if slotB then 2 else 1) ∧
  t.boot.imageVersion = BitVec.ofNat 32 (rdNat (s.slotReader slotB) 0xC 4)
/-- The blank canvas, with the CAUSE and the DETAIL of a failed check. -/
def BothRejected (t : State) (f : Nat × Nat) : Prop :=
  t.boot.stage = 0xE ∧ t.boot.imageLoaded = false ∧ t.boot.slot = 0 ∧ t.shadow = [] ∧
  t.boot.cause = BitVec.ofNat 4 f.1 ∧ t.boot.detail = BitVec.ofNat 8 f.2

/-- What a counted expiry or miscompare of a pair does to its count and which step of the ladder it takes (Table 12.4). -/
def Climbs (m : Manager) (cause : Nat) (s t : State) : Prop :=
  (t.mgr m).run ≠ .running ∧ t.ret.recent m = min 7 (s.ret.recent m + 1) ∧ t.ret.last m = some s.clock.tick ∧
  (s.safe.active = true → (t.mgr m).run = .heldReset) ∧
  (s.safe.active = false → s.safeN ≤ min 7 (s.ret.recent m + 1) → t.safe.active = true ∧ t.rm.run = .heldReset) ∧
  (s.safe.active = false → min 7 (s.ret.recent m + 1) < s.safeN → t.safe = s.safe ∧ (t.mgr m).run = .stopped) ∧
  (s.safe.warm.isSome = true → t.ret.kind = s.ret.kind ∧ t.ret.cause = s.ret.cause) ∧
  (s.safe.active = false → s.safe.warm = none → min 7 (s.ret.recent m + 1) < s.safeN →
    t.ret.cause = BitVec.ofNat 4 cause ∧
    t.ret.kind = if s.within (s.ret.last m) (msTicks s.escWin) then 1 else BitVec.ofNat 2 (mgrNo m + 2)) ∧
  (∀ n, (t.rail n).core = (s.rail n).core) ∧ t.phases = s.phases

/-- In a frame time the RM does nothing on a phase in RETRY_WAIT: it is down or the rail is not the RM's (R213), or no retry has begun. -/
def RetryStands (s : State) (p : Nat) : Prop :=
  (s.phase p).state = .retryWait → s.rm.run ≠ .running ∨ (∃ n, s.phaseRail p = some n ∧ s.frozenRail n = true) ∨
    ((s.phase p).retrying = false ∧ ((s.phase p).disc = .idle ∨ (s.phase p).disc = .owed))
/-- A frame of a class is the one that a link sends: the first that may go, of the first class in which one may (Table 8.5). -/
def SendsFrame (s : State) (l cls : Nat) (f : DownFrame) : Prop :=
  1 ≤ cls ∧ cls ≤ 6 ∧ (s.link l).queue.find? (fun q => q.1 == cls && s.mayGo l q) = some (cls, f) ∧
  ∀ q ∈ (s.link l).queue, 1 ≤ q.1 → q.1 < cls → s.mayGo l q = false

/-- The HM serves a request of a code on this channel now: it runs, a host identity sent it, and the blank canvas and the
safe state let the code through. -/
def MayServe (s : State) (ch : Fin 16) (code : Nat) : Prop :=
  s.hmServes ch = true ∧ (s.asker ch = 1 ∨ s.asker ch = 2) ∧ (s.blank = true → blankServes code = true) ∧
  (s.safe.active = true → safeServes code = true)

/-- From `s` to `t` one reply was queued: that of a request of a code on channel `ch`, with a status and the words after it. -/
def Replied (s t : State) (ch : Fin 16) (code : Nat) (m : Message) (status : Nat) (words : List Word) : Prop :=
  t.mail = (s.reply ch code m status words).mail

/-- The device-wide reads without an effect of their own: command, code, and the bytes before the PEC. -/
def deviceReads (s : State) : List ((BusXfer → Instr) × Nat × List Byte) :=
  [(.page, 0x00, [s.pm.page]), (.writeProtect, 0x10, [s.pm.writeProtect]), (.capability, 0x19, [0xD0]), (.voutMode, 0x20, [0x15]),
   (.statusInput, 0x7C, [s.statusInput]), (.statusCml, 0x7E, [s.pm.stCml]), (.pmbusRevision, 0x98, [0x33]),
   (.mfrId, 0x99, [6, 0x48, 0x4F, 0x4C, 0x45, 0x54, 0x48]), (.mfrModel, 0x9A, [6, 0x45, 0x4D, 0x31, 0x32, 0x38, 0x30]),
   (.mfrRevision, 0x9B, [6, 0x42, 0x31, 0x2D, 0x33, 0x2E, 0x32]), (.icDeviceId, 0xAD, [4, 0x80, 0x12, 0x00, 0x00]),
   (.icDeviceRev, 0xAE, [2, 0x42, 0x31]), (.mfrMboxStatus, 0xD2, blockOf s.mboxWords),
   (.mfrMboxControlRead, 0xD3, blockOf [(s.chan s.mail.selected.toNat).control]),
   (.mfrCellSelect, 0xD6, leBytes 2 s.pm.cellSelect.toNat), (.mfrEvtHead, 0xD8, blockOf s.evtHead),
   (.mfrWdtCounts, 0xDA, blockOf s.wdtWords), (.mfrGuaranteeState, 0xDC, blockOf s.guaranteeWords),
   (.mfrDumpInfo, 0xDE, blockOf s.dumpWords), (.mfrPrimingStatus, 0xDF, blockOf [s.primingWord]),
   (.mfrSecurityState, 0xE0, blockOf s.securityWords),
   (.readVin, 0x88, leBytes 2 ((s.vinCode.map fun c => linear11 c 200).getD 0)),
   (.readIin, 0x89, leBytes 2 ((s.iinFrac.map fun f => linear11 f.1 f.2).getD 0)),
   (.readPin, 0x97, leBytes 2 ((s.pinFrac.map fun f => linear11 f.1 f.2).getD 0))]

/-- The bus serves a code now: the EM1280 answers its address out of standby, and every state in force accepts the code. -/
def BusServes (s : State) (code : Nat) : Prop := s.busUp = true ∧ s.clock.standby = false ∧ s.accepts code = true

/-- The reply of a read of a code after the bytes sent before the repeated START: its bytes and its PEC, as many as are clocked. -/
def replyOf (s : State) (code : Nat) (sent data : List Byte) (clocked : Nat) : List Byte :=
  (data ++ [pecOf ([s.ownByte false, BitVec.ofNat 8 code] ++ sent ++ [s.ownByte true] ++ data)]).take clocked

/-- The paged reads without an effect of their own: command, code, data bytes, whether PAGE = 0xFF reads the OR, whether a
byte count stands before the data, and the data of a rail. -/
def pagedReads (s : State) : List ((BusXfer → Instr) × Nat × Nat × Bool × Bool × (Nat → List Byte)) :=
  [(.phase, 0x04, 1, false, false, fun _ => [s.pm.phase]),
   (.operation, 0x01, 1, false, false, fun n => [(s.rail n).host.operation]),
   (.onOffConfig, 0x02, 1, false, false, fun n => [(s.rail n).host.onOff]),
   (.voutCommand, 0x21, 2, false, false, fun n => leBytes 2 (s.rail n).host.voutCommand.toNat),
   (.voutMax, 0x24, 2, false, false, fun n => leBytes 2 (s.envMax n)),
   (.voutMarginHigh, 0x25, 2, false, false, fun n => leBytes 2 (s.rail n).host.marginHigh.toNat),
   (.voutMarginLow, 0x26, 2, false, false, fun n => leBytes 2 (s.rail n).host.marginLow.toNat),
   (.voutTransitionRate, 0x27, 2, false, false, fun n => leBytes 2 (linear11 (s.slewRate (s.hostClass n)) 10)),
   (.ioutOcFaultLimit, 0x46, 2, false, false, fun n => leBytes 2 (linear11 (s.ocpAbs n) 10)),
   (.statusByte, 0x78, 1, true, false, fun n => leBytes 1 (s.statusWord n)),
   (.statusWord, 0x79, 2, true, false, fun n => leBytes 2 (s.statusWord n)),
   (.statusVout, 0x7A, 1, true, false, fun n => [s.statusVout n]), (.statusIout, 0x7B, 1, true, false, fun n => [s.statusIout n]),
   (.statusTemperature, 0x7D, 1, true, false, fun n => [s.statusTemp n]),
   (.statusMfrSpecific, 0x80, 1, true, false, fun n => [s.statusMfr n]),
   (.readVout, 0x8B, 2, false, false, fun n => leBytes 2 ((s.voutCode n).getD 0).toNat),
   (.readIout, 0x8C, 2, false, false, fun n => leBytes 2 (match s.phaseSel with
      | some p => linear11 (s.iph p) 10
      | none => linear11 (s.ioutSum n) (2 ^ 19))),
   (.readTemperature1, 0x8D, 2, false, false, fun n => leBytes 2 (s.temperature1 n)),
   (.readPout, 0x96, 2, false, false, fun n => leBytes 2 (linear11 (s.poutNum n) (2 ^ 30))),
   (.mfrRailState, 0xD4, 4, false, true, fun n => wordBytes [s.railWord n]),
   (.mfrModelState, 0xE4, 8, false, true, fun n => wordBytes (s.modelWords n)),
   (.mfrThrottleState, 0xE5, 4, false, true, fun n => wordBytes [s.throttleWord n])]

/-- `b` is a good write of the bytes `d` to a code: `n` of them, with their PEC, or without one where PEC_REQ = 0, and not
held off by WRITE_PROTECT. -/
def GoodWrite (s : State) (code n : Nat) (d b : List Byte) : Prop :=
  BusServes s code ∧ d.length = n ∧ s.guarded code = false ∧
  (b = d ∧ s.pecReq = 0 ∨ b = d ++ [pecOf ([s.ownByte false, BitVec.ofNat 8 code] ++ d)])

/-- PAGE names one enabled rail. -/
def OnPage (s : State) (n : Fin 16) : Prop := s.pm.page = BitVec.ofNat 8 n.val ∧ s.railEn n = true

/-- From `s` to `t` the host registers of rail `n` became `h`, whose new enable edge goes with the post alone: the RM applies them at
once where it serves and LOOP has its clock, and else they wait (R9, R10, R16). With nothing waiting no other rail changes. -/
def HostPosted (s t : State) (n : Fin 16) (h : RailHost) : Prop :=
  (t.rail n).host = { h with newEnable := false } ∧
  (s.cross = { posts := [], toLoop := [] } → (∀ k : Fin 16, k ≠ n → t.rail k = s.rail k) ∧
    (t.rail n).core.slewed = (s.rail n).core.slewed) ∧
  (s.cross = { posts := [], toLoop := [] } →
    t = { s with rails := t.rails, comps := t.comps, cross := t.cross, router := t.router, bus := t.bus }) ∧
  (s.cross = { posts := [], toLoop := [] } → s.rmServes = true → s.clock.loopPresent = true →
    t.cross = s.cross ∧ (t.rail n).hosted = { h with newEnable := (s.rail n).hosted.newEnable || h.newEnable }) ∧
  (s.cross = { posts := [], toLoop := [] } → s.rmServes = true → s.clock.loopPresent = false →
    t.cross = { posts := [], toLoop := [.host n h] } ∧ t.rail n = { s.rail n with host := { h with newEnable := false } }) ∧
  (s.rmServes = false → s.cross.toLoop = [] →
    t.cross = { posts := s.cross.posts ++ [.host n h], toLoop := [] } ∧
    t.rail n = { s.rail n with host := { h with newEnable := false } })

/-- The console takes a line now: it is up, out of standby, and no command waits. -/
def ConsoleReady (s : State) : Prop := s.conUp = true ∧ s.con.waiting = none ∧ s.clock.standby = false
/-- The command prints these lines, with the prompt after a final line, and changes nothing else but the bus and the router. -/
def Prints (s : State) (c : Instr) (l : List ConLine) : Prop :=
  ∃ t, exec c s = .next t ∧
    t = { s with
      con := { s.con with
        out := l
        prompt := if l.any finalLine then s.promptText else [] }
      router := t.router
      bus := t.bus }
/-- The next state holds SVC_ACTION with this action code and argument as its one new record. -/
def ActionRecorded (s t : State) (action arg : Nat) : Prop := t.sketch = (s.record 0xB002 2 action arg).sketch
/-- The console that waits for an outcome, after a command has been accepted. -/
def conWaits (s : State) (w : ConWait) : Console := { s.con with
  out := []
  prompt := []
  waiting := some w }
/-- The state in which a typed line of characters ends with a CR or an LF: the characters were echoed. -/
def lineTyped (s : State) (l : List Byte) (eol : Byte) : State := { s with
  con := { s.con with
    line := []
    afterCr := eol == 0x0D
    echo := l } }

/-- The read-only console commands and the lines that each prints before OK. -/
def consolePrints (s : State) (n : Fin 16) (m : Fin 76) (c : Fin 1024) (p : Fin 8) (a : Fin 128) : List (Instr × List ConLine) :=
  [(.svcPrime, [.words [s.primingWord]]), (.svcStatus none, (List.range 16).map s.statusLine),
   (.svcStatus (some n), [s.statusLine n]), (.svcRail n, [.words [s.railWord n]]),
   (.svcSense n, [.words [s.railWord n, BitVec.ofInt 32 (s.rail n).sense.cA, BitVec.ofInt 32 (s.rail n).sense.cB,
      (s.modelWords n).headD 0]]),
   (.svcLoop n, [.words (s.loopWords n)]), (.svcModel n, [.words (s.modelWords n)]), (.svcPalette p, [.words [s.portWord p]]),
   (.svcPhase a none, [.words (s.phaseWords a)]), (.svcCell c, [.words (s.cellWords c)]),
   (.svcLink n, [.words [BitVec.ofNat 32 (b2n (s.linkFault n)),
      BitVec.ofNat 32 ((linkCells n).countP fun c => (s.cell c).state == .silent),
      BitVec.ofNat 32 (b2n !(s.link n).ffltLow), BitVec.ofNat 32 (s.link n).lastCause]]),
   (.svcCmp none, (List.range 76).map fun m => .words [s.compWord m]), (.svcCmp (some m), [.words [s.compWord m]]),
   (.svcBurst none, (List.range 16).map fun n => .words [s.burstWord n]), (.svcBurst (some n), [.words [s.burstWord n]]),
   (.svcAdc, [.words ((List.range 4).map s.pairWord)]),
   (.svcTelem, [.words (s.telem.accs.map fun x => (s.asRead x).word), .words ((List.range 64).flatMap s.trackWords)]),
   (.svcTemp, [.words ([0x10, 0x11, 0x12, 0x13].map fun ch => BitVec.ofInt 32 ((s.reading ch).getD 0)),
      .words ([4, 5].map fun ch => BitVec.ofInt 32 ((s.reading ch).getD 0))]),
   (.svcWdt, [.words s.wdtWords]), (.svcEvt, [.words s.evtHead]),
   (.svcBus, [.words [BitVec.ofNat 32 s.bus.address.toNat, BitVec.ofNat 32 (b2n s.bus.alert), BitVec.ofNat 32 (b2n (s.dest 72)),
      BitVec.ofNat 32 s.bus.abandoned]]),
   (.svcSec, [.words s.securityWords]),
   (.svcClaims, [.words (if s.boot.imageLoaded then (List.range s.claimCount).map fun i => BitVec.ofNat 32 (s.claim i) else [])]),
   (.svcEcc, [.words (memNames.map fun m => BitVec.ofNat 32 (((s.ecc.find? (·.1 == m)).map (·.2)).getD 0))])]

/-- For every command and state, a step with that command at the front of the queue is exec of the command on the state
with the rest of the queue. The queue is the model's own (log entry 3). (95_what_each_step_holds.md.) -/
def Obligations.StepRunsTheFrontCommand : Prop :=
  ∀ (c : Instr) (rest : List Instr) (s : State),
    step { s with pending := c :: rest } = exec c { s with pending := rest }

/-- On an empty queue a step is one LOOP cycle of 1.25 ns of the model's own clock (log entry 3, a choice of the model):
the tick counts, and outside power-on reset every 800th tick adds a microsecond to TIME, which saturates at 2^48 - 1.
In power-on reset nothing else changes. (R372, R11.) -/
def Obligations.IdleStepIsOneClockCycle : Prop :=
  ∀ s : State, s.pending = [] →
    ∃ t, step s = .next t ∧ t.pending = [] ∧ t.clock.tick = s.clock.tick + 1 ∧
      (s.boot.held = true → t = { s with clock := t.clock } ∧ t.clock.time = s.clock.time) ∧
      (s.boot.held = false → t.clock.time =
        if (s.clock.tick + 1) % 800 = 0 then min (2 ^ 48 - 1) (s.clock.time + 1) else s.clock.time)

/-- The values that the spec gives for power-on reset, over every kind of state: priming and the Fixative bit, drivers,
TIME, retained counts, rails, ports, the comparators in the reset states of Table 9.1, mailbox channels and epochs,
PMBus registers, alert flag, phases and cells. Only values stated by the spec are listed, but for the empty queue,
which is the model's own (log entry 3). (R32, R33, R77, R148, R252, R372, R391, R399, R427, R432, R433, R446.) -/
def Obligations.ResetValuesOfTheSpec : Prop :=
  State.reset.boot.held = true ∧ State.reset.boot.stage = 0 ∧ State.reset.boot.fixative = false ∧
  State.reset.pins.lanesEnabled = false ∧ State.reset.pins.fdEnabled = false ∧ State.reset.pins.faultReleased = false ∧
  State.reset.clock.time = 0 ∧ State.reset.ret.recentRm = 0 ∧ State.reset.ret.recentHm = 0 ∧ State.reset.ret.warm = 0 ∧
  State.reset.ret.capPending = false ∧
  (∀ n < 16, (State.reset.rail n).core.state = .off ∧ (State.reset.rail n).host.operation = 0 ∧
    (State.reset.rail n).host.onOff = 0x16) ∧
  (∀ p < 8, (State.reset.port p).actBank = false ∧ (State.reset.port p).pendingSwap = false) ∧
  (∀ m < 64, (State.reset.comp m).out = decide (m % 4 = 3)) ∧ (State.reset.comp 64).out = true ∧
  (State.reset.comp 65).out = true ∧ (State.reset.comp 66).out = false ∧ (State.reset.comp 67).out = false ∧
  (∀ c < 16, (State.reset.chan c).full = false ∧ (State.reset.chan c).sndEpoch = 0 ∧ (State.reset.chan c).rcvEpoch = 0) ∧
  State.reset.mail.epHost = 0 ∧ State.reset.mail.epSvc = 0 ∧ State.reset.mail.epHm = 0 ∧ State.reset.mail.epRm = 0 ∧
  State.reset.pm.page = 0 ∧ State.reset.pm.phase = 0xFF ∧ State.reset.pm.writeProtect = 0 ∧ State.reset.pm.cellSelect = 0 ∧
  State.reset.pm.stCml = 0 ∧ State.reset.bus.alert = false ∧ State.reset.con.session = false ∧
  State.reset.telem.running = false ∧ (∀ p < 128, (State.reset.phase p).state = .unused) ∧
  (∀ c < 1024, (State.reset.cell c).state = .absent) ∧ State.reset.input.faults = [] ∧ State.reset.pending = []

/-- The machine right after reset has its three sparse memories in canonical form and every group of its state at the
device's size. (01_architecture.md.) -/
def Obligations.ResetMeetsTheInvariant : Prop :=
  State.reset.Inv

/-- From every state that meets the invariant, a step to a next state meets it again: flash, shadow and palette memory
stay in canonical form (keys strictly rising, no entry equal to what an unlisted key reads), and there stay 8 ports,
16 rails, 128 phases, 1,024 cells, 16 links, 76 comparators, 8 timers, 4 checking pairs and 16 mailbox channels.
(01_architecture.md, R60, R93, R187, R241, R252, R277, R318, R391.) -/
def Obligations.EveryStepKeepsTheInvariant : Prop :=
  ∀ s t : State, s.Inv → step s = .next t → t.Inv

/-- No step of the machine, whatever the command and from whatever state, unburns a bit of any of the three copies of
Varnish, so that, two of three deciding, KEYHASH, VALID, the rollback thermometer, WDT_HW, DEBUG_OFF and ID_GEN only
go from unburned to burned, and SERIAL stays as it is. (R452, R455, R458, R463, R464.) -/
def Obligations.VarnishOnlyBurns : Prop :=
  ∀ s t : State, step s = .next t →
    s.varnish.Burns t.varnish ∧ s.varnish.read.Burns t.varnish.read ∧ t.varnish.read.serial = s.varnish.read.serial

/-- Over all commands: if a command changes the Varnish bank, it is either the end of P2 on a unit whose ID_GEN is
unburned (the identity key is generated) or in P7: its end (the fuses that are due), or a power-on reset that cuts its
burns short (log entry 22). No other command, from any state, writes a fuse. (Table 17.1, R452, R455, R458, R463,
R464.) -/
def Obligations.FusesBurnOnlyInPriming : Prop :=
  ∀ (c : Instr) (s t : State), exec c s = .next t → t.varnish ≠ s.varnish →
    s.boot.held = false ∧
    ((∃ romOk keysOk memOk, c = .primeP2 romOk keysOk memOk ∧ s.boot.stage = 2 ∧ s.fuses.idGen = false) ∨
     ((c = .primeP7 ∨ (∃ k done, c = .supplyFall k done) ∨ ∃ done, c = .porstNLow done) ∧ s.boot.stage = 7))

/-- The frame of the memories over all commands and states: the image flash changes by the two image-update messages and
by a power-on reset that cuts an activation short only, the configuration shadow by priming, register and wet writes,
PALETTE_WRITE and the end of a handback, the palette memory by priming, writes, scrubs and the RM's return, the
Pentimento slot by commits, releases and scrubs, the identity key store by priming and the service-key and session
commands; a take of a message may serve any of these messages, and a console line typed as characters may spell any of
these commands. No command touches the queue of waiting commands, which is the model's own (log entry 3). (R62, R79,
R83, R84, R97, R363, R364, R465, R470.) -/
def Obligations.OnlyTheirCommandsWriteTheMemories : Prop :=
  ∀ (c : Instr) (s t : State), exec c s = .next t →
    t.pending = s.pending ∧
    (WritesFlash c = false → t.flash = s.flash) ∧
    (WritesShadow c = false → t.shadow = s.shadow) ∧
    (WritesPalette c = false → t.palette = s.palette) ∧
    (WritesDump c = false → t.dump = s.dump) ∧
    (WritesIdentity c = false → t.ident = s.ident)

/-- From every state outside power-on reset, and for every supply, the fall of a supply and PORST_N going low enter
power-on reset: drivers disabled, rails, phases, mailboxes, shadow and retained counts at their reset values, CAUSE 0
for the supply monitor and 1 for PORST_N. Fuses, flash, identity key store, event store and Pentimento slot are kept;
only work on them that was in progress (P7, an activation, a commit or an erase: log entry 22) may have come part of
its way. A trigger during power-on reset is absorbed: only the pin or the supply changes. These commands each have a
clause that exec answers a next state, with its effect: supplyFall, porstNLow. (R18, R23, R53, Table 1.6, Table 12.6.) -/
def Obligations.PowerOnResetResetsEveryDomain : Prop :=
  ∀ (s : State) (done : Nat),
    (s.boot.held = false → (∀ k : Fin 5, ∃ t, exec (.supplyFall k done) s = .next t ∧ t.boot.held = true ∧ t.ret.cause = 0 ∧
      t.pins.supplies = s.pins.supplies.set k false ∧ t.pins.lanesEnabled = false ∧ t.pins.fdEnabled = false ∧
      t.pins.faultReleased = false ∧ t.ret.recentRm = 0 ∧ t.ret.recentHm = 0 ∧ t.ret.warm = 0 ∧ t.rails = State.reset.rails ∧
      t.phases = State.reset.phases ∧ t.mail = State.reset.mail ∧ t.shadow = [] ∧ t.dump = s.dump ∧
      t.ident.scalar = s.ident.scalar ∧ t.ident.serviceKey = s.ident.serviceKey ∧ s.varnish.Burns t.varnish ∧
      (s.boot.stage ≠ 7 → t.varnish = s.varnish) ∧ (s.work.activating = none → t.flash = s.flash) ∧
      (s.work.committing = false → s.work.erasing = none → t.sketch.store = s.sketch.store))) ∧
    (s.boot.held = false → (∃ t, exec (.porstNLow done) s = .next t ∧ t.boot.held = true ∧ t.ret.cause = 1 ∧
      t.pins.porstN = false ∧ t.pins.supplies = s.pins.supplies ∧ t.pins.lanesEnabled = false ∧ t.pins.fdEnabled = false ∧
      t.pins.faultReleased = false ∧ t.ret.recentRm = 0 ∧ t.ret.recentHm = 0 ∧ t.ret.warm = 0 ∧ t.rails = State.reset.rails ∧
      t.phases = State.reset.phases ∧ t.mail = State.reset.mail ∧ t.shadow = [] ∧ t.dump = s.dump ∧
      t.ident.scalar = s.ident.scalar ∧ t.ident.serviceKey = s.ident.serviceKey ∧ s.varnish.Burns t.varnish ∧
      (s.boot.stage ≠ 7 → t.varnish = s.varnish) ∧ (s.work.activating = none → t.flash = s.flash) ∧
      (s.work.committing = false → s.work.erasing = none → t.sketch.store = s.sketch.store))) ∧
    (s.boot.held = true →
      (∀ k : Fin 5, ∃ t, exec (.supplyFall k done) s = .next t ∧
        t = { s with pins := { s.pins with supplies := s.pins.supplies.set k false }, router := t.router, bus := t.bus }) ∧
      (∃ t, exec (.porstNLow done) s = .next t ∧
        t = { s with pins := { s.pins with porstN := false }, router := t.router, bus := t.bus }))

/-- Held in power-on reset, the release leaves reset exactly when PORST_N is high (or rises with the supplies valid): then
the stage is P0 and TIME is 0. With PORST_N still low it stays held. At the end of P1 the EM1280 reads the fuse bank,
two of three copies deciding, and keeps the address of the band of Table 2.6 that holds the measured resistance, a
result on an edge selecting the higher band; a result below 4.43 kOhm or above 205.1 kOhm gives 0x4F and
STRAP_INVALID, and priming continues with P2. These commands each have a clause that exec answers a next state, with
its effect: powerOnResetRelease, primeP1. (R52, R55, R41, R43, R44, R351, R452, Table 2.6.) -/
def Obligations.ReleaseAndStrap : Prop :=
  (
  ∀ (s : State) (byPorst : Bool), s.boot.held = true →
    ∃ t, exec (.powerOnResetRelease byPorst) s = .next t ∧ t.pins.supplies = List.replicate 5 true ∧
      t.pins.porstN = (s.pins.porstN || byPorst) ∧ t.boot.held = !(s.pins.porstN || byPorst) ∧
      ((s.pins.porstN || byPorst) = true → t.boot.stage = 0 ∧ t.clock.time = 0)
  )
  ∧
  (
  ∀ s : State, s.boot.held = false → s.safe.active = false → s.boot.stage = 1 → ∀ (ohms : Nat) (svcRxLow : Bool),
    ∃ t, exec (.primeP1 ohms svcRxLow) s = .next t ∧ t.boot.stage = 2 ∧ t.boot.svcStrap = svcRxLow ∧ t.bus.addrKnown = true ∧
      t.clock.corePresent = true ∧ t.clock.loopPresent = true ∧ t.pins.svcTx = true ∧
      t.varnish = s.varnish ∧ t.fuses = s.varnish.read ∧ t.boot.fuseWdtHw = s.varnish.read.wdtHw ∧
      (ohms < 4430 ∨ 205100 < ohms → t.bus.address = 0x4F ∧ t.boot.strapInvalid = true) ∧
      (4430 ≤ ohms → ohms ≤ 205100 → t.boot.strapInvalid = false) ∧
      (∀ x ∈ [(4430, 5620, 0x40), (5620, 7150, 0x41), (7150, 9070, 0x42), (9070, 11520, 0x43), (11520, 14650, 0x44),
              (14650, 18610, 0x45), (18610, 23680, 0x46), (23680, 30130, 0x47), (30130, 38330, 0x48), (38330, 48700, 0x49),
              (48700, 61900, 0x4A), (61900, 78680, 0x4B), (78680, 100100, 0x4C), (100100, 127100, 0x4D),
              (127100, 161300, 0x4E), (161300, 205101, 0x4F)],
        x.1 ≤ ohms → ohms < x.2.1 → t.bus.address = BitVec.ofNat 7 x.2.2)
  )

/-- P0 leads to P1 and changes nothing else. P2 with good ROM, memory and key store runs the HM, leaves ID_GEN burned and
leads to P3, keeping an identity key that exists; a failed check leads to the blank canvas with CAUSE 0xD. P4 leads to
P5 when no claim is refused, turning the FU receivers on and restarting the HM once when the image has an HM patch,
else to the blank canvas with CAUSE 0x9 and the DETAIL of the first refused claim. That the shadow is empty there is
the model's reading (log entry 41). These commands each have a clause that exec answers a next state, with its effect:
primeP0, primeP2, primeP4. (R32, R55, R72, R462, R464, Table 3.1.) -/
def Obligations.EarlyPrimingStages : Prop :=
  (∀ s : State, s.boot.held = false → s.safe.active = false → s.boot.stage = 0 →
    ∃ t, exec .primeP0 s = .next t ∧ t = { s with boot := { s.boot with stage := 1 }, router := t.router, bus := t.bus }) ∧
  (∀ (s : State) (keysOk : Bool), s.boot.held = false → s.safe.active = false → s.boot.stage = 2 → (s.fuses.idGen = true → keysOk = true) →
    ∃ t, exec (.primeP2 true keysOk true) s = .next t ∧ t.boot.stage = 3 ∧ t.hm.run = .running ∧ t.ident.checked = true ∧ t.pins.qcs = true ∧
      t.fuses = { s.fuses with idGen := true } ∧ t.varnish = (if s.fuses.idGen then s.varnish else s.varnish.burn [1606] 3) ∧
      (s.fuses.idGen = true → t.ident.scalar = s.ident.scalar ∧ t.ident.publicKey = s.ident.publicKey)) ∧
  (∀ (s : State) (romOk keysOk memOk : Bool), s.boot.held = false → s.safe.active = false → s.boot.stage = 2 →
    (romOk = false ∨ memOk = false ∨ (s.fuses.idGen = true ∧ keysOk = false)) →
    ∃ t, exec (.primeP2 romOk keysOk memOk) s = .next t ∧ t.boot.stage = 0xE ∧ t.boot.cause = 0xD ∧ t.boot.detail = 0 ∧
      t.pins.lanesEnabled = false ∧ t.boot.fixative = true) ∧
  (∀ s : State, s.boot.held = false → s.safe.active = false → s.boot.stage = 4 → s.claimsFail = none →
    ∃ t, exec .primeP4 s = .next t ∧ t.boot.stage = 5 ∧ t.pins.fuOn = true ∧ t.rails = s.rails ∧ t.shadow = s.shadow ∧
      t.mail.epHm = (if s.boot.patchHm.isEmpty then s.mail.epHm else s.mail.epHm + 1)) ∧
  (∀ (s : State) (d : Nat), s.boot.held = false → s.safe.active = false → s.boot.stage = 4 → s.claimsFail = some d →
    ∃ t, exec .primeP4 s = .next t ∧ t.boot.stage = 0xE ∧ t.boot.cause = 9 ∧ t.boot.detail = BitVec.ofNat 8 d ∧
      t.boot.imageLoaded = false ∧ t.shadow = [])

/-- P3 checks slot A, and slot B only where slot A failed or is superseded; a superseded slot A is checked in full once
slot B has failed. The first slot whose check (orders 1 to 9) finds no failure is loaded, and P4 begins with its
IMAGE_VERSION. Where every slot that is left fails, P3 ends in the blank canvas with the CAUSE and the DETAIL of the
last failed check, with no image, the lanes disabled and, the model's reading (log entry 41), an empty shadow. A slot
that an overrun of P3 has failed already is not tried again. An erased flash always ends in the blank canvas. The
flash is read at the mode and clock that its tables give. Neither fuses nor flash change. This command has a clause
that exec answers a next state, with its effect: primeP3. (R61, R66, R67, R68, R69, R70, R82, Table 3.6.) -/
def Obligations.ImageSelection : Prop :=
  ∀ (s : State) (sfdp : Option Sfdp) (readA readB : FlashRead), s.boot.held = false → s.safe.active = false → s.boot.stage = 3 →
    ∃ t, exec (.primeP3 sfdp readA readB) s = .next t ∧ t.boot.sfdp = sfdp.isSome ∧
      t.boot.access = flashAccess sfdp ∧ t.fuses = s.fuses ∧ t.varnish = s.varnish ∧ t.flash = s.flash ∧
      (t.boot.stage = 4 ∧ t.boot.imageLoaded = true ∧ (t.boot.slot = 1 ∨ t.boot.slot = 2) ∨
       t.boot.stage = 0xE ∧ t.boot.imageLoaded = false ∧ t.boot.slot = 0 ∧ t.boot.aFail = true ∧ t.boot.bFail = true ∧
         t.boot.fixative = true ∧ t.pins.lanesEnabled = false ∧ t.shadow = []) ∧
      (t.boot.slot = 1 → t.boot.aFail = false) ∧
      (t.boot.slot = 2 → t.boot.aFail = true ∨ t.boot.aSuperseded = true) ∧
      (s.flash = [] → t.boot.stage = 0xE) ∧
      (let a := startP3 s sfdp readA
       (s.boot.aFail = false → s.boot.bFail = false → a.boot.aSuperseded = false →
          (slotFails a false readA = none → SlotLoaded t s false) ∧
          (∀ f, slotFails a false readA = some f →
            (let b := (a.trySlot false readA).2
             (slotFails b true readB = none → SlotLoaded t s true) ∧ (∀ g, slotFails b true readB = some g → BothRejected t g)))) ∧
       (s.boot.aFail = false → s.boot.bFail = false → a.boot.aSuperseded = true →
          (slotFails a true readB = none → SlotLoaded t s true) ∧
          (∀ f, slotFails a true readB = some f →
            (let b := (a.trySlot true readB).2
             (slotFails b false readA = none → SlotLoaded t s false) ∧ (∀ g, slotFails b false readA = some g → BothRejected t g)))) ∧
       (s.boot.aFail = true → s.boot.bFail = false →
          (slotFails a true readB = none → SlotLoaded t s true) ∧ (∀ f, slotFails a true readB = some f → BothRejected t f)) ∧
       (s.boot.aFail = false → s.boot.bFail = true →
          (slotFails a false readA = none → SlotLoaded t s false) ∧ (∀ f, slotFails a false readA = some f → BothRejected t f)) ∧
       (s.boot.aFail = true → s.boot.bFail = true → t.boot.stage = 0xE ∧ t.boot.cause = s.boot.cause))

/-- P5 starts the RM, from ROM alone where its patch memory does not match its digest, enables lanes and FD drivers, sends
RESET_CELL 0xA5 twice on every link and then sends ENUMERATE for each of its eight lanes, with the pattern on the lane
of every phase that is not UNUSED (log entry 56), and gives each of the 1,024 cell numbers its state: ABSENT where
nothing answered, CONFIGURED and parked where an expected cell answered and its configuration checked, SILENT where
the configuration failed (on a link without a fault and with fewer than four such cells), QUARANTINED and off where a
cell answers at a number that is not expected. This command has a clause that exec answers a next state, with its
effect: primeP5. (R187, R236, R238, R239, R241, R462, Table 8.8.) -/
def Obligations.DiscoveryFillsTheCellTable : Prop :=
  ∀ (s : State) (found : List FoundCell), s.boot.held = false → s.safe.active = false → s.boot.stage = 5 →
    ∃ t, exec (.primeP5 found) s = .next t ∧ t.boot.stage = 6 ∧ t.rm.run = .running ∧ t.pins.lanesEnabled = true ∧
      t.pins.fdEnabled = true ∧ t.telem.running = true ∧
      (∀ c < 1024, found.find? (fun f => f.cell.val == c) = none → (t.cell c).state = .absent) ∧
      (∀ (c : Nat) (f : FoundCell) (id : BitVec 64), c < 1024 → found.find? (fun f => f.cell.val == c) = some f →
        f.otherVersion = false → f.reply = some id →
        (s.expect c = 1 → f.failsAt = none →
          (t.cell c).state = .configured ∧ (t.cell c).serial = id ∧ (t.cell c).mode = 1) ∧
        (s.expect c = 1 → f.failsAt ≠ none → s.linkFault (cellLink c) = false →
          (found.filter fun g => g.failsAt.isSome && cellLink g.cell.val == cellLink c).length < 4 →
          (t.cell c).state = .silent ∧ (t.cell c).serial = id) ∧
        (s.expect c = 0 → (t.cell c).state = .quarantined ∧ (t.cell c).mode = 3 ∧ (t.cell c).serial = id)) ∧
      (∀ l < 16, s.links.length = 16 →
        (t.link l).acts.take 2 = List.replicate 2 (LinkAct.frame (broadcastFrame 8 0xA50000)) ∧
        (∀ k < 8, (LinkAct.pattern k ∈ (t.link l).acts ↔ (s.phaseRail (8 * l + k)).isSome = true) ∧
          LinkAct.frame (enumerateFrame (8 * l + k)) ∈ (t.link l).acts)) ∧
      (s.boot.patchRm ≠ [] → t.rm.romOnly = (sha384 s.boot.patchRm != s.boot.patchRmHash))

/-- With no failed test P6 leads to P7, and keeps the rails whose output node stands above the threshold of their OV_SLOW
comparator, CAUSE 0xC with the lowest of them in DETAIL (log entry 56). A sense of an enabled rail whose known-level
test fails in any part leads to the blank canvas with CAUSE 0xB and the lowest such rail in DETAIL; so does, with the
senses good, a comparator of an enabled rail that fails its test and the repeat; 0xE0 and 0xE1 stand for both VIN_UV
and both VIN_OV comparators; and 0xF0 + i for the lowest converter pair whose arbitration finds neither converter
good, which also sets STATUS_CML[0]. The order of the checks is the model's choice (log entry 56 at R75). P7 sets the
Fixative bit and STAGE 0x8, burns KEYHASH and the VALID bit of a claimed owner-key slot, the rollback thermometer up
to ROLLBACK where ADVANCE_RB is 1, and WDT_HW where the image asks for it, latches every enabled rail whose node P6
found too high with VOUT_OV_FAULT (but one that R74 keeps OFF), starts both watchdogs where the WDT_HW fuse was read
in P1, and releases FAULT_N exactly when no rail is latched. These commands each have a clause that exec answers a
next state, with its effect: primeP6, primeP7. (R75, R76, R261, R333, R336, R503, R33, R77, R351, R452, R455, R458.) -/
def Obligations.SelfTestsAndPrimed : Prop :=
  (
  ∀ s : State, s.boot.held = false → s.safe.active = false → s.boot.stage = 6 →
    (∀ r : SelfTest, r.comps = [] → r.convA = 0 → r.convB = 0 → (∀ n < 16, sensePasses r.senses n false = true ∧ sensePasses r.senses n true = true) →
      (∃ t, exec (.primeP6 r) s = .next t ∧ t.boot.stage = 7 ∧ t.shadow = s.shadow ∧ t.phases = s.phases ∧
        (∀ n < 16, t.boot.ovNodes.getLsbD n = (s.railEn n && s.nodeHigh r n)) ∧
        (∀ n < 16, s.railEn n = true → s.nodeHigh r n = true → (∀ k < n, s.railEn k = true → s.nodeHigh r k = false) →
          t.boot.cause = 0xC ∧ t.boot.detail = BitVec.ofNat 8 n))) ∧
    (∀ r : SelfTest, (∀ n < 16, s.railEn n = true → sensePasses r.senses n false = true ∧ sensePasses r.senses n true = true) →
      (∀ n < 16, s.railEn n = true → (∃ k < 4, compFails r (4 * n + k) = true) →
        (∀ j < n, s.railEn j = true → ∀ k < 4, compFails r (4 * j + k) = false) →
        ∃ t, exec (.primeP6 r) s = .next t ∧ t.boot.stage = 0xE ∧ t.boot.cause = 0xB ∧ t.boot.detail = BitVec.ofNat 8 n) ∧
      ((∀ n < 16, s.railEn n = true → ∀ k < 4, compFails r (4 * n + k) = false) →
        (s.enabledRails ≠ [] → compFails r 64 = true → compFails r 65 = true →
          ∃ t, exec (.primeP6 r) s = .next t ∧ t.boot.stage = 0xE ∧ t.boot.cause = 0xB ∧ t.boot.detail = 0xE0) ∧
        (s.enabledRails ≠ [] → (compFails r 64 && compFails r 65) = false → compFails r 66 = true → compFails r 67 = true →
          ∃ t, exec (.primeP6 r) s = .next t ∧ t.boot.stage = 0xE ∧ t.boot.cause = 0xB ∧ t.boot.detail = 0xE1) ∧
        ((compFails r 64 && compFails r 65) = false → (compFails r 66 && compFails r 67) = false →
          ∀ i < 4, s.pairPowered i = true → r.convA.getLsbD i = true → r.convB.getLsbD i = true →
          (∀ j < i, s.pairPowered j = true → (r.convA.getLsbD j && r.convB.getLsbD j) = false) →
          ∃ t, exec (.primeP6 r) s = .next t ∧ t.boot.stage = 0xE ∧ t.boot.cause = 0xB ∧ t.boot.detail = BitVec.ofNat 8 (0xF0 + i) ∧
            t.pm.stCml.getLsbD 0 = true))) ∧
    (∀ (r : SelfTest) (n : Nat), s.railEn n = true →
      sensePasses r.senses n false = false ∨ sensePasses r.senses n true = false →
      (∀ k < n, s.railEn k = true → sensePasses r.senses k false = true ∧ sensePasses r.senses k true = true) → n < 16 →
      ∃ t, exec (.primeP6 r) s = .next t ∧ t.boot.stage = 0xE ∧ t.boot.cause = 0xB ∧ t.boot.detail = BitVec.ofNat 8 n ∧
        t.pins.lanesEnabled = false)
  )
  ∧
  (
  ∀ s : State, s.boot.held = false → s.safe.active = false → s.boot.stage = 7 →
    ∃ t, exec .primeP7 s = .next t ∧ t.boot.stage = 8 ∧ t.boot.fixative = true ∧
      (t.pins.faultReleased = true ↔ ∀ r ∈ t.rails, r.core.state.latched = false) ∧
      t.fuses.wdtHw = (s.fuses.wdtHw || s.burnWdtHw == 1) ∧
      t.fuses.keyValid = (if s.boot.burnClaim then s.fuses.keyValid ||| BitVec.ofNat 4 (2 ^ s.boot.claimSlot.toNat)
        else s.fuses.keyValid) ∧
      t.varnish = s.varnish.burn s.burnList (3 * s.burnList.length) ∧
      (s.boot.burnClaim = true → s.fuses.keyHash.length = 4 → t.fuses.hash s.boot.claimSlot.toNat = s.boot.claimHash ∧
        ∀ k < 4, k ≠ s.boot.claimSlot.toNat → t.fuses.hash k = s.fuses.hash k) ∧
      (s.boot.burnClaim = false → t.fuses.keyHash = s.fuses.keyHash) ∧
      (s.advanceRb = 0 → t.fuses.rb = s.fuses.rb) ∧
      (s.advanceRb = 1 → s.fuses.rb &&& t.fuses.rb = s.fuses.rb ∧
        (s.fuses.rbCount ≤ s.boot.rollback.toNat → s.boot.rollback.toNat ≤ 64 → t.fuses.rbCount = s.boot.rollback.toNat)) ∧
      (s.rails.length = 16 → s.pm.stVout.length = 16 →
        ∀ n < 16, s.boot.ovNodes.getLsbD n = true → s.railEn n = true → t.boot.heldOff.getLsbD n = false →
          (t.rail n).core.state = .faultLatched ∧ (t.rail n).prot.latch.getLsbD 0 = true ∧
          (t.pm.stVout.getD n 0).getLsbD 7 = true ∧ t.pins.faultReleased = false) ∧
      (s.boot.fuseWdtHw = true → t.rm.wd.run = true ∧ t.hm.wd.run = true) ∧
      (s.boot.svcStrap = true → t.con.baud = 0) ∧ t.shadow = s.shadow ∧ t.flash = s.flash
  )

/-- The outcome of Table 3.1 for each stage: P0 and P1 restart power-on reset and P0; P2, P4 and P6 end in the blank
canvas with CAUSE 0xD, 0x9 and 0xB; P3 fails the slot in hand with CAUSE 0x1, and with both slots failed ends in the
blank canvas; P5 ends discovery with what it had found, every other cell ABSENT. After priming it changes nothing.
This command has a clause that exec answers a next state, with its effect: stageMaximumExceeded. (R55, Table 3.1.) -/
def Obligations.StageMaximumOutcomes : Prop :=
  ∀ (s : State) (found : List FoundCell), s.boot.held = false → s.safe.active = false →
    (s.boot.stage = 0 ∨ s.boot.stage = 1 → ∃ t, exec (.stageMaximumExceeded found) s = .next t ∧ t.boot.held = false ∧ t.boot.stage = 0 ∧
      t.clock.time = 0 ∧ t.rails = State.reset.rails ∧ t.varnish = s.varnish) ∧
    (s.boot.stage = 2 → ∃ t, exec (.stageMaximumExceeded found) s = .next t ∧ t.boot.stage = 0xE ∧ t.boot.cause = 0xD) ∧
    (s.boot.stage = 3 → s.boot.aFail = false → s.boot.bFail = false → s.markA = false →
      ∃ t, exec (.stageMaximumExceeded found) s = .next t ∧ t.boot.stage = 3 ∧ t.boot.aFail = true ∧ t.boot.bFail = false ∧
        t.boot.cause = 1) ∧
    (s.boot.stage = 3 → s.boot.aFail = true → s.boot.bFail = false →
      ∃ t, exec (.stageMaximumExceeded found) s = .next t ∧ t.boot.stage = 0xE ∧ t.boot.cause = 1 ∧ t.boot.imageLoaded = false) ∧
    (s.boot.stage = 4 → ∃ t, exec (.stageMaximumExceeded found) s = .next t ∧ t.boot.stage = 0xE ∧ t.boot.cause = 9) ∧
    (s.boot.stage = 5 → ∃ t, exec (.stageMaximumExceeded found) s = .next t ∧ exec (.primeP5 found) s = .next t ∧ t.boot.stage = 6 ∧
      (∀ c < 1024, found.find? (fun f => f.cell.val == c) = none → (t.cell c).state = .absent)) ∧
    (s.boot.stage = 6 → ∃ t, exec (.stageMaximumExceeded found) s = .next t ∧ t.boot.stage = 0xE ∧ t.boot.cause = 0xB) ∧
    (s.boot.stage = 8 → ∃ t, exec (.stageMaximumExceeded found) s = .next t ∧
      t = { s with router := t.router, bus := t.bus })

/-- For each of the fifteen edges between two bands of Table 2.6: a strap that measures exactly the edge gives the address
of the band above it, whatever else holds at the end of P1. (R44.) -/
def Obligations.BandEdgeSelectsTheHigherBand : Prop :=
  ∀ s : State, s.boot.held = false → s.safe.active = false → s.boot.stage = 1 → ∀ svcRxLow : Bool,
    ∀ x ∈ [(5620, 0x41), (7150, 0x42), (9070, 0x43), (11520, 0x44), (14650, 0x45), (18610, 0x46), (23680, 0x47), (30130, 0x48),
           (38330, 0x49), (48700, 0x4A), (61900, 0x4B), (78680, 0x4C), (100100, 0x4D), (127100, 0x4E), (161300, 0x4F)],
      ∃ t, exec (.primeP1 x.1 svcRxLow) s = .next t ∧ t.bus.address = BitVec.ofNat 7 x.2 ∧ t.boot.strapInvalid = false

/-- In PRIMED and in the blank canvas, with no wider restart in progress, the restart of the RM or of the HM takes that
pair down, advances its own epoch and records its KIND, while the other pair, its epoch, the rails and the shadow stay
as they are. Mailbox contents are kept, and a FULL message whose receiver restarts becomes STALE. An HM restart ends
the service session, and of a bus transaction that it cuts, the bytes written later are refused and those read later
are 0xFF. The end of an HM restart and the ready heartbeat of the RM leave the pair running, its miscompare and expiry
sources fallen and its frozen registers taken; a free capture area then holds the pending capture of Table 12.8, and
one already PENDING stays and counts DROPPED. A pair whose patch memory does not match its digest runs ROM alone. A
transaction that the restart cut sets OTHER_COMM_FAULT. The other pair stays. In a hold with nothing posted the rails
and phases stay too; what the host had posted is carried out now. Without a hold the RM begins to take the rails:
those that run wait for their own boundaries, and with none of them a CLEAR_FAULTS kept for the RM is carried out at
once (that it is kept and carried out here is the model's choice, log entry 56 at R446 and R9). These commands each
have a clause that exec answers a next state, with its effect: pairRestartRm, pairRestartHm, rmReadyHeartbeat. (R18,
R21, R23, R399, R422, R477, Table 1.6, Table 12.6, R9, R25, R362, R366.) -/
def Obligations.PairRestartsAndReturns : Prop :=
  (
  ∀ s : State, s.boot.held = false → s.boot.stage = 8 ∨ s.boot.stage = 0xE → s.safe.warm = none →
    (s.rm.run = .running ∨ s.rm.run = .stopped →
      ∃ t, exec .pairRestartRm s = .next t ∧ t.rm.run = .restarting ∧ t.hm = s.hm ∧ t.rails = s.rails ∧
        t.mail.epRm = s.mail.epRm + 1 ∧ t.mail.epHm = s.mail.epHm ∧ t.ret.kind = 2 ∧ t.shadow = s.shadow) ∧
    (s.hm.run = .running ∨ s.hm.run = .stopped → ∀ (cause : RestartCause) (cut : Option CutXfer),
      ∃ t, exec (.pairRestartHm (.begins cause cut)) s = .next t ∧ t.hm.run = .restarting ∧ t.rm = s.rm ∧
        t.rails = s.rails ∧ t.mail.epHm = s.mail.epHm + 1 ∧ t.mail.epRm = s.mail.epRm ∧ t.ret.kind = 3 ∧
        t.ret.cause = causeCode s cause ∧ t.con.session = false ∧ t.shadow = s.shadow ∧ (cut = none → t.bus = s.judge.bus) ∧
        (cut ≠ none → t.bus.cut = true) ∧ (∀ k, cut = some (.send k) → t.bus.refused = k ∧ t.bus.reply = []) ∧
        (∀ got k, cut = some (.recv got k) → t.bus.refused = 0 ∧ t.bus.reply = got ++ List.replicate k 0xFF)) ∧
    (∀ c, (s.mail.chans[c]?).isSome → s.chanReceiver c = 4 → (s.chan c).full = true →
      s.rm.run = .running → ∃ t, exec .pairRestartRm s = .next t ∧ (t.chan c).full = true ∧ (t.chan c).stale = true ∧
        (t.chan c).d = (s.chan c).d)
  )
  ∧
  (
  ∀ s : State, s.safe.warm = none → s.clock.corePresent = true →
    (s.hm.run = .restarting →
      ∃ t, exec (.pairRestartHm .ends) s = .next t ∧ t.hm.run = .running ∧ t.hm.miscompare = false ∧
        t.hm.expired = false ∧ t.hm.frozen = none ∧ t.rm = s.rm ∧ t.rails = s.rails ∧ t.bus.cut = false ∧
        (s.bus.cut = true → t.pm.stCml.getLsbD 1 = true) ∧
        t.hm.romOnly = (!s.boot.patchHm.isEmpty && sha384 s.boot.patchHm != s.boot.patchHmHash) ∧
        (∀ f, s.hm.frozen = some f → s.ret.capPending = false →
          t.ret.capPending = true ∧ t.ret.capCause = s.hm.causeKey ∧ t.ret.capture = s.captureOf s.hm f) ∧
        (∀ f, s.hm.frozen = some f → s.ret.capPending = true →
          t.ret.capture = s.ret.capture ∧ t.ret.dropped.toNat = min 65535 (s.ret.dropped.toNat + 1))) ∧
    (s.rm.run = .restarting →
      ∃ t, exec .rmReadyHeartbeat s = .next t ∧ t.rm.run = .running ∧ t.rm.miscompare = false ∧ t.rm.expired = false ∧
        t.rm.frozen = none ∧ t.hm = s.hm ∧ t.ret.lossOwed = none ∧
        (s.app.holding = true → s.cross.posts = [] → s.cross.toLoop = [] → t.phases = s.phases ∧ t.rails = s.rails) ∧
        t.rm.romOnly = (!s.boot.patchRm.isEmpty && sha384 s.boot.patchRm != s.boot.patchRmHash) ∧
        (s.app.holding = false → s.cross.posts = [] → s.cross.toLoop = [] →
          t.app.taking = BitVec.ofNat 16 (maskOf 16 fun n => s.takable.contains n) ∧ (s.takable = [] → t.app.heldClears = [])) ∧
        (s.clock.loopPresent = true → t.cross.posts = []) ∧
        (∀ f, s.rm.frozen = some f → s.ret.capPending = false →
          t.ret.capPending = true ∧ t.ret.capCause = s.rm.causeKey ∧ t.ret.capture = s.captureOf s.rm f) ∧
        (∀ f, s.rm.frozen = some f → s.ret.capPending = true →
          t.ret.capture = s.ret.capture ∧ t.ret.dropped.toNat = min 65535 (s.ret.dropped.toNat + 1)))
  )

/-- In PRIMED and in the blank canvas, a warm chip restart takes both pairs down, whether they run, are stopped or restart
already (a held RM comes out of reset with a RESUME alone), advances both epochs, counts WARM (saturating) and records
KIND 1 with its CAUSE, and keeps the retained RECENT counts, the rail states and the fault history of each LE; the
service session ends. A request of the same kind or a narrower one is absorbed while it lasts, and so is the restart
of a pair that restarts already. At its end, with the shadow of the dry sections matching its digest and that of the
wet ones its CRC, the HM runs, LOOP runs from PLL_LOOP again where that was ready, and shadow, fuses and Fixative bit
are as they were; a failed check of the shadow is the safe state, with the RM held in reset and the HM up. This
command has a clause that exec answers a next state, with its effect: warmChipRestart. (R18, R19, R20, R23, R81, R358,
R361, R399, Table 1.6.) -/
def Obligations.WarmRestartKeepsRetainedCounts : Prop :=
  ∀ s : State,
    (s.boot.stage = 8 ∨ s.boot.stage = 0xE → s.safe.warm = none → s.rm.run ≠ .heldReset → s.hm.run ≠ .heldReset →
      ∀ (cause : RestartCause) (cut : Option CutXfer),
      ∃ t, exec (.warmChipRestart (.begins cause cut)) s = .next t ∧ (cut ≠ none → t.bus.cut = true) ∧ t.safe.warm = some (causeCode s cause) ∧
        t.rm.run = .restarting ∧ t.hm.run = .restarting ∧ t.ret.kind = 1 ∧ t.ret.cause = causeCode s cause ∧
        t.ret.warm = BitVec.ofNat 16 (min 65535 (s.ret.warm.toNat + 1)) ∧ t.ret.recentRm = s.ret.recentRm ∧
        t.ret.recentHm = s.ret.recentHm ∧ t.mail.epRm = s.mail.epRm + 1 ∧ t.mail.epHm = s.mail.epHm + 1 ∧
        t.con.session = false ∧ t.shadow = s.shadow ∧
        (∀ n < 16, s.rails.length = 16 → (t.rail n).core = (s.rail n).core ∧ (t.rail n).le.declared = (s.rail n).le.declared)) ∧
    (s.boot.stage = 8 → s.safe.warm = none → s.rm.run = .heldReset → ∀ (cause : RestartCause) (cut : Option CutXfer),
      ∃ t, exec (.warmChipRestart (.begins cause cut)) s = .next t ∧
        t.rm.run = (if cause = .resume ∧ s.safe.resumed = true then .restarting else .heldReset) ∧
        t.ret.kind = 1 ∧ t.safe.warm = some (causeCode s cause) ∧ t.shadow = s.shadow) ∧
    (s.safe.warm.isSome = true →
      (∀ (cause : RestartCause) (cut : Option CutXfer),
        (∃ t, exec (.warmChipRestart (.begins cause cut)) s = .next t ∧ t = { s with router := t.router, bus := t.bus }) ∧
        (∃ t, exec (.pairRestartHm (.begins cause cut)) s = .next t ∧ t = { s with router := t.router, bus := t.bus })) ∧
      (∃ t, exec .pairRestartRm s = .next t ∧ t = { s with router := t.router, bus := t.bus })) ∧
    (s.rm.run = .restarting →
      ∃ t, exec .pairRestartRm s = .next t ∧ t = { s with router := t.router, bus := t.bus }) ∧
    (s.hm.run = .restarting → ∀ (cause : RestartCause) (cut : Option CutXfer),
      ∃ t, exec (.pairRestartHm (.begins cause cut)) s = .next t ∧ t = { s with router := t.router, bus := t.bus }) ∧
    (s.safe.warm.isSome = true → s.clock.corePresent = true → s.hm.run = .restarting →
      (s.boot.imageLoaded = false ∨ (s.boot.dryDigest = sha384 s.dryBytes ∧ s.boot.wetCrc.toNat = crc32 s.committed.wetBytes) →
        ∃ t, exec (.warmChipRestart .ends) s = .next t ∧ t.safe.warm = none ∧ t.hm.run = .running ∧
          t.rm.run = s.rm.run ∧ t.shadow = s.shadow ∧ t.fuses = s.fuses ∧ t.boot.fixative = s.boot.fixative ∧
          t.clock.onBackup = (s.clock.onBackup && !(s.clock.refclk && s.clock.pllReady))) ∧
      (s.boot.imageLoaded = true → s.boot.dryDigest ≠ sha384 s.dryBytes ∨ s.boot.wetCrc.toNat ≠ crc32 s.committed.wetBytes →
        ∃ t, exec (.warmChipRestart .ends) s = .next t ∧ t.safe.active = true ∧
          t.safe.fromCheck = true ∧ t.rm.run = .heldReset ∧ t.hm.run = .running))

/-- A loss raises CLOCK_LOSS and CLK_CAUSE, idles every lane of the enabled rails where LOOP is gone, and leaves the
record to the RM where CORE is gone. PLL_BACKUP's lock gives LOOP back, with telemetry of the links suspended for two
rounds more, and leaves pairs, mailboxes and shadow alone. Both run on APP: with the APP clock gone neither does
anything (log entry 56 at R11). CORE's return restarts both pairs with CAUSE 4 and lets in the events held at their
sources. The return to PLL_LOOP is a warm chip restart with CAUSE 8; the switch itself happens in it. These commands
each have a clause that exec answers a next state, with its effect: clockLoss, pllBackupLock, coreReturned,
returnToPllLoop. (R12, R14, R15, R247, R349, R374.) -/
def Obligations.ClockLossAndReturn : Prop :=
  (∀ (s : State) (core loop refclk : Bool), s.boot.held = false → (core || loop) = true → s.clock.corePresent = true →
    s.clock.appPresent = true →
    ∃ t, exec (.clockLoss core loop refclk) s = .next t ∧ t.clock.clockLossSource = true ∧ t.clock.corePresent = !core ∧
      t.clock.refclk = !refclk ∧
      t.ret.clkCause = BitVec.ofNat 3 (4 * b2n refclk + 2 * b2n core + b2n loop) ∧
      (loop = true → t.clock.loopPresent = false ∧ t.clock.suspendLinks = true ∧ t.clock.suspendRounds = 2 ∧
        ∀ p n, p < 128 → s.phases.length = 128 → s.phaseRail p = some n → n < 16 → s.railEn n = true →
          (t.phase p).lane = .idle) ∧
      (loop = false → t.phases = s.phases ∧ t.clock.loopPresent = s.clock.loopPresent) ∧
      (core = true → t.clock.coreLossAt = s.clock.tick ∧ t.ret.lossOwed = some 0)) ∧
  (∀ s : State, s.clock.appPresent = false →
    (∀ core loop refclk : Bool, ∃ t, exec (.clockLoss core loop refclk) s = .next t ∧
      t = { s with router := t.router, bus := t.bus }) ∧
    (∃ t, exec .pllBackupLock s = .next t ∧ t = { s with router := t.router, bus := t.bus })) ∧
  (∀ s : State, s.boot.held = false → s.clock.loopPresent = false → s.clock.appPresent = true →
    ∃ t, exec .pllBackupLock s = .next t ∧ t.clock = { s.clock with
        loopPresent := true, onBackup := true, interpCal := t.clock.interpCal, suspendRounds := t.clock.suspendRounds } ∧
      2 ≤ t.clock.suspendRounds ∧ t.rm = s.rm ∧ t.hm = s.hm ∧ t.mail = s.mail ∧ t.shadow = s.shadow ∧ t.ret = s.ret) ∧
  (∀ s : State, s.boot.held = false → s.clock.corePresent = false → s.clock.standby = false →
    s.boot.stage = 8 → s.safe.warm = none → s.rm.run = .running → s.hm.run = .running → ∀ cut : Option CutXfer,
    ∃ t, exec (.coreReturned cut) s = .next t ∧ t.clock.corePresent = true ∧ t.rm.run = .restarting ∧ t.hm.run = .restarting ∧
      t.ret.cause = 4 ∧ t.sketch.held = [] ∧ (cut ≠ none → t.bus.cut = true) ∧ t.clock.clockLossSource = (s.clock.onBackup || !s.clock.loopPresent)) ∧
  (∀ s : State, s.boot.held = false → s.clock.onBackup = true → s.boot.stage = 8 → s.safe.warm = none →
    s.clock.corePresent = true → ∀ cut : Option CutXfer,
    ∃ t, exec (.returnToPllLoop cut) s = .next t ∧ (cut ≠ none → t.bus.cut = true) ∧ t.safe.warm = some 8 ∧ t.ret.cause = 8 ∧ t.ret.kind = 1 ∧
      t.clock.refclk = true ∧ t.clock.pllReady = true ∧ t.clock.onBackup = true)

/-- Standby is entered only in PRIMED with STANDBY_EN = 1 and every condition of R425 met, and then only the CORE clock
changes; otherwise nothing does. A wake of any cause runs CORE again and delivers what waited, with pairs and
mailboxes as they were; with the APP clock gone it does nothing (log entry 56 at R11). A recalibration of the DPWM
interpolator moves no rail and no phase. These commands each have a clause that exec answers a next state, with its
effect: standbyEntry, standbyWake, interpolatorRecalibration. (R425, R426, R494.) -/
def Obligations.StandbyStopsAndWakes : Prop :=
  (∀ s : State, s.boot.stage = 8 → s.standbyEn = 1 → s.clock.corePresent = true → s.quiet = true →
    ∃ t, exec .standbyEntry s = .next t ∧
      t = { s with clock := { s.clock with standby := true, corePresent := false }, router := t.router, bus := t.bus }) ∧
  (∀ s : State, (s.boot.stage ≠ 8 ∨ s.standbyEn ≠ 1 ∨ s.quiet = false) →
    ∃ t, exec .standbyEntry s = .next t ∧ t = { s with router := t.router, bus := t.bus }) ∧
  (∀ (s : State) (c : WakeCause), s.clock.appPresent = false →
    ∃ t, exec (.standbyWake c) s = .next t ∧ t = { s with router := t.router, bus := t.bus }) ∧
  (∀ (s : State) (c : WakeCause), s.clock.standby = true → s.clock.appPresent = true →
    ∃ t, exec (.standbyWake c) s = .next t ∧ t.clock.standby = false ∧ t.clock.corePresent = true ∧ t.sketch.held = [] ∧
      t.rm = s.rm ∧ t.hm = s.hm ∧ t.mail = s.mail ∧ t.shadow = s.shadow) ∧
  (∀ s : State, ∃ t, exec .interpolatorRecalibration s = .next t ∧ t.clock.time = s.clock.time ∧
    t = { s with clock := { s.clock with interpCal := t.clock.interpCal }, router := t.router, bus := t.bus })

/-- A corrected single-bit error counts against its own memory, and the pass ends the memory faults that are not lasting.
A double-bit error sets STATUS_CML bit 4 and is outstanding, lasting where the same word failed at the scrub before.
Reactions by memory: the shadow, the safe state; the palette, the entry is written again from the shadow; the cell
table, the entry is asked for again; a loop engine's stores and state, and a failed store CRC, the LE is declared
faulty with BS_CAUSE 4; the memory or patch memory of a pair and the ROM, that pair restarts with CAUSE 5; a mailbox,
a FULL message is discarded and a pair that receives it answers BAD_FORMAT; the staging queue, the entry is dropped
and counted; the event store, the record is torn; the Pentimento slot, the dump is not valid; retained memory, the
counts read 0 and CAUSE 0xF; the key store, nothing before P2. Table 1.7 does not give which pair the ROM restarts
(the parity of the index), when a word failed before, WARM and CAUSE 0xF, and that the dump's CRC word is what is
wrong: those are the model's choices (log entry 42). This command has a clause that exec answers a next state, with
its effect: scrub. (R26, R178, R395, R470, Table 1.7, Table 10.6.) -/
def Obligations.ScrubReactions : Prop :=
  ∀ s : State, s.boot.held = false →
    (∀ (m : MemName) (i : Nat) (cut : Option CutXfer), ∃ t, exec (.scrub [.single m i] cut) s = .next t ∧
      t = { s with ecc := t.ecc, input := { s.input with faults := t.input.faults }, router := t.router, bus := t.bus } ∧
      (∀ e ∈ t.input.faults, e.kind = .memory → e.lasting = true) ∧
      ((t.ecc.find? (·.1 == m)).map (·.2)).getD 0 = ((s.ecc.find? (·.1 == m)).map (·.2)).getD 0 + 1 ∧
      (∀ k, k ≠ m → t.ecc.find? (·.1 == k) = s.ecc.find? (·.1 == k))) ∧
    (∀ (m : MemName) (i : Nat) (cut : Option CutXfer), ∃ t, exec (.scrub [.double m i] cut) s = .next t ∧
      t.pm.stCml.getLsbD 4 = true ∧ t.ecc = s.ecc ∧
      ∃ e ∈ t.input.faults, e.kind = .memory ∧ e.idx = 65536 * memNo m + i ∧ e.lasting = s.memoryFault m i) ∧
    (∀ (i : Nat) (cut : Option CutXfer), s.boot.stage = 8 → s.safe.active = false →
      ∃ t, exec (.scrub [.double .shadow i] cut) s = .next t ∧ t.safe.active = true ∧ t.rm.run = .heldReset ∧
        t.shadow = s.shadow) ∧
    (∀ (i : Nat) (cut : Option CutXfer), Sparse.wf (0 : Word) s.palette →
      ∃ t, exec (.scrub [.double .palette i] cut) s = .next t ∧
        sget (0 : Word) t.palette i = BitVec.ofNat 32 (s.imageEntry (decide (2048 ≤ i)) (i % 2048)) ∧
        (∀ j, j ≠ i → sget (0 : Word) t.palette j = sget (0 : Word) s.palette j) ∧
        (∀ n, (t.rail n).core = (s.rail n).core)) ∧
    (∀ (i : Fin 1024) (cut : Option CutXfer), s.cells.length = 1024 →
      ∃ t, exec (.scrub [.double .cellTable i] cut) s = .next t ∧ (t.cell i).idOwed = true ∧
        (t.cell i).statusOwed = true ∧ ∀ n, (t.rail n).core = (s.rail n).core) ∧
    (∀ (n : Fin 16) (cut : Option CutXfer), (s.rail n).le.mode = 1 → (s.rail n).le.declared = 0 → s.rails.length = 16 →
      (∀ x ∈ [(MemName.leCode, 256), (MemName.leCoef, 512), (MemName.leState, 64)], ∀ j < x.2,
        ∃ t, exec (.scrub [.double x.1 (x.2 * n + j)] cut) s = .next t ∧ (t.rail n).le.mode = 3 ∧ (t.rail n).bs.cause = 4 ∧
          (t.rail n).le.declared = 1 ∧ (t.rail n).le.rearmDue = true ∧ ∀ k : Fin 16, k ≠ n → (t.rail k).le = (s.rail k).le) ∧
      (∃ t, exec (.scrub [.crc n] cut) s = .next t ∧ (t.rail n).le.mode = 3 ∧ (t.rail n).bs.cause = 4 ∧
        (t.rail n).le.declared = 1)) ∧
    (∀ (i : Nat) (cut : Option CutXfer), s.boot.stage = 8 → s.safe.warm = none → s.hm.run = .running →
      (∃ t, exec (.scrub [.double .hmMemory i] cut) s = .next t ∧ t.hm.run = .restarting ∧ t.ret.cause = 5 ∧
        t.ret.kind = 3 ∧ t.hm.mem = [] ∧ t.rm = s.rm ∧ (cut ≠ none → t.bus.cut = true)) ∧
      (∃ t, exec (.scrub [.double .hmPatch i] cut) s = .next t ∧ t.hm.run = .restarting ∧ t.ret.cause = 5 ∧
        t.ret.kind = 3 ∧ t.rm = s.rm ∧ (cut ≠ none → t.bus.cut = true)) ∧
      (∃ t, exec (.scrub [.double .rom (2 * i + 1)] cut) s = .next t ∧ t.hm.run = .restarting ∧ t.ret.cause = 5 ∧
        t.ret.kind = 3 ∧ t.rm = s.rm ∧ (cut ≠ none → t.bus.cut = true))) ∧
    (∀ (i : Nat) (cut : Option CutXfer), s.boot.stage = 8 → s.safe.warm = none → s.rm.run = .running →
      (∃ t, exec (.scrub [.double .rmMemory i] cut) s = .next t ∧ t.rm.run = .restarting ∧ t.ret.cause = 5 ∧
        t.ret.kind = 2 ∧ t.rm.mem = [] ∧ t.hm = s.hm ∧ ∀ n, (t.rail n).core = (s.rail n).core) ∧
      (∃ t, exec (.scrub [.double .rmPatch i] cut) s = .next t ∧ t.rm.run = .restarting ∧ t.ret.cause = 5 ∧
        t.ret.kind = 2 ∧ t.hm = s.hm ∧ ∀ n, (t.rail n).core = (s.rail n).core) ∧
      (∃ t, exec (.scrub [.double .rom (2 * i)] cut) s = .next t ∧ t.rm.run = .restarting ∧ t.ret.cause = 5 ∧
        t.ret.kind = 2 ∧ t.hm = s.hm ∧ ∀ n, (t.rail n).core = (s.rail n).core)) ∧
    (∀ (c : Fin 16) (k : Fin 13) (cut : Option CutXfer), s.mail.chans.length = 16 →
      ((s.chan c).full = false → ∃ t, exec (.scrub [.double .mailbox (13 * c + k)] cut) s = .next t ∧ t.mail = s.mail) ∧
      ((s.chan c).full = true → (s.chan c).out = [] → s.replyCh c ≠ c →
        ∃ t, exec (.scrub [.double .mailbox (13 * c + k)] cut) s = .next t ∧ (t.chan c).full = false ∧
          (s.chanReceiver c = 3 ∨ s.chanReceiver c = 4 → s.replyCh c < 16 → s.senderRuns (s.replyCh c) = true →
            (s.chan (s.replyCh c)).full = false → (s.chan (s.replyCh c)).out = [] → (s.chan (s.replyCh c)).owed = [] →
            (t.chan (s.replyCh c)).full = true ∧ (t.chan (s.replyCh c)).d.getD 1 0 = 5))) ∧
    (∀ (i : Nat) (cut : Option CutXfer), i < s.sketch.closed.length →
      ∃ t, exec (.scrub [.double .staging i] cut) s = .next t ∧ s.sketch.closed.eraseIdx i <+: t.sketch.closed ∧
        t.sketch.drops = BitVec.ofNat 16 (min 65535 (s.sketch.drops.toNat + 1))) ∧
    (∀ (i : Nat) (cut : Option CutXfer), ∃ t, exec (.scrub [.double .eventStore i] cut) s = .next t ∧
      t.sketch.slot i = (s.sketch.slot i).map fun _ => .torn) ∧
    (∀ (i : Nat) (cut : Option CutXfer), ∃ t, exec (.scrub [.double .pentimento i] cut) s = .next t ∧ t.dump.valid = false ∧ t.dump.locked = s.dump.locked) ∧
    (∀ (i : Nat) (cut : Option CutXfer), ∃ t, exec (.scrub [.double .keyStore i] cut) s = .next t ∧ t.ident = s.ident ∧
      t.safe = s.safe ∧ t.ret = s.ret ∧ t.rm = s.rm ∧ t.hm = s.hm) ∧
    (∀ (i : Nat) (cut : Option CutXfer), ∃ t, exec (.scrub [.double .retained i] cut) s = .next t ∧ t.ret.recentRm = 0 ∧
      t.ret.recentHm = 0 ∧ t.ret.warm = 0 ∧ t.ret.cause = 0xF) ∧
    (∀ cut : Option CutXfer, ∃ t, exec (.scrub [] cut) s = .next t ∧ (∀ e ∈ t.input.faults, e.kind = .memory → e.lasting = true) ∧
      (∀ e ∈ s.input.faults, e.kind ≠ .memory → e ∈ t.input.faults) ∧
      t = { s with input := { s.input with faults := t.input.faults }, router := t.router, bus := t.bus })

/-- WD_MASK takes a write while the watchdog has not been serviced since its start, and is locked after that. Mailbox data
words take the write of their sender, a pair that runs, while the channel is not FULL; words of the host and of the
console come by no such write. With the Fixative bit set a write to the shadow is refused wholly, wet bytes too (R77
speaks of the dry fields: this, and which targets the row reaches, is the model's choice, log entry 53); before that
it changes the byte addressed, of the unit that holds it only the bits of its fields standing, and a reserved byte
stays 0. A palette entry takes the RM's write in a bank that is not active, where PALETTE_WRITE would accept it, and
nowhere else. This command has a clause that exec answers a next state, with its effect: registerWrite. (R4, R77, R94,
R97, R350, R351, R391, R398.) -/
def Obligations.PlainRegisterWrites : Prop :=
  ∀ s : State, s.boot.held = false → ∀ v : Word,
    (∀ m : Manager, (s.mgr m).run = .running → s.clock.corePresent = true →
      ((s.mgr m).wd.run = false ∨ (s.mgr m).wd.serviced = false →
        ∃ t, exec (.registerWrite (.wdMask m) v) s = .next t ∧
          (t.mgr m).wd = { (s.mgr m).wd with taskMask := BitVec.ofNat 16 v.toNat } ∧ t.rails = s.rails) ∧
      ((s.mgr m).wd.run = true → (s.mgr m).wd.serviced = true →
        ∃ t, exec (.registerWrite (.wdMask m) v) s = .next t ∧ t = { s with router := t.router, bus := t.bus })) ∧
    (∀ (ch : Fin 16) (i : Fin 12) (who : Identity), s.mail.chans.length = 16 →
      (s.chanSender ch = identCode who → (s.chan ch).full = false → s.pairPath who = true →
        ∃ t, exec (.registerWrite (.mailboxData ch i who) v) s = .next t ∧
          t.chan ch = { s.chan ch with d := (s.chan ch).d.set i v } ∧
          (∀ k : Fin 16, k ≠ ch → t.chan k = s.chan k) ∧ t.shadow = s.shadow) ∧
      (s.chanSender ch ≠ identCode who ∨ (s.chan ch).full = true ∨ who = .host ∨ who = .svc ∨
          (who = .hm ∧ s.hm.run ≠ .running) ∨ (who = .rm ∧ s.rm.run ≠ .running) →
        ∃ t, exec (.registerWrite (.mailboxData ch i who) v) s = .next t ∧ t = { s with router := t.router, bus := t.bus })) ∧
    (∀ (sec : Fin 256) (off : Fin 1048576), Memory.wf 0 s.shadow →
      (s.boot.fixative = true →
        ∃ t, exec (.registerWrite (.shadowByte sec off) v) s = .next t ∧ t = { s with router := t.router, bus := t.bus }) ∧
      (s.boot.fixative = false →
        ∃ t, exec (.registerWrite (.shadowByte sec off) v) s = .next t ∧
          (reservedByte sec off = true → t.cfg sec off 1 = 0) ∧
          (∀ u o, unitAt sec off = some (u, o) → reservedByte sec off = false →
            (∀ a, a < shadowKey sec o ∨ shadowKey sec o + u.size ≤ a → sget 0 t.shadow a = sget 0 s.shadow a) ∧
            t.cfg sec o u.size = (s.putShadow sec off 1 v.toNat).cfg sec o u.size &&&
              u.mask ((s.putShadow sec off 1 v.toNat).cfg sec o u.size)) ∧
          (unitAt sec off = none ∨ reservedByte sec off = true →
            ∀ a, a ≠ shadowKey sec off → sget 0 t.shadow a = sget 0 s.shadow a) ∧
          (unitAt sec off = none → reservedByte sec off = false → t.cfg sec off 1 = v.toNat % 256) ∧ t.rails = s.rails)) ∧
    (∀ i : Fin 4096, Sparse.wf (0 : Word) s.palette →
      (s.rm.run = .running → s.clock.corePresent = true → s.boot.stage = 8 → (s.port (i % 2048 / 256)).actBank ≠ decide (2048 ≤ i.val) →
        s.entryRefused (i % 2048 / 256) (i % 256) [v] = none →
        ∃ t, exec (.registerWrite (.paletteEntry i) v) s = .next t ∧ sget (0 : Word) t.palette i = v ∧
          (∀ j, j ≠ i.val → sget (0 : Word) t.palette j = sget (0 : Word) s.palette j) ∧ t.rails = s.rails ∧ t.ports = s.ports) ∧
      ((s.port (i % 2048 / 256)).actBank = decide (2048 ≤ i.val) ∨ s.entryRefused (i % 2048 / 256) (i % 256) [v] ≠ none →
        ∃ t, exec (.registerWrite (.paletteEntry i) v) s = .next t ∧ t = { s with router := t.router, bus := t.bus }))

/-- KEY_A sets KEYA and nothing else; in the cycle in which REMAIN is 0 it is an expiry. KEY_B with KEYA set and every
task of a non-empty mask checked in reloads REMAIN and clears CHECKED, DOUBLE and KEYA; with a task missing it is
refused, REMAIN runs on and KEYA clears; without KEYA, or with REMAIN at 0, it is an expiry: the cores stop and freeze
and the ladder of Table 12.4 is climbed. A first check-in of a task of the mask sets CHECKED and a repeat sets DOUBLE.
The two keys of the disable sequence within 16 CORE cycles stop the watchdog unless LOCK holds; any other pair of
words, or more cycles, changes nothing. In PRIMED and in the blank canvas GO starts a stopped watchdog with a fresh
TIMEOUT; it does nothing to one that runs, and nothing during priming. These commands each have a clause that exec
answers a next state, with its effect: keyA, keyB, wdCheckin, wdDisable, go. (R353, R355, R356, Table 12.3, Table
12.4, R58, R350, R351, R352, R354.) -/
def Obligations.WatchdogServiceAndRegisters : Prop :=
  (
  ∀ (m : Manager) (s : State), (s.mgr m).run = .running → s.clock.corePresent = true → (s.mgr m).wd.run = true →
    (∀ regs : Frozen, (s.mgr m).wd.remain ≠ 0 →
      ∃ t, exec (.keyA m regs) s = .next t ∧ t.mgr m = { s.mgr m with wd := { (s.mgr m).wd with keyA := true } } ∧
        t = { s with rm := t.rm, hm := t.hm, router := t.router, bus := t.bus }) ∧
    (∀ regs : Frozen, (s.mgr m).wd.remain = 0 →
      ∃ t, exec (.keyA m regs) s = .next t ∧ Climbs m 2 s t ∧ (t.mgr m).expired = true ∧ (t.mgr m).frozen = some regs) ∧
    (∀ regs : Frozen, (s.mgr m).wd.remain ≠ 0 → (s.mgr m).wd.keyA = true →
      ((s.mgr m).wd.taskMask ≠ 0 → (s.mgr m).wd.checked = (s.mgr m).wd.taskMask →
        ∃ t, exec (.keyB m regs) s = .next t ∧ (t.mgr m).run = .running ∧ (t.mgr m).wd.remain = s.wdTimeout m ∧
          (t.mgr m).wd.checked = 0 ∧ (t.mgr m).wd.double = 0 ∧ (t.mgr m).wd.keyA = false ∧ (t.mgr m).wd.serviced = true) ∧
      ((s.mgr m).wd.taskMask = 0 ∨ (s.mgr m).wd.checked ≠ (s.mgr m).wd.taskMask →
        ∃ t, exec (.keyB m regs) s = .next t ∧
          t.mgr m = { s.mgr m with wd := { (s.mgr m).wd with keyA := false } } ∧ t.ret = s.ret)) ∧
    (∀ regs : Frozen, (s.mgr m).wd.remain = 0 ∨ (s.mgr m).wd.keyA = false →
      ∃ t, exec (.keyB m regs) s = .next t ∧ Climbs m 2 s t ∧ (t.mgr m).expired = true ∧ (t.mgr m).frozen = some regs)
  )
  ∧
  (
  ∀ (m : Manager) (s : State), (s.mgr m).run = .running → s.clock.corePresent = true →
    (∀ task : Fin 16, (s.mgr m).wd.taskMask.getLsbD task = true →
      ((s.mgr m).wd.checked.getLsbD task = false →
        ∃ t, exec (.wdCheckin m task) s = .next t ∧
          t.mgr m = { s.mgr m with wd := { (s.mgr m).wd with checked := (s.mgr m).wd.checked ||| BitVec.ofNat 16 (2 ^ task.val) } } ∧
          t.sketch = s.sketch) ∧
      ((s.mgr m).wd.checked.getLsbD task = true →
        ∃ t, exec (.wdCheckin m task) s = .next t ∧ (t.mgr m).wd.double.getLsbD task = true ∧
          (t.mgr m).wd.checked = (s.mgr m).wd.checked ∧ (t.mgr m).wd.remain = (s.mgr m).wd.remain)) ∧
    (∀ (first second : Word) (cycles : Nat),
      (field first.toNat 0 16 = 0x5AA5 → field second.toNat 0 16 = 0xA55A → cycles ≤ 16 → s.wdLock m = false →
        ∃ t, exec (.wdDisable m first second cycles) s = .next t ∧ (t.mgr m).wd.run = false ∧ (t.mgr m).run = .running) ∧
      (field first.toNat 0 16 ≠ 0x5AA5 ∨ field second.toNat 0 16 ≠ 0xA55A ∨ 16 < cycles ∨ s.wdLock m = true →
        ∃ t, exec (.wdDisable m first second cycles) s = .next t ∧ t = { s with router := t.router, bus := t.bus })) ∧
    ((s.mgr m).wd.run = false → s.boot.stage = 8 ∨ s.boot.stage = 0xE → ∃ t, exec (.go m) s = .next t ∧ (t.mgr m).wd.run = true ∧
      (t.mgr m).wd.remain = s.wdTimeout m ∧ (t.mgr m).wd.checked = 0 ∧ (t.mgr m).wd.double = 0 ∧
      (t.mgr m).wd.keyA = false ∧ (t.mgr m).wd.taskMask = (s.mgr m).wd.taskMask) ∧
    ((s.mgr m).wd.run = true ∨ (s.boot.stage ≠ 8 ∧ s.boot.stage ≠ 0xE) → ∃ t, exec (.go m) s = .next t ∧ t = { s with router := t.router, bus := t.bus })
  )

/-- An expiry freezes both cores, stores MISSING and DOUBLE, sets STATUS_CML bit 3 and climbs the ladder of Table 12.4
with CAUSE 2; a miscompare does so with CAUSE 3, and one of a pair that is restarting is counted too. A forced expiry
asks for the pair restart with CAUSE 6 and leaves the count; it acts only with every rail OFF or PRIMED. What falls
into a warm chip restart is absorbed by it, and KIND and CAUSE stay. These commands each have a clause that exec
answers a next state, with its effect: wdtExpiry, lockstepMismatch. (R23, R340, R355, R356, R360, R361, Table 12.4.) -/
def Obligations.ExpiriesAndMiscompares : Prop :=
  ∀ (m : Manager) (s : State) (regs : Frozen), s.clock.corePresent = true →
   ((s.mgr m).run = .running →
    (∀ why : ExpiryCause, why ≠ .forced → (s.mgr m).wd.run = true →
      ∃ t, exec (.wdtExpiry m why regs) s = .next t ∧ Climbs m 2 s t ∧ (t.mgr m).expired = true ∧
        (t.mgr m).frozen = some regs ∧ t.pm.stCml.getLsbD 3 = true ∧
        (m = .rm → t.ret.missingRm = s.rm.wd.missing ∧ t.ret.doubleRm = s.rm.wd.double) ∧
        (m = .hm → t.ret.missingHm = s.hm.wd.missing ∧ t.ret.doubleHm = s.hm.wd.double)) ∧
    (s.railsRest = true →
      ∃ t, exec (.wdtExpiry m .forced regs) s = .next t ∧ (t.mgr m).run = .stopped ∧ (t.mgr m).frozen = some regs ∧
        t.ret.recent m = s.ret.recent m ∧ t.safe = s.safe ∧
        (s.safe.warm = none → t.ret.cause = 6 ∧ t.ret.kind = BitVec.ofNat 2 (mgrNo m + 2)) ∧
        (s.safe.warm.isSome = true → t.ret.kind = s.ret.kind ∧ t.ret.cause = s.ret.cause)) ∧
    (s.railsRest = false →
      ∃ t, exec (.wdtExpiry m .forced regs) s = .next t ∧ t = { s with router := t.router, bus := t.bus }) ∧
    (∃ t, exec (.lockstepMismatch m regs) s = .next t ∧ Climbs m 3 s t ∧ (t.mgr m).miscompare = true ∧
      (t.mgr m).frozen = some regs ∧ t.pm.stCml.getLsbD 3 = true)) ∧
   ((s.mgr m).run = .restarting →
    ∃ t, exec (.lockstepMismatch m regs) s = .next t ∧ (t.mgr m).miscompare = true ∧ (t.mgr m).frozen = some regs ∧
      t.pm.stCml.getLsbD 3 = true ∧ t.ret.recent m = min 7 (s.ret.recent m + 1) ∧
      (s.safe.warm.isSome = true → t.ret.kind = s.ret.kind ∧ t.ret.cause = s.ret.cause) ∧
      (∀ n, (t.rail n).core = (s.rail n).core) ∧ t.phases = s.phases)

/-- A period of DECAY_H hours without a counted event lowers that pair's count by 1, down to 0, and changes nothing else;
with DECAY_H = 0 nothing changes. That no event was counted in the period is the premise of the command. This command
has a clause that exec answers a next state, with its effect: decayPeriod. (R357.) -/
def Obligations.DecayLowersOneCount : Prop :=
  ∀ (m : Manager) (s : State),
    (s.decayH ≠ 0 → ∃ t, exec (.decayPeriod m) s = .next t ∧ t.ret.recent m = s.ret.recent m - 1 ∧
      (∀ k, k ≠ m → t.ret.recent k = s.ret.recent k) ∧
      t = { s with ret := s.ret.setRecent m (s.ret.recent m - 1), router := t.router, bus := t.bus }) ∧
    (s.decayH = 0 → ∃ t, exec (.decayPeriod m) s = .next t ∧ t = { s with router := t.router, bus := t.bus })

/-- A trigger that reaches a working Apprentice takes every enabled rail that is between SOFT_START and DISCHARGE into
APPRENTICE_HOLD, flushes the shed orders and leaves the others in their states; a trigger during a hold adds its end
condition and moves no rail; a trigger that finds the Apprentice stopped (APP_MISMATCH, the loss of its APP clock, or
disabled by the RM) is recorded, and with no hold its cause is kept until the RM takes the rails; no rail changes.
Each writes APPRENTICE_TAKEOVER with its cause and the mask of the rails taken (stated where no rail's start waits for
a wake, whose ramp would be recorded too). This command has a clause that exec answers a next state, with its effect:
apprenticeTakeover. (R342, R343, R346, R348, R372, Table 12.1.) -/
def Obligations.ApprenticeTakesTheRails : Prop :=
  ∀ (cause : HoldCause) (s : State), s.boot.held = false → s.rails.length = 16 →
    (s.app.disabled = false → s.app.mismatch = false → s.clock.appPresent = true → s.app.holding = false →
      ∃ t, exec (.apprenticeTakeover cause) s = .next t ∧ t.app.holding = true ∧ t.app.causes = holdBit cause ∧
        t.app.handback = false ∧ t.app.since = s.clock.tick ∧ t.app.taking = 0 ∧
        (∀ n < 16, s.railEn n = true → (s.rail n).core.state.running = true → (t.rail n).core.state = .apprenticeHold) ∧
        (∀ n < 16, s.railEn n = false ∨ (s.rail n).core.state.running = false →
          (t.rail n).core.state = (s.rail n).core.state) ∧
        (∀ n < 16, (t.rail n).pol.shedOrders = []) ∧ t.cross.toLoop = [] ∧
        ((∀ n, (s.rail n).core.waitWake = false) →
          t.sketch = (s.record 0x8005 0 (holdCode cause)
            (maskOf 16 fun n => s.railEn n && (s.rail n).core.state.running)).sketch)) ∧
    (s.app.disabled = false → s.app.mismatch = false → s.clock.appPresent = true → s.app.holding = true → s.app.handback = false →
      ∃ t, exec (.apprenticeTakeover cause) s = .next t ∧ t.app.holding = true ∧ t.rails = s.rails ∧
        t.app.causes = s.app.causes ||| holdBit cause ∧
        t.sketch = (s.record 0x8005 0 (holdCode cause) 0).sketch) ∧
    (s.app.disabled = true ∨ s.app.mismatch = true ∨ s.clock.appPresent = false →
      ∃ t, exec (.apprenticeTakeover cause) s = .next t ∧
        t = { s with
          app := { s.app with causes := if s.app.holding then s.app.causes else s.app.causes ||| holdBit cause }
          sketch := (s.record 0x8005 0 (holdCode cause) 0).sketch, router := t.router, bus := t.bus })

/-- With every pending end condition met, the RM's request begins the handback, and ends the hold at once where no rail is
held. Each rail is handed back when it is the lowest still held and no burst, clamp or mask window is in progress on
it: REGULATING where its slewed set-point is at the target and SLEWING otherwise, its LE resuming with FIRST and
TRACKED, no other rail changing. The handback of the last one ends the hold, with the committed wet values applied and
APPRENTICE_HANDBACK recorded with its length and the rails handed back. A rail that is not quiet, or whose start still
waits (the model's choice, log entry 23), stays in the hold. Where no hold was started the RM takes each running rail
in the same way, at its own quiet boundary, and applies again what the HM holds of it (that it does so is the model's
choice, log entry 56 at R348); after the last one it carries out the CLEAR_FAULTS kept for it. APP_MISMATCH latches
and changes nothing else. The RM's check keeps the heartbeat count and disables the Apprentice on a mismatch or on a
count that has not moved; it moves no rail. Once the APP clock has stopped the count stands (that it stops by the
operand of the check is the model's choice, log entry 56 at R11). The release of APP_TAKEOVER ends its own end
condition only. These commands each have a clause that exec answers a next state, with its effect: apprenticeHandback,
railHandback, appMismatch, heartbeatCheck, appTakeoverRelease. (R24, R25, R80, R345, Table 5.4, R342, R347, Table
12.1.) -/
def Obligations.HandbackAndSelfCheck : Prop :=
  (
  (∀ s : State, s.rails.length = 16 → s.handbackMay = true →
    (∀ n : Fin 16, (s.rail n).core.state = .apprenticeHold →
      ∃ t, exec .apprenticeHandback s = .next t ∧ t.app.handback = true ∧ t.app.holding = true ∧ t.rails = s.rails) ∧
    ((∀ n : Fin 16, (s.rail n).core.state ≠ .apprenticeHold) →
      ∃ t, exec .apprenticeHandback s = .next t ∧ t.app.holding = false ∧ t.app.causes = 0 ∧ t.wetHeld = []) ∧
    (∀ n k : Fin 16, s.app.handback = true → (s.rail n).core.state = .apprenticeHold →
      (∀ j : Fin 16, j < n → (s.rail j).core.state ≠ .apprenticeHold) → s.railQuiet n = true → (s.rail n).core.ramping = true →
      n < k → (s.rail k).core.state = .apprenticeHold →
      ∃ t, exec (.railHandback n) s = .next t ∧ t.app.holding = true ∧ t.app.handed.getLsbD n = true ∧
        (t.rail n).core.state = (if (s.rail n).core.slewed = ((s.rail n).core.target : Int) * 512 then .regulating else .slewing) ∧
        (t.rail n).le.setFirst = true ∧ (t.rail n).le.setTracked = true ∧
        (∀ j : Fin 16, j ≠ n → t.rail j = s.rail j)) ∧
    (∀ n : Fin 16, s.app.handback = true → (s.rail n).core.state = .apprenticeHold →
      (∀ j : Fin 16, j ≠ n → (s.rail j).core.state ≠ .apprenticeHold) → s.railQuiet n = true →
      (s.rail n).core.ramping = true → s.app.heldClears = [] → s.app.mismatch = false →
      s.cross = { posts := [], toLoop := [] } →
      ∃ t, exec (.railHandback n) s = .next t ∧ t.app = { s.app with
          holding := false, causes := 0, handback := false, handed := 0 } ∧
        ((t.rail n).core.state = .regulating ∨ (t.rail n).core.state = .slewing) ∧
        (t.rail n).le.setFirst = true ∧ (t.rail n).le.setTracked = true ∧ t.wetHeld = [] ∧
        t.sketch = (s.record 0x8009 0 (s.since s.app.since / 800)
          (s.app.handed ||| BitVec.ofNat 16 (2 ^ n.val)).toNat).sketch) ∧
    (∀ n : Fin 16, s.app.handback = true → (s.rail n).core.state = .apprenticeHold →
      s.railQuiet n = false ∨ (s.rail n).core.ramping = false →
      ∃ t, exec (.railHandback n) s = .next t ∧ (t.rail n).core.state = .apprenticeHold ∧ t.rails = s.rails)) ∧
  (∀ (n : Fin 16) (s : State), s.Sized → s.app.holding = false →
    let left := s.app.taking &&& ~~~(BitVec.ofNat 16 (2 ^ n.val))
    (s.app.taking.getLsbD n = true → s.rmReady = true → s.railQuiet n = true →
      ∃ t, exec (.railHandback n) s = .next t ∧ t.app.taking = left ∧ t.app.holding = false ∧
        (left ≠ 0 → t.app.heldClears = s.app.heldClears) ∧ (left = 0 → t.app.heldClears = []) ∧
        (left ≠ 0 → s.cross = { posts := [], toLoop := [] } → s.clock.loopPresent = true →
          (t.rail n).hosted = { (s.rail n).host with newEnable := (s.rail n).hosted.newEnable || (s.rail n).host.newEnable } ∧
          t.sketch = s.sketch ∧ ∀ k : Fin 16, k ≠ n → t.rail k = s.rail k)) ∧
    (s.app.taking.getLsbD n = false ∨ s.rmReady = false ∨ s.railQuiet n = false →
      ∃ t, exec (.railHandback n) s = .next t ∧ t = { s with router := t.router, bus := t.bus }))
  )
  ∧
  (
  (∀ s : State, s.boot.held = false →
    ∃ t, exec .appMismatch s = .next t ∧ t = { s with app := { s.app with mismatch := true }, router := t.router, bus := t.bus }) ∧
  (∀ (s : State) (appLost : Bool), s.boot.held = false → s.rm.run = .running → s.clock.corePresent = true →
    s.safe.warm = none → s.app.disabled = false →
    ∃ t, exec (.heartbeatCheck appLost) s = .next t ∧ t.app.heartbeat = some s.app.beats ∧
      t.clock = { s.clock with appPresent := s.clock.appPresent && !appLost } ∧
      t.app.disabled = (s.app.mismatch || s.app.heartbeat == some s.app.beats) ∧ (∀ n, (t.rail n).core = (s.rail n).core) ∧
      t.phases = s.phases) ∧
  (∀ (s : State) (appLost : Bool), s.boot.held = false →
    s.rm.run ≠ .running ∨ s.clock.corePresent = false ∨ s.safe.warm.isSome = true ∨ s.app.disabled = true →
    ∃ t, exec (.heartbeatCheck appLost) s = .next t ∧
      t = { s with
        clock := { s.clock with appPresent := s.clock.appPresent && !appLost }, router := t.router, bus := t.bus }) ∧
  (∀ s : State, s.pending = [] → s.clock.appPresent = false → ∃ t, step s = .next t ∧ t.app.beats = s.app.beats) ∧
  (∀ s : State, s.dest 75 = false →
    ∃ t, exec .appTakeoverRelease s = .next t ∧
      t = { s with app := { s.app with causes := s.app.causes &&& 0x7F }, router := t.router, bus := t.bus })
  )

/-- With a PENDING capture, an unlocked slot and the cause record no longer staged, the HM erases the slot and then writes
the capture with the SEQ of its cause record and its CRC, records PENTIMENTO_WRITTEN, sets LOCKED as DUMP_LOCK says
and clears PENDING, which stays set in between; otherwise nothing changes. That the row is sent at the beginning and
at the end of the work is the model's choice (log entry 22). This command has a clause that exec answers a next state,
with its effect: pentimentoCommit. (R363, R365.) -/
def Obligations.PentimentoCommits : Prop :=
  ∀ s : State, s.hm.run = .running → s.clock.corePresent = true →
    (s.ret.capPending = true → s.dump.locked = false → s.captureWaits = false → s.work.dumping = false →
      ∃ t, exec (.pentimentoCommit .begins) s = .next t ∧
        t = { s with
          dump := { s.dump with slot := List.replicate 4096 0xFFFFFFFF }, work := { s.work with dumping := true }
          router := t.router, bus := t.bus }) ∧
    (s.ret.capPending = false ∨ s.dump.locked = true ∨ s.captureWaits = true ∨ s.work.dumping = true →
      ∃ t, exec (.pentimentoCommit .begins) s = .next t ∧ t = { s with router := t.router, bus := t.bus }) ∧
    (s.work.dumping = true → s.ret.capPending = true → s.dump.locked = false → s.captureWaits = false →
      ∃ t, exec (.pentimentoCommit .ends) s = .next t ∧ t.ret.capPending = false ∧ t.dump.locked = (s.dumpLock == 1) ∧
        t.dump.slot = closeDump ((s.ret.capture.take 4095).set 2 (s.sketch.seqOf s.ret.capCause)) ∧
        t.dump.slot.length = 4096 ∧
        t.sketch = (s.record 0x8008 (dumpTrigger s.ret.capture) (s.sketch.seqOf s.ret.capCause).toNat s.ret.dropped.toNat).sketch ∧
        t.ret.capture = s.ret.capture ∧ t.work.dumping = false ∧ t.rails = s.rails) ∧
    (s.work.dumping = false →
      ∃ t, exec (.pentimentoCommit .ends) s = .next t ∧ t = { s with router := t.router, bus := t.bus })

/-- While a LOOP clock runs: in PRIMED an edge of sufficient low and high time on a port with a group latches the swatch
(a bit of SSELp that changes inside the window takes either level), clears BOOT, counts EDGES and swaps the active
bank where a swap is pending; no other port changes. Each rail of the group that the palette governs takes the
set-point of the entry now named (with PREBIAS above it where ANTIC is 3 and the rail is live) and its SLEW, a held
one at APP_SLEW_CLASS, and earns its settle again. Every other rising edge only counts in IGNORED, which saturates at
15. The end of the minimum hold of THROTp_N releases the ball exactly when no condition remains. These commands each
have a clause that exec answers a next state, with its effect: slatEdge, throtRelease. (R87, R88, R89, R90, R98, R108,
R112, R114, R115, R116.) -/
def Obligations.LatchEdgesAndThrottleBalls : Prop :=
  ∀ (p : Fin 8) (s : State), s.boot.held = false → s.ports.length = 8 →
    (∀ (before after : BitVec 6) (low high : Nat), s.clock.loopPresent = true → s.boot.stage = 8 → 5 ≤ low → 5 ≤ high →
      s.groupRails p ≠ [] →
      ∃ t, exec (.slatEdge p before after low high) s = .next t ∧
        t.port p = { s.port p with
          actBank := if (s.port p).pendingSwap then !(s.port p).actBank else (s.port p).actBank
          pendingSwap := false
          swatch := (t.port p).swatch
          boot := false
          edges := (s.port p).edges + 1 } ∧
        (∀ i < 6, before.getLsbD i = after.getLsbD i → (t.port p).swatch.getLsbD i = after.getLsbD i) ∧
        (∀ q : Fin 8, q ≠ p → t.port q = s.port q) ∧ t.palette = s.palette ∧
        (s.rails.length = 16 → ∀ n ∈ s.groupRails p, (t.rail n).core.settleDone = false ∧
          (s.paletteGoverns n = true → s.rank1 n = false →
            ((s.rail n).core.state ≠ .apprenticeHold →
              ((s.rail n).core.state.live = false ∨ t.antic n ≠ 3 →
                (t.rail n).core.base = entSetpt (t.entryOf n) ∧
                (t.rail n).core.target = max (min (entSetpt (t.entryOf n)) (s.envMax n)) (s.envMin n)) ∧
              ((s.rail n).core.state.live = true → t.antic n = 3 →
                (t.rail n).core.base = min (entSetpt (t.entryOf n) + s.prebiasCfg n) (s.envMax n)) ∧
              (t.rail n).core.govClass = entSlew (t.entryOf n)) ∧
            ((s.rail n).core.state = .apprenticeHold → s.appStopped = false →
              (t.rail n).core.base = entSetpt (t.entryOf n) ∧ (t.rail n).core.govClass = s.appClass n ∧
              (t.rail n).core.target = max (min (entSetpt (t.entryOf n)) (s.envMax n)) (s.envMin n))))) ∧
    (∀ (before after : BitVec 6) (low high : Nat), s.clock.loopPresent = true →
      s.boot.stage ≠ 8 ∨ low < 5 ∨ high < 5 ∨ s.groupRails p = [] →
      ∃ t, exec (.slatEdge p before after low high) s = .next t ∧
        t.port p = { s.port p with ignored := BitVec.ofNat 4 (min 15 ((s.port p).ignored.toNat + 1)) } ∧
        t = { s with ports := t.ports, router := t.router, bus := t.bus }) ∧
    (∃ t, exec (.throtRelease p) s = .next t ∧ (t.port p).throtHold = false ∧
      (s.softDest (64 + p) = false → (∀ n ∈ s.groupRails p, (s.rail n).prot.throt = 0) → (t.port p).throtLow = false) ∧
      (s.softDest (64 + p) = true ∨ (∃ n ∈ s.groupRails p, (s.rail n).prot.throt ≠ 0) →
        (t.port p).throtLow = (s.port p).throtLow) ∧
      t = { s with ports := t.ports, router := t.router, bus := t.bus })

/-- While a LOOP clock runs, a step moves the slewed set-point of every regulating, slewing, held or ramping rail by one
step of its class toward the target, never past it; reaching the target ends SLEWING and SOFT_START in REGULATING. A
rail in SOFT_STOP falls, and goes to DISCHARGE exactly at STOP_LEVEL. OFF, PRIMED and latched rails stand. This
command has a clause that exec answers a next state, with its effect: slewStep. (R101, R102, R149, R150, Table 5.4.) -/
def Obligations.SlewLimiterMovesTowardTheTarget : Prop :=
  ∀ s : State, s.rails.length = 16 → s.clock.loopPresent = true →
    ∃ t, exec .slewStep s = .next t ∧
      (∀ n < 16, (s.rail n).core.state = .regulating ∨ (s.rail n).core.state = .slewing ∨
          ((s.rail n).core.state = .apprenticeHold ∧ (s.rail n).core.ramping = true) →
        let goal : Int := (s.rail n).core.target * 512
        let k := s.slewStepSize (s.rail n).core.govClass
        let x := (s.rail n).core.slewed
        (t.rail n).core.slewed = (if x < goal then min goal (x + k) else max goal (x - k)) ∧
        (t.rail n).core.state =
          (if (s.rail n).core.state = .slewing ∧ (t.rail n).core.slewed = goal then .regulating else (s.rail n).core.state)) ∧
      (∀ n < 16, (s.rail n).core.state = .softStart → (s.rail n).core.waitStart = false → (s.rail n).core.waitWake = false →
        let goal : Int := (s.rail n).core.target * 512
        let k := s.slewStepSize (s.ssClass n)
        let x := (s.rail n).core.slewed
        (t.rail n).core.slewed = (if x < goal then min goal (x + k) else max goal (x - k)) ∧
        (t.rail n).core.state = (if (t.rail n).core.slewed = goal then .regulating else .softStart)) ∧
      (∀ n < 16, (s.rail n).core.state = .softStop →
        (t.rail n).core.slewed ≤ (s.rail n).core.slewed ∧
        ((t.rail n).core.state = .discharge ↔ (t.rail n).core.slewed ≤ (s.stopLevel n * 512 : Nat)) ∧
        ((t.rail n).core.state ≠ .discharge → (t.rail n).core.state = .softStop)) ∧
      (∀ n < 16, (s.rail n).core.state = .off ∨ (s.rail n).core.state = .primed ∨ (s.rail n).core.state = .faultLatched →
        (t.rail n).core = (s.rail n).core)

/-- SETTLE elapsed marks the settle of that rail and changes nothing else. The end of a pre-bias hold returns a
palette-governed target to SETPT, clamped to the envelope, and the settle stands on a rail that had reached SETPT +
PREBIAS. A DISCHARGE that times out is PRIMED. The 20 us of a waiting start, in a hold that took it over too (that a
waiting start begins its ramp in the hold is the model's choice, log entry 23), end the wait, and the ramp begins from
the measured V0 once no wake is left. These commands each have a clause that exec answers a next state, with its
effect: settleElapsed, prebiasHoldEnd, dischargeTimeout, startWaitElapsed. (R104, R105, R108, R114, R148, R149, R151.) -/
def Obligations.SettleAndPrebias : Prop :=
  ∀ (n : Fin 16) (s : State), s.rails.length = 16 →
    ((s.rail n).core.state.live = true →
      ∃ t, exec (.settleElapsed n) s = .next t ∧
        t.rail n = { s.rail n with core := { (s.rail n).core with settleDone := true } } ∧
        t = { s with rails := t.rails, router := t.router, bus := t.bus }) ∧
    ((s.rail n).core.prebias = true → s.paletteGoverns n = true → (s.rail n).core.state ≠ .apprenticeHold →
      s.rank1 n = false →
      ∃ t, exec (.prebiasHoldEnd n) s = .next t ∧ (t.rail n).core.prebias = false ∧
        (t.rail n).core.base = entSetpt (s.entryOf n) ∧
        (t.rail n).core.target = max (min (entSetpt (s.entryOf n)) (s.envMax n)) (s.envMin n) ∧
        (t.rail n).core.settleDone = ((s.rail n).core.settleDone &&
          ((t.rail n).core.target == (s.rail n).core.target ||
            decide ((s.rail n).core.slewed = ((s.rail n).core.target : Int) * 512))) ∧ t.phases = s.phases) ∧
    ((s.rail n).core.state = .discharge →
      ∃ t, exec (.dischargeTimeout n) s = .next t ∧ (t.rail n).core.state = .primed ∧
        t = { s with rails := t.rails, router := t.router, bus := t.bus }) ∧
    ((s.rail n).core.state = .softStart ∨ (s.rail n).core.state = .apprenticeHold → (s.rail n).core.waitStart = true →
      ∃ t, exec (.startWaitElapsed n) s = .next t ∧ (t.rail n).core.state = (s.rail n).core.state ∧
        (t.rail n).core.waitStart = false ∧
        ((s.rail n).core.waitWake = true → (s.phasesIn n Phase.wakingActive) = [] →
          (t.rail n).core.waitWake = false ∧ (t.rail n).core.slewed = (t.rail n).core.v0 ∧
          (t.rail n).core.lowSideIdle = true ∧ (t.rail n).le.setFirst = true) ∧
        (s.phasesIn n Phase.wakingActive ≠ [] → (t.rail n).core.waitWake = (s.rail n).core.waitWake))

/-- A sample pair gives codes limited to -512 to 511 and counts a run of differences of 62 codes or more. At the vote
count (64 samples, 32 on the backup clock) a valid model fails the sense that is more than 40 codes from it, latches
the rail where both are, and an invalid one leaves the vote pending with the larger code chosen. A pending vote ends
with sense A chosen after as many agreeing samples. A visit computes VMODEL from the duty in force over the preceding
1 us (of two duties, each weighed with its time), and a valid one keeps that duty. These commands each have a clause
that exec answers a next state, with its effect: senseSample, voteDecision, votePendingEnd, plausibilityVisit. (R13,
R119, R122, R124, R125, R126, R127, Table 5.1.) -/
def Obligations.SensesAndVote : Prop :=
  ∀ (n : Fin 16) (s : State), s.rails.length = 16 →
    (∀ vA vB : Int, s.railEn n = true → s.clock.loopPresent = true →
      ∃ t, exec (.senseSample n vA vB) s = .next t ∧ (t.rail n).sense.cA = max (-512) (min 511 (quot (vA - s.convRef n) 256)) ∧
        (t.rail n).sense.cB = max (-512) (min 511 (quot (vB - s.convRef n) 256)) ∧
        (t.rail n).sense.nSamples = (s.rail n).sense.nSamples + (if s.updates n then 1 else 0) ∧
        ((s.rail n).sense.votes = true → (s.rail n).sense.votePending = false →
          (t.rail n).sense.disCount = (if 62 ≤ ((t.rail n).sense.cA - (t.rail n).sense.cB).natAbs
            then (s.rail n).sense.disCount + 1 else 0)) ∧
        t = { s with rails := t.rails, router := t.router, bus := t.bus }) ∧
    ((s.rail n).sense.votes = true → (s.rail n).sense.votePending = false →
      (if s.clock.onBackup then 32 else 64) ≤ (s.rail n).sense.disCount →
      ((s.rail n).model.valid = false →
        ∃ t, exec (.voteDecision n) s = .next t ∧ (t.rail n).sense.votePending = true ∧
          (t.rail n).sense.sel = decide ((s.rail n).sense.cA < (s.rail n).sense.cB) ∧ (t.rail n).core = (s.rail n).core) ∧
      ((s.rail n).model.valid = true →
        ∃ t, exec (.voteDecision n) s = .next t ∧
          (let dA := (s.fromModel n (s.rail n).sense.cA).natAbs
           let dB := (s.fromModel n (s.rail n).sense.cB).natAbs
           (dA ≤ 10240 → 10240 < dB → (t.rail n).sense.bFailed = true ∧ (t.rail n).sense.aFailed = false ∧
             (t.rail n).sense.sel = false) ∧
           (10240 < dA → dB ≤ 10240 → (t.rail n).sense.aFailed = true ∧ (t.rail n).sense.bFailed = false ∧
             (t.rail n).sense.sel = true) ∧
           (10240 < dA → 10240 < dB → (s.rail n).core.state ≠ .off →
             (t.rail n).prot.latch.getLsbD 8 = true ∧ (t.rail n).core.state.latched = true)))) ∧
    ((s.rail n).sense.votePending = true → (if s.clock.onBackup then 32 else 64) ≤ (s.rail n).sense.agreeCount →
      ∃ t, exec (.votePendingEnd n) s = .next t ∧ (t.rail n).sense.votePending = false ∧ (t.rail n).sense.sel = false ∧
        (t.rail n).sense.disCount = 0 ∧ (t.rail n).core = (s.rail n).core) ∧
    (s.railEn n = true → s.clock.loopPresent = true →
      ∃ t, exec (.plausibilityVisit n) s = .next t ∧ (t.rail n).model.vmodel = s.computeModel n ∧
        (t.rail n).model.valid = s.visitValid n ∧ (t.rail n).model.duties = (s.rail n).model.duties ∧
        (s.visitValid n = true → (t.rail n).model.visitDuty = some (s.dutyOver n))) ∧
    (∀ (t1 t0 : Nat) (d1 d0 : Int), (s.rail n).model.duties = [(t1, d1), (t0, d0)] → 800 ≤ s.clock.tick →
      t0 ≤ s.clock.tick - 800 → s.clock.tick - 800 ≤ t1 → t1 ≤ s.clock.tick →
      s.dutyOver n = d1 * (s.clock.tick - t1 : Nat) + d0 * (t1 - (s.clock.tick - 800) : Nat)) ∧
    (∀ (t0 : Nat) (d0 : Int), (s.rail n).model.duties = [(t0, d0)] → 800 ≤ s.clock.tick → t0 ≤ s.clock.tick - 800 →
      s.dutyOver n = d0 * 800)

/-- An update of a rail whose loop updates consumes the samples and the FIRST flag and touches no other rail. Where the LE
does not run (held rail, backup clock, faulty LE) the backstop drives. Where its microcode, with whatever upset its
stores meet, reaches END, z registers, DUTY and STATUS are latched and the LE drives unless a criterion is met. Either
way the clamped duty lies between 0 and DMAX. This command has a clause that exec answers a next state, with its
effect: leUpdate. (R121, R131, R132, R136, R138, R157, R174.) -/
def Obligations.LoopEngineUpdates : Prop :=
  ∀ (n : Fin 16) (s : State), s.rails.length = 16 → s.railEn n = true → s.updates n = true →
    ∀ upset : Option Upset,
    (∃ t, exec (.leUpdate n upset) s = .next t ∧ (t.rail n).sense.sum = 0 ∧ (t.rail n).sense.nSamples = 0 ∧
      (t.rail n).le.setFirst = false ∧ (∀ k : Fin 16, k ≠ n → t.rail k = s.rail k) ∧ t.phases = s.phases) ∧
    (s.leRuns n = false → ∃ t, exec (.leUpdate n upset) s = .next t ∧ (t.rail n).bs.drove = true ∧
      (t.rail n).le.z = (s.rail n).le.z ∧ (t.rail n).bs.ePrev = s.updateErr n ∧
      0 ≤ (t.rail n).bs.clamped ∧ (t.rail n).bs.clamped ≤ (s.dmax n * 2 ^ 15 : Nat)) ∧
    (∀ (c a : Nat) (r : LeRegs), s.leRuns n = true →
      leRun (s.rail n).le (s.updateInputs n) upset (25 * s.updDiv n) = .done c a r →
      ∃ t, exec (.leUpdate n upset) s = .next t ∧ (t.rail n).le.z = r.z ∧ (t.rail n).le.duty = r.duty ∧
        (t.rail n).le.status = r.status ∧ (t.rail n).le.lastCyc = c ∧
        0 ≤ (t.rail n).bs.clamped ∧ (t.rail n).bs.clamped ≤ (s.dmax n * 2 ^ 15 : Nat) ∧
        ((s.rail n).le.mode = 0 ∨ (s.rail n).le.mode = 1 → (s.rail n).le.envRun < 7 → (s.rail n).le.satRun < 7 →
          (t.rail n).le.mode = 1 ∧ (t.rail n).bs.drove = false))

/-- An update that misses its deadline is abandoned, the backstop drives it, and the sixteenth overrun among the last
1,024 updates declares the LE with BS_CAUSE 1. The RM's re-arm reloads the stores, clears z0 to z63 and starts the
shadow run, except while the Apprentice holds the rail; without a LOOP clock the command waits in the FIFO. A shadow
run that completes gives the rail back to the LE with TRACKED, and its fault ends unless it is lasting. These commands
each have a clause that exec answers a next state, with its effect: updateDeadline, leRearm, shadowRunEnd. (R139,
R140, R163, R175.) -/
def Obligations.FaultyLoopEngines : Prop :=
  ∀ (n : Fin 16) (s : State), s.rails.length = 16 →
    (∀ a, (s.rail n).le.unfinished = some a →
      ∃ t, exec (.updateDeadline n) s = .next t ∧ (t.rail n).le.unfinished = none ∧ (t.rail n).bs.drove = true ∧
        (t.rail n).le.overruns = (true :: (s.rail n).le.overruns).take 1024 ∧ t.phases = s.phases ∧
        ((s.rail n).le.mode = 1 → (s.rail n).le.declared = 0 → 16 ≤ ((true :: (s.rail n).le.overruns).take 1024).countP id →
          (t.rail n).le.mode = 3 ∧ (t.rail n).bs.cause = 1)) ∧
    ((s.rail n).le.mode = 3 → (s.rail n).le.rearmDue = true → (s.rail n).core.state ≠ .apprenticeHold → s.rm.run = .running →
      s.clock.corePresent = true → s.cross = { posts := [], toLoop := [] } →
      (s.clock.loopPresent = false → ∃ t, exec (.leRearm n) s = .next t ∧
        t = { s with cross := { posts := [], toLoop := [.rearm n] }, router := t.router, bus := t.bus }) ∧
      (s.clock.loopPresent = true → ∃ t, exec (.leRearm n) s = .next t ∧ (t.rail n).le.mode = 2 ∧ (t.rail n).le.rearmDue = false ∧
        (t.rail n).le.z = List.replicate 64 0 ∧ (t.rail n).le.shadowCount = 0 ∧ (t.rail n).le.setFirst = true ∧
        (t.rail n).le.coef.length = 512 ∧ (t.rail n).le.declared = (s.rail n).le.declared)) ∧
    ((s.rail n).le.mode = 2 → 1024 ≤ (s.rail n).le.shadowCount →
      ∃ t, exec (.shadowRunEnd n) s = .next t ∧ (t.rail n).le.mode = 1 ∧ (t.rail n).le.setTracked = true ∧
        (t.rail n).bs.cause = 0 ∧ (∀ e ∈ t.input.faults, e.kind = .loopEngine ∧ e.idx = n → e.lasting = true))

/-- A run starts on a ready rail after first light, when one is due or an interval is set, and changes only the run's own
registers. Its end stores estimates (free values, log entry 7), COUT_DEGRADED where COUT_EST lies more than a quarter
off COUT_NOM, and RPATH_EFF only where the condition held throughout and the candidate lies between half and one and a
half times RPATH (of a candidate above 65,535 the low 16 bits, the model's choice: log entry 56 at R144). An aborted
run is tried again; after the third abort it is not. These commands each have a clause that exec answers a next state,
with its effect: charRunStart, charRunEnd, charRetry. (R141, R142, R143, R144.) -/
def Obligations.SelfCharacterisationRuns : Prop :=
  ∀ (n : Fin 16) (s : State), s.rails.length = 16 →
    (s.charReady n = true → (s.rail n).model.firstLight = true → (s.rail n).model.charDue = true ∨ s.charInterval n ≠ 0 →
      ∃ t, exec (.charRunStart n) s = .next t ∧ (t.rail n).model = { (s.rail n).model with
          charBusy := true
          charDue := false
          charAborts := 0
          charAt := s.clock.tick
          charDv := 0
          charV := 0
          charI := 0
          charVisits := 0
          charOk := (t.rail n).model.charOk } ∧
        (t.rail n).core = (s.rail n).core) ∧
    ((s.rail n).model.charBusy = true →
      ∃ t, exec (.charRunEnd n) s = .next t ∧ (t.rail n).model.charBusy = false ∧
        (t.rail n).model.rpathEff = (if (s.rail n).model.charOk = true ∧ (s.rpath n : Int) ≤ 2 * (s.rail n).model.candidate ∧
            2 * (s.rail n).model.candidate ≤ 3 * s.rpath n
          then BitVec.ofInt 16 (s.rail n).model.candidate else (s.rail n).model.rpathEff) ∧
        ((t.rail n).model.coutDeg = true ↔
          4 * (((t.rail n).model.coutEst.toNat : Int) - s.coutNom n).natAbs > s.coutNom n) ∧ (t.rail n).core = (s.rail n).core) ∧
    (s.charReady n = true → (s.rail n).model.charDue = true →
      (1 ≤ (s.rail n).model.charAborts → (s.rail n).model.charAborts < 3 →
        ∃ t, exec (.charRetry n) s = .next t ∧ (t.rail n).model.charBusy = true ∧
          (t.rail n).model.charAborts = (s.rail n).model.charAborts) ∧
      (3 ≤ (s.rail n).model.charAborts →
        ∃ t, exec (.charRetry n) s = .next t ∧ t = { s with router := t.router, bus := t.bus }))

/-- In PRIMED each evaluation samples the EN balls (all off while the TAP holds them), forms the enable request of every
enabled rail, starts a requested rail out of PRIMED unless the Apprentice holds the rails, its class is stopped or a
static level is held, stops a running rail whose request fell, reverses a stop whose request rose, and takes back a
pending re-enable. A rail that is not enabled stands, and so does one that neither the RM nor the Apprentice governs.
This command has a clause that exec answers a next state, with its effect: enableEvaluation. (R35, R147, R148, R348,
R440, R473, R483, Table 5.4.) -/
def Obligations.EnableRequestMovesTheRail : Prop :=
  ∀ (high : BitVec 16) (tests : List SenseTest) (s : State), s.boot.stage = 8 → s.rails.length = 16 →
    ∃ t, exec (.enableEvaluation high tests) s = .next t ∧ t.pins.enOn = (if s.tap.enHeld then 0 else high) ∧
      (∀ n : Fin 16, s.railEn n = true → s.railKept n = true → (t.rail n).core.state = (s.rail n).core.state ∧
        (t.rail n).core.enReq = (s.rail n).core.enReq ∧ (t.rail n).core.target = (s.rail n).core.target) ∧
      ((∀ n : Fin 16, s.railEn n = true → s.railKept n = true) → t.phases = s.phases) ∧
      (∀ n : Fin 16, s.railEn n = true → s.railKept n = false →
        (t.rail n).core.enReq = ({ s with pins := t.pins }).enableRequest n ∧
        ((s.rail n).core.state = .primed → ({ s with pins := t.pins }).enableRequest n = true → s.tap.enHeld = false →
          s.app.holding = false → s.classStopped n = false → s.clock.standby = false → s.levelHeld = false →
          (t.rail n).core.state = .softStart) ∧
        ((s.rail n).core.state = .primed → ({ s with pins := t.pins }).enableRequest n = false ∨ s.app.holding = true ∨
          s.levelHeld = true → (t.rail n).core.state = .primed) ∧
        ((s.rail n).core.state = .softStart ∨ (s.rail n).core.state = .regulating ∨ (s.rail n).core.state = .slewing →
          ({ s with pins := t.pins }).enableRequest n = false → (t.rail n).core.state = .softStop) ∧
        ((s.rail n).core.state = .softStop → (s.rail n).core.appStop = false →
          ({ s with pins := t.pins }).enableRequest n = true → (t.rail n).core.state = .softStart) ∧
        ((s.rail n).core.state = .reenablePending → ({ s with pins := t.pins }).enableRequest n = false →
          (t.rail n).core.state = .faultLatched)) ∧
      (∀ n : Fin 16, s.railEn n = false → t.rail n = s.rail n)

/-- In service, the live output asserts at its threshold and releases beyond the hysteresis, in the comparator's
direction, of the chosen sense where the comparator reads a rail's senses; while its selector follows a change of the
chosen sense it is held. While a mask window is open the masked output and the latch stand; without one the masked
output takes the live state, and a class P rise latches. The last window to close lets the masked output take the live
state. A latch clears only while its masked output is released, and not in the LOOP cycle in which it set; writing 1
clears an edge flag whose edge did not come in that cycle, and nothing else. Both clears act in LOOP: without its
clock they do nothing. A test in an open window, or in a forced one on a quiet rail, notes its failing step and moves
no output and no rail's state; a failure is outstanding until the repeat. A `cmp test` that waits for it prints PASS
or its failing step. A repeat that passes ends the fault unless it is lasting; one that fails declares the comparator
FAILED and sets STATUS_CML bit 0. These commands each have a clause that exec answers a next state, with its effect:
comparatorCrossing, maskWindowClose, latchClear, edgeFlagClear, comparatorSelftest, forcedTestWindow, selftestRepeat.
(R127, R253, R254, R255, R256, R257, R258, R260, R262, R263, R264, R265.) -/
def Obligations.ComparatorsAndTheirTests : Prop :=
  (
  ∀ (m : Fin 76) (s : State), s.comps.length = 76 → s.rails.length = 16 →
    (∀ level levelB : Int, s.boot.stage = 7 ∨ s.boot.stage = 8 → s.compInService m = true → s.selectorMoves m = false →
      ∃ t, exec (.comparatorCrossing m level levelB) s = .next t ∧
        (let x := s.inputLevel m level levelB * 1000
         (s.compOver m = true → s.threshold m ≤ x → (t.comp m).live = true) ∧
         (s.compOver m = true → x < s.threshold m → x ≤ s.threshold m - s.hyst m * s.stepMilli m → (t.comp m).live = false) ∧
         (s.compOver m = false → x ≤ s.threshold m → (t.comp m).live = true) ∧
         (s.compOver m = false → s.threshold m < x → s.threshold m + s.hyst m * s.stepMilli m ≤ x → (t.comp m).live = false)) ∧
        ((s.comp m).win ≠ 0 → (t.comp m).out = (s.comp m).out ∧ (t.comp m).latch = (s.comp m).latch) ∧
        ((s.comp m).win = 0 → (s.comp m).live = (s.comp m).out →
          (t.comp m).out = (t.comp m).live ∧
          ((s.comp m).out = false → (t.comp m).out = true → s.classP m = true → (t.comp m).latch = true))) ∧
    (∀ level levelB : Int, s.selectorMoves m = true →
      ∃ t, exec (.comparatorCrossing m level levelB) s = .next t ∧ t = { s with router := t.router, bus := t.bus }) ∧
    (∀ src : MaskSrc, (s.comp m).win.getLsbD (maskIdx src) = true →
      ∃ t, exec (.maskWindowClose m src) s = .next t ∧ (t.comp m).live = (s.comp m).live ∧
        ((s.comp m).win &&& ~~~(winBit (maskIdx src)) ≠ 0 → (t.comp m).out = (s.comp m).out ∧
          (t.comp m).win = (s.comp m).win &&& ~~~(winBit (maskIdx src))) ∧
        ((s.comp m).win &&& ~~~(winBit (maskIdx src)) = 0 → (s.comp m).failed = false →
          (t.comp m).out = (s.comp m).live)) ∧
    (s.classP m = true → bit (s.cmpWord m) 28 = true → (s.comp m).out = false → s.sameCycle (s.comp m).setAt = false →
      s.clock.loopPresent = true →
      ∃ t, exec (.latchClear m) s = .next t ∧ t.comp m = { s.comp m with latch := false } ∧
        t = { s with comps := t.comps, router := t.router, bus := t.bus }) ∧
    ((s.comp m).out = true ∨ s.sameCycle (s.comp m).setAt = true ∨ s.classP m = false ∨ bit (s.cmpWord m) 28 = false ∨
        s.clock.loopPresent = false →
      ∃ t, exec (.latchClear m) s = .next t ∧ t = { s with router := t.router, bus := t.bus }) ∧
    (s.clock.loopPresent = false → ∀ rise fall : Bool,
      ∃ t, exec (.edgeFlagClear m rise fall) s = .next t ∧ t = { s with router := t.router, bus := t.bus }) ∧
    (s.clock.loopPresent = true → ∀ rise fall : Bool, ∃ t, exec (.edgeFlagClear m rise fall) s = .next t ∧
      t.comp m = { s.comp m with
        rise := (s.comp m).rise && (!rise || s.sameCycle (s.comp m).riseAt)
        fall := (s.comp m).fall && (!fall || s.sameCycle (s.comp m).downAt) } ∧
      (∀ k : Fin 76, k ≠ m → t.comp k = s.comp k) ∧
      t = { s with comps := t.comps, router := t.router, bus := t.bus })
  )
  ∧
  (
  ∀ (m : Fin 76) (s : State) (passed : BitVec 4), s.comps.length = 76 →
    (s.testable m = true → (s.comp m).win ≠ 0 →
      ∃ t, exec (.comparatorSelftest m passed) s = .next t ∧
        t.comp m = { s.comp m with
          testedAt := s.clock.tick
          repeatDue := failingStep passed } ∧
        (s.con.waiting ≠ some (.cmp m) → t.con = s.con) ∧
        (s.con.waiting = some (.cmp m) → t.con.waiting = none ∧
          (passed = 15 → t.con.out = [.text [0x50, 0x41, 0x53, 0x53], .ok]) ∧
          (∀ i : Fin 4, passed.getLsbD i = false → (∀ j < i, passed.getLsbD j = true) →
            t.con.out = [.words [BitVec.ofNat 32 (i + 1)], .ok])) ∧
        (passed = 15 → t.input = s.input ∧ t.rails = s.rails) ∧
        (passed ≠ 15 → ∃ e ∈ t.input.faults, e.kind = .comparator ∧ e.idx = m) ∧
        (∀ n, (t.rail n).core = (s.rail n).core) ∧ t.phases = s.phases) ∧
    (s.testable m = true → s.railQuiet (s.mrail m) = true →
      ∃ t, exec (.forcedTestWindow m passed) s = .next t ∧
        t.comp m = { s.comp m with
          testedAt := s.clock.tick
          repeatDue := failingStep passed } ∧ (∀ n, (t.rail n).core = (s.rail n).core) ∧ t.phases = s.phases) ∧
    (∀ first : Fin 4, (s.comp m).repeatDue = some first →
      (passed = 15 → ∃ t, exec (.selftestRepeat m passed) s = .next t ∧ (t.comp m).repeatDue = none ∧
        (t.comp m).failed = (s.comp m).failed ∧ (t.comp m).out = (s.comp m).out ∧
        (∀ e ∈ t.input.faults, e.kind = .comparator ∧ e.idx = m → e.lasting = true) ∧ t.rails = s.rails) ∧
      (passed ≠ 15 → ∃ t, exec (.selftestRepeat m passed) s = .next t ∧ (t.comp m).repeatDue = none ∧
        (s.con.waiting = some (.cmp m) → t.con.waiting = none ∧ t.con.out = [.err 7]) ∧ (t.comp m).failed = true ∧ t.pm.stCml.getLsbD 0 = true))
  )

/-- At BURST_LIMIT the burst ends: LIMIT_HITS counts, the fired lanes return to DPWM, where their period now stands, or
idle where no higher override has them, the ADD window opens on UV_FAST and the next update pre-loads. A clamp still
asserted at CLAMP_LIMIT idles the lanes of the switching phases and stands. A delivery through the FIFO brings the
source's level to the soft destinations while CORE runs, that of a LOOP source as it last was while LOOP has no clock;
nothing changes while CORE is absent. A trigger starts a claimed timer with its LEN, and restarts a running one only
with RETRIG. At its end a periodic timer toggles and restarts, and a one-shot falls and stops. These commands each
have a clause that exec answers a next state, with its effect: burstLimitElapsed, clampLimitElapsed,
softRouteDelivery, gtTrigger, gtExpiry. (R270, R271, R273, R274, R275, R266, R269, R277, R278.) -/
def Obligations.BurstsRoutesAndTimers : Prop :=
  (
  ∀ (n : Fin 16) (s : State), s.rails.length = 16 → s.comps.length = 76 → s.phases.length = 128 →
    ((s.rail n).pol.burst = true →
      ∃ t, exec (.burstLimitElapsed n) s = .next t ∧ (t.rail n).pol.burst = false ∧
        (t.rail n).pol.limitHits = BitVec.ofNat 8 (min 255 ((s.rail n).pol.limitHits.toNat + 1)) ∧
        (t.rail n).le.setBurstPre = true ∧ (t.comp (4 * n)).win.getLsbD 1 = true ∧
        (∀ p : Fin 128, s.phaseRail p = some n.val → (t.phase p).fired = false ∧
          ((s.phase p).fired = true → s.burstOverridden n = false → (t.phase p).lane = (if (s.phase p).state.switching then s.dpwmLane n (s.phase p) else .idle)))) ∧
    ((s.rail n).pol.clamp = true → (s.rail n).pol.clampIdle = false → s.dest (16 + n) = true →
      ∃ t, exec (.clampLimitElapsed n) s = .next t ∧ (t.rail n).pol.clampIdle = true ∧ (t.rail n).pol.clamp = true ∧
        (∀ p : Fin 128, s.phaseRail p = some n.val → (s.phase p).state.switching = true → (t.phase p).lane = .idle)) ∧
    ((s.rail n).pol.burst = false →
      ∃ t, exec (.burstLimitElapsed n) s = .next t ∧ t = { s with router := t.router, bus := t.bus })
  )
  ∧
  (
  (∀ (src : Fin 256) (s : State), s.clock.corePresent = true →
    (s.clock.loopPresent = true ∨ 186 ≤ src.val → ∃ t, exec (.softRouteDelivery src) s = .next t ∧
      t.router.delivered = s.router.delivered.set src (s.softSource src && !(decide (148 ≤ src.val) && decide (src.val < 164)))) ∧
    (s.clock.loopPresent = false → src.val < 186 → ∃ t, exec (.softRouteDelivery src) s = .next t ∧
      t.router.delivered = s.router.delivered.set src
        (s.router.levels.getD src false && !(decide (148 ≤ src.val) && decide (src.val < 164))))) ∧
  (∀ (src : Fin 256) (s : State), s.clock.corePresent = false →
    ∃ t, exec (.softRouteDelivery src) s = .next t ∧ t = { s with router := t.router, bus := t.bus } ∧
      t.router.delivered = s.router.delivered) ∧
  (∀ (k : Fin 8) (s : State), s.timers.length = 8 → s.timerRuns k = true →
    ((s.timer k).running = false ∨ s.gtRetrig k = 1 →
      ∃ t, exec (.gtTrigger k) s = .next t ∧ (t.timer k).running = true ∧ (t.timer k).remain = s.gtLen k ∧
        (t.timer k).out = (if s.gtPeriodic k = 1 then (s.timer k).out else true)) ∧
    ((s.timer k).running = true → s.gtRetrig k ≠ 1 →
      ∃ t, exec (.gtTrigger k) s = .next t ∧ t.timer k = s.timer k ∧ t.rails = s.rails) ∧
    ((s.timer k).running = true → s.gtPeriodic k = 1 →
      ∃ t, exec (.gtExpiry k) s = .next t ∧ (t.timer k).running = true ∧ (t.timer k).remain = s.gtLen k ∧
        (t.timer k).out = !(s.timer k).out) ∧
    ((s.timer k).running = true → s.gtPeriodic k ≠ 1 → (∀ m : Fin 76, (s.comp m).win.getLsbD 0 = false) →
      ∃ t, exec (.gtExpiry k) s = .next t ∧ (t.timer k).running = false ∧ (t.timer k).out = false))
  )

/-- A shed command turns an ACTIVE or BLIND phase into DECIDED_SHED while no burst holds, N stays at F or above, the rail
is in neither SOFT_START nor SOFT_STOP, no hardware add acts in the same cycle and the RM has the rail, and is dropped
otherwise. The end of a wake gives PARKED, or ACTIVE (BLIND for a phase that lost a sense) with trim 0, its SET_MODE
due in the next round. A TRISTATED phase is PARKED after its idle time, and a PARKED one DEEP_PARKED after
DEEP_PARK_TIME where ANTIC is 0, no link fault stands and the Apprentice does not hold. Both commands are the RM's and
pass the FIFO: without a LOOP clock they wait in it, and with the RM down there is none (the model's reading, log
entry 56 at R10). Other phases keep their states. When the retry of a phase is due on a regulating or slewing rail,
each expected cell in the table is sent RESET_CELL that keeps its slot, with SET_LIMIT, SET_TRIM, SET_WIDTH and
SET_MODE PARK behind it in the order of R238, all of them behind a command that has been sent to a cell not SILENT and
awaits its echo (that a command not yet sent is dropped and its SEQ taken back is the model's choice, log entry 56 at
R230); a phase that still owes the discovery of a PHASE_RESTORE begins that instead. It waits while a cell is too hot,
the Apprentice holds or the RM is down. The phase wakes in probation from FRAME_TIME once the checks have passed.
These commands each have a clause that exec answers a next state, with its effect: shedCommand, wakeEnd,
tristateIdleElapsed, deepParkTimeElapsed, retryDue. (R184, R190, R194, R196, R302, Table 7.2, Table 7.3, R209, R212,
R213, R230, R238.) -/
def Obligations.PhaseMovesAndRetries : Prop :=
  (
  ∀ (p : Fin 128) (n : Nat) (s : State), s.Sized → s.phaseRail p = some n →
    (s.rm.run = .running → s.clock.corePresent = true → s.cross = { posts := [], toLoop := [] } →
      (s.clock.loopPresent = true →
        ((s.phase p).state = .active ∨ (s.phase p).state = .blind → s.burstHolds n = false → s.effFloor n + 1 ≤ s.nCount n →
          s.frozenRail n = false → (s.rail n).core.state ≠ .softStart → (s.rail n).core.state ≠ .softStop →
          (s.rail n).pol.addAt ≠ some s.clock.tick →
          ∃ t, exec (.shedCommand p) s = .next t ∧ (t.phase p).state = .decidedShed ∧
            (s.burstOverridden n = false → (t.phase p).lane = (s.phase p).lane) ∧
            (∀ q : Fin 128, q ≠ p → (t.phase q).state = (s.phase q).state) ∧ (∀ k, (t.rail k).core = (s.rail k).core) ∧
            t.cells = s.cells) ∧
        (s.burstHolds n = true ∨ s.nCount n ≤ s.effFloor n ∨ s.frozenRail n = true ∨ (s.rail n).core.state = .softStart ∨
            (s.rail n).core.state = .softStop ∨ (s.rail n).pol.addAt = some s.clock.tick ∨
            ((s.phase p).state ≠ .active ∧ (s.phase p).state ≠ .blind) →
          ∃ t, exec (.shedCommand p) s = .next t ∧ t.phases = s.phases ∧ t.cells = s.cells ∧
            (∀ k, (t.rail k).core = (s.rail k).core)) ∧
        ((s.phase p).state = .parked → s.deepParkTime n ≠ 0 → s.antic n = 0 → s.frozenRail n = false →
          s.linkFault (p.val / 8) = false → (s.rail n).prot.yieldWarm = false →
          ∃ t, exec (.deepParkTimeElapsed p) s = .next t ∧ t.phase p = { s.phase p with state := .deepParked } ∧
            t = { s with phases := t.phases, cells := t.cells, links := t.links, router := t.router, bus := t.bus }) ∧
        ((s.phase p).state ≠ .parked ∨ s.deepParkTime n = 0 ∨ s.antic n ≠ 0 ∨ s.frozenRail n = true ∨
            s.linkFault (p.val / 8) = true →
          ∃ t, exec (.deepParkTimeElapsed p) s = .next t ∧ t = { s with router := t.router, bus := t.bus })) ∧
      (s.clock.loopPresent = false →
        (∃ t, exec (.shedCommand p) s = .next t ∧
          t = { s with cross := { posts := [], toLoop := [.shed p] }, router := t.router, bus := t.bus }) ∧
        (∃ t, exec (.deepParkTimeElapsed p) s = .next t ∧
          t = { s with cross := { posts := [], toLoop := [.deepPark p] }, router := t.router, bus := t.bus }))) ∧
    (s.rm.run ≠ .running → ∀ c ∈ [Instr.shedCommand p, .deepParkTimeElapsed p],
      ∃ t, exec c s = .next t ∧ t = { s with router := t.router, bus := t.bus }) ∧
    ((s.phase p).state = .waking → (s.phase p).wakePark = true →
      ∃ t, exec (.wakeEnd p) s = .next t ∧ (t.phase p).state = .parked ∧ (t.phase p).lane = .idle) ∧
    ((s.phase p).state = .waking → (s.phase p).wakePark = false →
      ∃ t, exec (.wakeEnd p) s = .next t ∧ (t.phase p).state = (if (s.phase p).snsLost then .blind else .active) ∧
        (t.phase p).trim = 0 ∧ (t.phase p).modeDue = true ∧
        (s.burstOverridden n = false → (t.phase p).lane = (if (s.phase p).fired then .high else .idle)) ∧
        (∀ q : Fin 128, q ≠ p → (t.phase q).state = (s.phase q).state)) ∧
    ((s.phase p).state = .tristated →
      ∃ t, exec (.tristateIdleElapsed p) s = .next t ∧ t.phase p = { s.phase p with state := .parked } ∧
        t = { s with phases := t.phases, cells := t.cells, links := t.links, router := t.router, bus := t.bus }) ∧
    ((s.phase p).state ≠ .waking ∧ (s.phase p).state ≠ .tristated →
      ∀ c ∈ [Instr.wakeEnd p, .tristateIdleElapsed p],
        ∃ t, exec c s = .next t ∧ t = { s with router := t.router, bus := t.bus })
  )
  ∧
  (
  ∀ (p : Fin 128) (n : Nat) (s : State), s.Sized → s.phaseRail p = some n →
    ((s.phase p).state = .retryWait → (s.phase p).retrying = false →
      ((s.rail n).core.state = .regulating ∨ (s.rail n).core.state = .slewing) →
      s.frozenRail n = false → s.rm.run = .running → s.tooHot p = false →
      ((s.phase p).disc = .idle →
        ∃ t, exec (.retryDue p) s = .next t ∧
          t.phase p = { s.phase p with
            retrying := true
            retryDue := false } ∧
          (∀ q : Fin 128, q ≠ p → t.phase q = s.phase q) ∧ t.rails = s.rails ∧
          (∀ j : Fin 8, s.expect (8 * p + j) = 1 → (s.cell (8 * p + j)).state ≠ .absent →
            let x := s.cell (8 * p + j)
            let y := t.cell (8 * p + j)
            y.configuring = true ∧ y.state = x.state ∧
            (x.wasSent = false ∨ x.state = .silent →
              y.outstanding = some { cellFrame (8 * p + j) 8 0 false with
                seq := if x.outstanding.isSome && !x.wasSent then x.seq else !x.seq } ∧
              y.queue.map (·.2.code) = [5, 3, 2, 4]) ∧
            (x.wasSent = true → x.state ≠ .silent →
              y.outstanding = x.outstanding ∧ y.queue.map (·.2.code) = [8, 5, 3, 2, 4])) ∧
          (∀ j : Fin 8, s.expect (8 * p + j) ≠ 1 → t.cell (8 * p + j) = s.cell (8 * p + j))) ∧
      ((s.phase p).disc = .owed →
        ∃ t, exec (.retryDue p) s = .next t ∧ t.phase p = { s.phase p with disc := .resets } ∧
          (∀ q : Fin 128, q ≠ p → t.phase q = s.phase q) ∧ t.rails = s.rails)) ∧
    ((s.phase p).state ≠ .retryWait ∨ (s.phase p).retrying = true ∨ s.tooHot p = true ∨ s.frozenRail n = true ∨ s.rm.run ≠ .running →
      ∃ t, exec (.retryDue p) s = .next t ∧ t = { s with router := t.router, bus := t.bus })
  )

/-- At its period start a switching phase whose lane is free takes its high interval from the applied duty and its TRIM,
in steps of 19.5 ps (39 ps on the backup clock), or none when it is under 5 ns (256 steps), low or, where low-side
intervals are replaced, idle; under a burst the lane stays as it is; it moves its offset one of four steps; a shed
phase drains at -25 % per period and is TRISTATED after four; at the rail counter's period start the period-cleared
latches of class P comparators clear where the output is released (timers triggered by that period start are left to
the timers' statement). In PRIMED an edge of SYNC_IN moves the period correction of each enabled rail that follows
that ball by at most 1 % (100 in units of 0.01 %), and only when the edge period lies within 5 % of the rail's;
reaching the edge period is the lock. Missing edges return the rail to its own FSW. Nothing else changes. R200 gives
the limits and no law: the pull (the last step exact, and that is the lock; the correction dropped at once) is the
model's, log entry 33. These commands each have a clause that exec answers a next state, with its effect: periodStart,
syncInEdge, syncEdgesMissing. (R12, R133, R149, R185, R195, R198, R199, R256, R272, R48, R200.) -/
def Obligations.PeriodStartsAndSynchronisation : Prop :=
  (
  ∀ (n : Fin 16) (s : State), s.Sized →
    (s.clock.loopPresent = false → ∀ p, ∃ t, exec (.periodStart n p) s = .next t ∧
      t = { s with router := t.router, bus := t.bus }) ∧
    (s.clock.loopPresent = true → (∀ k < 8, s.gtTrig k ≠ 0xC0 + n.val) →
      ∃ t, exec (.periodStart n none) s = .next t ∧
        (∀ m : Fin 76, t.comp m = (if m < 64 ∧ s.mrail m = n ∧ s.classP m = true ∧ bit (s.cmpWord m) 28 = false ∧
          (s.comp m).out = false ∧ s.sameCycle (s.comp m).setAt = false then { s.comp m with latch := false } else s.comp m)) ∧
        t.rail n = { s.rail n with pol := { (s.rail n).pol with periodAt := some s.clock.tick } } ∧
        (∀ k : Fin 16, k ≠ n → t.rail k = s.rail k) ∧
        t = { s with rails := t.rails, comps := t.comps, router := t.router, bus := t.bus }) ∧
    (∀ p : Fin 128, s.clock.loopPresent = true → s.phaseRail p = some n.val →
      ((s.phase p).state = .decidedShed →
        ∃ t, exec (.periodStart n (some p)) s = .next t ∧ (t.phase p).state = .draining ∧ (t.phase p).drain = 1 ∧
          (t.phase p).trim = -16384) ∧
      ((s.phase p).state = .draining → (s.phase p).drain < 4 →
        ∃ t, exec (.periodStart n (some p)) s = .next t ∧ (t.phase p).state = .draining ∧
          (t.phase p).drain = (s.phase p).drain + 1 ∧ (t.phase p).trim = -(16384 * ((s.phase p).drain + 1 : Nat))) ∧
      ((s.phase p).state = .draining → 4 ≤ (s.phase p).drain →
        ∃ t, exec (.periodStart n (some p)) s = .next t ∧ (t.phase p).state = .tristated ∧ (t.phase p).lane = .idle) ∧
      ((s.phase p).state = .active ∨ (s.phase p).state = .blind →
        ∃ t, exec (.periodStart n (some p)) s = .next t ∧ (t.phase p).state = (s.phase p).state ∧
          ((s.phase p).stepsLeft = 1 → (t.phase p).offset = (s.phase p).targetOff) ∧
          (t.phase p).stepsLeft = (s.phase p).stepsLeft - 1 ∧
          (s.lanesFree n = false → s.burstOverridden n = false → (t.phase p).lane = (s.phase p).lane) ∧
          (s.burstOverridden n = false → ∀ q : Fin 128, q ≠ p → t.phase q = s.phase q)) ∧
      ((s.phase p).drainStep.state.switching = true → s.lanesFree n = true → (s.phase p).held = false →
        let x := s.takeDuty n (s.offsetStep n (s.phase p).drainStep)
        ∃ t, exec (.periodStart n (some p)) s = .next t ∧
          t.phase p = { x with
            fresh := false
            lane := if (s.rail n).pol.burst then (s.phase p).lane else x.lane } ∧
          (t.phase p).highTime = x.highTime ∧ (t.phase p).fallAt = x.fallAt ∧
          (x.highTime = 0 → x.fallAt = none ∧ x.lane = (if (s.rail n).core.lowSideIdle then .idle else .low)) ∧
          (x.highTime ≠ 0 → 256 ≤ x.highTime ∧ x.lane = .pwm ∧
            x.fallAt = some (s.clock.tick + ceilQuot x.highTime 64)) ∧
          (x.highTime = 0 ∨ (x.highTime : Int) =
            s.onGrid (s.clampDuty n (quot ((s.rail n).bs.applied * (65536 + (s.phase p).drainStep.trim)) 65536) * 51200000 *
              (10000 + (s.rail n).pol.periodCorr)) (s.fsw n * 2 ^ 31 * 10000))) ∧
      ((s.phase p).state.switching = false →
        ∃ t, exec (.periodStart n (some p)) s = .next t ∧ t = { s with router := t.router, bus := t.bus }))
  )
  ∧
  (
  ∀ (s : State), s.Sized →
    (∀ (ball : Bool) (ns : Nat), s.clock.loopPresent = true → s.boot.stage = 8 →
      ∃ t, exec (.syncInEdge ball ns) s = .next t ∧ t = { s with rails := t.rails, router := t.router, bus := t.bus } ∧
        (∀ k : Fin 16, s.railEn k = false ∨ s.syncSrc k ≠ (if ball then 2 else 1) → t.rail k = s.rail k) ∧
        (∀ k : Fin 16, s.railEn k = true → s.syncSrc k = (if ball then 2 else 1) →
          let off : Int := (s.fsw k * ns : Nat) - (1000000 : Int)
          (off.natAbs * 20 ≤ s.fsw k * ns →
            (t.rail k).pol.syncEdges = (s.rail k).pol.syncEdges + 1 ∧
            ((t.rail k).pol.periodCorr - (s.rail k).pol.periodCorr).natAbs ≤ 100 ∧
            ((quot off 100 - (s.rail k).pol.periodCorr).natAbs ≤ 100 →
              (t.rail k).pol.periodCorr = quot off 100 ∧ (t.rail k).pol.syncLocked = true)) ∧
          (s.fsw k * ns < off.natAbs * 20 → t.rail k = s.rail k))) ∧
    (∀ n : Fin 16, ∃ t, exec (.syncEdgesMissing n) s = .next t ∧
      t.rail n = { s.rail n with pol := { (s.rail n).pol with syncLocked := false, syncEdges := 0, periodCorr := 0 } } ∧
      (∀ k : Fin 16, k ≠ n → t.rail k = s.rail k) ∧
      t = { s with rails := t.rails, router := t.router, bus := t.bus })
  )

/-- With a LOOP clock each link sends the first waiting frame that may go of the lowest class that has one, or IDLE, with
ROUND in frame time 0 and in the 8b/10b characters that continue its running disparity; a held FD pair and one before
P5 send nothing. Classes 1 and 3 may always go, resends and probes not during a link fault or a suspension, SYNC_APPLY
once no SET_WIDTH for a lane it names waits, SET_WIDTH and class 6 only while the RM runs and has the rails, at most
16 SET_WIDTH a round. The 64th frame time starts a new round: the SET_MODEs due go out, counts of bad frames pass on,
and a third consecutive round with two or more bad frames of cells that are not SILENT declares LINK_LANE_FAULT with
cause 2. What the RM does meanwhile on a phase in RETRY_WAIT: with its cells configured it wakes in probation, with
one still to be configured it stands, and in a discovery the pattern lasts 3.2 us and ENUMERATE is queued after it.
Without a LOOP clock nothing is sent. The silence timeout of a link with a healthy cell declares LINK_LANE_FAULT with
cause 3, unless a fault stands, the FD pair is held, or causes 2 and 3 are suspended after a LOOP loss. A change of
FFLTn_N is a router source and declares nothing by itself; an unchanged level moves no rail and no phase. These
commands each have a clause that exec answers a next state, with its effect: frameTime, linkSilenceTimeout,
ffltAssert. (R32, R222, R228, R229, R230, R232, R186, R209, R203, R236, R244, Table 8.5.) -/
def Obligations.LinkFramesAndFaults : Prop :=
  (
  ∀ s : State, s.Sized →
    (s.clock.loopPresent = false → ∃ t, exec .frameTime s = .next t ∧ t = { s with router := t.router, bus := t.bus }) ∧
    (∀ (l : Fin 16) (f : DownFrame),
      s.mayGo l (1, f) = true ∧ s.mayGo l (3, f) = true ∧
      s.mayGo l (2, f) = (!s.linkFault l && !s.clock.suspendLinks) ∧
      (s.mayGo l (4, f) = true ↔ ∀ g : Nat × DownFrame,
        g ∈ (s.link l).queue ∨ (∃ c ∈ linkCells l, g ∈ (s.cell c).queue) → g.2.code = 2 →
          bit (f.data.toNat / 65536) (g.2.slot.toNat / 8) = false) ∧
      (s.mayGo l (5, f) = true → s.rm.run = .running ∧ s.frozen = false ∧ (s.link l).widthsSent < 16) ∧
      (s.rm.run = .running → s.frozen = false → (s.link l).widthsSent < 16 → f.defer = false → s.mayGo l (5, f) = true) ∧
      (s.mayGo l (6, f) = true ↔ s.rm.run = .running ∧ s.frozen = false)) ∧
    (s.clock.loopPresent = true →
      ∃ t, exec .frameTime s = .next t ∧ ∀ l : Fin 16,
        (t.link l).frames = (s.link l).frames + 1 ∧
        (t.link l).frameTime = (if (s.link 0).frameTime = 63 then 0 else (s.link l).frameTime + 1) ∧
        (∀ g, (t.link l).lastSent = some g → ((t.link l).chars, (t.link l).rdPos) = frameChars (s.link l).rdPos g) ∧
        ((s.link l).fdHeld = true ∨ s.pins.fdEnabled = false → (t.link l).lastSent = none) ∧
        ((s.link l).fdHeld = false → s.pins.fdEnabled = true →
          (∀ cls f, SendsFrame s l cls f → (t.link l).lastSent = some { f with round := (s.link l).frameTime == 0 }) ∧
          ((∀ q ∈ (s.link l).queue, 1 ≤ q.1 → q.1 ≤ 6 → s.mayGo l q = false) →
            (t.link l).lastSent = some { idleFrame with round := (s.link l).frameTime == 0 }))) ∧
    (s.clock.loopPresent = true → (s.link 0).frameTime ≠ 63 → (∀ p : Fin 128, RetryStands s p) →
      ∃ t, exec .frameTime s = .next t ∧ t = { s with links := t.links, cells := t.cells, router := t.router, bus := t.bus } ∧
        (∀ c : Fin 1024, t.cell c = { s.cell c with sentAt := (t.cell c).sentAt }) ∧
        ∀ l : Fin 16,
          ((s.link l).fdHeld = true ∨ s.pins.fdEnabled = false → (t.link l).queue = (s.link l).queue) ∧
          ((s.link l).fdHeld = false → s.pins.fdEnabled = true →
            (∀ cls f, SendsFrame s l cls f →
              (t.link l).queue = (s.link l).queue.erase (cls, f) ∧
              (t.link l).widthsSent = (s.link l).widthsSent + (if cls = 5 then 1 else 0) ∧
              (f.bc = false → (s.cell (64 * l.val + f.slot.toNat)).outstanding = some f →
                (t.cell (64 * l.val + f.slot.toNat)).sentAt = some (s.link l).frames)) ∧
            ((∀ q ∈ (s.link l).queue, 1 ≤ q.1 → q.1 ≤ 6 → s.mayGo l q = false) → (t.link l).queue = (s.link l).queue))) ∧
    (s.clock.loopPresent = true → (s.link 0).frameTime = 63 → (∀ p : Fin 128, RetryStands s p) →
      ∃ t, exec .frameTime s = .next t ∧ (∀ p : Fin 128, (t.phase p).modeDue = false) ∧
        ∀ l : Fin 16, (t.link l).widthsSent = 0 ∧ (t.link l).badCells = 0 ∧ (t.link l).badPrev = (s.link l).badCells ∧
          ((s.link l).fault = none → (s.link l).fdHeld = false → s.clock.suspendLinks = false → 2 ≤ (s.link l).badLive →
            2 ≤ (s.link l).badRounds → (t.link l).fault = some 2 ∧ (t.link l).lastCause = 2) ∧
          ((s.link l).fault = none → (s.link l).badLive < 2 → (s.link l).ffltRounds = 0 → (t.link l).fault = none)) ∧
    (∀ (p : Fin 128) (n : Nat), s.clock.loopPresent = true → (s.link 0).frameTime ≠ 63 → s.phaseRail p = some n →
      (s.phase p).state = .retryWait → s.rm.run = .running → s.frozenRail n = false →
      (∀ q : Fin 128, q ≠ p → RetryStands s q) →
      ((s.phase p).retrying = true → (s.phase p).disc = .idle → (∀ c ∈ phaseCells p, (s.cell c).configuring = false) →
        ((s.rail n).core.state = .regulating ∨ (s.rail n).core.state = .slewing) →
        ∃ t, exec .frameTime s = .next t ∧ (t.phase p).state = .waking ∧ (t.phase p).wakePark = false ∧
          (t.phase p).probation = true ∧ (t.phase p).retried = true ∧ (t.phase p).retrying = false) ∧
      ((s.phase p).retrying = true → (s.phase p).disc = .idle → (∃ c ∈ phaseCells p, (s.cell c).configuring = true) →
        ∃ t, exec .frameTime s = .next t ∧ t.phase p = s.phase p) ∧
      (∀ (since : Nat) (second : Bool), (s.phase p).retrying = false → (s.phase p).disc = .pattern since second →
        (s.phase p).lane = .pattern →
        ((s.link (p.val / 8)).frames + 1 < since + patternFrames → ∃ t, exec .frameTime s = .next t ∧ t.phase p = s.phase p) ∧
        (since + patternFrames ≤ (s.link (p.val / 8)).frames + 1 →
          ∃ t, exec .frameTime s = .next t ∧
            t.phase p = { s.phase p with lane := .idle, disc := .enumerate ((s.link (p.val / 8)).frames + 1) second } ∧
            (6, enumerateFrame p) ∈ (t.link (p.val / 8)).queue)))
  )
  ∧
  (
  ∀ (link : Fin 16) (s : State), s.Sized →
    (s.linkFault link = false → s.clock.suspendLinks = false → (s.link link).fdHeld = false → (∃ c ∈ linkCells link, (s.cell c).healthy = true) →
      ∃ t, exec (.linkSilenceTimeout link) s = .next t ∧ (t.link link).fault = some 3 ∧ (t.link link).lastCause = 3 ∧
        (t.link link).declaredAt = s.clock.tick ∧ (∀ l : Fin 16, l ≠ link → t.link l = s.link l)) ∧
    (s.linkFault link = true ∨ s.clock.suspendLinks = true ∨ (s.link link).fdHeld = true ∨ (∀ c ∈ linkCells link, (s.cell c).healthy = false) →
      ∃ t, exec (.linkSilenceTimeout link) s = .next t ∧ t = { s with router := t.router, bus := t.bus }) ∧
    (∀ low : Bool, ∃ t, exec (.ffltAssert link low) s = .next t ∧ (t.link link).ffltLow = low ∧
      (t.link link).fault = (s.link link).fault ∧ (∀ l : Fin 16, l ≠ link → t.link l = s.link l) ∧ t.cells = s.cells ∧
      ((s.link link).ffltLow = low → t.rails = s.rails ∧ t.phases = s.phases))
  )

/-- For every five bytes: the comma, the seven characters of those bytes and their CRC-16, sent with the first two bits
lost, are aligned by the comma, decoded and found good, and give the same five bytes, whatever the first two bits
read. The code groups are those of the standard that R222 names (log entry 56). (R222, R223, R224, R225.) -/
def Obligations.LineCodeCarriesUpstreamFrames : Prop :=
  ∀ b1 b2 b3 b4 b5 : BitVec 8,
    let l := [b1.toNat, b2.toNat, b3.toNat, b4.toNat, b5.toNat]
    (∃ f : BitVec 56, receive (upstreamBits l) = .good f ∧ upGood f = true ∧
      (List.range 5).map (fun i => upByte f (i + 1)) = l) ∧
    (∀ x y : Bool, receive (x :: y :: (upstreamBits l).drop 2) = receive (upstreamBits l))

/-- A good telemetry frame with no command to check sets the cell's current, its peak or temperature, its flags and its
age 0. A frame that acknowledges SET_MODE RUN makes a CONFIGURED cell RUNNING. A bad or absent frame is followed by a
second attempt, and a second failure, once that attempt may be checked, makes the cell SILENT with a lasting fault.
Where no LOOP clock runs the frame waits in the link's FIFO. An ABSENT cell number is not heard but during a discovery
on its lane. This command has a clause that exec answers a next state, with its effect: upstreamFrame. (R16, R224,
R225, R226, R227, R230, R232, R243, Table 8.3, Table 8.8.) -/
def Obligations.UpstreamFramesUpdateTheCell : Prop :=
  ∀ (link : Fin 16) (slot : Fin 64) (bits : List Bool) (s : State), s.Sized → s.pins.fuOn = true → (s.link link).rx = [] →
    let c := 64 * link.val + slot.val
    (s.clock.loopPresent = false → ∃ t, exec (.upstreamFrame link slot bits) s = .next t ∧
      (t.link link).rx = [(slot.val, bits)] ∧ t = { s with links := t.links, router := t.router, bus := t.bus }) ∧
    (s.clock.loopPresent = true → (s.cell c).state = .absent → s.takesReplies c = false →
      ∃ t, exec (.upstreamFrame link slot bits) s = .next t ∧ t.cells = s.cells ∧ t.rails = s.rails ∧ t.phases = s.phases ∧
        t.link link = s.link link) ∧
    (s.clock.loopPresent = true → (s.cell c).state ≠ .absent →
      (∀ f : BitVec 56, receive bits = .good f → bit (upByte f 1) 6 = false → s.checkable c = none →
        ∃ t, exec (.upstreamFrame link slot bits) s = .next t ∧
          (t.cell c).iavg = signed 12 (upByte f 2 * 16 + upByte f 3 / 16) ∧
          (t.cell c).flags = BitVec.ofNat 8 (upByte f 5) ∧ (t.cell c).age = 0 ∧ (t.cell c).goodNow = true ∧
          (t.cell c).state = (s.cell c).state ∧
          (bit (upByte f 5) 7 = false → (t.cell c).ipeak = upByte f 3 % 16 * 256 + upByte f 4) ∧
          (bit (upByte f 5) 7 = true → (t.cell c).temp = BitVec.ofNat 10 (upByte f 3 % 16 * 256 + upByte f 4))) ∧
      (∀ (f : BitVec 56) (cmd : DownFrame), receive bits = .good f → s.checkable c = some cmd → cmd.code = 4 →
        cmd.data.toNat / 65536 % 4 = 0 → (s.cell c).attempt = 0 → (s.cell c).state = .configured →
        bit (upByte f 1) 7 = cmd.seq →
        ∃ t, exec (.upstreamFrame link slot bits) s = .next t ∧ (t.cell c).state = .running ∧ (t.cell c).mode = 0) ∧
      ((∀ f, receive bits ≠ .good f) → s.linkFault link = false → (s.link link).fdHeld = false →
        s.clock.suspendLinks = false → (s.cell c).healthy = true → (s.cell c).senseCheck = none →
        ((s.cell c).attempt = 0 →
          ∃ t, exec (.upstreamFrame link slot bits) s = .next t ∧ (t.cell c).attempt ≠ 0 ∧
            (t.cell c).state = (s.cell c).state ∧ (t.cell c).badNow = true ∧ (t.cell c).skipped = true ∧
            (t.link link).badCells = (s.link link).badCells + 1) ∧
        ((s.cell c).attempt ≠ 0 → s.checkable c = none →
          ∃ t, exec (.upstreamFrame link slot bits) s = .next t ∧ (t.cell c).state = (s.cell c).state ∧
            (t.cell c).outstanding = (s.cell c).outstanding ∧ (t.cell c).attempt = (s.cell c).attempt) ∧
        ((s.cell c).attempt ≠ 0 → (s.checkable c).isSome = true → s.silentCount link < 3 →
          ∃ t, exec (.upstreamFrame link slot bits) s = .next t ∧ (t.cell c).state = .silent ∧
            (t.cell c).outstanding = none ∧
            (∃ e ∈ t.input.faults, e.kind = .cellFrame ∧ e.idx = c ∧ e.lasting = true))))

/-- HICCUP_OFF ends a first slow over-current latch: the rail is PRIMED, or starts when its re-enable is pending (waiting
in PRIMED while the Apprentice holds the rails, its class is stopped or the enables are held, which R306 and R308 do
not give: the model's choice, log entry 23); a latch with other causes only loses this one. An under-voltage that
outlasts UV_DELAY on a rail at its target latches it where UV_RESP asks for it, and else only sets its status bit.
PG_n goes true after PG_ON_DELAY only while its conditions hold, and false after PG_OFF_FILTER only while UV_PG is
asserted. These commands each have a clause that exec answers a next state, with its effect: hiccupOffElapsed,
uvDelayElapsed, pgOnDelayElapsed, pgOffFilterElapsed. (R289, R292, R293, R306, Table 5.4, Table 10.5.) -/
def Obligations.HiccupAndPowerGoodTimes : Prop :=
  ∀ (n : Fin 16) (s : State), s.Sized →
    ((s.rail n).core.state = .faultLatched → (s.rail n).prot.latch = 8 →
      ∃ t, exec (.hiccupOffElapsed n) s = .next t ∧ (t.rail n).core.state = .primed ∧ (t.rail n).prot.latch = 0 ∧
        t.phases = s.phases ∧ (∀ k : Fin 16, k ≠ n → t.rail k = s.rail k)) ∧
    ((s.rail n).core.state = .reenablePending → (s.rail n).prot.latch = 8 →
      ∃ t, exec (.hiccupOffElapsed n) s = .next t ∧ (t.rail n).prot.latch = 0 ∧
        (t.rail n).core.state = (if s.startFree n = true then .softStart else .primed)) ∧
    ((s.rail n).core.state.latched = true → (s.rail n).prot.latch.getLsbD 3 = true → (s.rail n).prot.latch ≠ 8 →
      ∃ t, exec (.hiccupOffElapsed n) s = .next t ∧ (t.rail n).core = (s.rail n).core ∧
        (t.rail n).prot.latch = (s.rail n).prot.latch &&& ~~~8) ∧
    ((s.rail n).core.state.latched = false ∨ (s.rail n).prot.latch.getLsbD 3 = false →
      ∃ t, exec (.hiccupOffElapsed n) s = .next t ∧ t = { s with router := t.router, bus := t.bus }) ∧
    ((s.comp (4 * n + 3)).out = true → (s.rail n).core.state.onTarget = true →
      (s.uvResp n = 1 → ∃ t, exec (.uvDelayElapsed n) s = .next t ∧ (t.rail n).core.state = .faultLatched ∧
        (t.rail n).prot.latch.getLsbD 5 = true ∧ (t.rail n).prot.pg = false ∧
        (∀ p : Fin 128, s.phaseRail p = some n.val → (t.phase p).lane = .idle)) ∧
      (s.uvResp n ≠ 1 → ∃ t, exec (.uvDelayElapsed n) s = .next t ∧ t.rails = s.rails ∧ t.phases = s.phases ∧
        t.pm = { s.pm with stVout := s.pm.stVout.modify n (· ||| 0x10) })) ∧
    ((s.comp (4 * n + 3)).out = false ∨ (s.rail n).core.state.onTarget = false →
      ∃ t, exec (.uvDelayElapsed n) s = .next t ∧ t = { s with router := t.router, bus := t.bus }) ∧
    (s.pgHolds n = true → ∃ t, exec (.pgOnDelayElapsed n) s = .next t ∧
      t.rail n = { s.rail n with prot := { (s.rail n).prot with pg := true } } ∧
      t = { s with rails := t.rails, router := t.router, bus := t.bus }) ∧
    (s.pgHolds n = false → ∃ t, exec (.pgOnDelayElapsed n) s = .next t ∧ t = { s with router := t.router, bus := t.bus }) ∧
    ((s.comp (4 * n + 3)).out = true → ∃ t, exec (.pgOffFilterElapsed n) s = .next t ∧
      t.rail n = { s.rail n with prot := { (s.rail n).prot with pg := false } } ∧
      t = { s with rails := t.rails, router := t.router, bus := t.bus }) ∧
    ((s.comp (4 * n + 3)).out = false →
      ∃ t, exec (.pgOffFilterElapsed n) s = .next t ∧ t = { s with router := t.router, bus := t.bus })

/-- VIN_UV on both twins, or on the only one in service, latches every enabled rail that is not OFF and sets
STATUS_INPUT[4]. A disagreement of the twins fails the one that is more than 5 % from the estimate of the input, moves
feed-forward to the other, and fails neither where both are near, both far or no estimate stands. VIN_AUTO clears
latches caused by the input alone, once no input comparator in service is asserted. These commands each have a clause
that exec answers a next state, with its effect: inputUv, inputSenseVote, vinAutoClear. (R295, R296, R297, R306, Table
10.5.) -/
def Obligations.InputMonitor : Prop :=
  ∀ s : State, s.Sized →
    let a := s.compInService 64
    let b := s.compInService 65
    let low := (a || b) && (!a || (s.comp 64).out) && (!b || (s.comp 65).out)
    (low = true →
      ∃ t, exec .inputUv s = .next t ∧ t.pm.stInput.getLsbD 4 = true ∧
        (∀ n : Fin 16, s.railEn n = true → (s.rail n).core.state ≠ .off →
          (t.rail n).core.state.latched = true ∧ (t.rail n).prot.latch.getLsbD 2 = true) ∧
        (∀ n : Fin 16, s.railEn n = false → (t.rail n).core = (s.rail n).core ∧ (t.rail n).prot = (s.rail n).prot)) ∧
    (low = false → ∃ t, exec .inputUv s = .next t ∧ t = { s with router := t.router, bus := t.bus }) ∧
    (s.input.disagree = true → s.input.vinAFailed = false → s.input.vinBFailed = false →
      (s.vinEst = none → ∃ t, exec .inputSenseVote s = .next t ∧ t = { s with router := t.router, bus := t.bus }) ∧
      (∀ est, s.vinEst = some est →
        (vinNear est s.input.vinA = true → vinNear est s.input.vinB = true →
          ∃ t, exec .inputSenseVote s = .next t ∧ t = { s with router := t.router, bus := t.bus }) ∧
        (vinNear est s.input.vinA = true → vinNear est s.input.vinB = false →
          ∃ t, exec .inputSenseVote s = .next t ∧ t.input.vinBFailed = true ∧ t.input.vinAFailed = false ∧
            t.input.vff = quot (s.input.vinA * 2 ^ 24) 200) ∧
        (vinNear est s.input.vinA = false → vinNear est s.input.vinB = true →
          ∃ t, exec .inputSenseVote s = .next t ∧ t.input.vinAFailed = true ∧ t.input.vinBFailed = false ∧
            t.input.vff = quot (s.input.vinB * 2 ^ 24) 200) ∧
        (vinNear est s.input.vinA = false → vinNear est s.input.vinB = false →
          ∃ t, exec .inputSenseVote s = .next t ∧ t = { s with sketch := t.sketch, router := t.router, bus := t.bus }))) ∧
    (s.vinAuto = 1 → (∀ m ∈ [64, 65, 66, 67], s.compInService m = true → (s.comp m).out = false) →
      ∃ t, exec .vinAutoClear s = .next t ∧
        ∀ n : Fin 16, s.railEn n = true → (s.rail n).core.state = .faultLatched →
          ((s.rail n).prot.latch = 2 ∨ (s.rail n).prot.latch = 4 ∨ (s.rail n).prot.latch = 6 →
            (t.rail n).core.state = .primed ∧ (t.rail n).prot.latch = 0) ∧
          ((s.rail n).prot.latch &&& 0x3F9 ≠ 0 → t.rail n = s.rail n)) ∧
    (s.vinAuto ≠ 1 ∨ (∃ m ∈ [64, 65, 66, 67], s.compInService m = true ∧ (s.comp m).out = true) →
      ∃ t, exec .vinAutoClear s = .next t ∧ t = { s with router := t.router, bus := t.bus })

/-- The evaluation at the end of a round takes the current of each enabled rail into its average of eight rounds, marks
every cell as not heard of until its next frame, and changes rails, phases, cells, links, comparator windows, the
input cap, status, records and routing only (and what waits for LOOP): no clock, pin, timer, converter, mailbox, pair
or memory. It runs its steps in order, each over every enabled rail. A cell that reports below a tenth of its siblings
for a third round opens its phase; THROTTLE bits follow load, overload, stage and yields with their hysteresis; a full
window above the threshold latches the rail, the second time within RETRY_WIN until cleared; an overload that outlasts
its grace yields to the floor entry, and its end needs YIELD_HOLD; adds reach N_T after ADD_DWELL and sheds are
ordered after SHED_DWELL; the cap enters stage 1 above IIN_CAP and stage 2 after its grace. Without a LOOP clock there
is no evaluation. This command has a clause that exec answers a next state, with its effect: telemetryRound. (R192,
R193, R205, R206, R243, R281, R285, R286, R287, R288, R289, R298.) -/
def Obligations.TelemetryRounds : Prop :=
  ∀ s : State, s.Sized →
    (s.clock.loopPresent = false →
      ∃ t, exec .telemetryRound s = .next t ∧ t = { s with router := t.router, bus := t.bus }) ∧
    (s.clock.loopPresent = true →
      ∃ t, exec .telemetryRound s = .next t ∧
        (∀ c : Fin 1024, (t.cell c).skipped = true) ∧
        (∀ n : Fin 16, s.railEn n = true →
          (t.rail n).pol.iRounds = ((s.rail n).pol.irail :: (s.rail n).pol.iRounds).take 8) ∧
        (∀ n : Fin 16, s.railEn n = false → (t.rail n).core = (s.rail n).core) ∧
        t = { s with sketch := t.sketch, bus := t.bus, phases := t.phases, pm := t.pm, cells := t.cells, links := t.links,
                     router := t.router, comps := t.comps, input := t.input, rails := t.rails, cross := t.cross
                     ports := t.ports, boot := t.boot, con := t.con } ∧
        (s.cross.posts = [] → s.cross.toLoop = [] →
          t.cross = s.cross ∧ t.ports = s.ports ∧ t.boot = s.boot ∧ t.con = s.con)) ∧
    (s.clock.loopPresent = true →
      let a := (s.forEach s.enabledRails State.faultRound).mapCells fun _ c => { c with skipped := true }
      let b := a.forEach a.enabledRails State.loadRound
      let c := (b.forEach b.enabledRails State.ocpRound).capRound
      let d := c.forEach c.enabledRails State.overloadRound
      let e := (d.forEach d.enabledRails State.warmRound).policyRound
      exec .telemetryRound s = .next (e.input.faults.foldl State.ageFault e).judge) ∧
    (∀ n : Fin 16,
      (∀ p : Fin 128, s.phaseRail p = some n.val → (s.phase p).state.switching = true → (s.phase p).state ≠ .blind →
        s.atLeastPct n 5 = true → (s.phase p).probation = false → (s.phase p).retried = false →
        (∃ c ∈ phaseCells p, s.reports c = true ∧ (s.cell c).skipped = false ∧ 2 ≤ (s.cell c).lowRun ∧
          belowTenth (s.cell c).iavg (s.siblingCells n p) = true) →
        ((s.openRound n).phase p).state = .retryWait ∧ ((s.openRound n).phase p).lane = .idle) ∧
      (let r := ((s.loadRound n).rail n).prot
       r.load = s.loadOf n ∧
       (r.throt.getLsbD 0 = true ↔ s.loadAtLeast n (s.throtPct n) = true ∨
         ((s.rail n).prot.throt.getLsbD 0 = true ∧ s.loadAtLeast n (s.throtPct n - 5) = true)) ∧
       (r.throt.getLsbD 1 = true ↔ s.overloaded n = true ∨
         ((s.rail n).prot.throt.getLsbD 1 = true ∧ (s.rail n).prot.yieldOver = true)) ∧
       (r.throt.getLsbD 5 = true ↔ s.input.stage ≠ 0) ∧ (r.throt.getLsbD 6 = true ↔ s.yieldL3 n = true)) ∧
      ((s.rail n).core.state.running = true ∨ (s.rail n).core.state = .apprenticeHold →
        let l := ((s.rail n).pol.irail :: (s.rail n).prot.ocpWin).take (s.ocpCount n)
        let trips := s.ocpCount n ≤ l.length ∧ ((s.ocpCount n * 65536 * s.ocpLevel n : Nat) : Int) < l.sum * 1000
        let again := s.within (s.rail n).prot.ocpTrip (msTicks (s.retryWin n))
        (trips → ((s.ocpRound n).rail n).core.state.latched = true ∧
          ((s.ocpRound n).rail n).prot.latch.getLsbD (if again then 4 else 3) = true ∧
          ((s.ocpRound n).rail n).prot.ocpWin = []) ∧
        (¬trips → ((s.ocpRound n).rail n).core = (s.rail n).core ∧ ((s.ocpRound n).rail n).prot.ocpWin = l)) ∧
      ((s.rail n).core.state.live = true → (s.rail n).prot.yieldOver = false →
        (s.overloaded n = true → usTicks (s.throtGrace n) ≤ s.since ((s.rail n).prot.grace.getD s.clock.tick) →
          ((s.overloadRound n).rail n).prot.yieldOver = true ∧
          ((s.overloadRound n).rail n).core.target = s.clampTarget n (yieldTarget
            (if (s.rail n).core.state = .apprenticeHold then (s.rail n).core.base else (s.sourceTarget n).1)
            (entSetpt (s.floorEntry n)) 8)) ∧
        (s.overloaded n = true → s.since ((s.rail n).prot.grace.getD s.clock.tick) < usTicks (s.throtGrace n) →
          ((s.overloadRound n).rail n).prot.grace = some ((s.rail n).prot.grace.getD s.clock.tick) ∧
          ((s.overloadRound n).rail n).core = (s.rail n).core) ∧
        (s.overloaded n = false → ((s.overloadRound n).rail n).prot.grace = none ∧
          ((s.overloadRound n).rail n).core = (s.rail n).core)) ∧
      ((s.rail n).core.state.live = true → (s.rail n).prot.yieldOver = true → s.relieved n = true →
        usTicks (s.yieldHold n) ≤ s.since ((s.rail n).prot.clearSince.getD s.clock.tick) →
        ((s.overloadRound n).rail n).prot.yieldOver = false) ∧
      (((s.rail n).core.state = .regulating ∨ (s.rail n).core.state = .slewing) → (s.rail n).prot.yieldWarm = false →
        s.policyRuns = true → s.clock.loopPresent = true → s.cross.posts = [] → s.cross.toLoop = [] →
        s.effFloor n ≤ s.nCount n →
        (((s.addThr n * 65536 * s.nCount n : Nat) : Int) < (s.rail n).pol.irail * 10 → s.addDue n = true →
          (s.countRound n).phases = (s.addTo n (s.nTarget n)).phases) ∧
        ((s.rail n).pol.irail * 10 ≤ ((s.addThr n * 65536 * s.nCount n : Nat) : Int) → s.nTarget n < s.nCount n →
          s.burstHolds n = false → (s.rail n).model.charBusy = false →
          usTicks (s.shedDwell n) ≤ s.since (max ((s.rail n).pol.shedSince.getD s.clock.tick) ((s.rail n).pol.lastShed.getD 0)) →
          ((s.countRound n).rail n).pol.shedOrders = (s.rail n).pol.shedOrders ++
            s.shedChoice n (min (s.shedStep n) (s.nCount n - s.nTarget n)) ∧
          ((s.countRound n).rail n).pol.lastShed = some s.clock.tick ∧ (s.countRound n).phases = s.phases))) ∧
    (s.iinCap ≠ 0 → s.iinAbove 100 = true →
      (s.input.stage = 0 → s.capRound.input.stage = 1 ∧ s.capRound.input.capGrace = some s.clock.tick ∧
        s.capRound.pm.stInput.getLsbD 1 = true) ∧
      (s.input.stage = 1 → s.capRound.input.stage =
        (if usTicks s.iinGrace ≤ s.since (s.input.capGrace.getD s.clock.tick) then 2 else 1))) ∧
    (s.iinCap = 0 → s.capRound.input.stage = 0)

/-- A conversion pair of an entry moves the pair on and gives the in-use code to every accumulator and tracker of its
channel and to no other, and to the input monitor for VIN. A block that is complete gives its mean, which reads from
the next LOOP cycle on; a read in the cycle of completion has the earlier result. The check slot ends the pass and
keeps sixteen check codes. A recheck within 4 LSB over 16 passes returns both converters to service and ends the
fault, lasting or not (R310), and any pass beyond it makes the fault lasting. In P6 the check slots start no
arbitration of their own (R336). The cross-check changes its run count and records only. These commands each have a
clause that exec answers a next state, with its effect: conversionComplete, converterRecheck, telemXcheck. (R319,
R320, R321, R325, R328, R329, R332, R335, R338, Table 11.2.) -/
def Obligations.ConversionsAndTheirChecks : Prop :=
  ∀ (pair : Fin 4) (s : State), s.Sized →
    (∀ a b : Int, s.telem.running = true → s.pairPowered pair = true → s.clock.loopPresent = true →
      (∀ e, s.nextEntry pair = some e →
        let ch := entChan (s.seqEntry (2 * pair) e)
        let code := endCode ch (if (s.pair pair).inUseB then b else a)
        ∃ t, exec (.conversionComplete pair a b) s = .next t ∧
          t.pair pair = { s.pair pair with pos := e + 1 } ∧ (∀ k : Fin 4, k ≠ pair → t.pair k = s.pair k) ∧
          t.telem.accs = s.telem.accs.mapIdx (fun i x => if s.accCh i == ch then x.take (s.blockK i) code s.primed s.clock.tick else x) ∧
          t.telem.tracks = s.telem.tracks.mapIdx (fun i x => if s.trkCh i == ch then x.take code s.clock.tick else x) ∧
          (ch = 0 → t.input.vinA = code.toNat) ∧ (ch = 1 → t.input.vinB = code.toNat) ∧
          (∀ n : Fin 16, (s.rail n).core.state ≠ .discharge → (t.rail n).core = (s.rail n).core)) ∧
      (s.nextEntry pair = none → (s.pair pair).arbitrating = false →
        ∃ t, exec (.conversionComplete pair a b) s = .next t ∧ (t.pair pair).pos = 0 ∧
          (t.pair pair).passes = (s.pair pair).passes + 1 ∧
          (t.pair pair).checksA = (clampInt 0 4095 a :: (s.pair pair).checksA).take 16 ∧
          ((s.pair pair).arbDue = true → s.boot.stage ≠ 6 → (t.pair pair).arbitrating = true) ∧
          (s.boot.stage = 6 → (t.pair pair).arbitrating = false) ∧
          (t.pair pair).inUseB = (s.pair pair).inUseB ∧ t.telem.accs = s.telem.accs)) ∧
    (∀ a b : Int, s.telem.running = false ∨ s.pairPowered pair = false ∨ s.clock.loopPresent = false →
      ∃ t, exec (.conversionComplete pair a b) s = .next t ∧ t = { s with router := t.router, bus := t.bus }) ∧
    (∀ codes : List (Int × Int),
      ((s.pair pair).aAside = false → (s.pair pair).bAside = false →
        ∃ t, exec (.converterRecheck pair codes) s = .next t ∧ t = { s with router := t.router, bus := t.bus }) ∧
      ((s.pair pair).aAside = true ∨ (s.pair pair).bAside = true →
        (codes.length = 16 → (∀ x ∈ codes, (x.1 - x.2).natAbs ≤ 4) →
          ∃ t, exec (.converterRecheck pair codes) s = .next t ∧
            t.pair pair = { s.pair pair with
              aAside := false
              bAside := false
              lasting := false } ∧
            (∀ e ∈ t.input.faults, ¬(e.kind = .converter ∧ e.idx = pair))) ∧
        ((∃ x ∈ codes, 4 < (x.1 - x.2).natAbs) →
          ∃ t, exec (.converterRecheck pair codes) s = .next t ∧ t.pair pair = { s.pair pair with lasting := true } ∧
            (∀ n : Fin 16, (t.rail n).core = (s.rail n).core) ∧
            t = { s with telem := t.telem, input := t.input, rails := t.rails, router := t.router, bus := t.bus }))) ∧
    (∀ (x : Accum) (k : Nat) (code : Int) (primed : Bool), 2 ^ k ≤ (if x.k = k then x.count + 1 else 1) →
      let y := x.take k code primed s.clock.tick
      (s.asRead y).valid = x.valid ∧ (x.valid = true → (s.asRead y).result = x.result) ∧
      (∀ u : State, u.sameCycle (some s.clock.tick) = false → u.asRead y = y) ∧
      y.result = (if x.k = k then x.sum + code else code) / 2 ^ k ∧ y.age = 0 ∧ y.count = 0) ∧
    (s.xchkPct = 0 ∨ s.rshunt = 0 ∨ s.hm.run ≠ .running ∨ s.clock.corePresent = false ∨ s.primed = false →
      ∃ t, exec .telemXcheck s = .next t ∧ t = { s with router := t.router, bus := t.bus }) ∧
    (∃ t, exec .telemXcheck s = .next t ∧ (s.telem.xcheckRun ≤ 2 → t.telem.xcheckRun ≤ 2) ∧
      t = { s with telem := { s.telem with xcheckRun := t.telem.xcheckRun }
                   sketch := t.sketch
                   router := t.router
                   bus := t.bus })

/-- An event equal to the open record in CODE, SRC and P0 raises its REPEAT, saturating, and takes P1. Another one closes
the open record and opens a new one while its class has a token and an entry is free; with no token it counts as
suppressed, and with no entry it is dropped and counted. While CORE is absent it waits at its source. Nothing but the
recorder changes. The open record closes; a token returns to its bucket, and one that ends a suppression stages its
RATE_LIMITED summary. A commit begins only when no other commit or erase is in progress, and first raises OLDEST where
its SEQ begins a sector; at its end the oldest closed record stands with the next SEQ in slot SEQ mod 16384, that
sector erased before it, and no other slot changed. A clear erases one sector at a time of those whose every SEQ is at
or below its bound, and CLEARING ends with the last. That both rows are sent at the beginning and at the end of the
work, which is held between, is the model's choice (log entry 22). Only the recorder and the work in progress change.
These commands each have a clause that exec answers a next state, with its effect: eventStage, openRecordClose,
tokenAdd, recordCommit, clearSectorErase. (R369, R374, R375, R378, R381, Table 13.1, Table 13.3, R376, R379, R382,
R383, R389.) -/
def Obligations.RecorderStagesAndCommits : Prop :=
  (
  ∀ (code src : BitVec 16) (p0 p1 : Word) (s : State),
    (eventCode code.toNat = false ∨ s.boot.held = true →
      ∃ t, exec (.eventStage code src p0 p1) s = .next t ∧ t = { s with router := t.router, bus := t.bus }) ∧
    (eventCode code.toNat = true → s.boot.held = false →
      (s.clock.corePresent = false →
        ∃ t, exec (.eventStage code src p0 p1) s = .next t ∧
          t.sketch = { s.sketch with held := s.sketch.held ++ [(code, src, p0, p1)] }) ∧
      (s.clock.corePresent = true →
        (∀ o, s.sketch.opened = some o → o.code = code → o.src = src → o.p0 = p0 →
          ∃ t, exec (.eventStage code src p0 p1) s = .next t ∧
            t.sketch = { s.sketch with opened := some { o with
              rep := BitVec.ofNat 16 (min 65535 (o.rep.toNat + 1))
              p1 := p1
              flags := o.flags ||| 2 } }) ∧
        (s.sketch.repeats code src p0 = false →
          (s.sketch.hasRoom = true → (s.recDepth code = 0 ∨ (s.sketch.bucket code).used < s.recDepth code) →
            ∃ t, exec (.eventStage code src p0 p1) s = .next t ∧
              t.sketch.opened = some (s.sketch.fresh s.clock.time code src p0 p1 0) ∧
              t.sketch.closed = s.sketch.closed ++ s.sketch.opened.toList ∧ t.sketch.store = s.sketch.store) ∧
          (s.sketch.hasRoom = false → (s.recDepth code = 0 ∨ (s.sketch.bucket code).used < s.recDepth code) →
            ∃ t, exec (.eventStage code src p0 p1) s = .next t ∧ t.sketch.opened = s.sketch.opened ∧
              t.sketch.closed = s.sketch.closed ∧ t.sketch.drops.toNat = min 65535 (s.sketch.drops.toNat + 1)) ∧
          (0 < s.recDepth code → s.recDepth code ≤ (s.sketch.bucket code).used →
            ∃ t, exec (.eventStage code src p0 p1) s = .next t ∧ t.sketch.opened = s.sketch.opened ∧
              t.sketch.closed = s.sketch.closed ∧ t.sketch.drops = s.sketch.drops ∧
              t.sketch.suppressed.toNat = min 65535 (s.sketch.suppressed.toNat + 1))))) ∧
    (∀ t, exec (.eventStage code src p0 p1) s = .next t →
      t = { s with sketch := t.sketch, router := t.router, bus := t.bus })
  )
  ∧
  (
  ∀ s : State,
    (s.clock.corePresent = true → ∃ t, exec .openRecordClose s = .next t ∧
      t.sketch = { s.sketch with closed := s.sketch.closed ++ s.sketch.opened.toList, opened := none }) ∧
    (∀ code : BitVec 16, s.clock.corePresent = true → s.recRate code ≠ 0 → (s.sketch.bucket code).suppressed = 0 →
      ∃ t, exec (.tokenAdd code) s = .next t ∧ (t.sketch.bucket code).used = (s.sketch.bucket code).used - 1 ∧
        t.sketch.closed = s.sketch.closed ∧ t.sketch.opened = s.sketch.opened) ∧
    (∀ code : BitVec 16, s.clock.corePresent = true → s.recRate code ≠ 0 → (s.sketch.bucket code).suppressed ≠ 0 →
      s.sketch.dueOrder = [] → s.sketch.dropDue = 0 → s.sketch.hasRoom = true →
      ∃ t, exec (.tokenAdd code) s = .next t ∧ (t.sketch.bucket code).suppressed = 0 ∧
        t.sketch.closed = s.sketch.closed ++ [s.sketch.fresh s.clock.time 0xC002 code
          (BitVec.ofNat 32 (s.sketch.bucket code).suppressed)
          (BitVec.ofNat 32 (s.sketch.bucket code).lastSrc.toNat) 0x08]) ∧
    (∀ code : BitVec 16, s.clock.corePresent = false ∨ s.recRate code = 0 →
      ∃ t, exec (.tokenAdd code) s = .next t ∧ t = { s with router := t.router, bus := t.bus }) ∧
    (s.committer = true → s.sketch.exhausted = false → s.sketch.closed ≠ [] →
      ∃ t, exec (.recordCommit .begins) s = .next t ∧ t.work.committing = true ∧
        t.work.erasing = (if s.sketch.nextSeq % 128 = 0 then some (s.sketch.nextSeq % 16384 / 128) else none) ∧
        t.sketch = { s.sketch with oldest := t.sketch.oldest } ∧
        t.sketch.oldest = (if s.sketch.nextSeq % 128 = 0 ∧ s.sketch.oldest.toNat + 16256 < s.sketch.nextSeq
          then BitVec.ofNat 32 (s.sketch.nextSeq - 16256) else s.sketch.oldest)) ∧
    (s.committer = false ∨ s.sketch.closed = [] ∨ s.sketch.exhausted = true →
      ∃ t, exec (.recordCommit .begins) s = .next t ∧ t = { s with router := t.router, bus := t.bus }) ∧
    (∀ (x : Rec) (rest : List Rec), s.work.committing = true → s.sketch.closed = x :: rest →
      ∃ t, exec (.recordCommit .ends) s = .next t ∧ t.work.committing = false ∧ t.work.erasing = none ∧
        t.sketch.newest = some (BitVec.ofNat 32 s.sketch.nextSeq) ∧
        t.sketch.slot (s.sketch.nextSeq % 16384) = some (.valid { x with seq := BitVec.ofNat 32 s.sketch.nextSeq }) ∧
        (s.sketch.dropDue = 0 → s.sketch.dueOrder = [] → t.sketch.closed = rest) ∧
        (s.sketch.nextSeq % 128 ≠ 0 → t.sketch.oldest = s.sketch.oldest ∧
          ∀ k, k ≠ s.sketch.nextSeq % 16384 → t.sketch.slot k = s.sketch.slot k) ∧
        (s.sketch.nextSeq % 128 = 0 → ∀ k, k / 128 = s.sketch.nextSeq % 16384 / 128 → k ≠ s.sketch.nextSeq % 16384 →
          t.sketch.slot k = none)) ∧
    (s.work.committing = false →
      ∃ t, exec (.recordCommit .ends) s = .next t ∧ t = { s with router := t.router, bus := t.bus }) ∧
    (∀ n : Word, s.sketch.clearing = some n → s.committer = true →
      ∃ t, exec (.clearSectorErase .begins) s = .next t ∧
        t.work.erasing = (indices 128 (s.sketch.sectorBelow n.toNat)).head? ∧
        t.sketch = { s.sketch with
          clearing := if indices 128 (s.sketch.sectorBelow n.toNat) = [] then none else some n }) ∧
    (s.sketch.clearing = none ∨ s.committer = false →
      ∃ t, exec (.clearSectorErase .begins) s = .next t ∧ t = { s with router := t.router, bus := t.bus }) ∧
    (∀ k : Nat, s.work.erasing = some k → s.work.committing = false →
      ∃ t, exec (.clearSectorErase .ends) s = .next t ∧ t.work.erasing = none ∧
        (∀ i, i / 128 = k → t.sketch.slot i = none) ∧ (∀ i, i / 128 ≠ k → t.sketch.slot i = s.sketch.slot i) ∧
        (∀ n : Word, s.sketch.clearing = some n →
          t.sketch.clearing = if indices 128 (t.sketch.sectorBelow n.toNat) = [] then none else some n)) ∧
    (s.work.erasing = none ∨ s.work.committing = true →
      ∃ t, exec (.clearSectorErase .ends) s = .next t ∧ t = { s with router := t.router, bus := t.bus }) ∧
    (∀ c, c = .openRecordClose ∨ (∃ code, c = .tokenAdd code) → ∀ t, exec c s = .next t →
      t = { s with sketch := t.sketch, router := t.router, bus := t.bus }) ∧
    (∀ (e : WorkEdge) (c : Instr), c = .recordCommit e ∨ c = .clearSectorErase e → ∀ t, exec c s = .next t →
      t = { s with sketch := t.sketch, work := t.work, router := t.router, bus := t.bus })
  )

/-- GO by the sending pair, while it runs, on a free channel with a good header sets FULL and latches both epochs; by
anyone else, on a full channel or with a bad header it does nothing. A RECALL before any read empties the channel,
after a read it is late. The RM's take, and that of a reply the console waits for, clears FULL and keeps the words; a
first fragment begins a reassembly, and a STALE message that is no query is answered STALE_REJECTED (6). The HM takes
in its order, and the host by MFR_MBOX_TAKE. Two FULL channels bound in reverse are marked CROSS, and a reassembly
that waits too long is dropped and answered BAD_FORMAT (5), beside the queue where that is full (log entry 56). Only
mailbox state changes, but for records. These commands each have a clause that exec answers a next state, with its
effect: goPost, recall, mailboxTakeAck, crossWait, fragmentTimeout. (R392, R393, R394, R398, R403, R404, Table 14.2.) -/
def Obligations.MailboxChannels : Prop :=
  ∀ (ch : Fin 16) (s : State), s.Sized →
    (∀ who : Identity,
      (s.pairPath who = true → s.sends who ch = true → (s.chan ch).full = false → hdrOk ((s.chan ch).d.getD 0 0) = true →
        ∃ t, exec (.goPost ch who) s = .next t ∧ t.chan ch = { s.chan ch with
            full := true
            stale := false
            orphan := false
            recallLate := false
            eccErr := false
            sndEpoch := s.epochOf (s.chanSender ch)
            rcvEpoch := s.epochOf (s.chanReceiver ch)
            read := false
            crossTime := 0 } ∧
          (∀ k : Fin 16, k ≠ ch → t.chan k = s.chan k) ∧ t = { s with mail := t.mail, router := t.router, bus := t.bus }) ∧
      (s.pairPath who = false ∨ s.sends who ch = false ∨ (s.chan ch).full = true ∨
          hdrOk ((s.chan ch).d.getD 0 0) = false →
        ∃ t, exec (.goPost ch who) s = .next t ∧ t = { s with router := t.router, bus := t.bus }) ∧
      (s.pairPath who = true → s.sends who ch = true →
        ((s.chan ch).read = true →
          ∃ t, exec (.recall ch who) s = .next t ∧ t.chan ch = { s.chan ch with recallLate := true } ∧
            (∀ k : Fin 16, k ≠ ch → t.chan k = s.chan k)) ∧
        ((s.chan ch).read = false → (s.chan ch).full = true → (s.chan ch).out = [] →
          ∃ t, exec (.recall ch who) s = .next t ∧ (t.chan ch).full = false ∧ (t.chan ch).cross = false ∧
            t = { s with mail := t.mail, router := t.router, bus := t.bus }) ∧
        ((s.chan ch).read = false → (s.chan ch).full = false →
          ∃ t, exec (.recall ch who) s = .next t ∧ t = { s with router := t.router, bus := t.bus })) ∧
      (s.pairPath who = false ∨ s.sends who ch = false → ∃ t, exec (.recall ch who) s = .next t ∧ t = { s with router := t.router, bus := t.bus })) ∧
    s.pairPath .host = false ∧ s.pairPath .svc = false ∧
    (∃ t, exec (.mailboxTakeAck ch .host) s = .next t ∧ t = { s with router := t.router, bus := t.bus }) ∧
    (exec (.mailboxTakeAck ch .hm) s = exec (.hostMessageTake ch) s) ∧
    (s.conReads ch = true → s.receives .svc ch = true → (s.chan ch).full = true → (s.chan ch).out = [] →
      (∀ tag, s.con.waiting = some (.reply ch tag) →
        ∃ t, exec (.mailboxTakeAck ch .svc) s = .next t ∧ (t.chan ch).full = false ∧ (t.chan ch).read = true ∧
          (t.chan ch).d = (s.chan ch).d ∧ ((hdrTag ((s.chan ch).d.getD 0 0)).toNat = tag → t.con.waiting = none))) ∧
    (s.conReads ch = false ∨ s.receives .svc ch = false ∨ (s.chan ch).full = false →
      ∃ t, exec (.mailboxTakeAck ch .svc) s = .next t ∧ t = { s with router := t.router, bus := t.bus }) ∧
    (let d := (s.chan ch).d.getD 0 0
     s.pairPath .rm = true → s.receives .rm ch = true → (s.chan ch).full = true → (s.chan ch).out = [] →
      s.replyCh ch ≠ ch →
      (hdrMore d = false → hdrCont d = false → (s.chan ch).stale = false →
        ∃ t, exec (.mailboxTakeAck ch .rm) s = .next t ∧ (t.chan ch).full = false ∧ (t.chan ch).read = true ∧
          (t.chan ch).d = (s.chan ch).d ∧ (t.chan ch).frag = none ∧ ((s.chan ch).orphan = false → t.sketch = s.sketch) ∧
          t = { s with mail := t.mail, sketch := t.sketch, router := t.router, bus := t.bus }) ∧
      (hdrMore d = true → hdrCont d = false →
        ∃ t f, exec (.mailboxTakeAck ch .rm) s = .next t ∧ (t.chan ch).full = false ∧ (t.chan ch).frag = some f ∧
          f.code = hdrCode d ∧ f.tag = hdrTag d ∧ f.count = 1 ∧ f.payload = ((s.chan ch).d.drop 1).take (hdrLen d - 1)) ∧
      (hdrCont d = false → hdrMore d = false → (s.chan ch).stale = true → isQuery (hdrCode d).toNat = false →
        s.replyCh ch < 16 → (s.chan (s.replyCh ch)).full = true → (s.chan (s.replyCh ch)).waiting < 8 →
        (s.chan (s.replyCh ch)).owed = [] →
        ∃ t, exec (.mailboxTakeAck ch .rm) s = .next t ∧ (t.chan ch).full = false ∧
          (t.chan (s.replyCh ch)).out = (s.chan (s.replyCh ch)).out ++
            [[mkHeader ((hdrCode d).toNat % 128 + 128) (hdrTag d).toNat 2 false (s.chan ch).orphan false, 6]])) ∧
    (s.pairPath .rm = false ∨ s.receives .rm ch = false ∨ (s.chan ch).full = false →
      ∃ t, exec (.mailboxTakeAck ch .rm) s = .next t ∧ t = { s with router := t.router, bus := t.bus }) ∧
    (∀ k : Nat, s.reverseOf ch = some k → s.clock.corePresent = true → (s.chan ch).full = true → (s.chan k).full = true →
      ∃ t, exec (.crossWait ch) s = .next t ∧ (t.chan ch).cross = true ∧ (t.chan k).cross = true ∧
        (t.chan ch).crossTime = (s.chan (min ch k)).crossTime + 1 ∧ (t.chan ch).full = true ∧
        (∀ j : Fin 16, j ≠ ch → j.val ≠ k → t.chan j = s.chan j)) ∧
    (s.reverseOf ch = none ∨ (s.chan ch).full = false ∨ s.clock.corePresent = false ∨
        (∃ k, s.reverseOf ch = some k ∧ (s.chan k).full = false) →
      ∃ t, exec (.crossWait ch) s = .next t ∧ t = { s with router := t.router, bus := t.bus }) ∧
    (∀ f : Fragments, (s.chan ch).frag = some f → s.pairRuns (if s.receives .rm ch then .rm else .hm) = true →
      ∃ t, exec (.fragmentTimeout ch) s = .next t ∧ (t.chan ch).frag = none ∧
        t = { s with mail := t.mail, router := t.router, bus := t.bus } ∧
        (s.replyCh ch < 16 → s.replyCh ch ≠ ch → (s.chan (s.replyCh ch)).full = true →
          ((s.chan (s.replyCh ch)).waiting < 8 → (s.chan (s.replyCh ch)).owed = [] →
            (t.chan (s.replyCh ch)).out = (s.chan (s.replyCh ch)).out ++
              [[mkHeader (f.code.toNat % 128 + 128) f.tag.toNat 2 false f.orphan false, 5]]) ∧
          (8 ≤ (s.chan (s.replyCh ch)).waiting → (t.chan (s.replyCh ch)).out = (s.chan (s.replyCh ch)).out ∧
            (t.chan (s.replyCh ch)).owed = (s.chan (s.replyCh ch)).owed ++
              [[[mkHeader (f.code.toNat % 128 + 128) f.tag.toNat 2 false f.orphan false, 5]]]))) ∧
    ((s.chan ch).frag = none ∨ s.pairRuns (if s.receives .rm ch then .rm else .hm) = false →
      ∃ t, exec (.fragmentTimeout ch) s = .next t ∧ t = { s with router := t.router, bus := t.bus })

/-- PING returns its word, the firmware version and the epochs; GUARANTEE_QUERY, WET_READ, CELL_QUERY and DUMP_READ return
the words of their tables, or BAD_FORMAT (5) or DENIED (2) where they name nothing, their length is not that of the
table, or no dump is valid; ATTEST returns the measurement of Table 17.8 and the ECDSA signature over its SHA-384 with
the identity key, and counts and records (the primitives as their standards define them, the random number left open:
log entry 6); one that the HM has begun signs its snapshot, and that of another channel is BUSY (1) meanwhile (the two
edges of the work are the model's choice, log entry 22). Apart from the reply, CELL_QUERY clears RETRIES_OK and ATTEST
counts and records; nothing else changes. A request that the HM cannot take now waits. These commands each have a
clause that exec answers a next state, with its effect: ping, attest, guaranteeQuery, wetRead, cellQuery, dumpRead.
(R409, R250, R316, R364, R466, R502, Table 14.6, Table 17.8.) -/
def Obligations.HostQueries : Prop :=
  ∀ (ch : Fin 16) (m : Message) (s : State),
    (∀ w rest, MayServe s ch 1 → m.body = w :: rest →
      ∃ t, exec (.ping ch m) s = .next t ∧ Replied s t ch 1 m 0 [w, 0x00030200, s.epochWord] ∧
        t = { s with mail := t.mail, router := t.router, bus := t.bus }) ∧
    (MayServe s ch 14 → ∃ t, exec (.guaranteeQuery ch m) s = .next t ∧ Replied s t ch 14 m 0 s.guaranteeWords ∧
      t = { s with mail := t.mail, router := t.router, bus := t.bus }) ∧
    (∀ w, MayServe s ch 11 → m.body = [w] →
      (∀ ws, s.wetRead w.toNat = some ws → ∃ t, exec (.wetRead ch m) s = .next t ∧ Replied s t ch 11 m 0 ws ∧
        t = { s with mail := t.mail, router := t.router, bus := t.bus }) ∧
      (s.wetRead w.toNat = none → ∃ t, exec (.wetRead ch m) s = .next t ∧ Replied s t ch 11 m 5 [])) ∧
    (∀ w, MayServe s ch 9 → m.body = [w] →
      (w.toNat < 1024 → s.cells.length = 1024 → ∃ t, exec (.cellQuery ch m) s = .next t ∧
        Replied s t ch 9 m 0 (s.cellWords w.toNat) ∧ t.cell w.toNat = { s.cell w.toNat with retriesOk := 0 } ∧
        t = { s with mail := t.mail, cells := t.cells, router := t.router, bus := t.bus }) ∧
      (1024 ≤ w.toNat → ∃ t, exec (.cellQuery ch m) s = .next t ∧ Replied s t ch 9 m 5 [] ∧
        t = { s with mail := t.mail, router := t.router, bus := t.bus })) ∧
    (∀ w n rest, MayServe s ch 8 → m.stale = false → m.body = w :: n :: rest → field w.toNat 12 19 = 0 →
      0 < n.toNat → field w.toNat 0 12 + n.toNat ≤ 4096 →
      (s.dump.valid = true → ∃ t, exec (.dumpRead ch m) s = .next t ∧
        Replied s t ch 8 m 0 (s.dumpWords.headD 0 :: (s.dump.slot.drop (field w.toNat 0 12)).take n.toNat) ∧
        t = { s with mail := t.mail, router := t.router, bus := t.bus }) ∧
      (s.dump.valid = false → ∃ t, exec (.dumpRead ch m) s = .next t ∧ Replied s t ch 8 m 2 [])) ∧
    (MayServe s ch 2 → s.work.signing = none → m.body.length = 8 →
      (s.ident.checked = true → ∃ t, exec (.attest ch m) s = .next t ∧
        Replied s t ch 2 m 0 (bytesWords (s.measurement m.body ++ octets 96
          (ecdsaSign s.ident.scalar (sha384 (s.measurement m.body)) s.random.1).toNat)) ∧
        t.sketch = (s.record 0xA002 (s.asker ch) (bodyWord m.body 0) s.sketch.newestWord.toNat).sketch ∧
        t.pm = { s.pm with attests := BitVec.ofNat 16 (min 65535 (s.pm.attests.toNat + 1)) } ∧ t.ident = s.ident ∧
        t.rails = s.rails) ∧
      (s.ident.checked = false → ∃ t, exec (.attest ch m) s = .next t ∧ Replied s t ch 2 m 2 [] ∧ t.pm = s.pm)) ∧
    (∀ g, s.work.signing = some g → s.hmServes ch = true →
      (g.ch = ch → ∃ t, exec (.attest ch m) s = .next t ∧ t.work.signing = none ∧
        t.mail = (s.reply g.ch 2 g.message 0 (bytesWords (g.snapshot ++ octets 96
          (ecdsaSign s.ident.scalar (sha384 g.snapshot) s.random.1).toNat))).mail ∧
        t.sketch = (s.record 0xA002 (s.asker g.ch) (bodyWord g.message.body 0) g.newest.toNat).sketch) ∧
      (MayServe s ch 2 → g.ch ≠ ch → s.ident.checked = true → m.body.length = 8 →
        ∃ t, exec (.attest ch m) s = .next t ∧ Replied s t ch 2 m 1 [] ∧ t.work = s.work)) ∧
    (MayServe s ch 9 → m.body.length ≠ 1 → ∃ t, exec (.cellQuery ch m) s = .next t ∧ Replied s t ch 9 m 5 [] ∧
      t.cells = s.cells) ∧
    (MayServe s ch 11 → m.body.length ≠ 1 → ∃ t, exec (.wetRead ch m) s = .next t ∧ Replied s t ch 11 m 5 []) ∧
    (s.hmServes ch = false → ∀ c ∈ [Instr.ping ch m, .attest ch m, .wetRead ch m, .cellQuery ch m, .guaranteeQuery ch m,
        .dumpRead ch m, .imageChunk ch m, .wetWrite ch m, .resume ch m],
      ∃ t, exec c s = .next t ∧ t = { s with router := t.router, bus := t.bus })

/-- An accepted PALETTE_WRITE stores its entries in the bank that is not active and no other entry; the active bank and a
pending swap refuse it. A commit makes the swap pending on every bound port, or swaps one that has seen no edge, and
FORCE swaps at once; with the RM not serving, a write or a commit is BUSY, and a FORCE waits for the RM. IMAGE_CHUNK
writes its bytes to the spare slot, with MAGIC left erased, and nothing to the other slot; IMAGE_ACTIVATE programs
MAGIC, and marks slot A superseded for an image in B, only when every check passes; while an activation is carried out
a chunk and another activation are BUSY. The model's choices: the two edges of an activation and BUSY for a second one
(log entry 22); BUSY, and the wait of a FORCE, while the RM is not serving (log entry 40); a swap on a boot port
starts no anticipation (log entry 56 at R98). These commands each have a clause that exec answers a next state, with
its effect: paletteWrite, paletteCommit, paletteCommitForce, imageChunk, imageActivate. (R96, R97, R98, R99, R83, R84,
Table 14.6.) -/
def Obligations.PaletteAndImageMessages : Prop :=
  ∀ (ch : Fin 16) (m : Message) (s : State), s.Inv → m.stale = false →
    (∀ (d : Word) (l : List Word) (p : Fin 8) (bank : Bool) (first : Nat), MayServe s ch 3 → m.body = d :: l →
      field d.toNat 24 3 = p.val → bit d.toNat 16 = bank → field d.toNat 0 8 = first →
      field d.toNat 27 5 = 0 → field d.toNat 17 7 = 0 → field d.toNat 8 8 = 0 → l ≠ [] → l.length ≤ 10 → first + l.length ≤ 256 →
      (bank = (s.port p).actBank → ∃ t, exec (.paletteWrite ch m) s = .next t ∧ Replied s t ch 3 m 2 [0xFFFFFFFF] ∧
        t.palette = s.palette ∧ t.shadow = s.shadow) ∧
      (bank ≠ (s.port p).actBank → s.anyPending = true → ∃ t, exec (.paletteWrite ch m) s = .next t ∧
        Replied s t ch 3 m 1 [0xFFFFFFFF] ∧ t.palette = s.palette) ∧
      (bank ≠ (s.port p).actBank → s.anyPending = false → s.entryRefused p first l = none → s.rmServes = true →
        ∃ t, exec (.paletteWrite ch m) s = .next t ∧ Replied s t ch 3 m 0 [0xFFFFFFFF] ∧
          (∀ i, i < l.length → (sget 0 t.palette (entryIndex bank p 0 0 + first + i) : Word) = l.getD i 0) ∧
          (∀ k, k < entryIndex bank p 0 0 + first ∨ entryIndex bank p 0 0 + first + l.length ≤ k →
            (sget 0 t.palette k : Word) = sget 0 s.palette k) ∧
          t.ports = s.ports ∧ t.rails = s.rails ∧ t.flash = s.flash) ∧
      (bank ≠ (s.port p).actBank → s.anyPending = false → s.entryRefused p first l = none → s.rmServes = false →
        ∃ t, exec (.paletteWrite ch m) s = .next t ∧ Replied s t ch 3 m 1 [0xFFFFFFFF] ∧ t.palette = s.palette)) ∧
    (MayServe s ch 4 →
      (s.anyPending = false → s.rmServes = true → ∃ t, exec (.paletteCommit ch m) s = .next t ∧
        (∀ p : Fin 8, (t.port p).actBank = ((s.port p).actBank ^^ (s.boundPorts.contains p.val && (s.port p).boot)) ∧
          (t.port p).pendingSwap = (s.boundPorts.contains p.val && !(s.port p).boot)) ∧
        (∀ q : Fin 128, (t.phase q).state = (s.phase q).state) ∧ t.palette = s.palette) ∧
      (s.anyPending = true ∨ s.rmServes = false → ∃ t, exec (.paletteCommit ch m) s = .next t ∧ t.ports = s.ports ∧ t.rails = s.rails ∧
        t.palette = s.palette) ∧
      (s.rmServes = true → s.clock.loopPresent = true → s.cross = { posts := [], toLoop := [] } →
        ∃ t, exec (.paletteCommitForce ch m) s = .next t ∧ t.palette = s.palette ∧ t.cross = s.cross ∧
        (∀ p : Fin 8, (t.port p).pendingSwap = false) ∧
        (s.anyPending = true → ∀ p : Fin 8, (t.port p).actBank = ((s.port p).actBank ^^ (s.port p).pendingSwap)) ∧
        (s.anyPending = false → ∀ p : Fin 8, (t.port p).actBank = ((s.port p).actBank ^^ s.boundPorts.contains p.val))) ∧
      (s.rmServes = false → s.cross.toLoop = [] →
        ∃ t, exec (.paletteCommitForce ch m) s = .next t ∧ t.cross.posts = s.cross.posts ++ [.force] ∧ t.ports = s.ports ∧
          t.rails = s.rails)) ∧
    (∀ (off len : Word) (data : List Word), MayServe s ch 5 → s.work.activating = none → m.body = off :: len :: data → data ≠ [] →
      4 * data.length = len.toNat → len.toNat ≤ 4096 → off.toNat % 4 = 0 → off.toNat + len.toNat ≤ 0x400000 →
      (off = 0 ∨ s.boot.updOffset = some off.toNat) →
      ∃ t, exec (.imageChunk ch m) s = .next t ∧ t.boot.updOffset = some (off.toNat + len.toNat) ∧
        t.flashBytes s.spareB off.toNat len.toNat =
          (if off = 0 then List.replicate 4 0xFF ++ (wordBytes data).drop 4 else wordBytes data) ∧
        (∀ a n, t.flashBytes (!s.spareB) a n = s.flashBytes (!s.spareB) a n ∨ 0x400000 < a + n) ∧
        t.rails = s.rails ∧ t.shadow = s.shadow) ∧
    (MayServe s ch 5 → s.work.activating ≠ none →
      ∃ t, exec (.imageChunk ch m) s = .next t ∧ Replied s t ch 5 m 1 [s.nextOffset] ∧ t.flash = s.flash) ∧
    (MayServe s ch 6 → s.work.activating = none →
      (s.activationFail s.spareB = none → ∃ t, exec (.imageActivate ch m) s = .next t ∧ t.boot.actPending = true ∧
        t.flashBytes s.spareB 0 4 = magic ∧ t.fuses = s.fuses ∧ t.shadow = s.shadow ∧
        (s.spareB = true → t.flashBytes false 0x18 4 = List.replicate 4 0)) ∧
      (∀ x, s.activationFail s.spareB = some x → ∃ t, exec (.imageActivate ch m) s = .next t ∧ t.flash = s.flash ∧
        t.boot = s.boot ∧ t.fuses = s.fuses)) ∧
    (∀ x : Nat × Message, s.work.activating = some x → MayServe s ch 6 →
      (x.1 = ch → ∃ t, exec (.imageActivate ch m) s = .next t ∧ t.work.activating = none ∧ t.fuses = s.fuses ∧
        t.shadow = s.shadow ∧ (x.2.stale = false → s.activationFail s.spareB = none → t.boot.actPending = true ∧
          t.flashBytes s.spareB 0 4 = magic)) ∧
      (x.1 ≠ ch → ∃ t, exec (.imageActivate ch m) s = .next t ∧ Replied s t ch 6 m 1 [0] ∧ t.flash = s.flash ∧ t.work = s.work))

/-- Each request that needs a statement answers AUTH_FAIL (7) and changes nothing it guards when the statement does not
verify; authorised, EVT_CLEAR_AUTH raises OLDEST and begins the erase (from SVC with an open session in place of the
statement), a release unlocks the dump and commits a pending capture, SERVICE_KEY_SET stores the key and ends the
session, RESUME zeroes both counts. WET_WRITE stores its value, waiting during a hold, and changes no wet value when
refused. PHASE_RESTORE puts a retired phase in RETRY_WAIT, its lane idle, and begins its discovery, once LOOP runs.
The HM's take of a first fragment begins a reassembly, and that of an IMAGE_ACTIVATE its activation. The model's
choices: the take of an IMAGE_ACTIVATE begins its activation, and a release commits a pending capture in the same step
(log entry 22); EVT_CLEAR_AUTH from SVC takes its bound from D1 (log entry 46); the primitives are those of their
standards (log entry 6). These commands each have a clause that exec answers a next state, with its effect:
evtClearAuth, dumpReadRelease, wetWrite, serviceKeySet, phaseRestore, resume, hostMessageTake. (R389, R364, R79, R80,
R465, R212, R359, R403, R409, R460.) -/
def Obligations.LogWetPhaseAndResumeMessages : Prop :=
  ∀ (ch : Fin 16) (m : Message) (s : State), s.Sized → m.stale = false →
    (MayServe s ch 7 →
      (s.authorised ch 2 (wordBytes m.body) (fun _ => true) = false →
        ∃ t, exec (.evtClearAuth ch m) s = .next t ∧ Replied s t ch 7 m 7 [] ∧ t.sketch.oldest = s.sketch.oldest ∧
          t.sketch.store = s.sketch.store ∧ t.sketch.clearing = s.sketch.clearing) ∧
      (s.authorised ch 2 (wordBytes m.body) (fun _ => true) = true → s.asker ch = 1 →
        s.sketch.oldest.toNat ≤ stArg (wordBytes m.body) → stArg (wordBytes m.body) < s.sketch.nextSeq →
        stArg (wordBytes m.body) < 2 ^ 32 - 1 → s.sketch.clearing = none → s.sketch.exhausted = false → s.work.committing = false →
        ∃ t, exec (.evtClearAuth ch m) s = .next t ∧ t.sketch.oldest = BitVec.ofNat 32 (stArg (wordBytes m.body) + 1) ∧
          t.sketch.clearing = some (BitVec.ofNat 32 (stArg (wordBytes m.body))) ∧
          t.sketch.newest = some (BitVec.ofNat 32 s.sketch.nextSeq)) ∧
      (s.asker ch = 2 → s.con.session = true → ∀ n : Word, m.body.head? = some n →
        s.sketch.oldest.toNat ≤ n.toNat → n.toNat < s.sketch.nextSeq → n.toNat < 2 ^ 32 - 1 → s.sketch.clearing = none →
        s.sketch.exhausted = false → s.work.committing = false →
        ∃ t, exec (.evtClearAuth ch m) s = .next t ∧ t.sketch.oldest = n + 1 ∧ t.sketch.clearing = some n ∧
          t.sketch.newest = some (BitVec.ofNat 32 s.sketch.nextSeq)) ∧
      (s.asker ch = 2 → s.con.session = false →
        ∃ t, exec (.evtClearAuth ch m) s = .next t ∧ Replied s t ch 7 m 7 [] ∧ t.sketch = s.sketch)) ∧
    (MayServe s ch 8 → ∀ w n rest, m.body = w :: n :: rest → field w.toNat 12 19 = 0 → 0 < n.toNat →
      field w.toNat 0 12 + n.toNat ≤ 4096 → s.dump.valid = true →
      (s.authorised ch 3 (wordBytes rest) (· == (s.dump.slot.getD 2 0).toNat) = true → s.ret.capPending = false →
        ∃ t, exec (.dumpReadRelease ch m) s = .next t ∧ t.dump = { s.dump with locked := false } ∧
          Replied s t ch 8 m 0 (s.dumpWords.headD 0 :: (s.dump.slot.drop (field w.toNat 0 12)).take n.toNat)) ∧
      (s.authorised ch 3 (wordBytes rest) (· == (s.dump.slot.getD 2 0).toNat) = true → s.ret.capPending = true →
        let u := s.record 0x800C (s.asker ch) (s.dump.slot.getD 2 0).toNat 0
        (u.captureWaits = true →
          ∃ t, exec (.dumpReadRelease ch m) s = .next t ∧ t.dump = { s.dump with locked := false } ∧ t.ret = s.ret ∧
            t.sketch = u.sketch) ∧
        (u.captureWaits = false →
          ∃ t, exec (.dumpReadRelease ch m) s = .next t ∧ t.ret.capPending = false ∧ t.dump.locked = (s.dumpLock == 1) ∧
            t.dump.slot = closeDump ((s.ret.capture.take 4095).set 2 (u.sketch.seqOf s.ret.capCause)))) ∧
      (s.authorised ch 3 (wordBytes rest) (· == (s.dump.slot.getD 2 0).toNat) = false →
        ∃ t, exec (.dumpReadRelease ch m) s = .next t ∧ t.dump = s.dump ∧ Replied s t ch 8 m 7 [])) ∧
    (MayServe s ch 10 → ∀ id size v : Word, m.body = [id, size, v] → ∀ status u,
      s.wetWrite id.toNat (some size.toNat) v.toNat = (status, u) →
      ∃ t, exec (.wetWrite ch m) s = .next t ∧ Replied s t ch 10 m status [] ∧ t.flash = s.flash ∧ t.palette = s.palette ∧
        (status ≠ 0 → t.shadow = s.shadow ∧ t.wetHeld = s.wetHeld) ∧
        (status = 0 → s.app.holding = true → t.shadow = s.shadow) ∧
        (status = 0 → s.app.holding = false →
          t.shadow = (s.putShadow (id.toNat / 2 ^ 24) (id.toNat % 2 ^ 24) size.toNat v.toNat).shadow)) ∧
    (MayServe s ch 12 →
      let ok := s.authorised ch 4 (wordBytes m.body) fun a => s.ident.serviceKey == 0 || decide (s.ident.serviceArg.toNat < a)
      (ok = false → ∃ t, exec (.serviceKeySet ch m) s = .next t ∧ Replied s t ch 12 m 7 [] ∧ t.ident = s.ident) ∧
      (ok = true → ∀ k, s.unwrapKey (stBody (wordBytes m.body)) = some k →
        ∃ t, exec (.serviceKeySet ch m) s = .next t ∧ t.ident.serviceKey = k ∧ t.con.session = false ∧
          t.ident.scalar = s.ident.scalar) ∧
      (ok = true → s.unwrapKey (stBody (wordBytes m.body)) = none →
        ∃ t, exec (.serviceKeySet ch m) s = .next t ∧ Replied s t ch 12 m 5 [] ∧ t.ident = s.ident)) ∧
    (MayServe s ch 13 → ∀ p : Fin 128, m.body = [BitVec.ofNat 32 p.val] →
      (s.restoreRefused p = none → s.clock.loopPresent = false → s.cross.posts = [] → s.cross.toLoop.length < 16 →
        ∃ t, exec (.phaseRestore ch m) s = .next t ∧ Replied s t ch 13 m 0 [] ∧ t.phases = s.phases ∧
          t.cross = { posts := [], toLoop := s.cross.toLoop ++ [.restore p] }) ∧
      (s.restoreRefused p = none → s.clock.loopPresent = true → s.cross = { posts := [], toLoop := [] } →
        ∃ t, exec (.phaseRestore ch m) s = .next t ∧ Replied s t ch 13 m 0 [] ∧ (t.phase p).state = .retryWait ∧
          (t.phase p).restored = true ∧ (t.phase p).retryDue = true ∧ (t.phase p).lane = .idle ∧ (t.phase p).disc = .resets ∧
          (∀ q : Fin 128, q ≠ p → (t.phase q).state = (s.phase q).state)) ∧
      (∀ st, s.restoreRefused p = some st →
        ∃ t, exec (.phaseRestore ch m) s = .next t ∧ Replied s t ch 13 m st [] ∧ t.phases = s.phases)) ∧
    (MayServe s ch 15 → s.safe.active = true → s.safe.fromCheck = false → s.safe.resumed = false →
      let ok := s.authorised ch 5 (wordBytes m.body) (· == (s.sketch.seqOf s.safe.recordKey).toNat)
      (ok = true → ∃ t, exec (.resume ch m) s = .next t ∧ Replied s t ch 15 m 0 [] ∧ t.ret.recentRm = 0 ∧ t.ret.recentHm = 0 ∧
        t.safe = { s.safe with resumed := true }) ∧
      (ok = false → ∃ t, exec (.resume ch m) s = .next t ∧ Replied s t ch 15 m 7 [] ∧ t.ret = s.ret ∧ t.safe = s.safe)) ∧
    (MayServe s ch 15 → s.safe.active = false ∨ s.safe.fromCheck = true ∨ s.safe.resumed = true →
      ∃ t, exec (.resume ch m) s = .next t ∧ Replied s t ch 15 m 2 [] ∧ t.ret = s.ret ∧ t.safe = s.safe) ∧
    (s.hmNext = some ch.val → hdrCont ((s.chan ch).d.getD 0 0) = false → hdrMore ((s.chan ch).d.getD 0 0) = true →
      (s.chan ch).out = [] →
      ∃ t, exec (.hostMessageTake ch) s = .next t ∧ (t.chan ch).full = false ∧ (t.chan ch).read = true ∧
        (∃ f, (t.chan ch).frag = some f ∧ f.tag = hdrTag ((s.chan ch).d.getD 0 0) ∧
          f.payload = ((s.chan ch).d.drop 1).take (hdrLen ((s.chan ch).d.getD 0 0) - 1))) ∧
    (s.hmNext = some ch.val → MayServe s ch 6 → (s.chan ch).stale = false → s.work.activating = none →
      hdrCode ((s.chan ch).d.getD 0 0) = 6 → hdrCont ((s.chan ch).d.getD 0 0) = false →
      hdrMore ((s.chan ch).d.getD 0 0) = false →
      ∃ t m, exec (.hostMessageTake ch) s = .next t ∧ t.work.activating = some (ch.val, m) ∧ t.boot = s.boot ∧ t.flash = s.flash ∧
        m.tag = hdrTag ((s.chan ch).d.getD 0 0) ∧
        m.body = ((s.chan ch).d.drop 1).take (hdrLen ((s.chan ch).d.getD 0 0) - 1)) ∧
    (s.hmNext ≠ some ch.val → ∃ t, exec (.hostMessageTake ch) s = .next t ∧ t = { s with router := t.router, bus := t.bus })

/-- A write that ends inside a byte sets STATUS_CML[1] and is recorded as BUS_ERROR, a read only recorded. The alert
response gives the own address while SALERT_N is driven low and, complete, clears the alert flag, and gives nothing
once arbitration is lost; with SALERT_N high it is not answered. A Host Notify is repeated until it is acknowledged or
has failed four times, which is recorded; a failed attempt drives nothing after the byte of its failure; it is due no
longer then unless a new status bit rises. A code that no command has is not acknowledged and sets STATUS_CML[7] where
the HM serves the bus; a quick command has no code and no effect. These commands each have a clause that exec answers
a next state, with its effect: busError, busTimeout, alertResponse, hostNotify, unsupportedCommandCode. (R411, R417,
R420, R421, R427, R428, R429, R430, R431, Table 13.6, Table 15.1, Table 15.5.) -/
def Obligations.BusErrorsAlertAndNotify : Prop :=
  ∀ s : State,
    (s.busUp = true → s.clock.corePresent = true →
      (∀ (code : Option Byte) (write : Bool) (index : Nat),
        ∀ c ∈ [(Instr.busError code write index, 0), (.busTimeout code write index, 2)],
          ∃ t, exec c.1 s = .next t ∧
            t = { s with
              pm := { s.pm with stCml := if write then s.pm.stCml ||| 2 else s.pm.stCml }
              sketch := (s.record 0x9001 ((code.map (·.toNat)).getD 0xFFFF) c.2 index).sketch
              router := t.router
              bus := t.bus }) ∧
      (∀ complete' pec : Bool, s.salertLow = true →
        (∃ t, exec (.alertResponse true complete' pec) s = .next t ∧
          t.bus.reply = s.ownByte false :: (if pec then [pecOf [0x19, s.ownByte false]] else []) ∧
          (complete' = true → anyRise s.bus.seen s.statusBytes = false → t.bus.alert = false) ∧
          (complete' = false → s.bus.alert = true → t.bus.alert = true) ∧
          t = { s with router := t.router, bus := t.bus }) ∧
        (∃ t, exec (.alertResponse false complete' pec) s = .next t ∧ t.bus.reply = [] ∧
          (s.bus.alert = true → t.bus.alert = true) ∧ t = { s with router := t.router, bus := t.bus })) ∧
      (s.salertLow = false → ∀ won complete' pec, ∃ t, exec (.alertResponse won complete' pec) s = .next t ∧
        t.bus.addrAcked = false ∧ t = { s with router := t.router, bus := t.bus }) ∧
      (s.bus.notifyDue = true →
        (∃ t, exec (.hostNotify none) s = .next t ∧ t.bus.notifySent = s.notifyBytes ∧ t.bus.notifyTries = 0 ∧
          (anyRise s.bus.seen s.statusBytes = false → t.bus.notifyDue = false) ∧
          t = { s with router := t.router, bus := t.bus }) ∧
        (∀ f, s.bus.notifyTries < 3 → ∃ t, exec (.hostNotify (some f)) s = .next t ∧
          (∀ i, f = .refused i → t.bus.notifySent = s.notifyBytes.take (i + 1)) ∧
          (∀ i, f = .lost i ∨ f = .misplaced i → t.bus.notifySent = s.notifyBytes.take i) ∧
          t.bus.notifyDue = true ∧ t.bus.notifyTries = s.bus.notifyTries + 1 ∧ t.bus.abandoned = s.bus.abandoned ∧
          t = { s with router := t.router, bus := t.bus }) ∧
        (∀ f, 3 ≤ s.bus.notifyTries → ∃ t, exec (.hostNotify (some f)) s = .next t ∧ t.bus.notifyTries = 0 ∧
          t.bus.abandoned = s.bus.abandoned + 1 ∧ (anyRise s.bus.seen s.statusBytes = false → t.bus.notifyDue = false) ∧
          t.sketch = (s.record 0x9001 0xFFFF 3 (failedByte f)).sketch)) ∧
      (∀ (code : Option Byte) (x : BusXfer), (∀ c, code = some c → busCodes.contains c.toNat = false) → s.clock.standby = false →
        ∃ t, exec (.unsupportedCommandCode code x) s = .next t ∧ t.bus.addrAcked = true ∧ t.bus.acked = false ∧
          t.bus.reply = [] ∧ t = { s with pm := t.pm, router := t.router, bus := t.bus } ∧
          t.pm = { s.pm with stCml :=
            if code.isSome && (s.primed || s.blank) && !s.hmAway then s.pm.stCml ||| 0x80 else s.pm.stCml })) ∧
    (s.busUp = false → ∀ c ∈ [Instr.busError none true 0, .busTimeout none true 0, .hostNotify none],
      ∃ t, exec c s = .next t ∧ t = { s with router := t.router, bus := t.bus })

/-- A read of each device-wide and paged command returns the bytes that its table gives, then the PEC, as far as the host
clocks. A page with RAIL_EN = 0 reads zeros, PAGE = 0xFF reads the OR for status registers and 0xFF with INVALID_DATA
for the rest. A code that a busy state refuses is not acknowledged, and no address byte is while the bus is down. Only
bus flags change. A value that the spec leaves open is the same free value on both sides (log entry 7). These commands
each have a clause that exec answers a next state, with its effect: page, writeProtect, capability, voutMode,
statusInput, statusCml, pmbusRevision, mfrId, mfrModel, mfrRevision, icDeviceId, icDeviceRev, mfrMboxStatus,
mfrMboxControlRead, mfrCellSelect, mfrEvtHead, mfrWdtCounts, mfrGuaranteeState, mfrDumpInfo, mfrPrimingStatus,
mfrSecurityState, readVin, readIin, readPin, phase, operation, onOffConfig, voutCommand, voutMax, voutMarginHigh,
voutMarginLow, voutTransitionRate, ioutOcFaultLimit, statusByte, statusWord, statusVout, statusIout,
statusTemperature, statusMfrSpecific, readVout, readIout, readTemperature1, readPout, mfrRailState, mfrModelState,
mfrThrottleState, mfrPhaseState. (R412, R416, R420, R423, R434, R435, R436, Table 15.5, Table 16.1, Table 16.4.) -/
def Obligations.BusReadsReturnTheirRegisters : Prop :=
  ∀ (s : State) (k : Nat),
    (∀ x ∈ deviceReads s, BusServes s x.2.1 →
      ∃ t, exec (x.1 (.recv k)) s = .next t ∧ t.bus.addrAcked = true ∧ t.bus.acked = true ∧
        t.bus.reply = replyOf s x.2.1 [] x.2.2 k ∧ t = { s with router := t.router, bus := t.bus }) ∧
    (∀ x ∈ pagedReads s, BusServes s x.2.1 →
      (∀ n : Fin 16, s.pm.page = BitVec.ofNat 8 n.val → s.railEn n = true →
        ∃ t, exec (x.1 (.recv k)) s = .next t ∧
          t.bus.reply = replyOf s x.2.1 [] ((if x.2.2.2.2.1 then [BitVec.ofNat 8 (x.2.2.2.2.2 n).length] else []) ++ x.2.2.2.2.2 n) k ∧
          t = { s with router := t.router, bus := t.bus }) ∧
      (∀ n : Fin 16, s.pm.page = BitVec.ofNat 8 n.val → s.railEn n = false →
        ∃ t, exec (x.1 (.recv k)) s = .next t ∧
          t.bus.reply = replyOf s x.2.1 [] ((if x.2.2.2.2.1 then [BitVec.ofNat 8 x.2.2.1] else []) ++ List.replicate x.2.2.1 0) k ∧
          t = { s with router := t.router, bus := t.bus }) ∧
      (s.pm.page = 0xFF → x.2.2.2.1 = false →
        ∃ t, exec (x.1 (.recv k)) s = .next t ∧
          t.bus.reply = replyOf s x.2.1 [] ((if x.2.2.2.2.1 then [BitVec.ofNat 8 x.2.2.1] else []) ++ List.replicate x.2.2.1 0xFF) k ∧
          t = { s with pm := { s.pm with stCml := s.pm.stCml ||| 0x40 }, router := t.router, bus := t.bus }) ∧
      (s.pm.page = 0xFF → x.2.2.2.1 = true →
        ∃ t, exec (x.1 (.recv k)) s = .next t ∧
          t.bus.reply = replyOf s x.2.1 [] (orBytes x.2.2.1 (s.enabledRails.map x.2.2.2.2.2)) k ∧
          t = { s with router := t.router, bus := t.bus })) ∧
    (∀ p : Fin 128, s.pm.phase = BitVec.ofNat 8 p.val → BusServes s 0xD5 →
      ∃ t, exec (.mfrPhaseState (.recv k)) s = .next t ∧ t.bus.reply = replyOf s 0xD5 [] (blockOf (s.phaseWords p)) k ∧
        t = { s with router := t.router, bus := t.bus }) ∧
    (∀ (x : BusXfer), ∀ c ∈ (deviceReads s).map (fun y => (y.1 x, y.2.1)) ++ (pagedReads s).map (fun y => (y.1 x, y.2.1)),
      (s.busUp = true → s.clock.standby = false → s.accepts c.2 = false →
        ∃ t, exec c.1 s = .next t ∧ t.bus.addrAcked = true ∧ t.bus.acked = false ∧ t.bus.reply = [] ∧
          t = { s with router := t.router, bus := t.bus }) ∧
      (s.busUp = false →
        ∃ t, exec c.1 s = .next t ∧ t.bus.addrAcked = false ∧ t.bus.reply = [] ∧
          t = { s with router := t.router, bus := t.bus }))

/-- MFR_EVT_READ, MFR_MBOX_TAKE, MFR_TELEM_MINMAX and MFR_RESOURCE_CLAIMS return the words they are asked for; a request
not of their form returns a byte count of 0 with INVALID_DATA. Only a reply that the host clocks completely moves the
cursor, takes the message, clears a tracker (into which a sample of the same LOOP cycle goes, its latest one by log
entry 56 at R329), RETRIES_OK, IGNORED, or SAT and MAX_CYC; nothing else changes. The model's reading (log entry 47):
the byte count of 0 of a process call without its write part, what a send without its read part does, and which write
parts carry a byte count. These commands each have a clause that exec answers a next state, with its effect:
mfrCellStatus, mfrPaletteState, mfrLoopState, mfrEvtRead, mfrMboxTake, mfrTelemMinmax, mfrResourceClaims. (R116, R181,
R250, R386, R388, R393, R406, R420, R448, R449, R451, Table 16.4.) -/
def Obligations.BusCallsAndClearingReads : Prop :=
  ∀ (s : State) (k : Nat), s.Sized →
    (BusServes s 0xD7 → s.pm.cellSelect.toNat < 1024 →
      ∃ t, exec (.mfrCellStatus (.recv k)) s = .next t ∧
        t.bus.reply = replyOf s 0xD7 [] (blockOf (s.cellWords s.pm.cellSelect.toNat)) k ∧
        t.cells = (if (blockOf (s.cellWords s.pm.cellSelect.toNat)).length + s.pecReq ≤ k then
          s.cells.modify s.pm.cellSelect.toNat (fun x => { x with retriesOk := 0 }) else s.cells) ∧
        t = { s with cells := t.cells, router := t.router, bus := t.bus }) ∧
    (BusServes s 0xDB →
      ∃ t, exec (.mfrPaletteState (.recv k)) s = .next t ∧
        t.bus.reply = replyOf s 0xDB [] (blockOf ((List.range 8).map s.portWord)) k ∧
        t.ports = (if 33 + s.pecReq ≤ k then s.ports.map (fun p => { p with ignored := 0 }) else s.ports) ∧
        t = { s with ports := t.ports, router := t.router, bus := t.bus }) ∧
    (∀ n : Fin 16, BusServes s 0xE3 → s.pm.page = BitVec.ofNat 8 n.val → s.railEn n = true →
      ∃ t, exec (.mfrLoopState (.recv k)) s = .next t ∧
        t.bus.reply = replyOf s 0xE3 [] (bytesBlock (wordBytes (s.loopWords n))) k ∧
        (t.rail n).le = (if (bytesBlock (wordBytes (s.loopWords n))).length + s.pecReq ≤ k then
          { (s.rail n).le with satSeen := false, maxCyc := 0 } else (s.rail n).le) ∧
        t = { s with rails := t.rails, router := t.router, bus := t.bus }) ∧
    (∀ q : Word, BusServes s 0xD9 → q ≠ 0xFFFFFFFF →
      ∃ t, exec (.mfrEvtRead (.call (4 :: leBytes 4 q.toNat) k)) s = .next t ∧
        t.bus.reply = replyOf s 0xD9 (4 :: leBytes 4 q.toNat) (blockOf (s.sketch.read q).words) k ∧
        t = { s with router := t.router, bus := t.bus }) ∧
    (BusServes s 0xD9 →
      ∃ t, exec (.mfrEvtRead (.call [4, 0xFF, 0xFF, 0xFF, 0xFF] k)) s = .next t ∧
        t.bus.reply = replyOf s 0xD9 [4, 0xFF, 0xFF, 0xFF, 0xFF] (blockOf s.readCursor.words) k ∧
        t.ret = (if (blockOf s.readCursor.words).length + s.pecReq ≤ k then s.moveCursor.ret else s.ret) ∧
        t = { s with ret := t.ret, router := t.router, bus := t.bus }) ∧
    (∀ ch : Fin 16, BusServes s 0xD1 →
      ((s.chan ch).full = false ∨ s.receives .host ch = false →
        ∃ t, exec (.mfrMboxTake (.call [1, BitVec.ofNat 8 ch.val] k)) s = .next t ∧
          t.bus.reply = replyOf s 0xD1 [1, BitVec.ofNat 8 ch.val] (blockOf [(s.chan ch).control]) k ∧
          t = { s with router := t.router, bus := t.bus }) ∧
      ((s.chan ch).full = true → s.receives .host ch = true →
        let data := blockOf ((s.chan ch).control :: (s.chan ch).d.take (hdrLen ((s.chan ch).d.headD 0)))
        ∃ t, exec (.mfrMboxTake (.call [1, BitVec.ofNat 8 ch.val] k)) s = .next t ∧
          t.bus.reply = replyOf s 0xD1 [1, BitVec.ofNat 8 ch.val] data k ∧
          (data.length + s.pecReq ≤ k → (s.chan ch).out = [] → (t.chan ch).full = false) ∧
          (k < data.length + s.pecReq → (t.chan ch).full = true ∧ (t.chan ch).d = (s.chan ch).d) ∧
          ((s.chan ch).orphan = false → t.sketch = s.sketch) ∧
          t = { s with mail := t.mail, sketch := t.sketch, router := t.router, bus := t.bus })) ∧
    (∀ tr : Fin 64, BusServes s 0xDD → s.trkCh tr ≠ 0x7F →
      (∃ t, exec (.mfrTelemMinmax (.call [BitVec.ofNat 8 tr.val, 0] k)) s = .next t ∧
        t.bus.reply = replyOf s 0xDD [BitVec.ofNat 8 tr.val, 0] (blockOf (s.trackWords tr)) k ∧
        t = { s with router := t.router, bus := t.bus }) ∧
      (s.owner 3 tr = 0x21 ∨ s.owner 3 tr = 3 →
        ∃ t, exec (.mfrTelemMinmax (.call [BitVec.ofNat 8 tr.val, 1] k)) s = .next t ∧
          t.bus.reply = replyOf s 0xDD [BitVec.ofNat 8 tr.val, 1] (blockOf (s.trackWords tr)) k ∧
          t.telem = (if (blockOf (s.trackWords tr)).length + s.pecReq ≤ k then
            { s.telem with tracks := s.telem.tracks.modify tr fun x =>
              if s.sameCycle x.lastAt then Track.reset.take x.last s.clock.tick else Track.reset } else s.telem) ∧
          t = { s with telem := t.telem, router := t.router, bus := t.bus })) ∧
    (∀ first : Byte, BusServes s 0xE2 →
      ∃ t, exec (.mfrResourceClaims (.call [first] k)) s = .next t ∧
        t.bus.reply = replyOf s 0xE2 [first] (blockOf (BitVec.ofNat 32 (first.toNat * 65536 + s.claimCount) ::
          (List.range (min 62 (s.claimCount - first.toNat))).map fun i => BitVec.ofNat 32 (s.claim (first.toNat + i)))) k ∧
        t = { s with router := t.router, bus := t.bus }) ∧
    (∀ x ∈ [(Instr.mfrEvtRead, 0xD9), (.mfrMboxTake, 0xD1), (.mfrTelemMinmax, 0xDD), (.mfrResourceClaims, 0xE2)],
      BusServes s x.2 → ∀ bytes : List Byte,
        (∃ t, exec (x.1 (.send bytes)) s = .next t ∧
          t = { s with pm := { s.pm with stCml := s.pm.stCml ||| 0x40 }, router := t.router, bus := t.bus }) ∧
        (∃ t, exec (x.1 (.recv k)) s = .next t ∧ t.bus.reply = replyOf s x.2 [] [0] k ∧
          t = { s with pm := { s.pm with stCml := s.pm.stCml ||| 0x40 }, router := t.router, bus := t.bus }))

/-- PAGE, PHASE, WRITE_PROTECT and ON_OFF_CONFIG take a value of their table; another value is INVALID_DATA, on whatever
page. OPERATION and the set-point commands change the host registers of the page's rail only inside its envelope with
HOST_ALLOWED = 1, and a new VOUT_COMMAND becomes T0 at HOST_SLEW_CLASS once the RM, which may have to come back first,
applies it. The two wet-field commands store in the shadow. A status write clears only bits whose condition is gone.
CLEAR_FAULTS clears an under-voltage latch, and waits during a hold or for the RM. The model's choices: under which
conditions a status bit is still held (log entry 45), the rounding of a written value (log entry 12), that a request
which needs the RM, CLEAR_FAULTS among them, is kept for it (log entry 40, and 56 at R446). These commands each have a
clause that exec answers a next state, with its effect: page, phase, writeProtect, onOffConfig, operation,
voutCommand, voutMarginHigh, voutMarginLow, ioutOcFaultLimit, voutTransitionRate, statusVout, statusIout,
statusTemperature, statusInput, statusCml, statusMfrSpecific, clearFaults. (R419, R423, R432, R433, R438, R439, R440,
R441, R442, R446, R447, R307.) -/
def Obligations.BusWritesChangeTheirRegister : Prop :=
  ∀ (s : State) (b : List Byte), s.Sized →
    (∀ v : Byte, GoodWrite s 0x00 1 [v] b →
      (v.toNat < 16 ∨ v = 0xFF → ∃ t, exec (.page (.send b)) s = .next t ∧
        t = { s with pm := { s.pm with page := v, phase := 0xFF }, router := t.router, bus := t.bus }) ∧
      (16 ≤ v.toNat → v ≠ 0xFF → ∃ t, exec (.page (.send b)) s = .next t ∧
        t = { s with pm := { s.pm with stCml := s.pm.stCml ||| 0x40 }, router := t.router, bus := t.bus })) ∧
    (∀ (n : Fin 16) (v : Byte), GoodWrite s 0x04 1 [v] b → OnPage s n →
      (v = 0xFF ∨ v.toNat < 128 ∧ s.phaseRail v.toNat = some n.val → ∃ t, exec (.phase (.send b)) s = .next t ∧
        t = { s with pm := { s.pm with phase := v }, router := t.router, bus := t.bus }) ∧
      (v ≠ 0xFF → 128 ≤ v.toNat ∨ s.phaseRail v.toNat ≠ some n.val → ∃ t, exec (.phase (.send b)) s = .next t ∧
        t = { s with pm := { s.pm with stCml := s.pm.stCml ||| 0x40 }, router := t.router, bus := t.bus })) ∧
    (∀ v : Byte, GoodWrite s 0x04 1 [v] b → s.pm.page = 0xFF ∨ (∃ n : Fin 16, s.pm.page = BitVec.ofNat 8 n.val ∧ s.railEn n = false) →
      ∃ t, exec (.phase (.send b)) s = .next t ∧
        (s.pm.page = 0xFF → v = 0xFF → t = { s with pm := { s.pm with phase := v }, router := t.router, bus := t.bus }) ∧
        (s.pm.page ≠ 0xFF ∨ v ≠ 0xFF →
          t = { s with pm := { s.pm with stCml := s.pm.stCml ||| 0x40 }, router := t.router, bus := t.bus })) ∧
    (∀ v : Byte, GoodWrite s 0x10 1 [v] b →
      (v = 0x80 ∨ v = 0x40 ∨ v = 0x20 ∨ v = 0 → ∃ t, exec (.writeProtect (.send b)) s = .next t ∧
        t = { s with pm := { s.pm with writeProtect := v }, router := t.router, bus := t.bus }) ∧
      (v ≠ 0x80 → v ≠ 0x40 → v ≠ 0x20 → v ≠ 0 → ∃ t, exec (.writeProtect (.send b)) s = .next t ∧
        t = { s with pm := { s.pm with stCml := s.pm.stCml ||| 0x40 }, router := t.router, bus := t.bus })) ∧
    (∀ (n : Fin 16) (v : Byte), GoodWrite s 0x02 1 [v] b → OnPage s n → v = 0x16 ∨ v = 0x1A ∨ v = 0x1E →
      ∃ t, exec (.onOffConfig (.send b)) s = .next t ∧
        HostPosted s t n { (s.rail n).host with onOff := v }) ∧
    (∀ v : Byte, GoodWrite s 0x02 1 [v] b → s.pm.page = 0xFF → v = 0x16 ∨ v = 0x1A ∨ v = 0x1E →
      ∃ t, exec (.onOffConfig (.send b)) s = .next t ∧
        ∀ n : Fin 16, (t.rail n).host.onOff = (if s.railEn n = true then v else (s.rail n).host.onOff)) ∧
    (∀ v : Byte, GoodWrite s 0x02 1 [v] b → v ≠ 0x16 → v ≠ 0x1A → v ≠ 0x1E →
      ∃ t, exec (.onOffConfig (.send b)) s = .next t ∧
        t = { s with pm := { s.pm with stCml := s.pm.stCml ||| 0x40 }, router := t.router, bus := t.bus }) ∧
    (∀ v : Byte, GoodWrite s 0x01 1 [v] b → v ≠ 0 → v ≠ 0x40 → v ≠ 0x80 → v ≠ 0x98 → v ≠ 0xA8 →
      ∃ t, exec (.operation (.send b)) s = .next t ∧
        t = { s with pm := { s.pm with stCml := s.pm.stCml ||| 0x40 }, router := t.router, bus := t.bus }) ∧
    (∀ (n : Fin 16) (v : Byte), GoodWrite s 0x01 1 [v] b → OnPage s n →
      (v = 0 ∨ v = 0x40 ∨ v = 0x80 ∨ v = 0x98 ∧ s.hostAllowed n = 1 ∧ s.outside n (s.rail n).host.marginLow.toNat = false ∨
          v = 0xA8 ∧ s.hostAllowed n = 1 ∧ s.outside n (s.rail n).host.marginHigh.toNat = false →
        ∃ t, exec (.operation (.send b)) s = .next t ∧
          HostPosted s t n { (s.rail n).host with
            operation := v
            newEnable := (s.rail n).host.newEnable || v.getLsbD 7 }) ∧
      (v = 0x98 ∨ v = 0xA8 → s.hostAllowed n ≠ 1 → ∃ t, exec (.operation (.send b)) s = .next t ∧ t.rails = s.rails ∧
        t.pm.stCml = s.pm.stCml ||| 0x40)) ∧
    (∀ (n : Fin 16) (v : BitVec 16), GoodWrite s 0x21 2 (leBytes 2 v.toNat) b → OnPage s n → v ≠ 0 →
      (s.hostAllowed n = 1 → s.outside n v.toNat = false →
        ∃ t, exec (.voutCommand (.send b)) s = .next t ∧ HostPosted s t n { (s.rail n).host with voutCommand := v } ∧
          ((s.rail n).host.operation ≠ 0x98 → (s.rail n).host.operation ≠ 0xA8 → (s.rail n).core.state ≠ .apprenticeHold →
            (s.rail n).hosted.voutCommand ≠ v → s.rmServes = true → s.clock.loopPresent = true →
            s.cross = { posts := [], toLoop := [] } →
              (t.rail n).core.base = v.toNat ∧ (s.rank1 n = false → (t.rail n).core.govClass = s.hostClass n))) ∧
      (s.hostAllowed n ≠ 1 ∨ s.outside n v.toNat = true →
        ∃ t, exec (.voutCommand (.send b)) s = .next t ∧ t.rails = s.rails ∧ t.pm.stCml = s.pm.stCml ||| 0x40 ∧
          (s.outside n v.toNat = true → t.pm.stVout = s.pm.stVout.modify n (· ||| 8)))) ∧
    (∀ n : Fin 16, GoodWrite s 0x21 2 [0, 0] b → OnPage s n →
      (s.hostAllowed n = 1 → ∃ t, exec (.voutCommand (.send b)) s = .next t ∧
        HostPosted s t n { (s.rail n).host with voutCommand := 0 }) ∧
      (s.hostAllowed n ≠ 1 → ∃ t, exec (.voutCommand (.send b)) s = .next t ∧ t = { s with router := t.router, bus := t.bus })) ∧
    (∀ (n : Fin 16) (v : BitVec 16), OnPage s n → s.hostAllowed n = 1 → s.outside n v.toNat = false →
      (GoodWrite s 0x25 2 (leBytes 2 v.toNat) b → ∃ t, exec (.voutMarginHigh (.send b)) s = .next t ∧
        HostPosted s t n { (s.rail n).host with marginHigh := v }) ∧
      (GoodWrite s 0x26 2 (leBytes 2 v.toNat) b → ∃ t, exec (.voutMarginLow (.send b)) s = .next t ∧
        HostPosted s t n { (s.rail n).host with marginLow := v })) ∧
    (∀ (n : Fin 16) (v : BitVec 16), OnPage s n → s.app.holding = false →
      (GoodWrite s 0x46 2 (leBytes 2 v.toNat) b → ∀ x, tenths v.toNat = some x → (s.wetWrite (ocpAbsId n) none x).1 = 0 →
        ∃ t, exec (.ioutOcFaultLimit (.send b)) s = .next t ∧ t.shadow = (s.putShadow 8 (0x2004 + 64 * n) 4 x).shadow) ∧
      (GoodWrite s 0x27 2 (leBytes 2 v.toNat) b → ∀ x,
        s.rateClass n (linear11Value v.toNat).1 (linear11Value v.toNat).2 = some x → (s.wetWrite (hostClassId n) none x).1 = 0 →
        ∃ t, exec (.voutTransitionRate (.send b)) s = .next t ∧ t.shadow = (s.putShadow 5 (0x98 + 32 * n) 4 x).shadow)) ∧
    (∀ (n : Fin 16) (v : Byte), OnPage s n →
      (GoodWrite s 0x7A 1 [v] b → ∃ t, exec (.statusVout (.send b)) s = .next t ∧
        t.pm = { s.pm with stVout := s.pm.stVout.modify n fun x => x &&& (~~~v ||| s.holdVout n) } ∧ t.rails = s.rails) ∧
      (GoodWrite s 0x7B 1 [v] b → ∃ t, exec (.statusIout (.send b)) s = .next t ∧
        t.pm = { s.pm with stIout := s.pm.stIout.modify n fun x => x &&& (~~~v ||| s.holdIout n) } ∧ t.rails = s.rails) ∧
      (GoodWrite s 0x7D 1 [v] b → ∃ t, exec (.statusTemperature (.send b)) s = .next t ∧
        t.pm = { s.pm with stTemp := s.pm.stTemp.modify n fun x => x &&& (~~~v ||| s.holdTemp n) } ∧ t.rails = s.rails) ∧
      (GoodWrite s 0x7C 1 [v] b → ∃ t, exec (.statusInput (.send b)) s = .next t ∧
        t.pm = { s.pm with stInput := s.pm.stInput &&& (~~~v ||| s.holdInput) } ∧ t.rails = s.rails) ∧
      (GoodWrite s 0x7E 1 [v] b → ∃ t, exec (.statusCml (.send b)) s = .next t ∧
        t.pm = { s.pm with stCml := s.pm.stCml &&& (~~~v ||| s.holdCml) } ∧ t.rails = s.rails) ∧
      (GoodWrite s 0x80 1 [v] b → ∃ t, exec (.statusMfrSpecific (.send b)) s = .next t ∧
        t = { s with router := t.router, bus := t.bus })) ∧
    (GoodWrite s 0x03 0 [] b →
      (s.app.holding = true ∨ s.rmServes = false → s.pageOff = false → ∃ t, exec (.clearFaults (.send b)) s = .next t ∧
        t = { s with app := { s.app with heldClears := s.app.heldClears ++ [s.pm.page] }, router := t.router, bus := t.bus }) ∧
      (∀ n : Fin 16, s.app.holding = false → s.rmServes = true → OnPage s n → (s.rail n).core.state = .faultLatched → (s.rail n).prot.latch = 0x20 →
        ∃ t, exec (.clearFaults (.send b)) s = .next t ∧ (t.rail n).core.state = .primed ∧ (t.rail n).prot.latch = 0 ∧
          (∀ k : Fin 16, k ≠ n → t.rail k = s.rail k)))

/-- MFR_MBOX_POST fills a free host-sent channel and posts it, and reports the first check that fails in LAST_POST. The
control word bumps the epoch, recalls or selects. MFR_GPIO drives exactly the masked balls that HOST has claimed as
outputs, all or none. A write with a wrong PEC sets STATUS_CML[5] and is recorded, one of a wrong length or held off
by WRITE_PROTECT sets STATUS_CML[6]; none of them changes a register. The model's readings: the order of the checks of
MFR_MBOX_POST, and that each of the three D3h rows acts as its ACTION byte says (log entry 49); the forms of a write
(log entry 47); the class of a GPIO ball (log entry 50). These commands each have a clause that exec answers a next
state, with its effect: mfrMboxPost, epochBump, mboxControlRecall, select, mfrCellSelect, mfrGpio. (R405, R408, R399,
R394, R250, R450, R419, R423, R446, Table 14.4.) -/
def Obligations.MailboxAndGpioWritesAndBadWrites : Prop :=
  ∀ (s : State) (b : List Byte), s.Sized →
    (∀ (ch : Fin 16) (ws : List Word), GoodWrite s 0xD0 (2 + 4 * ws.length) (BitVec.ofNat 8 (1 + 4 * ws.length) :: BitVec.ofNat 8 ch.val :: wordBytes ws) b →
      ws.length ≤ 12 → ws ≠ [] →
      (s.sends .host ch = true → (s.chan ch).full = false → hdrOk (ws.headD 0) = true → hdrLen (ws.headD 0) = ws.length →
        ∃ t, exec (.mfrMboxPost (.send b)) s = .next t ∧ (t.chan ch).full = true ∧
          (t.chan ch).d = ws ++ (s.chan ch).d.drop ws.length ∧ t.mail.lastPost = 0 ∧ t.mail.lastCh = BitVec.ofNat 4 ch.val ∧
          (∀ k : Fin 16, k ≠ ch → t.chan k = s.chan k) ∧ t = { s with mail := t.mail, router := t.router, bus := t.bus }) ∧
      (∀ r, (s.sends .host ch = false ∧ r = 1 ∨ s.sends .host ch = true ∧ (s.chan ch).full = true ∧ r = 2 ∨
          s.sends .host ch = true ∧ (s.chan ch).full = false ∧ hdrOk (ws.headD 0) = false ∧ r = 3) →
        ∃ t, exec (.mfrMboxPost (.send b)) s = .next t ∧ t.mail.lastPost = BitVec.ofNat 4 r ∧ t.mail.chans = s.mail.chans ∧
          t.pm = { s.pm with stCml := s.pm.stCml ||| 0x40 })) ∧
    (∀ (ch : Fin 16) (c : BusXfer → Instr), c = .epochBump ∨ c = .mboxControlRecall ∨ c = .select →
      (GoodWrite s 0xD3 2 [BitVec.ofNat 8 ch.val, 1] b → ∃ t, exec (c (.send b)) s = .next t ∧
        t.mail.epHost = s.mail.epHost + 1 ∧
        (∀ k : Fin 16, (t.chan k).stale = ((s.chan k).stale || ((s.chan k).full && s.receives .host k)) ∧
          (t.chan k).orphan = ((s.chan k).orphan || ((s.chan k).full && s.sends .host k)) ∧ (t.chan k).d = (s.chan k).d) ∧
        t = { s with mail := t.mail, router := t.router, bus := t.bus }) ∧
      (GoodWrite s 0xD3 2 [BitVec.ofNat 8 ch.val, 2] b → s.sends .host ch = true → (s.chan ch).read = false →
        (s.chan ch).full = true → (s.chan ch).out = [] →
        ∃ t, exec (c (.send b)) s = .next t ∧ (t.chan ch).full = false ∧
          t = { s with mail := t.mail, router := t.router, bus := t.bus }) ∧
      (GoodWrite s 0xD3 2 [BitVec.ofNat 8 ch.val, 3] b → ∃ t, exec (c (.send b)) s = .next t ∧
        t = { s with mail := { s.mail with selected := BitVec.ofNat 4 ch.val }, router := t.router, bus := t.bus })) ∧
    (∀ v : BitVec 16, GoodWrite s 0xD6 2 (leBytes 2 v.toNat) b → v.toNat < 1024 →
      ∃ t, exec (.mfrCellSelect (.send b)) s = .next t ∧
        t = { s with pm := { s.pm with cellSelect := v }, router := t.router, bus := t.bus }) ∧
    (∀ mask value : Word, GoodWrite s 0xE1 9 (8 :: (leBytes 4 mask.toNat ++ leBytes 4 value.toNat)) b →
      ((∀ i : Fin 32, mask.getLsbD i = true → s.hostGpio i = true ∧ gpioClass i ≠ 0) →
        ∃ t, exec (.mfrGpio (.send b)) s = .next t ∧
          (∀ i : Fin 32, (mask.getLsbD i = true → t.pins.mfpDrive.getLsbD i = value.getLsbD i ∧
              t.pins.mfpDriven.getLsbD i = !(value.getLsbD i && decide (gpioClass i = 2))) ∧
            (mask.getLsbD i = false → t.pins.mfpDrive.getLsbD i = s.pins.mfpDrive.getLsbD i)) ∧
          t = { s with pins := { s.pins with mfpDrive := t.pins.mfpDrive, mfpDriven := t.pins.mfpDriven }
                       router := t.router
                       bus := t.bus }) ∧
      ((∃ i : Fin 32, mask.getLsbD i = true ∧ s.hostGpio i = false) →
        ∃ t, exec (.mfrGpio (.send b)) s = .next t ∧ t.pins = s.pins ∧ t.pm = { s.pm with stCml := s.pm.stCml ||| 0x40 })) ∧
    (∀ x ∈ [(Instr.page, 0x00, 1), (.operation, 0x01, 1), (.onOffConfig, 0x02, 1), (.clearFaults, 0x03, 0), (.phase, 0x04, 1),
        (.writeProtect, 0x10, 1), (.voutCommand, 0x21, 2), (.voutMarginHigh, 0x25, 2), (.voutMarginLow, 0x26, 2),
        (.voutTransitionRate, 0x27, 2), (.ioutOcFaultLimit, 0x46, 2), (.statusVout, 0x7A, 1), (.statusIout, 0x7B, 1),
        (.statusInput, 0x7C, 1), (.statusTemperature, 0x7D, 1), (.statusCml, 0x7E, 1), (.statusMfrSpecific, 0x80, 1),
        (.epochBump, 0xD3, 2), (.mboxControlRecall, 0xD3, 2), (.select, 0xD3, 2), (.mfrMboxControlRead, 0xD3, 2),
        (.mfrCellSelect, 0xD6, 2), (.mfrGpio, 0xE1, 9)],
      BusServes s x.2.1 →
        (b.length = x.2.2 + 1 →
          pecOf ([s.ownByte false, BitVec.ofNat 8 x.2.1] ++ b.take x.2.2) ≠ b.getD x.2.2 0 →
          ∃ t, exec (x.1 (.send b)) s = .next t ∧ t.bus.pecAcked = false ∧
            t = { s with pm := { s.pm with stCml := s.pm.stCml ||| 0x20 }
                         sketch := t.sketch
                         router := t.router
                         bus := t.bus }) ∧
        (b.length ≠ x.2.2 → b.length ≠ x.2.2 + 1 →
          ∃ t, exec (x.1 (.send b)) s = .next t ∧
            t = { s with pm := { s.pm with stCml := s.pm.stCml ||| 0x40 }, router := t.router, bus := t.bus }) ∧
        (b.length = x.2.2 → s.pecReq = 0 → s.guarded x.2.1 = true →
          ∃ t, exec (x.1 (.send b)) s = .next t ∧
            t = { s with pm := { s.pm with stCml := s.pm.stCml ||| 0x40 }, router := t.router, bus := t.bus }))

/-- Each read-only command of Table 18.3 prints the words of its table, OK and the prompt; an argument beyond its range
ends in ERR 2, and a read of what the HM is busy writing in ERR 4. The state outside the console's output, the bus and
the router stands. A typed line has the effect of the command that its tokens spell; one that spells none, or is
longer than 80 characters, ends in ERR 1. How words are laid out as lines is the model's (log entry 13). These
commands each have a clause that exec answers a next state, with its effect: svcHelp, svcVer, svcPrime, svcStatus,
svcRail, svcSense, svcLoop, svcModel, svcPalette, svcPhase, svcCell, svcLink, svcCmp, svcBurst, svcAdc, svcTelem,
svcTemp, svcWdt, svcDump, svcDumpWords, svcEvt, svcEvtRange, svcBus, svcSec, svcClaims, svcEcc, svcFlash,
unknownConsoleCommand. (R475, R487, R488, R62, Table 18.2, Table 18.3.) -/
def Obligations.ConsolePrintsAndChangesNothing : Prop :=
  ∀ s : State, ConsoleReady s →
    (∀ n m c p a, ∀ x ∈ consolePrints s n m c p a, Prints s x.1 (x.2 ++ [.ok])) ∧
    (∀ a b : Nat, a ≤ b → b < 128 →
      Prints s (.svcPhase a (some b)) ((List.range' a (b + 1 - a)).map (fun p => .words (s.phaseWords p)) ++ [.ok])) ∧
    Prints s .svcHelp (commandWords.map (fun l => .text (ascii l)) ++ [.ok]) ∧
    Prints s .svcVer [.text [0x45, 0x4D, 0x31, 0x32, 0x38, 0x30], .text [0x42, 0x31], .text [0x33, 0x2E, 0x32],
      .words [s.boot.imageVersion], .text ((sgets 0 s.shadow (shadowKey 1 8) 32).takeWhile (· != 0)),
      .words [BitVec.ofNat 32 (s.cfgWord 1 0x30)], .words [BitVec.ofNat 32 (s.cfgField 1 0x34 16 16)],
      .text (hexText 16 s.fuses.serial.toNat), .ok] ∧
    (s.work.dumping = false → Prints s .svcDump
      (if s.dump.valid then [.words (s.dump.slot.take 16), .words (s.dumpWords.take 1),
          .words ((s.dump.slot.drop 16).take 128), .words ((s.dump.slot.drop 144).take 128), .ok]
        else if s.dump.full then [.text [0x49, 0x4E, 0x56, 0x41, 0x4C, 0x49, 0x44], .ok]
        else [.text [0x4E, 0x4F, 0x20, 0x44, 0x55, 0x4D, 0x50], .ok])) ∧
    (∀ a n : Nat, n ≤ 64 → a + n ≤ 4096 → s.work.dumping = false →
      (s.dump.full = true → Prints s (.svcDumpWords a n) [.words ((s.dump.slot.drop a).take n), .ok]) ∧
      (s.dump.full = false → Prints s (.svcDumpWords a n) [.text [0x4E, 0x4F, 0x20, 0x44, 0x55, 0x4D, 0x50], .ok])) ∧
    (∀ a b : Nat, a ≤ b → b < 2 ^ 32 → s.work.erasing = none → Prints s (.svcEvtRange a (some b))
      ((List.range' a (min 64 (b + 1 - a))).map (fun q => .text (s.sketch.read (BitVec.ofNat 32 q)).text) ++ [.ok])) ∧
    (∀ slot a n : Nat, slot ≤ 1 → n ≤ 256 → a + n ≤ 0x400000 → s.work.activating = none →
      Prints s (.svcFlash slot a n) [.text (s.flashBytes (slot == 1) a n), .ok]) ∧
    (∀ k : Nat,
      (8 ≤ k → Prints s (.svcPalette k) [.err 2]) ∧
      (16 ≤ k → ∀ c ∈ [Instr.svcStatus (some k), .svcRail k, .svcSense k, .svcLoop k, .svcModel k, .svcLink k, .svcBurst (some k)],
        Prints s c [.err 2]) ∧
      (76 ≤ k → Prints s (.svcCmp (some k)) [.err 2]) ∧
      (128 ≤ k → ∀ a : Nat, ∀ c ∈ [Instr.svcPhase k none, .svcPhase a (some k)], Prints s c [.err 2]) ∧
      (1024 ≤ k → Prints s (.svcCell k) [.err 2])) ∧
    (∀ a b : Nat, b < a → Prints s (.svcPhase a (some b)) [.err 2] ∧
      (s.work.erasing = none → Prints s (.svcEvtRange a (some b)) [.err 2])) ∧
    (∀ a n : Nat, 64 < n ∨ 4096 < a + n → s.work.dumping = false → Prints s (.svcDumpWords a n) [.err 2]) ∧
    (∀ a : Nat, 2 ^ 32 ≤ a → s.work.erasing = none → Prints s (.svcEvtRange a none) [.err 2]) ∧
    (∀ slot a n : Nat, 1 < slot ∨ 256 < n ∨ 0x400000 < a + n → s.work.activating = none → Prints s (.svcFlash slot a n) [.err 2]) ∧
    (∀ a n : Nat, ∀ b : Option Nat, ∀ c ∈ (if s.work.dumping = true then [Instr.svcDump, .svcDumpWords a n] else []) ++
        (if s.work.erasing = none then [] else [.svcEvtRange a b]) ++ (if s.work.activating = none then [] else [.svcFlash a n n]),
      Prints s c [.err 4]) ∧
    (∀ (l : List Byte) (regs : Frozen) (eol : Byte), s.con.line = [] → s.con.afterCr = false → eol = 0x0D ∨ eol = 0x0A →
      (∀ b ∈ l, 0x20 ≤ b.toNat ∧ b.toNat ≤ 0x7E) →
      ∃ t, exec (.unknownConsoleCommand (l.map RxEvent.char ++ [.char eol]) regs) s = .next t ∧
        (80 < l.length → t = { lineTyped s l eol with
          con := { (lineTyped s l eol).con with
            out := [.err 1]
            prompt := s.promptText }
          router := t.router
          bus := t.bus }) ∧
        (l.length ≤ 80 → ∀ w args, splitTokens l [] = w :: args →
          (commandOf regs w args = none → t = { lineTyped s l eol with
            con := { (lineTyped s l eol).con with
              out := [.err 1]
              prompt := s.promptText }
            router := t.router
            bus := t.bus }) ∧
          (∀ f u, commandOf regs w args = some f → f (lineTyped s l eol) = .next u →
            t = { u with
              router := t.router
              bus := t.bus })))

/-- Without an authenticated session each of them, and bye, ends in ERR 3 and changes nothing; with one, an argument
beyond its range ends in ERR 2 and a precondition that fails in ERR 5, with no record. Each that is accepted records
SVC_ACTION with its code and argument and has its effect: the ATB selection, a static level on a lane or FD pair (ERR
5 while the precondition fails), the start of loop-backs, identity reads and converter checks, and comparator tests,
for whose outcome the console waits, the watchdogs of a pair, the log clear, the dump release, RESUME, and posted
requests; bye ends the session and undoes every static level. Which ERR code each refusal prints is the model's
reading (log entry 51), and that the dump release commits a pending capture in the same step is its choice (log entry
22). These commands each have a clause that exec answers a next state, with its effect: svcAtb, svcLane, svcLinkFd,
svcLinkLoop, svcCellId, svcAdcCheck, svcCmpTest, svcWdtOff, svcWdtOn, svcWdtForce, svcEvtClear, svcDumpRelease,
svcResume, svcRestore, svcWet, svcBye. (R354, R359, R360, R364, R389, R477, R478, R479, R481, R482, R485, Table 18.4.) -/
def Obligations.ConsoleActionsNeedASession : Prop :=
  ∀ s : State, s.Sized → ConsoleReady s →
    (s.con.session = false → ∀ (k : Nat) (sel : AtbSel) (lvl : LaneLevel) (m : Manager) (w : Word) (regs : Frozen),
      ∀ c ∈ [Instr.svcAtb sel, .svcLane k lvl, .svcLinkFd k lvl, .svcLinkLoop k none, .svcCellId k, .svcAdcCheck k,
          .svcCmpTest k, .svcWdtOff m, .svcWdtOn m, .svcWdtForce m regs, .svcEvtClear k, .svcDumpRelease, .svcResume,
          .svcRestore k, .svcWet w w, .svcBye],
        Prints s c [.err 3]) ∧
    (s.con.session = true →
      (∀ (k : Nat) (lvl : LaneLevel) (pat : Option (BitVec 24)),
        (4 ≤ k → Prints s (.svcAdcCheck k) [.err 2]) ∧
        (16 ≤ k → ∀ c ∈ [Instr.svcAtb (.vsa k), .svcAtb (.vsb k), .svcLinkFd k lvl, .svcLinkLoop k pat], Prints s c [.err 2]) ∧
        (76 ≤ k → ∀ c ∈ [Instr.svcAtb (.cmp k), .svcCmpTest k], Prints s c [.err 2]) ∧
        (128 ≤ k → ∀ c ∈ [Instr.svcLane k lvl, .svcRestore k], Prints s c [.err 2]) ∧
        (1024 ≤ k → Prints s (.svcCellId k) [.err 2]) ∧
        (2 ^ 32 ≤ k → Prints s (.svcEvtClear k) [.err 2])) ∧
      (∀ (p : Fin 128) (lvl : LaneLevel), (s.phase p).state = .unused → Prints s (.svcLane p lvl) [.err 2]) ∧
      (∀ sel, atbRange sel = true → ∃ t, exec (.svcAtb sel) s = .next t ∧ ActionRecorded s t 1 (atbCode sel) ∧
        t.con = { s.con with
          atb := BitVec.ofNat 8 (atbCode sel)
          out := [.ok]
          prompt := s.promptText } ∧
        t = { s with con := t.con, sketch := t.sketch, router := t.router, bus := t.bus }) ∧
      (∀ (p : Fin 128) (lvl : LaneLevel), (s.phase p).state ≠ .unused → s.levelOk (phaseCells p) = true →
        ∃ t, exec (.svcLane p lvl) s = .next t ∧ ActionRecorded s t 2 (levelCode lvl * 256 + p) ∧ t.con.out = [.ok] ∧
          t.phase p = { s.phase p with held := lvl != .idle, hold := levelCmd lvl } ∧
          (∀ q : Fin 128, q ≠ p → t.phase q = s.phase q) ∧
          t = { s with con := t.con, phases := t.phases, sketch := t.sketch, router := t.router, bus := t.bus }) ∧
      (∀ (n : Fin 16) (lvl : LaneLevel), s.levelOk (linkCells n) = true →
        ∃ t, exec (.svcLinkFd n lvl) s = .next t ∧ ActionRecorded s t 3 (levelCode lvl * 256 + n) ∧ t.con.out = [.ok] ∧
          t.link n = { s.link n with fdHeld := lvl != .idle, fdLevel := levelCmd lvl } ∧
          t = { s with con := t.con, links := t.links, sketch := t.sketch, router := t.router, bus := t.bus }) ∧
      (∀ (p : Fin 128) (lvl : LaneLevel), (s.phase p).state ≠ .unused → s.levelOk (phaseCells p) = false →
        Prints s (.svcLane p lvl) [.err 5]) ∧
      (∀ (n : Fin 16) (lvl : LaneLevel), s.levelOk (linkCells n) = false → Prints s (.svcLinkFd n lvl) [.err 5]) ∧
      (∀ (n : Fin 16) (pat : Option (BitVec 24)), s.linkFault n = false →
        ∃ t, exec (.svcLinkLoop n pat) s = .next t ∧ ActionRecorded s t 4 n ∧
          (s.loopCells n = [] → t.con.out = [.ok] ∧ t.con.waiting = none) ∧
          (s.loopCells n ≠ [] → t.con = conWaits s (.loopback n (s.loopCells n) []) ∧
            ∀ c : Fin 1024, c.val ∈ s.loopCells n → (t.cell c).outstanding.isSome = true) ∧
          (∀ c : Fin 1024, c.val ∉ s.loopCells n → t.cell c = s.cell c) ∧
          t = { s with con := t.con, cells := t.cells, links := t.links, sketch := t.sketch, router := t.router, bus := t.bus }) ∧
      (∀ c : Fin 1024, (s.cell c).state ≠ .absent →
        ∃ t, exec (.svcCellId c) s = .next t ∧ ActionRecorded s t 5 c ∧ t.con = conWaits s (.cellId c [none, none, none]) ∧
          (t.cell c).outstanding.isSome = true ∧ (∀ k : Fin 1024, k ≠ c → t.cell k = s.cell k) ∧
          t = { s with con := t.con, cells := t.cells, links := t.links, sketch := t.sketch, router := t.router, bus := t.bus }) ∧
      (∀ i : Fin 4, s.pairPowered i = true → (s.pair i).arbitrating = false →
        ∃ t, exec (.svcAdcCheck i) s = .next t ∧ ActionRecorded s t 6 i ∧ t.con = conWaits s (.adc i) ∧
          t.pair i = { s.pair i with arbDue := true }) ∧
      (∀ m : Fin 76, s.compInService m = true → ∃ t, exec (.svcCmpTest m) s = .next t ∧ ActionRecorded s t 7 m ∧
        t = { s with
          con := conWaits s (.cmp m)
          sketch := t.sketch
          router := t.router
          bus := t.bus }) ∧
      (∀ m : Fin 76, s.compInService m = false → Prints s (.svcCmpTest m) [.err 5]) ∧
      (∀ m : Manager,
        (s.wdLock m = false → s.railsRest = true → s.pairRuns m = true → ∃ t, exec (.svcWdtOff m) s = .next t ∧ (t.mgr m).wd.run = false ∧
          (t.mgr m).wdOff = true ∧ t.sketch = ((s.record 0xB002 2 8 (mgrNo m)).record 0x800D (mgrNo m) 1 0).sketch ∧ t.con.out = [.ok] ∧ t.rails = s.rails) ∧
        (s.wdLock m = true ∨ s.railsRest = false ∨ s.pairRuns m = false → Prints s (.svcWdtOff m) [.err 5]) ∧
        (s.pairRuns m = true → ∃ t, exec (.svcWdtOn m) s = .next t ∧ (t.mgr m).wd.run = true ∧ t.rails = s.rails ∧
          t.con.out = [.ok] ∧
          t.sketch = (if (s.mgr m).wd.run = false ∧ (s.mgr m).wdOff = true
            then (s.record 0xB002 2 9 (mgrNo m)).record 0x800D (mgrNo m) 0 0 else s.record 0xB002 2 9 (mgrNo m)).sketch) ∧
        (s.pairRuns m = false → Prints s (.svcWdtOn m) [.err 5]) ∧
        (∀ regs, s.railsRest = false → Prints s (.svcWdtForce m regs) [.err 5]) ∧
        (∀ regs, s.railsRest = true → ∃ t, exec (.svcWdtForce m regs) s = .next t ∧
          t.sketch = (((s.record 0xB002 2 10 (mgrNo m)).done []).expire m true regs).sketch ∧
          (t.mgr m).run ≠ .running ∧ (t.mgr m).expired = true ∧ t.ret.recentRm = s.ret.recentRm ∧
          t.ret.recentHm = s.ret.recentHm ∧ t.con.out = [.ok])) ∧
      (∀ n : Nat, n < 2 ^ 32 - 1 → s.sketch.oldest.toNat ≤ n → n < s.sketch.nextSeq → s.sketch.clearing = none →
        s.sketch.exhausted = false → s.work.committing = false → ∃ t, exec (.svcEvtClear n) s = .next t ∧
          t.sketch = ((s.record 0xB002 2 11 n).clearLog 2 (BitVec.ofNat 32 n)).2.sketch ∧
          t.sketch.oldest = BitVec.ofNat 32 (n + 1) ∧ t.con.out = [.ok]) ∧
      (s.work.dumping = true → Prints s .svcDumpRelease [.err 4]) ∧
      (s.work.dumping = false → s.dump.valid = false → Prints s .svcDumpRelease [.err 5]) ∧
      (s.work.dumping = false → s.dump.valid = true → s.ret.capPending = false → ∃ t, exec .svcDumpRelease s = .next t ∧
        t.dump = { s.dump with locked := false } ∧ t.con.out = [.ok] ∧
        t.sketch = ((s.record 0xB002 2 12 (s.dump.slot.getD 2 0).toNat).record 0x800C 2 (s.dump.slot.getD 2 0).toNat 0).sketch) ∧
      (s.safe.active = false ∨ s.safe.fromCheck = true ∨ s.safe.resumed = true → Prints s .svcResume [.err 5]) ∧
      (s.safe.active = true → s.safe.fromCheck = false → s.safe.resumed = false →
        ∃ t, exec .svcResume s = .next t ∧ t.con.out = [.ok] ∧
          t.sketch = ((s.record 0xB002 2 13 0).record 0x800B 2 s.ret.recentRm s.ret.recentHm).sketch ∧ t.ret.recentRm = 0 ∧ t.ret.recentHm = 0 ∧ t.safe.resumed = true) ∧
      (∀ (ch p : Nat), s.svcChannel = some ch → p < 128 → ∃ t, exec (.svcRestore p) s = .next t ∧ ActionRecorded s t 14 p ∧
        t.con = conWaits s (.reply (s.replyCh ch) 0) ∧ t.phases = s.phases) ∧
      (∀ (ch : Nat) (id v : Word), s.svcChannel = some ch → ∃ t, exec (.svcWet id v) s = .next t ∧ ActionRecorded s t 15 id.toNat ∧
        t.con = conWaits s (.reply (s.replyCh ch) 0) ∧ t.shadow = s.shadow) ∧
      (s.svcChannel = none → ∀ (p : Fin 128) (id v : Word), ∀ c ∈ [Instr.svcRestore p, .svcWet id v], Prints s c [.err 5]) ∧
      (∃ t, exec .svcBye s = .next t ∧ t.con.session = false ∧ t.con.atb = 0 ∧ t.con.out = [.ok] ∧
        t.con.prompt = [0x3E, 0x20] ∧ t.sketch = (s.record 0xB001 2 0 s.con.sessionNo).sketch ∧ t.mail.epSvc = s.mail.epSvc + 1 ∧ (∀ p : Fin 128, (t.phase p).held = false) ∧ (∀ l : Fin 16, (t.link l).fdHeld = false)))

/-- A challenge is in force from `auth` on and opens nothing by itself; its answer opens the session and advances the SVC
epoch, a wrong one counts toward the lockout, and a lockout, an open session, no service key or a signature in
progress bars both. A timeout ends the session with its tests undone. A character with a framing error and whatever
comes while the console is down are dropped, a long low line drops the line in progress, 0x03 ends the command that
waits, and 0x08 and 0x7F delete. A lost precondition withdraws every static level. Once PRIMED, EXTEST, CLAMP and
HIGHZ load only while every rail rests, and hold the EN balls off; IDCODE captures the identification code, BYPASS 0.
The model's readings: ERR 5 without a key, ERR 4 during a signature, and that the ATB selection stays at
STATIC_LEVEL_ABORT (log entry 51); that the TAP does nothing in power-on reset (log entry 52). The HMAC of an answer
is the standard's (log entry 6). These commands each have a clause that exec answers a next state, with its effect:
svcAuth, svcAuthAnswer, svcMbxLoop, sessionTimeout, lockoutEnd, svcAbort, staticLevelAbort, tapInstructionLoad. (R467,
R469, R470, R472, R473, R474, R475, R476, R477, R483, R486.) -/
def Obligations.SessionsAndStaticLevels : Prop :=
  ∀ s : State, s.Sized →
    (ConsoleReady s →
      (s.authBarred = none →
        (∃ t c, exec .svcAuth s = .next t ∧ t.con.challenge = some c ∧
          t.con.out = [.text ([0x43, 0x48, 0x41, 0x4C] ++ challengeText c ++ [0x20, 0x53, 0x20] ++ decText (s.con.sessionNo + 1)), .ok] ∧
          t.con.challengeAt = s.clock.tick ∧
          t.con.session = false ∧ t.con.sessionNo = s.con.sessionNo ∧ t.ident = s.ident) ∧
        (∀ answer, s.answerOk answer = true → ∃ t, exec (.svcAuthAnswer answer) s = .next t ∧ t.con.session = true ∧
          t.con.sessionNo = s.con.sessionNo + 1 ∧ t.con.challenge = none ∧ t.con.out = [.ok] ∧ t.ident.failCount = 0 ∧
          t.con.prompt = [0x23, 0x20] ∧ t.sketch = (s.record 0xB001 2 1 (s.con.sessionNo + 1)).sketch ∧ t.mail.epSvc = s.mail.epSvc + 1) ∧
        (∀ answer, s.answerOk answer = false → ∃ t, exec (.svcAuthAnswer answer) s = .next t ∧ t.con.session = s.con.session ∧
          t.con.challenge = none ∧ t.con.out = [.refused 7] ∧ t.ident.failCount = s.ident.failCount + 1 ∧
          t.sketch = (s.record 0xA001 2 4 0).sketch ∧
          t.ident.lockout = (s.ident.lockout || decide (s.svcLockout ≤ s.ident.failCount + 1)) ∧ t.mail = s.mail)) ∧
      (s.work.signing.isSome = true → ∀ answer, ∀ c ∈ [Instr.svcAuth, .svcAuthAnswer answer], Prints s c [.err 4]) ∧
      (s.work.signing = none → s.con.session = true → ∀ answer, ∀ c ∈ [Instr.svcAuth, .svcAuthAnswer answer],
        Prints s c [.err 5]) ∧
      (s.work.signing = none → s.con.session = false → s.ident.lockout = false → s.ident.serviceKey = 0 → ∀ answer,
        ∀ c ∈ [Instr.svcAuth, .svcAuthAnswer answer], Prints s c [.err 5]) ∧
      (s.work.signing = none → s.con.session = false → s.ident.lockout = true → ∀ answer, ∀ c ∈ [Instr.svcAuth, .svcAuthAnswer answer],
        Prints s c [.locked s.lockLeft]) ∧
      (∀ k : Nat, k = 0 ∨ 100 < k → Prints s (.svcMbxLoop (some k)) [.err 2]) ∧
      (∀ (k ch : Nat), 1 ≤ k → k ≤ 100 → s.svcChannel = some ch → ∃ t, exec (.svcMbxLoop (some k)) s = .next t ∧
        t.con = conWaits s (.loop (s.replyCh ch) k 1 0 0 s.clock.tick) ∧
        t = { s with con := t.con, mail := t.mail, router := t.router, bus := t.bus })) ∧
    (s.conUp = true → s.con.session = true → ∃ t, exec .sessionTimeout s = .next t ∧ t.con.session = false ∧
      t.con.challenge = none ∧ t.con.atb = 0 ∧ t.sketch = (s.record 0xB001 2 2 s.con.sessionNo).sketch ∧
      t.mail.epSvc = s.mail.epSvc + 1 ∧ (∀ p : Fin 128, (t.phase p).held = false)) ∧
    (s.con.session = false → ∃ t, exec .sessionTimeout s = .next t ∧ t = { s with router := t.router, bus := t.bus }) ∧
    (s.ident.lockout = true → s.con.lockUntil.isSome = true → ∃ t, exec .lockoutEnd s = .next t ∧
      t = { s with ident := { s.ident with lockout := false, failCount := 0 }
                   con := { s.con with lockUntil := none }
                   router := t.router
                   bus := t.bus }) ∧
    (s.conUp = true → s.con.waiting.isSome = true → ∃ t, exec .svcAbort s = .next t ∧
      t = { s with
        con := { s.con with
          waiting := none
          out := [.err 7]
          prompt := s.promptText }
        router := t.router
        bus := t.bus }) ∧
    (s.con.waiting = none → ∃ t, exec .svcAbort s = .next t ∧ t = { s with router := t.router, bus := t.bus }) ∧
    (∀ (rx : RxEvent) (regs : Frozen), ∃ t, exec (.unknownConsoleCommand [rx] regs) s = .next t ∧
      (s.conUp = false ∨ rx = .framing → t = { s with
        con := { s.con with echo := [] }
        router := t.router
        bus := t.bus }) ∧
      (s.conUp = true → rx = .lowLine → t = { s with
        con := { s.con with
          echo := []
          line := [] }
        router := t.router
        bus := t.bus }) ∧
      (∀ b : Byte, s.conUp = true → s.con.waiting.isSome = true → rx = .char b → t = { s with
        con := (if b = 3 then { s.con with
            echo := []
            waiting := none
            out := [.err 7]
            prompt := s.promptText }
          else { s.con with echo := [] })
        router := t.router
        bus := t.bus }) ∧
      (∀ b : Byte, s.conUp = true → s.con.waiting = none → rx = .char b → b = 0x08 ∨ b = 0x7F → t = { s with
        con := { s.con with
          echo := []
          afterCr := false
          line := s.con.line.dropLast }
        router := t.router
        bus := t.bus }) ∧
      (s.conUp = true → s.con.waiting = none → rx = .char 0x0A → s.con.afterCr = true → t = { s with
        con := { s.con with
          echo := []
          afterCr := false }
        router := t.router
        bus := t.bus })) ∧
    (s.lostLevels ≠ [] → ∃ t, exec .staticLevelAbort s = .next t ∧ (∀ p : Fin 128, (t.phase p).held = false) ∧
      (∀ l : Fin 16, (t.link l).fdHeld = false) ∧ t.con.atb = s.con.atb ∧
      t.con.out = s.lostLevels ++ (if s.con.waiting.isSome then [.err 7] else []) ∧
      t = { s with con := t.con, phases := t.phases, links := t.links, router := t.router, bus := t.bus }) ∧
    (s.lostLevels = [] → ∃ t, exec .staticLevelAbort s = .next t ∧ t = { s with router := t.router, bus := t.bus }) ∧
    (∀ i : TapInstr, s.boot.stage ≠ 8 →
      ∃ t, exec (.tapInstructionLoad i) s = .next t ∧ t = { s with
        router := t.router
        bus := t.bus }) ∧
    (∀ i : TapInstr, s.boot.stage = 8 →
      ∃ t, exec (.tapInstructionLoad i) s = .next t ∧
        (takesBalls i = true → s.railsRest = false → t.tap.instr = .bypass ∧ t.tap.enHeld = false) ∧
        (takesBalls i = true → s.railsRest = true → t.tap.instr = i ∧ t.tap.enHeld = true ∧ t.pins.enOn = 0) ∧
        (i = .other → t.tap.instr = .bypass) ∧ (i = .idcode → t.tap.data = some 0x112805AB) ∧
        (t.tap.instr = .bypass → t.tap.data = some 0) ∧
        (i = .idcode ∨ i = .samplePreload ∨ i = .bypass → t.tap.instr = i ∧ t.tap.enHeld = false ∧ t.pins = s.pins) ∧
        t = { s with tap := t.tap, pins := { s.pins with enOn := t.pins.enOn }, router := t.router, bus := t.bus })
end

