-- ==== Sys2Proof/Laws/Frame.lean ====
section
/-! SUPPORT. Which operations leave the queue, the Varnish fuses and the memories alone. `State.cold` is those fields; each
lemma says that one operation leaves them as they were. The operations that write one of them have no lemma here:
burnPulses and identityKey burn fuses; putFlash and eraseSectors write the flash; putShadowByte, putShadow,
loadShadow, loadBlocks, wetCommit, applyWetHeld, copyBanks, writeEntries, commitBanks, committed and doubleBit write the
shadow or the palette; powerOn, enterBlank, trySlot, trySlots, trial, checkSlotImage, rejectStage, triggerReset, endHandback,
endWarm, handbackDone, wetWrite, pagedWet, serve, hmTake, hmTakeNext, beginRequest, finishActivation, finishSigning,
interruptWork and activatePart go through these. The console's receive, endLine and typed have none either. -/

namespace Sys2Proof.Machine

/-- The fields that few operations write: the queue, the Varnish bank and the memories. -/
structure Cold where
  /-- the queue of waiting commands -/
  pending : List Instr
  /-- Varnish -/
  varnish : Varnish
  /-- image flash -/
  flash : Memory
  /-- configuration shadow -/
  shadow : Memory
  /-- palette memory -/
  palette : List (Nat × Word)

/-- The cold fields of a state. -/
def State.cold (s : State) : Cold := ⟨s.pending, s.varnish, s.flash, s.shadow, s.palette⟩

/-- A state built with the same cold fields. -/
@[simp ↓] theorem cold_mk (s : State) (a_clock : _) (a_pins : _) (a_boot : _) (a_fuses : _) (a_ident : _) (a_rom : _) (a_wetHeld : _) (a_ports : _) (a_rails : _) (a_phases : _) (a_cells : _) (a_links : _) (a_comps : _) (a_timers : _) (a_router : _) (a_input : _) (a_telem : _) (a_app : _) (a_cross : _) (a_rm : _) (a_hm : _) (a_ret : _) (a_safe : _) (a_dump : _) (a_sketch : _) (a_work : _) (a_mail : _) (a_bus : _) (a_pm : _) (a_con : _) (a_tap : _) (a_ecc : _) (a_free : _) :
    State.cold (State.mk a_clock a_pins a_boot s.varnish a_fuses a_ident a_rom s.flash s.shadow a_wetHeld s.palette a_ports a_rails a_phases a_cells a_links a_comps a_timers a_router a_input a_telem a_app a_cross a_rm a_hm a_ret a_safe a_dump a_sketch a_work a_mail a_bus a_pm a_con a_tap a_ecc a_free s.pending) = s.cold := rfl

@[simp ↓] theorem cold_ite (c : Prop) [Decidable c] (a b : State) : (if c then a else b).cold = if c then a.cold else b.cold := by split <;> rfl

/-- A fold whose step leaves the cold fields alone does so too. -/
theorem foldl_cold {α : Type} (l : List α) (f : State → α → State) (s : State) (h : ∀ s a, (f s a).cold = s.cold) :
    (l.foldl f s).cold = s.cold := by
  induction l generalizing s with
  | nil => rfl
  | cons a l ih => simp only [List.foldl]; rw [ih, h]

@[simp ↓] theorem State.updRail_cold (s : State) (n : ℕ) (f : Rail → Rail) :
    (State.updRail s n f).cold = s.cold := by
  simp [State.updRail]
@[simp ↓] theorem State.mapRails_cold (s : State) (f : ℕ → Rail → Rail) :
    (State.mapRails s f).cold = s.cold := by
  simp [State.mapRails]
@[simp ↓] theorem State.updPhase_cold (s : State) (p : ℕ) (f : Phase → Phase) :
    (State.updPhase s p f).cold = s.cold := by
  simp [State.updPhase]
@[simp ↓] theorem State.mapPhases_cold (s : State) (f : ℕ → Phase → Phase) :
    (State.mapPhases s f).cold = s.cold := by
  simp [State.mapPhases]
@[simp ↓] theorem State.updCell_cold (s : State) (c : ℕ) (f : Cell → Cell) :
    (State.updCell s c f).cold = s.cold := by
  simp [State.updCell]
@[simp ↓] theorem State.mapCells_cold (s : State) (f : ℕ → Cell → Cell) :
    (State.mapCells s f).cold = s.cold := by
  simp [State.mapCells]
@[simp ↓] theorem State.updLink_cold (s : State) (l : ℕ) (f : Link → Link) :
    (State.updLink s l f).cold = s.cold := by
  simp [State.updLink]
@[simp ↓] theorem State.updComp_cold (s : State) (m : ℕ) (f : Comp → Comp) :
    (State.updComp s m f).cold = s.cold := by
  simp [State.updComp]
@[simp ↓] theorem State.mapComps_cold (s : State) (f : ℕ → Comp → Comp) :
    (State.mapComps s f).cold = s.cold := by
  simp [State.mapComps]
@[simp ↓] theorem State.updPort_cold (s : State) (p : ℕ) (f : Port → Port) :
    (State.updPort s p f).cold = s.cold := by
  simp [State.updPort]
@[simp ↓] theorem State.updPair_cold (s : State) (i : ℕ) (f : Pair → Pair) :
    (State.updPair s i f).cold = s.cold := by
  simp [State.updPair]
@[simp ↓] theorem State.updChan_cold (s : State) (c : ℕ) (f : Channel → Channel) :
    (State.updChan s c f).cold = s.cold := by
  simp [State.updChan]
@[simp ↓] theorem State.updTimer_cold (s : State) (k : ℕ) (f : Timer → Timer) :
    (State.updTimer s k f).cold = s.cold := by
  simp [State.updTimer]
@[simp ↓] theorem State.updMgr_cold (s : State) (m : Manager) (f : PairState → PairState) :
    (State.updMgr s m f).cold = s.cold := by
  unfold State.updMgr; (repeat' split) <;> (first | with_reducible rfl | (simp; done))
@[simp ↓] theorem State.updCore_cold (s : State) (n : ℕ) (f : RailCore → RailCore) :
    (State.updCore s n f).cold = s.cold := by
  simp [State.updCore]
@[simp ↓] theorem State.updHost_cold (s : State) (n : ℕ) (f : RailHost → RailHost) :
    (State.updHost s n f).cold = s.cold := by
  simp [State.updHost]
@[simp ↓] theorem State.updHosted_cold (s : State) (n : Nat) (f : RailHost → RailHost) :
    (State.updHosted s n f).cold = s.cold := by
  simp [State.updHosted]
@[simp ↓] theorem State.updSense_cold (s : State) (n : ℕ) (f : RailSense → RailSense) :
    (State.updSense s n f).cold = s.cold := by
  simp [State.updSense]
@[simp ↓] theorem State.updModel_cold (s : State) (n : ℕ) (f : RailModel → RailModel) :
    (State.updModel s n f).cold = s.cold := by
  simp [State.updModel]
@[simp ↓] theorem State.updLe_cold (s : State) (n : ℕ) (f : LoopEngine → LoopEngine) :
    (State.updLe s n f).cold = s.cold := by
  simp [State.updLe]
@[simp ↓] theorem State.updBs_cold (s : State) (n : ℕ) (f : Backstop → Backstop) :
    (State.updBs s n f).cold = s.cold := by
  simp [State.updBs]
@[simp ↓] theorem State.updProt_cold (s : State) (n : ℕ) (f : RailProt → RailProt) :
    (State.updProt s n f).cold = s.cold := by
  simp [State.updProt]
@[simp ↓] theorem State.updPol_cold (s : State) (n : ℕ) (f : RailPolicy → RailPolicy) :
    (State.updPol s n f).cold = s.cold := by
  simp [State.updPol]
@[simp ↓] theorem State.freeNat_cold (s : State) :
    (State.freeNat s).2.cold = s.cold := by
  simp [State.freeNat]
@[simp ↓] theorem State.random_cold (s : State) :
    (State.random s).2.cold = s.cold := by
  simp [State.random]
@[simp ↓] theorem State.forEach_cold (s : State) (l : List ℕ) (f : State → ℕ → State) (h : ∀ s a, (f s a).cold = s.cold) :
    (State.forEach s l f).cold = s.cold := foldl_cold l f s h
@[simp ↓] theorem State.when_cold (s : State) (c : Bool) (f : State → State) (h : ∀ s, (f s).cold = s.cold) :
    (State.when s c f).cold = s.cold := by
  unfold State.when; split <;> simp [h]
@[simp ↓] theorem State.record_cold (s : State) (code : ℕ) (src : ℕ) (p0 : ℕ) (p1 : ℕ) :
    (State.record s code src p0 p1).cold = s.cold := by
  simp [State.record]
@[simp ↓] theorem State.countSingle_cold (s : State) (m : MemName) :
    (State.countSingle s m).cold = s.cold := by
  simp [State.countSingle]
@[simp ↓] theorem State.print_cold (s : State) (l : List ConLine) :
    (State.print s l).cold = s.cold := by
  simp [State.print]
@[simp ↓] theorem State.conEnd_cold (s : State) (l : List ConLine) :
    (State.conEnd s l).cold = s.cold := by
  simp [State.conEnd]
@[simp ↓] theorem State.conWait_cold (s : State) (w : ConWait) :
    (State.conWait s w).cold = s.cold := by
  simp [State.conWait]
@[simp ↓] theorem State.setVout_cold (s : State) (n : ℕ) (b : BitVec 8) :
    (State.setVout s n b).cold = s.cold := by
  simp [State.setVout]
@[simp ↓] theorem State.setIout_cold (s : State) (n : ℕ) (b : BitVec 8) :
    (State.setIout s n b).cold = s.cold := by
  simp [State.setIout]
@[simp ↓] theorem State.setTemp_cold (s : State) (n : ℕ) (b : BitVec 8) :
    (State.setTemp s n b).cold = s.cold := by
  simp [State.setTemp]
@[simp ↓] theorem State.setInput_cold (s : State) (b : BitVec 8) :
    (State.setInput s b).cold = s.cold := by
  simp [State.setInput]
@[simp ↓] theorem State.setCml_cold (s : State) (b : BitVec 8) :
    (State.setCml s b).cold = s.cold := by
  simp [State.setCml]
@[simp ↓] theorem State.setOther_cold (s : State) (n : ℕ) :
    (State.setOther s n).cold = s.cold := by
  simp [State.setOther]
@[simp ↓] theorem State.setAlert_cold (s : State) :
    (State.setAlert s).cold = s.cold := by
  simp [State.setAlert]
@[simp ↓] theorem State.judgeAlert_cold (s : State) :
    (State.judgeAlert s).cold = s.cold := by
  simp [State.judgeAlert]
@[simp ↓] theorem State.noteSources_cold (s : State) :
    (State.noteSources s).cold = s.cold := by
  simp [State.noteSources]
@[simp ↓] theorem State.judge_cold (s : State) :
    (State.judge s).cold = s.cold := by
  simp [State.judge]
@[simp ↓] theorem State.openWindow_cold (s : State) (n : ℕ) (src : MaskSrc) :
    (State.openWindow s n src).cold = s.cold := by
  simp [State.openWindow]
@[simp ↓] theorem State.disturb_cold (s : State) (n : ℕ) :
    (State.disturb s n).cold = s.cold := by
  simp [State.disturb]
@[simp ↓] theorem State.abortChar_cold (s : State) (n : ℕ) :
    (State.abortChar s n).cold = s.cold := by
  simp [State.abortChar]
@[simp ↓] theorem State.setLanes_cold (s : State) (n : Nat) (g : Phase → LaneCmd) :
    (State.setLanes s n g).cold = s.cold := by
  unfold State.setLanes; dsimp only
  exact (State.when_cold _ _ _ (by simp)).trans (by simp)
@[simp ↓] theorem State.idleLane_cold (s : State) (n p : Nat) :
    (State.idleLane s n p).cold = s.cold := by
  simp [State.idleLane]
@[simp ↓] theorem State.obeyOverrides_cold (s : State) (n : Nat) :
    (State.obeyOverrides s n).cold = s.cold := by
  simp [State.obeyOverrides]
@[simp ↓] theorem State.idleLanes_cold (s : State) (n : ℕ) :
    (State.idleLanes s n).cold = s.cold := by
  simp [State.idleLanes]
@[simp ↓] theorem State.respace_cold (s : State) (n : ℕ) (old : List ℕ) :
    (State.respace s n old).cold = s.cold := by
  simp [State.respace]
@[simp ↓] theorem State.movePhases_cold (s : State) (n : ℕ) (f : State → State) (h : ∀ s, (f s).cold = s.cold) : (State.movePhases s n f).cold = s.cold := by
  unfold State.movePhases; simp [h]
@[simp ↓] theorem State.addTo_cold (s : State) (n : ℕ) (f : ℕ) :
    (State.addTo s n f).cold = s.cold := by
  simp [State.addTo]
@[simp ↓] theorem State.conLoopback_cold (s : State) (c : Nat) (ok : Bool) :
    (State.conLoopback s c ok).cold = s.cold := by
  unfold State.conLoopback; (repeat' split) <;> (first | with_reducible rfl | (simp; done))
@[simp ↓] theorem State.conIdFail_cold (s : State) (c : Nat) :
    (State.conIdFail s c).cold = s.cold := by
  unfold State.conIdFail; (repeat' split) <;> (first | with_reducible rfl | (simp; done))
@[simp ↓] theorem State.conIdGap_cold (s : State) (c : Nat) :
    (State.conIdGap s c).cold = s.cold := by
  unfold State.conIdGap; (repeat' split) <;> (first | with_reducible rfl | (simp; done))
@[simp ↓] theorem State.conPart_cold (s : State) (c part : Nat) (d : BitVec 24) :
    (State.conPart s c part d).cold = s.cold := by
  unfold State.conPart; (repeat' split) <;> (first | with_reducible rfl | (simp; done))
@[simp ↓] theorem State.conLinkLost_cold (s : State) (l : Nat) :
    (State.conLinkLost s l).cold = s.cold := by
  unfold State.conLinkLost; (repeat' split) <;> (first | with_reducible rfl | (simp; done))
@[simp ↓] theorem State.queueFrame_cold (s : State) (l : ℕ) (cls : ℕ) (f : DownFrame) :
    (State.queueFrame s l cls f).cold = s.cold := by
  simp [State.queueFrame]
@[simp ↓] theorem State.commandCell_cold (s : State) (cls c : Nat) (f : DownFrame) :
    (State.commandCell s cls c f).cold = s.cold := by
  simp [State.commandCell]
@[simp ↓] theorem State.unsend_cold (s : State) (c : Nat) :
    (State.unsend s c).cold = s.cold := by
  unfold State.unsend; (repeat' split) <;> (first | with_reducible rfl | (simp; done))
@[simp ↓] theorem State.sendCell_cold (s : State) (cls : ℕ) (c : ℕ) (f : DownFrame) :
    (State.sendCell s cls c f).cold = s.cold := by
  unfold State.sendCell; dsimp only; (repeat' split) <;> (first | with_reducible rfl | (simp; done))
@[simp ↓] theorem State.dropCommands_cold (s : State) (c : Nat) :
    (State.dropCommands s c).cold = s.cold := by
  simp [State.dropCommands]
@[simp ↓] theorem State.quarantineSilent_cold (s : State) (c : ℕ) :
    (State.quarantineSilent s c).cold = s.cold := by
  simp [State.quarantineSilent]
@[simp ↓] theorem State.setMode_cold (s : State) (p : ℕ) (mode : ℕ) :
    (State.setMode s p mode).cold = s.cold := by
  simp [State.setMode]
@[simp ↓] theorem State.faultOn_cold (s : State) (k : FaultKind) (i : ℕ) (lasting : Bool) :
    (State.faultOn s k i lasting).cold = s.cold := by
  simp [State.faultOn]
@[simp ↓] theorem State.faultOff_cold (s : State) (k : FaultKind) (i : ℕ) :
    (State.faultOff s k i).cold = s.cold := by
  simp [State.faultOff]
@[simp ↓] theorem State.faultMended_cold (s : State) (k : FaultKind) (i : Nat) :
    (State.faultMended s k i).cold = s.cold := by
  simp [State.faultMended]
@[simp ↓] theorem State.phaseEvent_cold (s : State) (n : ℕ) :
    (State.phaseEvent s n).cold = s.cold := by
  simp [State.phaseEvent]
@[simp ↓] theorem State.retire_cold (s : State) (p : ℕ) (cause : ℕ) :
    (State.retire s p cause).cold = s.cold := by
  unfold State.retire; (repeat' split) <;> (first | with_reducible rfl | (simp; done))
@[simp ↓] theorem State.retargetWith_cold (s : State) (n : ℕ) (hostMove : Bool) (slide : Bool) :
    (State.retargetWith s n hostMove slide).cold = s.cold := by
  simp [State.retargetWith]
@[simp ↓] theorem State.retarget_cold (s : State) (n : ℕ) :
    (State.retarget s n).cold = s.cold := by
  simp [State.retarget]
@[simp ↓] theorem State.yieldRecord_cold (s : State) (n : ℕ) (level : ℕ) (cause : ℕ) (fin : Bool) :
    (State.yieldRecord s n level cause fin).cold = s.cold := by
  simp [State.yieldRecord]
@[simp ↓] theorem State.endYields_cold (s : State) (n : ℕ) (log : Bool) :
    (State.endYields s n log).cold = s.cold := by
  simp [State.endYields]
@[simp ↓] theorem State.dropPg_cold (s : State) (n : ℕ) :
    (State.dropPg s n).cold = s.cold := by
  simp [State.dropPg]
@[simp ↓] theorem State.dropSamples_cold (s : State) (n : Nat) :
    (State.dropSamples s n).cold = s.cold := by
  simp [State.dropSamples]
@[simp ↓] theorem State.endBurst_cold (s : State) (n : ℕ) (tb4 : ℕ) (hit : Bool) :
    (State.endBurst s n tb4 hit).cold = s.cold := by
  simp [State.endBurst]
@[simp ↓] theorem State.tristatePhases_cold (s : State) (n : ℕ) :
    (State.tristatePhases s n).cold = s.cold := by
  simp [State.tristatePhases]
@[simp ↓] theorem State.latchRail_cold (s : State) (n : ℕ) (cause : LatchCause) :
    (State.latchRail s n cause).cold = s.cold := by
  simp [State.latchRail]
@[simp ↓] theorem State.preloadStart_cold (s : State) (n : Nat) :
    (State.preloadStart s n).cold = s.cold := by
  simp [State.preloadStart]
@[simp ↓] theorem State.beginRamp_cold (s : State) (n : ℕ) :
    (State.beginRamp s n).cold = s.cold := by
  simp [State.beginRamp]
@[simp ↓] theorem State.tryRamp_cold (s : State) (n : ℕ) :
    (State.tryRamp s n).cold = s.cold := by
  simp [State.tryRamp]
@[simp ↓] theorem State.freshCounts_cold (s : State) (n : ℕ) :
    (State.freshCounts s n).cold = s.cold := by
  simp [State.freshCounts]
@[simp ↓] theorem State.addStart_cold (s : State) (n : Nat) :
    (State.addStart s n).cold = s.cold := by
  simp [State.addStart]
@[simp ↓] theorem State.startRail_cold (s : State) (n : ℕ) (fromPrimed : Bool) :
    (State.startRail s n fromPrimed).cold = s.cold := by
  simp [State.startRail]
@[simp ↓] theorem State.softStop_cold (s : State) (n : ℕ) (byApp : Bool) :
    (State.softStop s n byApp).cold = s.cold := by
  simp [State.softStop]
@[simp ↓] theorem State.enterDischarge_cold (s : State) (n : ℕ) :
    (State.enterDischarge s n).cold = s.cold := by
  simp [State.enterDischarge]
@[simp ↓] theorem State.leaveDischarge_cold (s : State) (n : ℕ) :
    (State.leaveDischarge s n).cold = s.cold := by
  simp [State.leaveDischarge]
@[simp ↓] theorem State.leaveLatch_cold (s : State) (n : Nat) :
    (State.leaveLatch s n).cold = s.cold := by
  simp [State.leaveLatch]
@[simp ↓] theorem State.releaseLatch_cold (s : State) (n : ℕ) :
    (State.releaseLatch s n).cold = s.cold := by
  simp [State.releaseLatch]
@[simp ↓] theorem State.clearCause_cold (s : State) (n : ℕ) (cause : LatchCause) :
    (State.clearCause s n cause).cold = s.cold := by
  unfold State.clearCause State.when; dsimp only; (repeat' split) <;> (first | with_reducible rfl | simp)
@[simp ↓] theorem State.fireBurst_cold (s : State) (n : ℕ) :
    (State.fireBurst s n).cold = s.cold := by
  simp [State.fireBurst]
@[simp ↓] theorem State.rearmBurst_cold (s : State) (n : ℕ) :
    (State.rearmBurst s n).cold = s.cold := by
  simp [State.rearmBurst]
@[simp ↓] theorem State.clampOn_cold (s : State) (n : ℕ) :
    (State.clampOn s n).cold = s.cold := by
  simp [State.clampOn]
@[simp ↓] theorem State.clampOff_cold (s : State) (n : ℕ) :
    (State.clampOff s n).cold = s.cold := by
  simp [State.clampOff]
@[simp ↓] theorem State.setTristate_cold (s : State) (n : ℕ) (on : Bool) :
    (State.setTristate s n on).cold = s.cold := by
  simp [State.setTristate]
@[simp ↓] theorem State.fastStop_cold (s : State) (n : ℕ) (src : ℕ) :
    (State.fastStop s n src).cold = s.cold := by
  simp [State.fastStop]
@[simp ↓] theorem State.triggerTimer_cold (s : State) (k : ℕ) :
    (State.triggerTimer s k).cold = s.cold := by
  simp [State.triggerTimer]
@[simp ↓] theorem State.triggerCodes_cold (s : State) (codes : List ℕ) :
    (State.triggerCodes s codes).cold = s.cold := by
  simp [State.triggerCodes]
@[simp ↓] theorem State.routeRail_cold (old s : State) (rose : List Nat) (n : Nat) :
    (State.routeRail old rose s n).cold = s.cold := by
  simp [State.routeRail]
@[simp ↓] theorem State.settleHard_cold (k : Nat) (old s : State) : (State.settleHard k old s).cold = s.cold := by
  induction k generalizing old s with
  | zero => rfl
  | succ k ih =>
    unfold State.settleHard
    dsimp only
    split
    · rfl
    · rw [ih]; simp
@[simp ↓] theorem State.hardFrom_cold (old s : State) : (State.hardFrom old s).cold = s.cold :=
  State.settleHard_cold 9 old s
@[simp ↓] theorem State.compStatus_cold (s : State) (m : ℕ) :
    (State.compStatus s m).cold = s.cold := by
  simp [State.compStatus]
@[simp ↓] theorem State.seeComp_cold (s : State) (m : Nat) :
    (State.seeComp s m).cold = s.cold := by
  simp [State.seeComp]
@[simp ↓] theorem State.driveOut_cold (s : State) (m : ℕ) (v : Bool) :
    (State.driveOut s m v).cold = s.cold := by
  simp [State.driveOut]
@[simp ↓] theorem State.seeComps_cold (s : State) :
    (State.seeComps s).cold = s.cold := by
  simp [State.seeComps]
@[simp ↓] theorem State.driveLive_cold (s : State) (m : ℕ) (v : Bool) :
    (State.driveLive s m v).cold = s.cold := by
  simp [State.driveLive]
@[simp ↓] theorem State.closeWindow_cold (s : State) (m : ℕ) (i : ℕ) :
    (State.closeWindow s m i).cold = s.cold := by
  simp [State.closeWindow]
@[simp ↓] theorem State.assertThrot_cold (s : State) (p : ℕ) (n : ℕ) :
    (State.assertThrot s p n).cold = s.cold := by
  unfold State.assertThrot; (repeat' split) <;> (first | with_reducible rfl | (simp; done))
@[simp ↓] theorem State.releaseThrot_cold (s : State) (p : ℕ) :
    (State.releaseThrot s p).cold = s.cold := by
  simp [State.releaseThrot]
@[simp ↓] theorem State.followSoft_cold (s : State) (src : ℕ) (rose : Bool) :
    (State.followSoft s src rose).cold = s.cold := by
  simp [State.followSoft]
@[simp ↓] theorem State.takeLevel_cold (s : State) (src : Nat) (replay : Bool) :
    (State.takeLevel s src replay).cold = s.cold := by
  simp [State.takeLevel]
@[simp ↓] theorem State.deliver_cold (s : State) (src : ℕ) :
    (State.deliver s src).cold = s.cold := by
  unfold State.deliver; dsimp only; (repeat' split) <;> (first | with_reducible rfl | (simp; done) | (simp only [↓State.forEach_cold, ↓State.when_cold]; done) | (refine State.forEach_cold _ _ _ ?_; intro s a; (repeat' split) <;> (first | with_reducible rfl | (simp; done))))
@[simp ↓] theorem State.recordDeferred_cold (s : State) (code : ℕ) (src : ℕ) (p0 : ℕ) (p1 : ℕ) (rep : ℕ) :
    (State.recordDeferred s code src p0 p1 rep).cold = s.cold := by
  simp [State.recordDeferred]
@[simp ↓] theorem State.takeHeld_cold (s : State) (deferred : Bool) :
    (State.takeHeld s deferred).cold = s.cold := by
  unfold State.takeHeld
  refine (foldl_cold _ _ _ ?_).trans (by simp)
  rintro s ⟨x, _ | k⟩ <;> simp
@[simp ↓] theorem State.seedStop_cold (s : State) (n : Nat) :
    (State.seedStop s n).cold = s.cold := by
  simp [State.seedStop]
@[simp ↓] theorem State.seedSoft_cold (s : State) :
    (State.seedSoft s).cold = s.cold := by
  unfold State.seedSoft; dsimp only
  rw [State.forEach_cold _ _ _ (by intro s p; split <;> simp)]
  exact State.forEach_cold _ _ _ (by simp)
@[simp ↓] theorem State.replaySoft_cold (s : State) :
    (State.replaySoft s).cold = s.cold := by
  unfold State.replaySoft; dsimp only; (repeat' split) <;> (first | with_reducible rfl | (simp; done) | (simp only [↓State.forEach_cold, ↓State.when_cold]; done) | (refine State.forEach_cold _ _ _ ?_; intro s a; (repeat' split) <;> (first | with_reducible rfl | (simp; done))))
@[simp ↓] theorem State.applyDuty_cold (s : State) (n : ℕ) (clamped : ℤ) :
    (State.applyDuty s n clamped).cold = s.cold := by
  simp [State.applyDuty]
@[simp ↓] theorem State.refuseLe_cold (s : State) (n : ℕ) :
    (State.refuseLe s n).cold = s.cold := by
  simp [State.refuseLe]
@[simp ↓] theorem State.declareLe_cold (s : State) (n : ℕ) (cause : ℕ) (p1 : ℕ) :
    (State.declareLe s n cause p1).cold = s.cold := by
  simp [State.declareLe]
@[simp ↓] theorem State.driveBackstop_cold (s : State) (n : ℕ) (t : BackstopTerms) (e : ℤ) :
    (State.driveBackstop s n t e).cold = s.cold := by
  simp [State.driveBackstop]
@[simp ↓] theorem State.driveLe_cold (s : State) (n : ℕ) (t : BackstopTerms) (e : ℤ) (duty : ℤ) :
    (State.driveLe s n t e duty).cold = s.cold := by
  simp [State.driveLe]
@[simp ↓] theorem State.consumeUpdate_cold (s : State) (n : ℕ) :
    (State.consumeUpdate s n).cold = s.cold := by
  simp [State.consumeUpdate]
@[simp ↓] theorem State.judgeRuns_cold (s : State) (n : ℕ) (i : LeInputs) (u : ℤ) (d : ℤ) :
    (State.judgeRuns s n i u d).cold = s.cold := by
  simp [State.judgeRuns]
@[simp ↓] theorem State.finishUpdate_cold (s : State) (n : ℕ) (i : LeInputs) (t : BackstopTerms) (c : ℕ) (addr : ℕ) (r : LeRegs) :
    (State.finishUpdate s n i t c addr r).cold = s.cold := by
  simp [State.finishUpdate]
@[simp ↓] theorem State.leaveUpdate_cold (s : State) (n : Nat) (i : LeInputs) (r : LeRegs) :
    (State.leaveUpdate s n i r).cold = s.cold := by
  simp [State.leaveUpdate]
@[simp ↓] theorem State.loadLe_cold (s : State) (n : ℕ) :
    (State.loadLe s n).cold = s.cold := by
  simp [State.loadLe]
@[simp ↓] theorem State.runTest_cold (s : State) (m : ℕ) (passed : BitVec 4) :
    (State.runTest s m passed).cold = s.cold := by
  simp [State.runTest]
@[simp ↓] theorem State.tellTest_cold (s : State) (m : Nat) (passed : BitVec 4) :
    (State.tellTest s m passed).cold = s.cold := by
  simp [State.tellTest]
@[simp ↓] theorem State.failComp_cold (s : State) (m : ℕ) :
    (State.failComp s m).cold = s.cold := by
  simp [State.failComp]
@[simp ↓] theorem State.closeTimerWindows_cold (s : State) (k : ℕ) :
    (State.closeTimerWindows s k).cold = s.cold := by
  simp [State.closeTimerWindows]
@[simp ↓] theorem State.sselLatch_cold (s : State) (before : BitVec 6) (after : BitVec 6) :
    (State.sselLatch s before after).2.cold = s.cold := by
  unfold State.sselLatch; dsimp only; (repeat' split) <;> (first | with_reducible rfl | (simp; done) | (simp only [↓State.forEach_cold, ↓State.when_cold]; done) | (refine State.forEach_cold _ _ _ ?_; intro s a; (repeat' split) <;> (first | with_reducible rfl | (simp; done))))
@[simp ↓] theorem State.unsettle_cold (s : State) (n : ℕ) :
    (State.unsettle s n).cold = s.cold := by
  simp [State.unsettle]
@[simp ↓] theorem State.wakeDeep_cold (s : State) (n : ℕ) :
    (State.wakeDeep s n).cold = s.cold := by
  simp [State.wakeDeep]
@[simp ↓] theorem State.hardwareAdd_cold (s : State) (n f : Nat) :
    (State.hardwareAdd s n f).cold = s.cold := by
  simp [State.hardwareAdd]
@[simp ↓] theorem State.anticipate_cold (s : State) (n : ℕ) :
    (State.anticipate s n).cold = s.cold := by
  simp [State.anticipate]
@[simp ↓] theorem State.edgeRail_cold (s : State) (n : ℕ) :
    (State.edgeRail s n).cold = s.cold := by
  simp [State.edgeRail]
@[simp ↓] theorem State.swapPort_cold (s : State) (p : Nat) (forced : Bool) :
    (State.swapPort s p forced).cold = s.cold := by
  simp [State.swapPort]
@[simp ↓] theorem State.forceSwaps_cold (s : State) :
    (State.forceSwaps s).cold = s.cold := by
  simp [State.forceSwaps]
@[simp ↓] theorem State.hostMoved_cold (s : State) (n : ℕ) :
    (State.hostMoved s n).cold = s.cold := by
  simp [State.hostMoved]
@[simp ↓] theorem State.applyHost_cold (s : State) (n : Nat) (h : RailHost) :
    (State.applyHost s n h).cold = s.cold := by
  simp [State.applyHost]
@[simp ↓] theorem State.firstLit_cold (s : State) (n : Nat) :
    (State.firstLit s n).cold = s.cold := by
  simp [State.firstLit]
@[simp ↓] theorem State.atTarget_cold (s : State) (n : ℕ) :
    (State.atTarget s n).cold = s.cold := by
  simp [State.atTarget]
@[simp ↓] theorem State.slewRail_cold (s : State) (n : ℕ) :
    (State.slewRail s n).cold = s.cold := by
  simp [State.slewRail]
@[simp ↓] theorem State.judgeChar_cold (s : State) (n : Nat) :
    (State.judgeChar s n).cold = s.cold := by
  simp [State.judgeChar]
@[simp ↓] theorem State.failSense_cold (s : State) (n : ℕ) (isB : Bool) :
    (State.failSense s n isB).cold = s.cold := by
  simp [State.failSense]
@[simp ↓] theorem State.decideVote_cold (s : State) (n : ℕ) :
    (State.decideVote s n).cold = s.cold := by
  simp [State.decideVote]
@[simp ↓] theorem State.singleSense_cold (s : State) (n : ℕ) :
    (State.singleSense s n).cold = s.cold := by
  simp [State.singleSense]
@[simp ↓] theorem State.tickLatches_cold (s : State) :
    (State.tickLatches s).cold = s.cold := by
  simp [State.tickLatches]
@[simp ↓] theorem State.substitutePg_cold (s : State) (n : ℕ) :
    (State.substitutePg s n).cold = s.cold := by
  simp [State.substitutePg]
@[simp ↓] theorem State.charVisit_cold (s : State) (n : Nat) :
    (State.charVisit s n).cold = s.cold := by
  simp [State.charVisit]
@[simp ↓] theorem State.beginChar_cold (s : State) (n : ℕ) :
    (State.beginChar s n).cold = s.cold := by
  simp [State.beginChar]
@[simp ↓] theorem State.retestSenses_cold (s : State) (n : Nat) (tests : List SenseTest) :
    (State.retestSenses s n tests).cold = s.cold := by
  simp [State.retestSenses]
@[simp ↓] theorem State.enableRail_cold (s : State) (n : Nat) (req fresh : Bool) (tests : List SenseTest) :
    (State.enableRail s n req fresh tests).cold = s.cold := by
  unfold State.enableRail; dsimp only; (repeat' split) <;> (first | with_reducible rfl | (simp; done))
@[simp ↓] theorem State.moveRll_cold (s : State) (n : ℕ) :
    (State.moveRll s n).cold = s.cold := by
  simp [State.moveRll]
@[simp ↓] theorem State.evaluateRail_cold (tests : List SenseTest) (s : State) (n : Nat) :
    (State.evaluateRail tests s n).cold = s.cold := by
  simp [State.evaluateRail]
@[simp ↓] theorem State.refreshIrail_cold (s : State) (p : ℕ) :
    (State.refreshIrail s p).cold = s.cold := by
  unfold State.refreshIrail; (repeat' split) <;> (first | with_reducible rfl | (simp; done))
@[simp ↓] theorem State.configureCell_cold (s : State) (c : ℕ) (w : ℕ) (mode : ℕ) :
    (State.configureCell s c w mode).cold = s.cold := by
  unfold State.configureCell; exact foldl_cold _ _ _ (fun s a => by simp)
@[simp ↓] theorem State.reconfigure_cold (s : State) (c w : Nat) :
    (State.reconfigure s c w).cold = s.cold := by
  simp [State.reconfigure]
@[simp ↓] theorem State.nextCommand_cold (s : State) (c : ℕ) :
    (State.nextCommand s c).cold = s.cold := by
  unfold State.nextCommand; dsimp only; (repeat' split) <;> (first | with_reducible rfl | (simp; done) | (simp only [↓State.forEach_cold, ↓State.when_cold]; done) | (refine State.forEach_cold _ _ _ ?_; intro s a; (repeat' split) <;> (first | with_reducible rfl | (simp; done))))
@[simp ↓] theorem State.secondAttempt_cold (s : State) (c : Nat) (frame : Bool) :
    (State.secondAttempt s c frame).cold = s.cold := by
  unfold State.secondAttempt; dsimp only; repeat' split
  all_goals simp
@[simp ↓] theorem State.declareLink_cold (s : State) (l : ℕ) (cause : ℕ) :
    (State.declareLink s l cause).cold = s.cold := by
  simp [State.declareLink]
@[simp ↓] theorem State.silence_cold (s : State) (c : ℕ) :
    (State.silence s c).cold = s.cold := by
  unfold State.silence; dsimp only; (repeat' split) <;> (first | with_reducible rfl | (simp; done) | (simp only [↓State.forEach_cold, ↓State.when_cold]; done) | (refine State.forEach_cold _ _ _ ?_; intro s a; (repeat' split) <;> (first | with_reducible rfl | (simp; done))))
@[simp ↓] theorem State.clearLink_cold (s : State) (l : ℕ) :
    (State.clearLink s l).cold = s.cold := by
  simp [State.clearLink]
@[simp ↓] theorem State.endRound_cold (s : State) (l : ℕ) :
    (State.endRound s l).cold = s.cold := by
  simp [State.endRound]
@[simp ↓] theorem State.foundCell_cold (s : State) (c : Nat) :
    (State.foundCell s c).cold = s.cold := by
  unfold State.foundCell; dsimp only; (repeat' split) <;> (first | with_reducible rfl | (simp; done))
@[simp ↓] theorem State.clearReplies_cold (s : State) (p : Nat) :
    (State.clearReplies s p).cold = s.cold := by
  simp [State.clearReplies]
@[simp ↓] theorem State.setDisc_cold (s : State) (p : Nat) (d : Discovery) :
    (State.setDisc s p d).cold = s.cold := by
  simp [State.setDisc]
@[simp ↓] theorem State.judgeReplies_cold (s : State) (p : Nat) (second : Bool) :
    (State.judgeReplies s p second).cold = s.cold := by
  simp [State.judgeReplies]
@[simp ↓] theorem State.discoverStep_cold (s : State) (n p : Nat) :
    (State.discoverStep s n p).cold = s.cold := by
  unfold State.discoverStep; (repeat' split) <;> (first | with_reducible rfl | (simp; done))
@[simp ↓] theorem State.retryStep_cold (s : State) (n p : Nat) :
    (State.retryStep s n p).cold = s.cold := by
  simp [State.retryStep]
@[simp ↓] theorem State.recoverStep_cold (s : State) (p : Nat) :
    (State.recoverStep s p).cold = s.cold := by
  unfold State.recoverStep; (repeat' split) <;> (first | with_reducible rfl | (simp; done))
@[simp ↓] theorem State.beginDiscovery_cold (s : State) (p : Nat) :
    (State.beginDiscovery s p).cold = s.cold := by
  simp [State.beginDiscovery]
@[simp ↓] theorem State.beginRetry_cold (s : State) (n p : Nat) :
    (State.beginRetry s n p).cold = s.cold := by
  simp [State.beginRetry]
@[simp ↓] theorem State.emitFrame_cold (s : State) (l : Nat) (f : DownFrame) :
    (State.emitFrame s l f).cold = s.cold := by
  simp [State.emitFrame]
@[simp ↓] theorem State.sendFrame_cold (s : State) (l : ℕ) :
    (State.sendFrame s l).cold = s.cold := by
  unfold State.sendFrame; dsimp only; (repeat' split) <;> (first | with_reducible rfl | (simp; done) | (simp only [↓State.forEach_cold, ↓State.when_cold]; done) | (refine State.forEach_cold _ _ _ ?_; intro s a; (repeat' split) <;> (first | with_reducible rfl | (simp; done))))
@[simp ↓] theorem State.confirmWake_cold (s : State) (p : Nat) :
    (State.confirmWake s p).cold = s.cold := by
  simp [State.confirmWake]
@[simp ↓] theorem State.episodes_cold (s : State) (c : ℕ) :
    (State.episodes s c).cold = s.cold := by
  simp [State.episodes]
@[simp ↓] theorem State.warnCell_cold (s : State) (c : ℕ) :
    (State.warnCell s c).cold = s.cold := by
  unfold State.warnCell; dsimp only; (repeat' split) <;> (first | with_reducible rfl | (simp; done) | (simp only [↓State.forEach_cold, ↓State.when_cold]; done) | (refine State.forEach_cold _ _ _ ?_; intro s a; (repeat' split) <;> (first | with_reducible rfl | (simp; done))))
@[simp ↓] theorem State.resolveSense_cold (s : State) (c : ℕ) (clean : Bool) :
    (State.resolveSense s c clean).cold = s.cold := by
  unfold State.resolveSense; (repeat' split) <;> (first | with_reducible rfl | (simp; done))
@[simp ↓] theorem State.configured_cold (s : State) (c : Nat) :
    (State.configured s c).cold = s.cold := by
  simp [State.configured]
@[simp ↓] theorem State.passCheck_cold (s : State) (c : ℕ) (f : DownFrame) :
    (State.passCheck s c f).cold = s.cold := by
  simp [State.passCheck]
@[simp ↓] theorem State.failCheck_cold (s : State) (c : Nat) (frame : Bool) :
    (State.failCheck s c frame).cold = s.cold := by
  simp [State.failCheck]
@[simp ↓] theorem State.badFrame_cold (s : State) (c : ℕ) :
    (State.badFrame s c).cold = s.cold := by
  simp [State.badFrame]
@[simp ↓] theorem State.keepPart_cold (s : State) (c : Nat) (f : BitVec 56) :
    (State.keepPart s c f).cold = s.cold := by
  simp [State.keepPart]
@[simp ↓] theorem State.goodFrame_cold (s : State) (c : ℕ) (f : BitVec 56) :
    (State.goodFrame s c f).cold = s.cold := by
  unfold State.goodFrame; dsimp only; (repeat' split) <;> (first | with_reducible rfl | (simp; done) | (simp only [↓State.forEach_cold, ↓State.when_cold]; done) | (refine State.forEach_cold _ _ _ ?_; intro s a; (repeat' split) <;> (first | with_reducible rfl | (simp; done))))
@[simp ↓] theorem State.takeSlot_cold (s : State) (c : Nat) (r : SlotFrame) :
    (State.takeSlot s c r).cold = s.cold := by
  unfold State.takeSlot; (repeat' split) <;> (first | with_reducible rfl | (simp; done))
@[simp ↓] theorem State.drainLink_cold (s : State) (l : Nat) :
    (State.drainLink s l).cold = s.cold := by
  unfold State.drainLink
  refine (foldl_cold _ _ _ ?_).trans (by simp)
  intro s a; simp
@[simp ↓] theorem State.rearmLe_cold (s : State) (n : Nat) :
    (State.rearmLe s n).cold = s.cold := by
  simp [State.rearmLe]
@[simp ↓] theorem State.freeRail_cold (s : State) (n : ℕ) :
    (State.freeRail s n).cold = s.cold := by
  simp [State.freeRail]
@[simp ↓] theorem State.restorePhase_cold (s : State) (p : ℕ) :
    (State.restorePhase s p).cold = s.cold := by
  unfold State.restorePhase; (repeat' split) <;> (first | with_reducible rfl | (simp; done))
@[simp ↓] theorem State.dropOrder_cold (s : State) (n : ℕ) (p : ℕ) :
    (State.dropOrder s n p).cold = s.cold := by
  simp [State.dropOrder]
@[simp ↓] theorem State.shedArrives_cold (s : State) (p : Nat) :
    (State.shedArrives s p).cold = s.cold := by
  unfold State.shedArrives; (repeat' split) <;> (first | with_reducible rfl | (simp; done))
@[simp ↓] theorem State.deepParkArrives_cold (s : State) (p : Nat) :
    (State.deepParkArrives s p).cold = s.cold := by
  unfold State.deepParkArrives; (repeat' split) <;> (first | with_reducible rfl | (simp; done))
@[simp ↓] theorem State.carryPosts_cold (s : State) :
    (State.carryPosts s).cold = s.cold := by
  have h : ∀ s a, (State.applyPost s a).cold = s.cold := by intro s a; cases a <;> simp [State.applyPost]
  unfold State.carryPosts; dsimp only; split
  · exact (foldl_cold _ _ _ h).trans (by simp)
  · simp
@[simp ↓] theorem State.sendRm_cold (s : State) (p : RmPost) :
    (State.sendRm s p).cold = s.cold := by
  simp [State.sendRm]
@[simp ↓] theorem State.reapplyHost_cold (s : State) (n : Nat) :
    (State.reapplyHost s n).cold = s.cold := by
  simp [State.reapplyHost]
@[simp ↓] theorem State.reapplyHosts_cold (s : State) :
    (State.reapplyHosts s).cold = s.cold := by
  simp [State.reapplyHosts]
@[simp ↓] theorem State.phasePeriod_cold (s : State) (n : ℕ) (p : ℕ) :
    (State.phasePeriod s n p).cold = s.cold := by
  simp [State.phasePeriod]
@[simp ↓] theorem State.laneFalls_cold (s : State) :
    (State.laneFalls s).cold = s.cold := by
  unfold State.laneFalls
  apply State.forEach_cold; intro s p; dsimp only; split <;> simp
@[simp ↓] theorem State.railPeriod_cold (s : State) (n : ℕ) :
    (State.railPeriod s n).cold = s.cold := by
  simp [State.railPeriod]
@[simp ↓] theorem State.syncEdge_cold (periodNs : ℕ) (s : State) (n : ℕ) :
    (State.syncEdge periodNs s n).cold = s.cold := by
  simp [State.syncEdge]
@[simp ↓] theorem State.openRuns_cold (s : State) (n : ℕ) (p : ℕ) :
    (State.openRuns s n p).cold = s.cold := by
  simp [State.openRuns]
@[simp ↓] theorem State.openPhase_cold (s : State) (n : ℕ) (p : ℕ) :
    (State.openPhase s n p).cold = s.cold := by
  simp [State.openPhase]
@[simp ↓] theorem State.probationRound_cold (s : State) (p : ℕ) :
    (State.probationRound s p).cold = s.cold := by
  simp [State.probationRound]
@[simp ↓] theorem State.openRound_cold (s : State) (n : ℕ) :
    (State.openRound s n).cold = s.cold := by
  simp [State.openRound]
@[simp ↓] theorem State.senseRound_cold (n : ℕ) (p : ℕ) (s : State) (c : ℕ) :
    (State.senseRound n p s c).cold = s.cold := by
  unfold State.senseRound; dsimp only; (repeat' split) <;> (first | with_reducible rfl | (simp; done) | (simp only [↓State.forEach_cold, ↓State.when_cold]; done) | (refine State.forEach_cold _ _ _ ?_; intro s a; (repeat' split) <;> (first | with_reducible rfl | (simp; done))))
@[simp ↓] theorem State.senseRounds_cold (s : State) (n : ℕ) :
    (State.senseRounds s n).cold = s.cold := by
  simp [State.senseRounds]
@[simp ↓] theorem State.blindRound_cold (s : State) (n : ℕ) :
    (State.blindRound s n).cold = s.cold := by
  simp [State.blindRound]
@[simp ↓] theorem State.holdTrims_cold (s : State) (n : Nat) :
    (State.holdTrims s n).cold = s.cold := by
  simp [State.holdTrims]
@[simp ↓] theorem State.faultRound_cold (s : State) (n : ℕ) :
    (State.faultRound s n).cold = s.cold := by
  simp [State.faultRound]
@[simp ↓] theorem State.setCauses_cold (s : State) (n : ℕ) (new : BitVec 7) :
    (State.setCauses s n new).cold = s.cold := by
  simp [State.setCauses]
@[simp ↓] theorem State.loadRound_cold (s : State) (n : ℕ) :
    (State.loadRound s n).cold = s.cold := by
  simp [State.loadRound]
@[simp ↓] theorem State.ocpTrips_cold (s : State) (n : ℕ) (sum : ℤ) :
    (State.ocpTrips s n sum).cold = s.cold := by
  simp [State.ocpTrips]
@[simp ↓] theorem State.ocpRound_cold (s : State) (n : ℕ) :
    (State.ocpRound s n).cold = s.cold := by
  simp [State.ocpRound]
@[simp ↓] theorem State.followYield_cold (s : State) (n : ℕ) :
    (State.followYield s n).cold = s.cold := by
  simp [State.followYield]
@[simp ↓] theorem State.overloadRound_cold (s : State) (n : ℕ) :
    (State.overloadRound s n).cold = s.cold := by
  simp [State.overloadRound]
@[simp ↓] theorem State.warmRound_cold (s : State) (n : ℕ) :
    (State.warmRound s n).cold = s.cold := by
  simp [State.warmRound]
@[simp ↓] theorem State.setClassY_cold (s : State) (c : ℕ) (y : ℕ) :
    (State.setClassY s c y).cold = s.cold := by
  simp [State.setClassY]
@[simp ↓] theorem State.setStage_cold (s : State) (k : BitVec 2) :
    (State.setStage s k).cold = s.cold := by
  simp [State.setStage]
@[simp ↓] theorem State.floorYields_cold (s : State) :
    (State.floorYields s).cold = s.cold := by
  simp [State.floorYields]
@[simp ↓] theorem State.stageRecord_cold (s : State) (fin : Bool) :
    (State.stageRecord s fin).cold = s.cold := by
  simp [State.stageRecord]
@[simp ↓] theorem State.capStops_cold (s : State) :
    (State.capStops s).cold = s.cold := by
  unfold State.capStops; dsimp only; (repeat' split) <;> (first | with_reducible rfl | (simp; done) | (simp only [↓State.forEach_cold, ↓State.when_cold]; done) | (refine State.forEach_cold _ _ _ ?_; intro s a; (repeat' split) <;> (first | with_reducible rfl | (simp; done))))
@[simp ↓] theorem State.endCap_cold (s : State) :
    (State.endCap s).cold = s.cold := by
  simp [State.endCap]
@[simp ↓] theorem State.capRelaxes_cold (s : State) :
    (State.capRelaxes s).cold = s.cold := by
  unfold State.capRelaxes; dsimp only; (repeat' split) <;> (first | with_reducible rfl | (simp; done))
@[simp ↓] theorem State.capAdvances_cold (s : State) :
    (State.capAdvances s).cold = s.cold := by
  unfold State.capAdvances; dsimp only; (repeat' split) <;> (first | with_reducible rfl | (simp; done) | (simp only [↓State.forEach_cold, ↓State.when_cold]; done) | (refine State.forEach_cold _ _ _ ?_; intro s a; (repeat' split) <;> (first | with_reducible rfl | (simp; done))))
@[simp ↓] theorem State.capRound_cold (s : State) :
    (State.capRound s).cold = s.cold := by
  simp [State.capRound]
@[simp ↓] theorem State.trimRound_cold (s : State) (n : ℕ) :
    (State.trimRound s n).cold = s.cold := by
  unfold State.trimRound; dsimp only; (repeat' split) <;> (first | with_reducible rfl | (simp; done) | (simp only [↓State.forEach_cold, ↓State.when_cold]; done) | (refine State.forEach_cold _ _ _ ?_; intro s a; (repeat' split) <;> (first | with_reducible rfl | (simp; done))))
@[simp ↓] theorem State.bandRound_cold (s : State) (n : ℕ) :
    (State.bandRound s n).cold = s.cold := by
  simp [State.bandRound]
@[simp ↓] theorem State.widthRound_cold (s : State) (l : ℕ) :
    (State.widthRound s l).cold = s.cold := by
  simp [State.widthRound]
@[simp ↓] theorem State.countRound_cold (s : State) (n : ℕ) :
    (State.countRound s n).cold = s.cold := by
  simp [State.countRound]
@[simp ↓] theorem State.policyRound_cold (s : State) :
    (State.policyRound s).cold = s.cold := by
  simp [State.policyRound]
@[simp ↓] theorem State.ageFault_cold (s : State) (e : FaultEntry) :
    (State.ageFault s e).cold = s.cold := by
  unfold State.ageFault; (repeat' split) <;> (first | with_reducible rfl | (simp; done))
@[simp ↓] theorem State.takeOut_cold (s : State) (m : ℕ) :
    (State.takeOut s m).cold = s.cold := by
  simp [State.takeOut]
@[simp ↓] theorem State.failTwin_cold (s : State) (isB : Bool) :
    (State.failTwin s isB).cold = s.cold := by
  simp [State.failTwin]
@[simp ↓] theorem State.feed_cold (s : State) (ch : ℕ) (code : ℤ) :
    (State.feed s ch code).cold = s.cold := by
  simp [State.feed]
@[simp ↓] theorem State.takeInput_cold (s : State) (isB : Bool) (code : ℤ) :
    (State.takeInput s isB code).cold = s.cold := by
  simp [State.takeInput]
@[simp ↓] theorem State.takeDie_cold (s : State) (i : ℕ) (code : ℤ) :
    (State.takeDie s i code).cold = s.cold := by
  simp [State.takeDie]
@[simp ↓] theorem State.takeTsns_cold (s : State) (t : ℕ) (x : ℤ) :
    (State.takeTsns s t x).cold = s.cold := by
  simp [State.takeTsns]
@[simp ↓] theorem State.takeVout_cold (s : State) (n : ℕ) (x : ℤ) :
    (State.takeVout s n x).cold = s.cold := by
  simp [State.takeVout]
@[simp ↓] theorem State.sample_cold (s : State) (ch : ℕ) (gain : ℕ) (code : ℤ) :
    (State.sample s ch gain code).cold = s.cold := by
  simp [State.sample]
@[simp ↓] theorem State.useConverter_cold (s : State) (i : ℕ) (isB : Bool) :
    (State.useConverter s i isB).cold = s.cold := by
  simp [State.useConverter]
@[simp ↓] theorem State.tellOutcome_cold (s : State) (i : ℕ) (outcome : ℕ) :
    (State.tellOutcome s i outcome).cold = s.cold := by
  simp [State.tellOutcome]
@[simp ↓] theorem State.arbitrate_cold (s : State) (i : ℕ) :
    (State.arbitrate s i).cold = s.cold := by
  simp [State.arbitrate]
@[simp ↓] theorem State.checkSlot_cold (s : State) (i : ℕ) (a : ℤ) (b : ℤ) :
    (State.checkSlot s i a b).cold = s.cold := by
  simp [State.checkSlot]
@[simp ↓] theorem State.clearPorts_cold (s : State) :
    (State.clearPorts s).cold = s.cold := by
  simp [State.clearPorts]
@[simp ↓] theorem State.clearLoop_cold (s : State) (n : ℕ) :
    (State.clearLoop s n).cold = s.cold := by
  simp [State.clearLoop]
@[simp ↓] theorem State.clearCell_cold (s : State) (c : ℕ) :
    (State.clearCell s c).cold = s.cold := by
  simp [State.clearCell]
@[simp ↓] theorem State.clearVout_cold (s : State) (n : ℕ) (m : BitVec 8) :
    (State.clearVout s n m).cold = s.cold := by
  simp [State.clearVout]
@[simp ↓] theorem State.clearIout_cold (s : State) (n : ℕ) (m : BitVec 8) :
    (State.clearIout s n m).cold = s.cold := by
  simp [State.clearIout]
@[simp ↓] theorem State.clearTemp_cold (s : State) (n : ℕ) (m : BitVec 8) :
    (State.clearTemp s n m).cold = s.cold := by
  simp [State.clearTemp]
@[simp ↓] theorem State.clearInput_cold (s : State) (m : BitVec 8) :
    (State.clearInput s m).cold = s.cold := by
  simp [State.clearInput]
@[simp ↓] theorem State.clearCml_cold (s : State) (m : BitVec 8) :
    (State.clearCml s m).cold = s.cold := by
  simp [State.clearCml]
@[simp ↓] theorem State.clearOther_cold (s : State) (n : ℕ) :
    (State.clearOther s n).cold = s.cold := by
  simp [State.clearOther]
@[simp ↓] theorem State.clearLatches_cold (s : State) (n : ℕ) :
    (State.clearLatches s n).cold = s.cold := by
  simp [State.clearLatches]
@[simp ↓] theorem State.clearRail_cold (s : State) (n : ℕ) :
    (State.clearRail s n).cold = s.cold := by
  unfold State.clearRail; dsimp only; have h := foldl_cold latchCauses (fun s c => if s.mayClear n c then s.clearCause n c else s) (s.clearLatches n) (fun s a => by split <;> simp); split <;> simp [h]
@[simp ↓] theorem State.clearFaults_cold (s : State) (page : BitVec 8) :
    (State.clearFaults s page).cold = s.cold := by
  simp [State.clearFaults]
@[simp ↓] theorem State.takeClears_cold (s : State) :
    (State.takeClears s).cold = s.cold := by
  unfold State.takeClears
  exact foldl_cold _ _ _ fun s a => State.clearFaults_cold s a
@[simp ↓] theorem State.post_cold (s : State) (c : ℕ) :
    (State.post s c).cold = s.cold := by
  simp [State.post]
@[simp ↓] theorem State.pump_cold (s : State) (c : ℕ) :
    (State.pump s c).cold = s.cold := by
  unfold State.pump; (repeat' split) <;> (first | with_reducible rfl | (simp; done))
@[simp ↓] theorem State.release_cold (s : State) (c : ℕ) :
    (State.release s c).cold = s.cold := by
  simp [State.release]
@[simp ↓] theorem State.takeFrom_cold (s : State) (c : ℕ) :
    (State.takeFrom s c).cold = s.cold := by
  simp [State.takeFrom]
@[simp ↓] theorem State.orphanRecord_cold (s : State) (c : Nat) :
    (State.orphanRecord s c).cold = s.cold := by
  simp [State.orphanRecord]
@[simp ↓] theorem State.sendOn_cold (s : State) (c : ℕ) (code : ℕ) (tag : ℕ) (orphan : Bool) (payload : List Word) :
    (State.sendOn s c code tag orphan payload).cold = s.cold := by
  simp [State.sendOn]
@[simp ↓] theorem State.reply_cold (s : State) (c : ℕ) (code : ℕ) (m : Message) (status : ℕ) (rest : List Word) :
    (State.reply s c code m status rest).cold = s.cold := by
  simp [State.reply]
@[simp ↓] theorem State.advanceEpoch_cold (s : State) (who : Identity) :
    (State.advanceEpoch s who).cold = s.cold := by
  simp [State.advanceEpoch]
@[simp ↓] theorem State.freeze_cold (s : State) (m : Manager) (trigger : ℕ) (regs : Frozen) :
    (State.freeze s m trigger regs).cold = s.cold := by
  simp [State.freeze]
@[simp ↓] theorem State.recordFreeze_cold (s : State) (m : Manager) (code : ℕ) (src : ℕ) (p0 : ℕ) (p1 : ℕ) :
    (State.recordFreeze s m code src p0 p1).cold = s.cold := by
  simp [State.recordFreeze]
@[simp ↓] theorem State.copyCapture_cold (s : State) (m : Manager) :
    (State.copyCapture s m).cold = s.cold := by
  unfold State.copyCapture; dsimp only; (repeat' split) <;> (first | with_reducible rfl | (simp; done) | (simp only [↓State.forEach_cold, ↓State.when_cold]; done) | (refine State.forEach_cold _ _ _ ?_; intro s a; (repeat' split) <;> (first | with_reducible rfl | (simp; done))))
@[simp ↓] theorem State.commitCapture_cold (s : State) :
    (State.commitCapture s).cold = s.cold := by
  simp [State.commitCapture]
@[simp ↓] theorem State.setReset_cold (s : State) (kind : ℕ) (cause : ℕ) :
    (State.setReset s kind cause).cold = s.cold := by
  simp [State.setReset]
@[simp ↓] theorem State.resetPair_cold (s : State) (m : Manager) (run : PairRun) :
    (State.resetPair s m run).cold = s.cold := by
  unfold State.resetPair; dsimp only
  rw [State.updMgr_cold]
  exact (State.when_cold _ _ _ (by intro s; rfl)).trans (State.when_cold _ _ _ (by intro s; rfl))
@[simp ↓] theorem State.enterSafe_cold (s : State) (src : ℕ) (recent : ℕ) (p1 : ℕ) (fromCheck : Bool) :
    (State.enterSafe s src recent p1 fromCheck).cold = s.cold := by
  simp [State.enterSafe]
@[simp ↓] theorem State.askReset_cold (s : State) (m : Manager) (kind cause : Nat) :
    (State.askReset s m kind cause).cold = s.cold := by
  simp [State.askReset]
@[simp ↓] theorem State.escalate_cold (s : State) (m : Manager) (cause : ℕ) :
    (State.escalate s m cause).cold = s.cold := by
  simp [State.escalate]
@[simp ↓] theorem State.updWd_cold (s : State) (m : Manager) (f : Watchdog → Watchdog) :
    (State.updWd s m f).cold = s.cold := by
  simp [State.updWd]
@[simp ↓] theorem State.startWd_cold (s : State) (m : Manager) :
    (State.startWd s m).cold = s.cold := by
  simp [State.startWd]
@[simp ↓] theorem State.expire_cold (s : State) (m : Manager) (forced : Bool) (regs : Frozen) :
    (State.expire s m forced regs).cold = s.cold := by
  simp [State.expire]
@[simp ↓] theorem State.stopWd_cold (s : State) (m : Manager) :
    (State.stopWd s m).cold = s.cold := by
  simp [State.stopWd]
@[simp ↓] theorem State.goWd_cold (s : State) (m : Manager) :
    (State.goWd s m).cold = s.cold := by
  simp [State.goWd]
@[simp ↓] theorem State.abandonRecovery_cold (s : State) (p : Nat) :
    (State.abandonRecovery s p).cold = s.cold := by
  simp [State.abandonRecovery]
@[simp ↓] theorem State.holdRail_cold (s : State) (n : ℕ) :
    (State.holdRail s n).cold = s.cold := by
  simp [State.holdRail]
@[simp ↓] theorem State.takeover_cold (s : State) (c : HoldCause) :
    (State.takeover s c).cold = s.cold := by
  unfold State.takeover; dsimp only; repeat' split
  all_goals first | (rw [State.record_cold]; exact State.when_cold _ _ _ fun _ => rfl) | simp
@[simp ↓] theorem State.disableApp_cold (s : State) (why : ℕ) :
    (State.disableApp s why).cold = s.cold := by
  simp [State.disableApp]
@[simp ↓] theorem State.takingDone_cold (s : State) :
    (State.takingDone s).cold = s.cold := by
  simp [State.takingDone]
@[simp ↓] theorem State.takeRails_cold (s : State) :
    (State.takeRails s).cold = s.cold := by
  simp [State.takeRails]
@[simp ↓] theorem State.takeRail_cold (s : State) (n : Nat) :
    (State.takeRail s n).cold = s.cold := by
  simp [State.takeRail]
@[simp ↓] theorem State.handRail_cold (s : State) (n : ℕ) :
    (State.handRail s n).cold = s.cold := by
  simp [State.handRail]
@[simp ↓] theorem State.finishCommit_cold (s : State) :
    (State.finishCommit s).cold = s.cold := by
  unfold State.finishCommit; dsimp only; (repeat' split) <;> (first | with_reducible rfl | (simp; done))
@[simp ↓] theorem State.moveCursor_cold (s : State) :
    (State.moveCursor s).cold = s.cold := by
  simp [State.moveCursor]
@[simp ↓] theorem State.clearLog_cold (s : State) (ident : ℕ) (n : Word) :
    (State.clearLog s ident n).2.cold = s.cold := by
  unfold State.clearLog; dsimp only; (repeat' split) <;> (first | with_reducible rfl | (simp; done) | (simp only [↓State.forEach_cold, ↓State.when_cold]; done) | (refine State.forEach_cold _ _ _ ?_; intro s a; (repeat' split) <;> (first | with_reducible rfl | (simp; done))))
@[simp ↓] theorem State.authFail_cold (s : State) (src : ℕ) (p0 : ℕ) (p1 : ℕ) :
    (State.authFail s src p0 p1).cold = s.cold := by
  simp [State.authFail]
@[simp ↓] theorem State.conflict_cold (s : State) (type : ℕ) (index : ℕ) (requester : ℕ) (holder : ℕ) :
    (State.conflict s type index requester holder).cold = s.cold := by
  simp [State.conflict]
@[simp ↓] theorem State.abortUnit_cold (s : State) (u : UnitRow) (id : ℕ) :
    (State.abortUnit s u id).cold = s.cold := by
  unfold State.abortUnit; (repeat' split) <;> (first | with_reducible rfl | (simp; done))
@[simp ↓] theorem State.adoptImage_cold (s : State) (rd : Reader) :
    (State.adoptImage s rd).cold = s.cold := by
  simp [State.adoptImage]
@[simp ↓] theorem State.preface_cold (s : State) (l : List ConLine) :
    (State.preface s l).cold = s.cold := by
  simp [State.preface]
@[simp ↓] theorem State.burnOwner_cold (s : State) :
    (State.burnOwner s).cold = s.cold := by
  simp [State.burnOwner]
@[simp ↓] theorem State.burnRollback_cold (s : State) :
    (State.burnRollback s).cold = s.cold := by
  simp [State.burnRollback]
@[simp ↓] theorem State.burnWatchdog_cold (s : State) :
    (State.burnWatchdog s).cold = s.cold := by
  simp [State.burnWatchdog]
@[simp ↓] theorem State.storePart_cold (s : State) (done : Nat) :
    (State.storePart s done).cold = s.cold := by
  simp [State.storePart]
@[simp ↓] theorem State.toStage_cold (s : State) (k : BitVec 4) :
    (State.toStage s k).cold = s.cold := by
  simp [State.toStage]
@[simp ↓] theorem State.autoWatchdogs_cold (s : State) :
    (State.autoWatchdogs s).cold = s.cold := by
  simp [State.autoWatchdogs]
@[simp ↓] theorem State.restartLockout_cold (s : State) :
    (State.restartLockout s).cold = s.cold := by
  unfold State.restartLockout State.when; split <;> rfl
@[simp ↓] theorem State.loadTimeouts_cold (s : State) :
    (State.loadTimeouts s).cold = s.cold := by
  simp [State.loadTimeouts]
@[simp ↓] theorem State.commitAll_cold (s : State) :
    (State.commitAll s).cold = s.cold := by
  simp [State.commitAll]
@[simp ↓] theorem State.openStore_cold (s : State) :
    (State.openStore s).cold = s.cold := by
  simp [State.openStore]
@[simp ↓] theorem State.failSlot_cold (s : State) (slotB : Bool) (rd : Reader) (f : ℕ × ℕ) :
    (State.failSlot s slotB rd f).cold = s.cold := by
  simp [State.failSlot]
@[simp ↓] theorem State.bootPatch_cold (s : State) (m : Manager) :
    (State.bootPatch s m).cold = s.cold := by
  simp [State.bootPatch]
@[simp ↓] theorem State.patchRestart_cold (s : State) :
    (State.patchRestart s).cold = s.cold := by
  simp [State.patchRestart]
@[simp ↓] theorem State.missingCell_cold (s : State) (c : ℕ) (cause : ℕ) :
    (State.missingCell s c cause).cold = s.cold := by
  simp [State.missingCell]
@[simp ↓] theorem State.openLink_cold (found : List FoundCell) (s : State) (l : Nat) :
    (State.openLink found s l).cold = s.cold := by
  simp [State.openLink]
@[simp ↓] theorem State.configureFound_cold (s : State) (f : FoundCell) (id : BitVec 64) :
    (State.configureFound s f id).cold = s.cold := by
  unfold State.configureFound; dsimp only
  have h : ∀ (l : List (Fin 4 × Bool)) (g : State → Fin 4 × Bool → State) (s : State), (∀ s k, (g s k).cold = s.cold) → (l.foldl g s).cold = s.cold := fun l g s => foldl_cold l g s
  split <;> simp <;> rw [h] <;> intros <;> simp
@[simp ↓] theorem State.discover_cold (found : List FoundCell) (s : State) (c : ℕ) :
    (State.discover found s c).cold = s.cold := by
  unfold State.discover; (repeat' split) <;> (first | with_reducible rfl | (simp; done))
@[simp ↓] theorem State.bootRails_cold (s : State) :
    (State.bootRails s).cold = s.cold := by
  unfold State.bootRails; dsimp only
  rw [State.forEach_cold _ _ _ (by intro s n; simp)]; rfl
@[simp ↓] theorem State.primeComp_cold (s : State) (x : ℕ × BitVec 4 × BitVec 4) :
    (State.primeComp s x).cold = s.cold := by
  unfold State.primeComp; (repeat' split) <;> (first | with_reducible rfl | (simp; done))
@[simp ↓] theorem State.primePair_cold (r : SelfTest) (s : State) (i : ℕ) :
    (State.primePair r s i).cold = s.cold := by
  simp [State.primePair]
@[simp ↓] theorem State.primeRails_cold (s : State) :
    (State.primeRails s).cold = s.cold := by
  simp [State.primeRails]
@[simp ↓] theorem State.latchNode_cold (s : State) (n : ℕ) :
    (State.latchNode s n).cold = s.cold := by
  simp [State.latchNode]
@[simp ↓] theorem State.undoTests_cold (s : State) :
    (State.undoTests s).cold = s.cold := by
  simp [State.undoTests]
@[simp ↓] theorem State.closeSession_cold (s : State) :
    (State.closeSession s).cold = s.cold := by
  simp [State.closeSession]
@[simp ↓] theorem State.endSession_cold (s : State) (how : ℕ) :
    (State.endSession s how).cold = s.cold := by
  simp [State.endSession]
@[simp ↓] theorem State.cutSession_cold (s : State) :
    (State.cutSession s).cold = s.cold := by
  simp [State.cutSession]
@[simp ↓] theorem State.downPair_cold (s : State) (m : Manager) :
    (State.downPair s m).cold = s.cold := by
  simp [State.downPair]
@[simp ↓] theorem State.beginPair_cold (s : State) (m : Manager) (cause : BitVec 4) :
    (State.beginPair s m cause).cold = s.cold := by
  simp [State.beginPair]
@[simp ↓] theorem State.upPair_cold (s : State) (m : Manager) :
    (State.upPair s m).cold = s.cold := by
  simp [State.upPair]
@[simp ↓] theorem State.cutBus_cold (s : State) (cut : Option CutXfer) : (s.cutBus cut).cold = s.cold := by
  unfold State.cutBus; split <;> rfl
@[simp ↓] theorem State.beginWarm_cold (s : State) (cause : BitVec 4) (resume : Bool) (cut : Option CutXfer) :
    (State.beginWarm s cause resume cut).cold = s.cold := by
  unfold State.beginWarm; dsimp only; repeat' split
  all_goals simp
@[simp ↓] theorem State.backToPll_cold (s : State) :
    (State.backToPll s).cold = s.cold := by
  simp [State.backToPll]
@[simp ↓] theorem State.resumeLanes_cold (s : State) (n : Nat) :
    (State.resumeLanes s n).cold = s.cold := by
  simp [State.resumeLanes]
@[simp ↓] theorem State.coreBack_cold (s : State) :
    (State.coreBack s).cold = s.cold := by
  unfold State.coreBack; rw [State.replaySoft_cold, State.takeHeld_cold]; rfl
@[simp ↓] theorem State.wakeUp_cold (s : State) :
    (State.wakeUp s).cold = s.cold := by
  simp [State.wakeUp]
@[simp ↓] theorem State.memoryRestart_cold (s : State) (m : Manager) (cut : Option CutXfer) :
    (State.memoryRestart s m cut).cold = s.cold := by
  unfold State.memoryRestart; split
  · dsimp only; split <;> simp
  · rfl
@[simp ↓] theorem State.spoilPair_cold (s : State) (m : Manager) (i : Nat) :
    (State.spoilPair s m i).cold = s.cold := by
  unfold State.spoilPair; dsimp only; rw [State.updMgr_cold]; simp [State.spoil]
@[simp ↓] theorem State.spoilPatch_cold (s : State) (m : Manager) (i : ℕ) :
    (State.spoilPatch s m i).cold = s.cold := by
  unfold State.spoilPatch; dsimp only; (repeat' split) <;> (first | with_reducible rfl | (simp; done) | (simp only [↓State.forEach_cold, ↓State.when_cold]; done) | (refine State.forEach_cold _ _ _ ?_; intro s a; (repeat' split) <;> (first | with_reducible rfl | (simp; done))))
@[simp ↓] theorem State.wdMicro_cold (s : State) (m : Manager) :
    (State.wdMicro s m).cold = s.cold := by
  simp [State.wdMicro]
@[simp ↓] theorem State.loopMicro_cold (s : State) :
    (State.loopMicro s).cold = s.cold := by
  unfold State.loopMicro; (repeat' split) <;> (first | with_reducible rfl | (simp; done))
@[simp ↓] theorem State.loopCycle_cold (s : State) :
    (State.loopCycle s).cold = s.cold := by
  exact State.when_cold _ _ _ fun s => (State.laneFalls_cold _).trans (State.when_cold _ _ _ fun _ => rfl)
@[simp ↓] theorem State.appCycle_cold (s : State) :
    (State.appCycle s).cold = s.cold := by
  exact State.when_cold _ _ _ fun _ => rfl
@[simp ↓] theorem State.microsecond_cold (s : State) :
    (State.microsecond s).cold = s.cold := by
  unfold State.microsecond; rw [State.loopMicro_cold, State.wdMicro_cold, State.wdMicro_cold]; rfl
@[simp ↓] theorem State.idleTick_cold (s : State) :
    (State.idleTick s).cold = s.cold := by
  unfold State.idleTick; dsimp only; split
  · rfl
  · split <;> simp <;> rfl
@[simp ↓] theorem State.releaseDump_cold (s : State) (ident : ℕ) :
    (State.releaseDump s ident).cold = s.cold := by
  simp [State.releaseDump]
@[simp ↓] theorem State.acceptResume_cold (s : State) (ident : ℕ) :
    (State.acceptResume s ident).cold = s.cold := by
  simp [State.acceptResume]
@[simp ↓] theorem State.recallOn_cold (s : State) (c : ℕ) :
    (State.recallOn s c).cold = s.cold := by
  simp [State.recallOn]
@[simp ↓] theorem State.takeRecords_cold (s : State) (c : ℕ) :
    (State.takeRecords s c).cold = s.cold := by
  simp [State.takeRecords]
theorem State.takeMessage_cold (s : State) (c : Nat) : (s.takeMessage c).2.cold = s.cold := by
  unfold State.takeMessage; dsimp only; repeat' split
  all_goals simp
@[simp ↓] theorem State.pairTake_cold (s : State) (c : Nat) :
    (State.pairTake s c).cold = s.cold := by
  unfold State.pairTake
  have h := State.takeMessage_cold s c
  split
  · rename_i h1; rw [h1] at h; exact (State.when_cold _ _ _ (by simp)).trans h
  · rename_i h1; rw [h1] at h; exact h
@[simp ↓] theorem State.loopPost_cold (s : State) (total : ℕ) (tag : ℕ) (passed : ℕ) (longest : ℕ) :
    (State.loopPost s total tag passed longest).cold = s.cold := by
  unfold State.loopPost; (repeat' split) <;> (first | with_reducible rfl | (simp; done))
@[simp ↓] theorem State.conTake_cold (s : State) (ch : ℕ) (d : List Word) :
    (State.conTake s ch d).cold = s.cold := by
  unfold State.conTake; (repeat' split) <;> (first | with_reducible rfl | (simp; done))
@[simp ↓] theorem State.busWake_cold (s : State) :
    (State.busWake s).cold = s.cold := by
  simp [State.busWake]
@[simp ↓] theorem State.busRecord_cold (s : State) (code : Option ℕ) (what : ℕ) (index : ℕ) :
    (State.busRecord s code what index).cold = s.cold := by
  simp [State.busRecord]
@[simp ↓] theorem State.invalidData_cold (s : State) :
    (State.invalidData s).cold = s.cold := by
  simp [State.invalidData]
@[simp ↓] theorem State.pecFail_cold (s : State) (code : ℕ) (index : ℕ) :
    (State.pecFail s code index).cold = s.cold := by
  simp [State.pecFail]
@[simp ↓] theorem State.busWrite_cold (s : State) (code : ℕ) (n : ℕ) (b : List Byte) (f : List Byte → State → State) (h : ∀ d s, (f d s).cold = s.cold) : (State.busWrite s code n b f).cold = s.cold := by
  unfold State.busWrite; dsimp only; (repeat' split) <;> simp [h]
@[simp ↓] theorem State.busRead_cold (s : State) (code : ℕ) (sent : List Byte) (data : List Byte) (clocked : ℕ) (commit : State → State) (h : ∀ s, (commit s).cold = s.cold) : (State.busRead s code sent data clocked commit).cold = s.cold := by
  unfold State.busRead; simp [h]
@[simp ↓] theorem State.openRead_cold (s : State) (code : ℕ) (clocked : ℕ) :
    (State.openRead s code clocked).cold = s.cold := by
  simp [State.openRead]
@[simp ↓] theorem State.busCut_cold (s : State) (code : Option Byte) (write : Bool) (what : ℕ) (index : ℕ) :
    (State.busCut s code write what index).cold = s.cold := by
  simp [State.busCut]
@[simp ↓] theorem noWrite_cold (x0 : List Byte) (s : State) :
    (noWrite x0 s).cold = s.cold := by
  simp [noWrite]
@[simp ↓] theorem State.pagedWrite_cold (s : State) (ok : ℕ → Bool) (f : State → ℕ → State) (h : ∀ s n, (f s n).cold = s.cold) : (State.pagedWrite s ok f).cold = s.cold := by
  unfold State.pagedWrite; (repeat' split) <;> simp [h]
@[simp ↓] theorem State.pagedRead_cold (s : State) (code : ℕ) (n : ℕ) (orAll : Bool) (frame : List Byte → List Byte) (f : ℕ → List Byte) (k : ℕ) (commit : State → State) (h : ∀ s, (commit s).cold = s.cold) : (State.pagedRead s code n orAll frame f k commit).cold = s.cold := by
  unfold State.pagedRead; simp [h]
@[simp ↓] theorem State.changeHost_cold (s : State) (n : ℕ) (f : RailHost → RailHost) :
    (State.changeHost s n f).cold = s.cold := by
  simp [State.changeHost]
@[simp ↓] theorem State.setpointWrite_cold (s : State) (value : ℕ → ℕ) (f : State → ℕ → State) (h : ∀ s n, (f s n).cold = s.cold) : (State.setpointWrite s value f).cold = s.cold := by
  unfold State.setpointWrite; (repeat' split) <;> simp [h]
@[simp ↓] theorem State.setLastPost_cold (s : State) (result : ℕ) (c : ℕ) :
    (State.setLastPost s result c).cold = s.cold := by
  simp [State.setLastPost]
@[simp ↓] theorem State.hostPost_cold (s : State) (b : List Byte) :
    (State.hostPost s b).cold = s.cold := by
  simp [State.hostPost]
@[simp ↓] theorem State.mboxAction_cold (s : State) (action : ℕ) (c : ℕ) :
    (State.mboxAction s action c).cold = s.cold := by
  simp [State.mboxAction]
@[simp ↓] theorem State.clearTracker_cold (s : State) (t : ℕ) :
    (State.clearTracker s t).cold = s.cold := by
  simp [State.clearTracker]
@[simp ↓] theorem State.levels_cold (s : State) (x1 : ℕ) (x2 : ℕ) : (State.levels s x1 x2).2.cold = s.cold := by
  induction x2 generalizing x1 s with
  | zero => rfl
  | succ n ih =>
    unfold State.levels
    dsimp only
    cases s.ownLevel x1 with
    | some v => exact ih _ _
    | none => exact (ih _ _).trans rfl
@[simp ↓] theorem State.openSession_cold (s : State) :
    (State.openSession s).cold = s.cold := by
  simp [State.openSession]
@[simp ↓] theorem State.failAnswer_cold (s : State) :
    (State.failAnswer s).cold = s.cold := by
  simp [State.failAnswer]
@[simp ↓] theorem State.done_cold (s : State) (l : List ConLine) :
    (State.done s l).cold = s.cold := by
  simp [State.done]
@[simp ↓] theorem State.svcPost_cold (s : State) (code : ℕ) (payload : List Word) :
    (State.svcPost s code payload).cold = s.cold := by
  unfold State.svcPost; (repeat' split) <;> (first | with_reducible rfl | (simp; done))

end Sys2Proof.Machine
end

