-- ==== Sys2Proof/Laws/Memory.lean ====
section
/-! SUPPORT. The sparse memories: a key reads what was last written to it, a write leaves every other key alone, and every
write keeps the canonical form. -/

namespace Sys2Proof.Machine

section Sparse
variable {α : Type}

/-- A key below every listed key reads as the default. -/
theorem sget_of_lt (d : α) (m : List (Nat × α)) (a : Nat) (h : ∀ x ∈ m, a < x.1) : sget d m a = d := by
  induction m with
  | nil => rfl
  | cons x m ih =>
    have hx : a < x.1 := h x (by simp)
    have hm := ih fun y hy => h y (by simp [hy])
    obtain ⟨k, v⟩ := x
    have : k ≠ a := by simp at hx; omega
    simp [sget, this, hm]

variable [DecidableEq α]

/-- Every key of a write's result was listed before or is the key written. -/
theorem mem_sput (d : α) (m : List (Nat × α)) (a : Nat) (v : α) (x : Nat × α) (h : x ∈ sput d m a v) : x ∈ m ∨ x = (a, v) := by
  induction m with
  | nil => simp only [sput] at h; split at h <;> simp_all
  | cons y m ih =>
    obtain ⟨k, w⟩ := y
    simp only [sput] at h
    split at h
    · split at h <;> simp_all <;> tauto
    · split at h
      · split at h <;> simp_all <;> tauto
      · simp only [List.mem_cons] at h ⊢
        rcases h with h | h
        · exact .inl (.inl h)
        · rcases ih h with h | h
          · exact .inl (.inr h)
          · exact .inr h

/-- No entry of a write's result is the default, if none was. -/
theorem sput_ne_default (d : α) (m : List (Nat × α)) (a : Nat) (v : α) (h : ∀ x ∈ m, x.2 ≠ d) : ∀ x ∈ sput d m a v, x.2 ≠ d := by
  induction m with
  | nil => intro x hx; simp only [sput] at hx; split at hx <;> simp_all
  | cons y m ih =>
    obtain ⟨k, w⟩ := y
    have hk : w ≠ d := h (k, w) (by simp)
    have hm : ∀ x ∈ m, x.2 ≠ d := fun x hx => h x (by simp [hx])
    intro x hx
    simp only [sput] at hx
    split at hx
    · split at hx
      · exact h x hx
      · rcases List.mem_cons.1 hx with rfl | hx
        · assumption
        · exact h x hx
    · split at hx
      · split at hx
        · exact hm x hx
        · rcases List.mem_cons.1 hx with rfl | hx
          · assumption
          · exact hm x hx
      · rcases List.mem_cons.1 hx with rfl | hx
        · exact hk
        · exact ih hm x hx

/-- A write keeps the canonical form. -/
theorem sput_wf (d : α) (m : List (Nat × α)) (a : Nat) (v : α) (h : Sparse.wf d m) : Sparse.wf d (sput d m a v) := by
  refine ⟨?_, sput_ne_default d m a v h.2⟩
  obtain ⟨hp, -⟩ := h
  induction m with
  | nil => simp only [sput]; split <;> simp
  | cons y m ih =>
    obtain ⟨k, w⟩ := y
    rw [List.pairwise_cons] at hp
    simp only [sput]
    split
    · split
      · exact List.pairwise_cons.2 hp
      · refine List.pairwise_cons.2 ⟨fun z hz => ?_, List.pairwise_cons.2 hp⟩
        rcases List.mem_cons.1 hz with rfl | hz
        · assumption
        · exact lt_trans ‹_› (hp.1 z hz)
    · split
      · split
        · exact hp.2
        · exact List.pairwise_cons.2 ⟨fun z hz => by have := hp.1 z hz; simp_all, hp.2⟩
      · refine List.pairwise_cons.2 ⟨fun z hz => ?_, ih hp.2⟩
        rcases mem_sput d m a v z hz with hz | rfl
        · exact hp.1 z hz
        · simp; omega

/-- A read after a write to the same key. -/
theorem sget_sput_self (d : α) (m : List (Nat × α)) (a : Nat) (v : α) (h : Sparse.wf d m) : sget d (sput d m a v) a = v := by
  obtain ⟨hp, -⟩ := h
  induction m with
  | nil => simp only [sput]; split <;> simp_all [sget]
  | cons y m ih =>
    obtain ⟨k, w⟩ := y
    rw [List.pairwise_cons] at hp
    simp only [sput]
    split
    · split
      · subst_vars
        refine sget_of_lt _ _ _ fun z hz => ?_
        rcases List.mem_cons.1 hz with rfl | hz
        · assumption
        · exact lt_trans ‹_› (hp.1 z hz)
      · simp [sget]
    · split
      · split
        · subst_vars
          exact sget_of_lt _ _ _ fun z hz => hp.1 z hz
        · simp [sget]
      · have : k ≠ a := by omega
        simp [sget, this, ih hp.2]

/-- A write leaves every other key alone. -/
theorem sget_sput_ne (d : α) (m : List (Nat × α)) (a b : Nat) (v : α) (hab : a ≠ b) (h : Sparse.wf d m) :
    sget d (sput d m a v) b = sget d m b := by
  obtain ⟨hp, -⟩ := h
  induction m with
  | nil => simp only [sput]; split <;> simp [sget, hab]
  | cons y m ih =>
    obtain ⟨k, w⟩ := y
    rw [List.pairwise_cons] at hp
    simp only [sput]
    split
    · split <;> simp [sget, hab]
    · split
      · subst_vars
        split
        · rw [sget, if_neg hab]
        · simp [sget, hab]
      · simp only [sget]; split
        · rfl
        · exact ih hp.2

/-- Writes of consecutive keys keep the canonical form. -/
theorem sputs_wf (d : α) (m : List (Nat × α)) (a : Nat) (vs : List α) (h : Sparse.wf d m) : Sparse.wf d (sputs d m a vs) := by
  induction vs generalizing m a with
  | nil => exact h
  | cons v vs ih => exact ih _ _ (sput_wf d m a v h)

/-- Writes of consecutive keys leave every key outside them alone. -/
theorem sget_sputs_ne (d : α) (m : List (Nat × α)) (a : Nat) (vs : List α) (b : Nat) (hb : b < a ∨ a + vs.length ≤ b) (h : Sparse.wf d m) :
    sget d (sputs d m a vs) b = sget d m b := by
  induction vs generalizing m a with
  | nil => rfl
  | cons v vs ih =>
    simp only [List.length_cons] at hb
    rw [sputs, ih _ _ (by omega) (sput_wf d m a v h), sget_sput_ne d m a b v (by omega) h]

end Sparse

/-- Programming flash bytes keeps the flash in canonical form. -/
theorem State.putFlash_wf (s : State) (b : Bool) (off : Nat) (bs : List Byte) (h : Memory.wf 0xFF s.flash) :
    Memory.wf 0xFF (s.putFlash b off bs).flash := sputs_wf _ _ _ _ h

/-- Writing a storage unit keeps the shadow in canonical form. -/
theorem State.putShadow_wf (s : State) (sec off n v : Nat) (h : Memory.wf 0 s.shadow) :
    Memory.wf 0 (s.putShadow sec off n v).shadow := sputs_wf _ _ _ _ h

/-- Writing a storage unit leaves every byte outside it as it was. -/
theorem State.putShadow_other (s : State) (sec off n v b : Nat) (hb : b < shadowKey sec off ∨ shadowKey sec off + n ≤ b)
    (h : Memory.wf 0 s.shadow) : sget 0 (s.putShadow sec off n v).shadow b = sget 0 s.shadow b :=
  sget_sputs_ne _ _ _ _ _ (by simpa [leBytes] using hb) h

end Sys2Proof.Machine
end

