-- ==== Sys2Proof/Laws/State.lean ====
section
/-! SUPPORT. What each named update of the state does to each field of it: one lemma per field per update, and what an
element reads as after an update of its group. -/

namespace Sys2Proof.Machine

/-! ### updRail -/

@[simp] theorem State.updRail_clock (s : State) (n : Nat) (f : Rail → Rail) : (s.updRail n f).clock = s.clock := rfl
@[simp] theorem State.updRail_pins (s : State) (n : Nat) (f : Rail → Rail) : (s.updRail n f).pins = s.pins := rfl
@[simp] theorem State.updRail_boot (s : State) (n : Nat) (f : Rail → Rail) : (s.updRail n f).boot = s.boot := rfl
@[simp] theorem State.updRail_varnish (s : State) (n : Nat) (f : Rail → Rail) : (s.updRail n f).varnish = s.varnish := rfl
@[simp] theorem State.updRail_fuses (s : State) (n : Nat) (f : Rail → Rail) : (s.updRail n f).fuses = s.fuses := rfl
@[simp] theorem State.updRail_ident (s : State) (n : Nat) (f : Rail → Rail) : (s.updRail n f).ident = s.ident := rfl
@[simp] theorem State.updRail_rom (s : State) (n : Nat) (f : Rail → Rail) : (s.updRail n f).rom = s.rom := rfl
@[simp] theorem State.updRail_flash (s : State) (n : Nat) (f : Rail → Rail) : (s.updRail n f).flash = s.flash := rfl
@[simp] theorem State.updRail_shadow (s : State) (n : Nat) (f : Rail → Rail) : (s.updRail n f).shadow = s.shadow := rfl
@[simp] theorem State.updRail_wetHeld (s : State) (n : Nat) (f : Rail → Rail) : (s.updRail n f).wetHeld = s.wetHeld := rfl
@[simp] theorem State.updRail_palette (s : State) (n : Nat) (f : Rail → Rail) : (s.updRail n f).palette = s.palette := rfl
@[simp] theorem State.updRail_ports (s : State) (n : Nat) (f : Rail → Rail) : (s.updRail n f).ports = s.ports := rfl
@[simp] theorem State.updRail_rails (s : State) (n : Nat) (f : Rail → Rail) : (s.updRail n f).rails = s.rails.modify n f := rfl
@[simp] theorem State.updRail_phases (s : State) (n : Nat) (f : Rail → Rail) : (s.updRail n f).phases = s.phases := rfl
@[simp] theorem State.updRail_cells (s : State) (n : Nat) (f : Rail → Rail) : (s.updRail n f).cells = s.cells := rfl
@[simp] theorem State.updRail_links (s : State) (n : Nat) (f : Rail → Rail) : (s.updRail n f).links = s.links := rfl
@[simp] theorem State.updRail_comps (s : State) (n : Nat) (f : Rail → Rail) : (s.updRail n f).comps = s.comps := rfl
@[simp] theorem State.updRail_timers (s : State) (n : Nat) (f : Rail → Rail) : (s.updRail n f).timers = s.timers := rfl
@[simp] theorem State.updRail_router (s : State) (n : Nat) (f : Rail → Rail) : (s.updRail n f).router = s.router := rfl
@[simp] theorem State.updRail_input (s : State) (n : Nat) (f : Rail → Rail) : (s.updRail n f).input = s.input := rfl
@[simp] theorem State.updRail_telem (s : State) (n : Nat) (f : Rail → Rail) : (s.updRail n f).telem = s.telem := rfl
@[simp] theorem State.updRail_app (s : State) (n : Nat) (f : Rail → Rail) : (s.updRail n f).app = s.app := rfl
@[simp] theorem State.updRail_cross (s : State) (n : Nat) (f : Rail → Rail) : (s.updRail n f).cross = s.cross := rfl
@[simp] theorem State.updRail_rm (s : State) (n : Nat) (f : Rail → Rail) : (s.updRail n f).rm = s.rm := rfl
@[simp] theorem State.updRail_hm (s : State) (n : Nat) (f : Rail → Rail) : (s.updRail n f).hm = s.hm := rfl
@[simp] theorem State.updRail_ret (s : State) (n : Nat) (f : Rail → Rail) : (s.updRail n f).ret = s.ret := rfl
@[simp] theorem State.updRail_safe (s : State) (n : Nat) (f : Rail → Rail) : (s.updRail n f).safe = s.safe := rfl
@[simp] theorem State.updRail_dump (s : State) (n : Nat) (f : Rail → Rail) : (s.updRail n f).dump = s.dump := rfl
@[simp] theorem State.updRail_sketch (s : State) (n : Nat) (f : Rail → Rail) : (s.updRail n f).sketch = s.sketch := rfl
@[simp] theorem State.updRail_work (s : State) (n : Nat) (f : Rail → Rail) : (s.updRail n f).work = s.work := rfl
@[simp] theorem State.updRail_mail (s : State) (n : Nat) (f : Rail → Rail) : (s.updRail n f).mail = s.mail := rfl
@[simp] theorem State.updRail_bus (s : State) (n : Nat) (f : Rail → Rail) : (s.updRail n f).bus = s.bus := rfl
@[simp] theorem State.updRail_pm (s : State) (n : Nat) (f : Rail → Rail) : (s.updRail n f).pm = s.pm := rfl
@[simp] theorem State.updRail_con (s : State) (n : Nat) (f : Rail → Rail) : (s.updRail n f).con = s.con := rfl
@[simp] theorem State.updRail_tap (s : State) (n : Nat) (f : Rail → Rail) : (s.updRail n f).tap = s.tap := rfl
@[simp] theorem State.updRail_ecc (s : State) (n : Nat) (f : Rail → Rail) : (s.updRail n f).ecc = s.ecc := rfl
@[simp] theorem State.updRail_free (s : State) (n : Nat) (f : Rail → Rail) : (s.updRail n f).free = s.free := rfl
@[simp] theorem State.updRail_pending (s : State) (n : Nat) (f : Rail → Rail) : (s.updRail n f).pending = s.pending := rfl

/-! ### mapRails -/

@[simp] theorem State.mapRails_clock (s : State) (f : Nat → Rail → Rail) : (s.mapRails f).clock = s.clock := rfl
@[simp] theorem State.mapRails_pins (s : State) (f : Nat → Rail → Rail) : (s.mapRails f).pins = s.pins := rfl
@[simp] theorem State.mapRails_boot (s : State) (f : Nat → Rail → Rail) : (s.mapRails f).boot = s.boot := rfl
@[simp] theorem State.mapRails_varnish (s : State) (f : Nat → Rail → Rail) : (s.mapRails f).varnish = s.varnish := rfl
@[simp] theorem State.mapRails_fuses (s : State) (f : Nat → Rail → Rail) : (s.mapRails f).fuses = s.fuses := rfl
@[simp] theorem State.mapRails_ident (s : State) (f : Nat → Rail → Rail) : (s.mapRails f).ident = s.ident := rfl
@[simp] theorem State.mapRails_rom (s : State) (f : Nat → Rail → Rail) : (s.mapRails f).rom = s.rom := rfl
@[simp] theorem State.mapRails_flash (s : State) (f : Nat → Rail → Rail) : (s.mapRails f).flash = s.flash := rfl
@[simp] theorem State.mapRails_shadow (s : State) (f : Nat → Rail → Rail) : (s.mapRails f).shadow = s.shadow := rfl
@[simp] theorem State.mapRails_wetHeld (s : State) (f : Nat → Rail → Rail) : (s.mapRails f).wetHeld = s.wetHeld := rfl
@[simp] theorem State.mapRails_palette (s : State) (f : Nat → Rail → Rail) : (s.mapRails f).palette = s.palette := rfl
@[simp] theorem State.mapRails_ports (s : State) (f : Nat → Rail → Rail) : (s.mapRails f).ports = s.ports := rfl
@[simp] theorem State.mapRails_rails (s : State) (f : Nat → Rail → Rail) : (s.mapRails f).rails = s.rails.mapIdx f := rfl
@[simp] theorem State.mapRails_phases (s : State) (f : Nat → Rail → Rail) : (s.mapRails f).phases = s.phases := rfl
@[simp] theorem State.mapRails_cells (s : State) (f : Nat → Rail → Rail) : (s.mapRails f).cells = s.cells := rfl
@[simp] theorem State.mapRails_links (s : State) (f : Nat → Rail → Rail) : (s.mapRails f).links = s.links := rfl
@[simp] theorem State.mapRails_comps (s : State) (f : Nat → Rail → Rail) : (s.mapRails f).comps = s.comps := rfl
@[simp] theorem State.mapRails_timers (s : State) (f : Nat → Rail → Rail) : (s.mapRails f).timers = s.timers := rfl
@[simp] theorem State.mapRails_router (s : State) (f : Nat → Rail → Rail) : (s.mapRails f).router = s.router := rfl
@[simp] theorem State.mapRails_input (s : State) (f : Nat → Rail → Rail) : (s.mapRails f).input = s.input := rfl
@[simp] theorem State.mapRails_telem (s : State) (f : Nat → Rail → Rail) : (s.mapRails f).telem = s.telem := rfl
@[simp] theorem State.mapRails_app (s : State) (f : Nat → Rail → Rail) : (s.mapRails f).app = s.app := rfl
@[simp] theorem State.mapRails_cross (s : State) (f : Nat → Rail → Rail) : (s.mapRails f).cross = s.cross := rfl
@[simp] theorem State.mapRails_rm (s : State) (f : Nat → Rail → Rail) : (s.mapRails f).rm = s.rm := rfl
@[simp] theorem State.mapRails_hm (s : State) (f : Nat → Rail → Rail) : (s.mapRails f).hm = s.hm := rfl
@[simp] theorem State.mapRails_ret (s : State) (f : Nat → Rail → Rail) : (s.mapRails f).ret = s.ret := rfl
@[simp] theorem State.mapRails_safe (s : State) (f : Nat → Rail → Rail) : (s.mapRails f).safe = s.safe := rfl
@[simp] theorem State.mapRails_dump (s : State) (f : Nat → Rail → Rail) : (s.mapRails f).dump = s.dump := rfl
@[simp] theorem State.mapRails_sketch (s : State) (f : Nat → Rail → Rail) : (s.mapRails f).sketch = s.sketch := rfl
@[simp] theorem State.mapRails_work (s : State) (f : Nat → Rail → Rail) : (s.mapRails f).work = s.work := rfl
@[simp] theorem State.mapRails_mail (s : State) (f : Nat → Rail → Rail) : (s.mapRails f).mail = s.mail := rfl
@[simp] theorem State.mapRails_bus (s : State) (f : Nat → Rail → Rail) : (s.mapRails f).bus = s.bus := rfl
@[simp] theorem State.mapRails_pm (s : State) (f : Nat → Rail → Rail) : (s.mapRails f).pm = s.pm := rfl
@[simp] theorem State.mapRails_con (s : State) (f : Nat → Rail → Rail) : (s.mapRails f).con = s.con := rfl
@[simp] theorem State.mapRails_tap (s : State) (f : Nat → Rail → Rail) : (s.mapRails f).tap = s.tap := rfl
@[simp] theorem State.mapRails_ecc (s : State) (f : Nat → Rail → Rail) : (s.mapRails f).ecc = s.ecc := rfl
@[simp] theorem State.mapRails_free (s : State) (f : Nat → Rail → Rail) : (s.mapRails f).free = s.free := rfl
@[simp] theorem State.mapRails_pending (s : State) (f : Nat → Rail → Rail) : (s.mapRails f).pending = s.pending := rfl

/-! ### updPhase -/

@[simp] theorem State.updPhase_clock (s : State) (p : Nat) (f : Phase → Phase) : (s.updPhase p f).clock = s.clock := rfl
@[simp] theorem State.updPhase_pins (s : State) (p : Nat) (f : Phase → Phase) : (s.updPhase p f).pins = s.pins := rfl
@[simp] theorem State.updPhase_boot (s : State) (p : Nat) (f : Phase → Phase) : (s.updPhase p f).boot = s.boot := rfl
@[simp] theorem State.updPhase_varnish (s : State) (p : Nat) (f : Phase → Phase) : (s.updPhase p f).varnish = s.varnish := rfl
@[simp] theorem State.updPhase_fuses (s : State) (p : Nat) (f : Phase → Phase) : (s.updPhase p f).fuses = s.fuses := rfl
@[simp] theorem State.updPhase_ident (s : State) (p : Nat) (f : Phase → Phase) : (s.updPhase p f).ident = s.ident := rfl
@[simp] theorem State.updPhase_rom (s : State) (p : Nat) (f : Phase → Phase) : (s.updPhase p f).rom = s.rom := rfl
@[simp] theorem State.updPhase_flash (s : State) (p : Nat) (f : Phase → Phase) : (s.updPhase p f).flash = s.flash := rfl
@[simp] theorem State.updPhase_shadow (s : State) (p : Nat) (f : Phase → Phase) : (s.updPhase p f).shadow = s.shadow := rfl
@[simp] theorem State.updPhase_wetHeld (s : State) (p : Nat) (f : Phase → Phase) : (s.updPhase p f).wetHeld = s.wetHeld := rfl
@[simp] theorem State.updPhase_palette (s : State) (p : Nat) (f : Phase → Phase) : (s.updPhase p f).palette = s.palette := rfl
@[simp] theorem State.updPhase_ports (s : State) (p : Nat) (f : Phase → Phase) : (s.updPhase p f).ports = s.ports := rfl
@[simp] theorem State.updPhase_rails (s : State) (p : Nat) (f : Phase → Phase) : (s.updPhase p f).rails = s.rails := rfl
@[simp] theorem State.updPhase_phases (s : State) (p : Nat) (f : Phase → Phase) : (s.updPhase p f).phases = s.phases.modify p f := rfl
@[simp] theorem State.updPhase_cells (s : State) (p : Nat) (f : Phase → Phase) : (s.updPhase p f).cells = s.cells := rfl
@[simp] theorem State.updPhase_links (s : State) (p : Nat) (f : Phase → Phase) : (s.updPhase p f).links = s.links := rfl
@[simp] theorem State.updPhase_comps (s : State) (p : Nat) (f : Phase → Phase) : (s.updPhase p f).comps = s.comps := rfl
@[simp] theorem State.updPhase_timers (s : State) (p : Nat) (f : Phase → Phase) : (s.updPhase p f).timers = s.timers := rfl
@[simp] theorem State.updPhase_router (s : State) (p : Nat) (f : Phase → Phase) : (s.updPhase p f).router = s.router := rfl
@[simp] theorem State.updPhase_input (s : State) (p : Nat) (f : Phase → Phase) : (s.updPhase p f).input = s.input := rfl
@[simp] theorem State.updPhase_telem (s : State) (p : Nat) (f : Phase → Phase) : (s.updPhase p f).telem = s.telem := rfl
@[simp] theorem State.updPhase_app (s : State) (p : Nat) (f : Phase → Phase) : (s.updPhase p f).app = s.app := rfl
@[simp] theorem State.updPhase_cross (s : State) (p : Nat) (f : Phase → Phase) : (s.updPhase p f).cross = s.cross := rfl
@[simp] theorem State.updPhase_rm (s : State) (p : Nat) (f : Phase → Phase) : (s.updPhase p f).rm = s.rm := rfl
@[simp] theorem State.updPhase_hm (s : State) (p : Nat) (f : Phase → Phase) : (s.updPhase p f).hm = s.hm := rfl
@[simp] theorem State.updPhase_ret (s : State) (p : Nat) (f : Phase → Phase) : (s.updPhase p f).ret = s.ret := rfl
@[simp] theorem State.updPhase_safe (s : State) (p : Nat) (f : Phase → Phase) : (s.updPhase p f).safe = s.safe := rfl
@[simp] theorem State.updPhase_dump (s : State) (p : Nat) (f : Phase → Phase) : (s.updPhase p f).dump = s.dump := rfl
@[simp] theorem State.updPhase_sketch (s : State) (p : Nat) (f : Phase → Phase) : (s.updPhase p f).sketch = s.sketch := rfl
@[simp] theorem State.updPhase_work (s : State) (p : Nat) (f : Phase → Phase) : (s.updPhase p f).work = s.work := rfl
@[simp] theorem State.updPhase_mail (s : State) (p : Nat) (f : Phase → Phase) : (s.updPhase p f).mail = s.mail := rfl
@[simp] theorem State.updPhase_bus (s : State) (p : Nat) (f : Phase → Phase) : (s.updPhase p f).bus = s.bus := rfl
@[simp] theorem State.updPhase_pm (s : State) (p : Nat) (f : Phase → Phase) : (s.updPhase p f).pm = s.pm := rfl
@[simp] theorem State.updPhase_con (s : State) (p : Nat) (f : Phase → Phase) : (s.updPhase p f).con = s.con := rfl
@[simp] theorem State.updPhase_tap (s : State) (p : Nat) (f : Phase → Phase) : (s.updPhase p f).tap = s.tap := rfl
@[simp] theorem State.updPhase_ecc (s : State) (p : Nat) (f : Phase → Phase) : (s.updPhase p f).ecc = s.ecc := rfl
@[simp] theorem State.updPhase_free (s : State) (p : Nat) (f : Phase → Phase) : (s.updPhase p f).free = s.free := rfl
@[simp] theorem State.updPhase_pending (s : State) (p : Nat) (f : Phase → Phase) : (s.updPhase p f).pending = s.pending := rfl

/-! ### mapPhases -/

@[simp] theorem State.mapPhases_clock (s : State) (f : Nat → Phase → Phase) : (s.mapPhases f).clock = s.clock := rfl
@[simp] theorem State.mapPhases_pins (s : State) (f : Nat → Phase → Phase) : (s.mapPhases f).pins = s.pins := rfl
@[simp] theorem State.mapPhases_boot (s : State) (f : Nat → Phase → Phase) : (s.mapPhases f).boot = s.boot := rfl
@[simp] theorem State.mapPhases_varnish (s : State) (f : Nat → Phase → Phase) : (s.mapPhases f).varnish = s.varnish := rfl
@[simp] theorem State.mapPhases_fuses (s : State) (f : Nat → Phase → Phase) : (s.mapPhases f).fuses = s.fuses := rfl
@[simp] theorem State.mapPhases_ident (s : State) (f : Nat → Phase → Phase) : (s.mapPhases f).ident = s.ident := rfl
@[simp] theorem State.mapPhases_rom (s : State) (f : Nat → Phase → Phase) : (s.mapPhases f).rom = s.rom := rfl
@[simp] theorem State.mapPhases_flash (s : State) (f : Nat → Phase → Phase) : (s.mapPhases f).flash = s.flash := rfl
@[simp] theorem State.mapPhases_shadow (s : State) (f : Nat → Phase → Phase) : (s.mapPhases f).shadow = s.shadow := rfl
@[simp] theorem State.mapPhases_wetHeld (s : State) (f : Nat → Phase → Phase) : (s.mapPhases f).wetHeld = s.wetHeld := rfl
@[simp] theorem State.mapPhases_palette (s : State) (f : Nat → Phase → Phase) : (s.mapPhases f).palette = s.palette := rfl
@[simp] theorem State.mapPhases_ports (s : State) (f : Nat → Phase → Phase) : (s.mapPhases f).ports = s.ports := rfl
@[simp] theorem State.mapPhases_rails (s : State) (f : Nat → Phase → Phase) : (s.mapPhases f).rails = s.rails := rfl
@[simp] theorem State.mapPhases_phases (s : State) (f : Nat → Phase → Phase) : (s.mapPhases f).phases = s.phases.mapIdx f := rfl
@[simp] theorem State.mapPhases_cells (s : State) (f : Nat → Phase → Phase) : (s.mapPhases f).cells = s.cells := rfl
@[simp] theorem State.mapPhases_links (s : State) (f : Nat → Phase → Phase) : (s.mapPhases f).links = s.links := rfl
@[simp] theorem State.mapPhases_comps (s : State) (f : Nat → Phase → Phase) : (s.mapPhases f).comps = s.comps := rfl
@[simp] theorem State.mapPhases_timers (s : State) (f : Nat → Phase → Phase) : (s.mapPhases f).timers = s.timers := rfl
@[simp] theorem State.mapPhases_router (s : State) (f : Nat → Phase → Phase) : (s.mapPhases f).router = s.router := rfl
@[simp] theorem State.mapPhases_input (s : State) (f : Nat → Phase → Phase) : (s.mapPhases f).input = s.input := rfl
@[simp] theorem State.mapPhases_telem (s : State) (f : Nat → Phase → Phase) : (s.mapPhases f).telem = s.telem := rfl
@[simp] theorem State.mapPhases_app (s : State) (f : Nat → Phase → Phase) : (s.mapPhases f).app = s.app := rfl
@[simp] theorem State.mapPhases_cross (s : State) (f : Nat → Phase → Phase) : (s.mapPhases f).cross = s.cross := rfl
@[simp] theorem State.mapPhases_rm (s : State) (f : Nat → Phase → Phase) : (s.mapPhases f).rm = s.rm := rfl
@[simp] theorem State.mapPhases_hm (s : State) (f : Nat → Phase → Phase) : (s.mapPhases f).hm = s.hm := rfl
@[simp] theorem State.mapPhases_ret (s : State) (f : Nat → Phase → Phase) : (s.mapPhases f).ret = s.ret := rfl
@[simp] theorem State.mapPhases_safe (s : State) (f : Nat → Phase → Phase) : (s.mapPhases f).safe = s.safe := rfl
@[simp] theorem State.mapPhases_dump (s : State) (f : Nat → Phase → Phase) : (s.mapPhases f).dump = s.dump := rfl
@[simp] theorem State.mapPhases_sketch (s : State) (f : Nat → Phase → Phase) : (s.mapPhases f).sketch = s.sketch := rfl
@[simp] theorem State.mapPhases_work (s : State) (f : Nat → Phase → Phase) : (s.mapPhases f).work = s.work := rfl
@[simp] theorem State.mapPhases_mail (s : State) (f : Nat → Phase → Phase) : (s.mapPhases f).mail = s.mail := rfl
@[simp] theorem State.mapPhases_bus (s : State) (f : Nat → Phase → Phase) : (s.mapPhases f).bus = s.bus := rfl
@[simp] theorem State.mapPhases_pm (s : State) (f : Nat → Phase → Phase) : (s.mapPhases f).pm = s.pm := rfl
@[simp] theorem State.mapPhases_con (s : State) (f : Nat → Phase → Phase) : (s.mapPhases f).con = s.con := rfl
@[simp] theorem State.mapPhases_tap (s : State) (f : Nat → Phase → Phase) : (s.mapPhases f).tap = s.tap := rfl
@[simp] theorem State.mapPhases_ecc (s : State) (f : Nat → Phase → Phase) : (s.mapPhases f).ecc = s.ecc := rfl
@[simp] theorem State.mapPhases_free (s : State) (f : Nat → Phase → Phase) : (s.mapPhases f).free = s.free := rfl
@[simp] theorem State.mapPhases_pending (s : State) (f : Nat → Phase → Phase) : (s.mapPhases f).pending = s.pending := rfl

/-! ### updCell -/

@[simp] theorem State.updCell_clock (s : State) (c : Nat) (f : Cell → Cell) : (s.updCell c f).clock = s.clock := rfl
@[simp] theorem State.updCell_pins (s : State) (c : Nat) (f : Cell → Cell) : (s.updCell c f).pins = s.pins := rfl
@[simp] theorem State.updCell_boot (s : State) (c : Nat) (f : Cell → Cell) : (s.updCell c f).boot = s.boot := rfl
@[simp] theorem State.updCell_varnish (s : State) (c : Nat) (f : Cell → Cell) : (s.updCell c f).varnish = s.varnish := rfl
@[simp] theorem State.updCell_fuses (s : State) (c : Nat) (f : Cell → Cell) : (s.updCell c f).fuses = s.fuses := rfl
@[simp] theorem State.updCell_ident (s : State) (c : Nat) (f : Cell → Cell) : (s.updCell c f).ident = s.ident := rfl
@[simp] theorem State.updCell_rom (s : State) (c : Nat) (f : Cell → Cell) : (s.updCell c f).rom = s.rom := rfl
@[simp] theorem State.updCell_flash (s : State) (c : Nat) (f : Cell → Cell) : (s.updCell c f).flash = s.flash := rfl
@[simp] theorem State.updCell_shadow (s : State) (c : Nat) (f : Cell → Cell) : (s.updCell c f).shadow = s.shadow := rfl
@[simp] theorem State.updCell_wetHeld (s : State) (c : Nat) (f : Cell → Cell) : (s.updCell c f).wetHeld = s.wetHeld := rfl
@[simp] theorem State.updCell_palette (s : State) (c : Nat) (f : Cell → Cell) : (s.updCell c f).palette = s.palette := rfl
@[simp] theorem State.updCell_ports (s : State) (c : Nat) (f : Cell → Cell) : (s.updCell c f).ports = s.ports := rfl
@[simp] theorem State.updCell_rails (s : State) (c : Nat) (f : Cell → Cell) : (s.updCell c f).rails = s.rails := rfl
@[simp] theorem State.updCell_phases (s : State) (c : Nat) (f : Cell → Cell) : (s.updCell c f).phases = s.phases := rfl
@[simp] theorem State.updCell_cells (s : State) (c : Nat) (f : Cell → Cell) : (s.updCell c f).cells = s.cells.modify c f := rfl
@[simp] theorem State.updCell_links (s : State) (c : Nat) (f : Cell → Cell) : (s.updCell c f).links = s.links := rfl
@[simp] theorem State.updCell_comps (s : State) (c : Nat) (f : Cell → Cell) : (s.updCell c f).comps = s.comps := rfl
@[simp] theorem State.updCell_timers (s : State) (c : Nat) (f : Cell → Cell) : (s.updCell c f).timers = s.timers := rfl
@[simp] theorem State.updCell_router (s : State) (c : Nat) (f : Cell → Cell) : (s.updCell c f).router = s.router := rfl
@[simp] theorem State.updCell_input (s : State) (c : Nat) (f : Cell → Cell) : (s.updCell c f).input = s.input := rfl
@[simp] theorem State.updCell_telem (s : State) (c : Nat) (f : Cell → Cell) : (s.updCell c f).telem = s.telem := rfl
@[simp] theorem State.updCell_app (s : State) (c : Nat) (f : Cell → Cell) : (s.updCell c f).app = s.app := rfl
@[simp] theorem State.updCell_cross (s : State) (c : Nat) (f : Cell → Cell) : (s.updCell c f).cross = s.cross := rfl
@[simp] theorem State.updCell_rm (s : State) (c : Nat) (f : Cell → Cell) : (s.updCell c f).rm = s.rm := rfl
@[simp] theorem State.updCell_hm (s : State) (c : Nat) (f : Cell → Cell) : (s.updCell c f).hm = s.hm := rfl
@[simp] theorem State.updCell_ret (s : State) (c : Nat) (f : Cell → Cell) : (s.updCell c f).ret = s.ret := rfl
@[simp] theorem State.updCell_safe (s : State) (c : Nat) (f : Cell → Cell) : (s.updCell c f).safe = s.safe := rfl
@[simp] theorem State.updCell_dump (s : State) (c : Nat) (f : Cell → Cell) : (s.updCell c f).dump = s.dump := rfl
@[simp] theorem State.updCell_sketch (s : State) (c : Nat) (f : Cell → Cell) : (s.updCell c f).sketch = s.sketch := rfl
@[simp] theorem State.updCell_work (s : State) (c : Nat) (f : Cell → Cell) : (s.updCell c f).work = s.work := rfl
@[simp] theorem State.updCell_mail (s : State) (c : Nat) (f : Cell → Cell) : (s.updCell c f).mail = s.mail := rfl
@[simp] theorem State.updCell_bus (s : State) (c : Nat) (f : Cell → Cell) : (s.updCell c f).bus = s.bus := rfl
@[simp] theorem State.updCell_pm (s : State) (c : Nat) (f : Cell → Cell) : (s.updCell c f).pm = s.pm := rfl
@[simp] theorem State.updCell_con (s : State) (c : Nat) (f : Cell → Cell) : (s.updCell c f).con = s.con := rfl
@[simp] theorem State.updCell_tap (s : State) (c : Nat) (f : Cell → Cell) : (s.updCell c f).tap = s.tap := rfl
@[simp] theorem State.updCell_ecc (s : State) (c : Nat) (f : Cell → Cell) : (s.updCell c f).ecc = s.ecc := rfl
@[simp] theorem State.updCell_free (s : State) (c : Nat) (f : Cell → Cell) : (s.updCell c f).free = s.free := rfl
@[simp] theorem State.updCell_pending (s : State) (c : Nat) (f : Cell → Cell) : (s.updCell c f).pending = s.pending := rfl

/-! ### mapCells -/

@[simp] theorem State.mapCells_clock (s : State) (f : Nat → Cell → Cell) : (s.mapCells f).clock = s.clock := rfl
@[simp] theorem State.mapCells_pins (s : State) (f : Nat → Cell → Cell) : (s.mapCells f).pins = s.pins := rfl
@[simp] theorem State.mapCells_boot (s : State) (f : Nat → Cell → Cell) : (s.mapCells f).boot = s.boot := rfl
@[simp] theorem State.mapCells_varnish (s : State) (f : Nat → Cell → Cell) : (s.mapCells f).varnish = s.varnish := rfl
@[simp] theorem State.mapCells_fuses (s : State) (f : Nat → Cell → Cell) : (s.mapCells f).fuses = s.fuses := rfl
@[simp] theorem State.mapCells_ident (s : State) (f : Nat → Cell → Cell) : (s.mapCells f).ident = s.ident := rfl
@[simp] theorem State.mapCells_rom (s : State) (f : Nat → Cell → Cell) : (s.mapCells f).rom = s.rom := rfl
@[simp] theorem State.mapCells_flash (s : State) (f : Nat → Cell → Cell) : (s.mapCells f).flash = s.flash := rfl
@[simp] theorem State.mapCells_shadow (s : State) (f : Nat → Cell → Cell) : (s.mapCells f).shadow = s.shadow := rfl
@[simp] theorem State.mapCells_wetHeld (s : State) (f : Nat → Cell → Cell) : (s.mapCells f).wetHeld = s.wetHeld := rfl
@[simp] theorem State.mapCells_palette (s : State) (f : Nat → Cell → Cell) : (s.mapCells f).palette = s.palette := rfl
@[simp] theorem State.mapCells_ports (s : State) (f : Nat → Cell → Cell) : (s.mapCells f).ports = s.ports := rfl
@[simp] theorem State.mapCells_rails (s : State) (f : Nat → Cell → Cell) : (s.mapCells f).rails = s.rails := rfl
@[simp] theorem State.mapCells_phases (s : State) (f : Nat → Cell → Cell) : (s.mapCells f).phases = s.phases := rfl
@[simp] theorem State.mapCells_cells (s : State) (f : Nat → Cell → Cell) : (s.mapCells f).cells = s.cells.mapIdx f := rfl
@[simp] theorem State.mapCells_links (s : State) (f : Nat → Cell → Cell) : (s.mapCells f).links = s.links := rfl
@[simp] theorem State.mapCells_comps (s : State) (f : Nat → Cell → Cell) : (s.mapCells f).comps = s.comps := rfl
@[simp] theorem State.mapCells_timers (s : State) (f : Nat → Cell → Cell) : (s.mapCells f).timers = s.timers := rfl
@[simp] theorem State.mapCells_router (s : State) (f : Nat → Cell → Cell) : (s.mapCells f).router = s.router := rfl
@[simp] theorem State.mapCells_input (s : State) (f : Nat → Cell → Cell) : (s.mapCells f).input = s.input := rfl
@[simp] theorem State.mapCells_telem (s : State) (f : Nat → Cell → Cell) : (s.mapCells f).telem = s.telem := rfl
@[simp] theorem State.mapCells_app (s : State) (f : Nat → Cell → Cell) : (s.mapCells f).app = s.app := rfl
@[simp] theorem State.mapCells_cross (s : State) (f : Nat → Cell → Cell) : (s.mapCells f).cross = s.cross := rfl
@[simp] theorem State.mapCells_rm (s : State) (f : Nat → Cell → Cell) : (s.mapCells f).rm = s.rm := rfl
@[simp] theorem State.mapCells_hm (s : State) (f : Nat → Cell → Cell) : (s.mapCells f).hm = s.hm := rfl
@[simp] theorem State.mapCells_ret (s : State) (f : Nat → Cell → Cell) : (s.mapCells f).ret = s.ret := rfl
@[simp] theorem State.mapCells_safe (s : State) (f : Nat → Cell → Cell) : (s.mapCells f).safe = s.safe := rfl
@[simp] theorem State.mapCells_dump (s : State) (f : Nat → Cell → Cell) : (s.mapCells f).dump = s.dump := rfl
@[simp] theorem State.mapCells_sketch (s : State) (f : Nat → Cell → Cell) : (s.mapCells f).sketch = s.sketch := rfl
@[simp] theorem State.mapCells_work (s : State) (f : Nat → Cell → Cell) : (s.mapCells f).work = s.work := rfl
@[simp] theorem State.mapCells_mail (s : State) (f : Nat → Cell → Cell) : (s.mapCells f).mail = s.mail := rfl
@[simp] theorem State.mapCells_bus (s : State) (f : Nat → Cell → Cell) : (s.mapCells f).bus = s.bus := rfl
@[simp] theorem State.mapCells_pm (s : State) (f : Nat → Cell → Cell) : (s.mapCells f).pm = s.pm := rfl
@[simp] theorem State.mapCells_con (s : State) (f : Nat → Cell → Cell) : (s.mapCells f).con = s.con := rfl
@[simp] theorem State.mapCells_tap (s : State) (f : Nat → Cell → Cell) : (s.mapCells f).tap = s.tap := rfl
@[simp] theorem State.mapCells_ecc (s : State) (f : Nat → Cell → Cell) : (s.mapCells f).ecc = s.ecc := rfl
@[simp] theorem State.mapCells_free (s : State) (f : Nat → Cell → Cell) : (s.mapCells f).free = s.free := rfl
@[simp] theorem State.mapCells_pending (s : State) (f : Nat → Cell → Cell) : (s.mapCells f).pending = s.pending := rfl

/-! ### updLink -/

@[simp] theorem State.updLink_clock (s : State) (l : Nat) (f : Link → Link) : (s.updLink l f).clock = s.clock := rfl
@[simp] theorem State.updLink_pins (s : State) (l : Nat) (f : Link → Link) : (s.updLink l f).pins = s.pins := rfl
@[simp] theorem State.updLink_boot (s : State) (l : Nat) (f : Link → Link) : (s.updLink l f).boot = s.boot := rfl
@[simp] theorem State.updLink_varnish (s : State) (l : Nat) (f : Link → Link) : (s.updLink l f).varnish = s.varnish := rfl
@[simp] theorem State.updLink_fuses (s : State) (l : Nat) (f : Link → Link) : (s.updLink l f).fuses = s.fuses := rfl
@[simp] theorem State.updLink_ident (s : State) (l : Nat) (f : Link → Link) : (s.updLink l f).ident = s.ident := rfl
@[simp] theorem State.updLink_rom (s : State) (l : Nat) (f : Link → Link) : (s.updLink l f).rom = s.rom := rfl
@[simp] theorem State.updLink_flash (s : State) (l : Nat) (f : Link → Link) : (s.updLink l f).flash = s.flash := rfl
@[simp] theorem State.updLink_shadow (s : State) (l : Nat) (f : Link → Link) : (s.updLink l f).shadow = s.shadow := rfl
@[simp] theorem State.updLink_wetHeld (s : State) (l : Nat) (f : Link → Link) : (s.updLink l f).wetHeld = s.wetHeld := rfl
@[simp] theorem State.updLink_palette (s : State) (l : Nat) (f : Link → Link) : (s.updLink l f).palette = s.palette := rfl
@[simp] theorem State.updLink_ports (s : State) (l : Nat) (f : Link → Link) : (s.updLink l f).ports = s.ports := rfl
@[simp] theorem State.updLink_rails (s : State) (l : Nat) (f : Link → Link) : (s.updLink l f).rails = s.rails := rfl
@[simp] theorem State.updLink_phases (s : State) (l : Nat) (f : Link → Link) : (s.updLink l f).phases = s.phases := rfl
@[simp] theorem State.updLink_cells (s : State) (l : Nat) (f : Link → Link) : (s.updLink l f).cells = s.cells := rfl
@[simp] theorem State.updLink_links (s : State) (l : Nat) (f : Link → Link) : (s.updLink l f).links = s.links.modify l f := rfl
@[simp] theorem State.updLink_comps (s : State) (l : Nat) (f : Link → Link) : (s.updLink l f).comps = s.comps := rfl
@[simp] theorem State.updLink_timers (s : State) (l : Nat) (f : Link → Link) : (s.updLink l f).timers = s.timers := rfl
@[simp] theorem State.updLink_router (s : State) (l : Nat) (f : Link → Link) : (s.updLink l f).router = s.router := rfl
@[simp] theorem State.updLink_input (s : State) (l : Nat) (f : Link → Link) : (s.updLink l f).input = s.input := rfl
@[simp] theorem State.updLink_telem (s : State) (l : Nat) (f : Link → Link) : (s.updLink l f).telem = s.telem := rfl
@[simp] theorem State.updLink_app (s : State) (l : Nat) (f : Link → Link) : (s.updLink l f).app = s.app := rfl
@[simp] theorem State.updLink_cross (s : State) (l : Nat) (f : Link → Link) : (s.updLink l f).cross = s.cross := rfl
@[simp] theorem State.updLink_rm (s : State) (l : Nat) (f : Link → Link) : (s.updLink l f).rm = s.rm := rfl
@[simp] theorem State.updLink_hm (s : State) (l : Nat) (f : Link → Link) : (s.updLink l f).hm = s.hm := rfl
@[simp] theorem State.updLink_ret (s : State) (l : Nat) (f : Link → Link) : (s.updLink l f).ret = s.ret := rfl
@[simp] theorem State.updLink_safe (s : State) (l : Nat) (f : Link → Link) : (s.updLink l f).safe = s.safe := rfl
@[simp] theorem State.updLink_dump (s : State) (l : Nat) (f : Link → Link) : (s.updLink l f).dump = s.dump := rfl
@[simp] theorem State.updLink_sketch (s : State) (l : Nat) (f : Link → Link) : (s.updLink l f).sketch = s.sketch := rfl
@[simp] theorem State.updLink_work (s : State) (l : Nat) (f : Link → Link) : (s.updLink l f).work = s.work := rfl
@[simp] theorem State.updLink_mail (s : State) (l : Nat) (f : Link → Link) : (s.updLink l f).mail = s.mail := rfl
@[simp] theorem State.updLink_bus (s : State) (l : Nat) (f : Link → Link) : (s.updLink l f).bus = s.bus := rfl
@[simp] theorem State.updLink_pm (s : State) (l : Nat) (f : Link → Link) : (s.updLink l f).pm = s.pm := rfl
@[simp] theorem State.updLink_con (s : State) (l : Nat) (f : Link → Link) : (s.updLink l f).con = s.con := rfl
@[simp] theorem State.updLink_tap (s : State) (l : Nat) (f : Link → Link) : (s.updLink l f).tap = s.tap := rfl
@[simp] theorem State.updLink_ecc (s : State) (l : Nat) (f : Link → Link) : (s.updLink l f).ecc = s.ecc := rfl
@[simp] theorem State.updLink_free (s : State) (l : Nat) (f : Link → Link) : (s.updLink l f).free = s.free := rfl
@[simp] theorem State.updLink_pending (s : State) (l : Nat) (f : Link → Link) : (s.updLink l f).pending = s.pending := rfl

/-! ### updComp -/

@[simp] theorem State.updComp_clock (s : State) (m : Nat) (f : Comp → Comp) : (s.updComp m f).clock = s.clock := rfl
@[simp] theorem State.updComp_pins (s : State) (m : Nat) (f : Comp → Comp) : (s.updComp m f).pins = s.pins := rfl
@[simp] theorem State.updComp_boot (s : State) (m : Nat) (f : Comp → Comp) : (s.updComp m f).boot = s.boot := rfl
@[simp] theorem State.updComp_varnish (s : State) (m : Nat) (f : Comp → Comp) : (s.updComp m f).varnish = s.varnish := rfl
@[simp] theorem State.updComp_fuses (s : State) (m : Nat) (f : Comp → Comp) : (s.updComp m f).fuses = s.fuses := rfl
@[simp] theorem State.updComp_ident (s : State) (m : Nat) (f : Comp → Comp) : (s.updComp m f).ident = s.ident := rfl
@[simp] theorem State.updComp_rom (s : State) (m : Nat) (f : Comp → Comp) : (s.updComp m f).rom = s.rom := rfl
@[simp] theorem State.updComp_flash (s : State) (m : Nat) (f : Comp → Comp) : (s.updComp m f).flash = s.flash := rfl
@[simp] theorem State.updComp_shadow (s : State) (m : Nat) (f : Comp → Comp) : (s.updComp m f).shadow = s.shadow := rfl
@[simp] theorem State.updComp_wetHeld (s : State) (m : Nat) (f : Comp → Comp) : (s.updComp m f).wetHeld = s.wetHeld := rfl
@[simp] theorem State.updComp_palette (s : State) (m : Nat) (f : Comp → Comp) : (s.updComp m f).palette = s.palette := rfl
@[simp] theorem State.updComp_ports (s : State) (m : Nat) (f : Comp → Comp) : (s.updComp m f).ports = s.ports := rfl
@[simp] theorem State.updComp_rails (s : State) (m : Nat) (f : Comp → Comp) : (s.updComp m f).rails = s.rails := rfl
@[simp] theorem State.updComp_phases (s : State) (m : Nat) (f : Comp → Comp) : (s.updComp m f).phases = s.phases := rfl
@[simp] theorem State.updComp_cells (s : State) (m : Nat) (f : Comp → Comp) : (s.updComp m f).cells = s.cells := rfl
@[simp] theorem State.updComp_links (s : State) (m : Nat) (f : Comp → Comp) : (s.updComp m f).links = s.links := rfl
@[simp] theorem State.updComp_comps (s : State) (m : Nat) (f : Comp → Comp) : (s.updComp m f).comps = s.comps.modify m f := rfl
@[simp] theorem State.updComp_timers (s : State) (m : Nat) (f : Comp → Comp) : (s.updComp m f).timers = s.timers := rfl
@[simp] theorem State.updComp_router (s : State) (m : Nat) (f : Comp → Comp) : (s.updComp m f).router = s.router := rfl
@[simp] theorem State.updComp_input (s : State) (m : Nat) (f : Comp → Comp) : (s.updComp m f).input = s.input := rfl
@[simp] theorem State.updComp_telem (s : State) (m : Nat) (f : Comp → Comp) : (s.updComp m f).telem = s.telem := rfl
@[simp] theorem State.updComp_app (s : State) (m : Nat) (f : Comp → Comp) : (s.updComp m f).app = s.app := rfl
@[simp] theorem State.updComp_cross (s : State) (m : Nat) (f : Comp → Comp) : (s.updComp m f).cross = s.cross := rfl
@[simp] theorem State.updComp_rm (s : State) (m : Nat) (f : Comp → Comp) : (s.updComp m f).rm = s.rm := rfl
@[simp] theorem State.updComp_hm (s : State) (m : Nat) (f : Comp → Comp) : (s.updComp m f).hm = s.hm := rfl
@[simp] theorem State.updComp_ret (s : State) (m : Nat) (f : Comp → Comp) : (s.updComp m f).ret = s.ret := rfl
@[simp] theorem State.updComp_safe (s : State) (m : Nat) (f : Comp → Comp) : (s.updComp m f).safe = s.safe := rfl
@[simp] theorem State.updComp_dump (s : State) (m : Nat) (f : Comp → Comp) : (s.updComp m f).dump = s.dump := rfl
@[simp] theorem State.updComp_sketch (s : State) (m : Nat) (f : Comp → Comp) : (s.updComp m f).sketch = s.sketch := rfl
@[simp] theorem State.updComp_work (s : State) (m : Nat) (f : Comp → Comp) : (s.updComp m f).work = s.work := rfl
@[simp] theorem State.updComp_mail (s : State) (m : Nat) (f : Comp → Comp) : (s.updComp m f).mail = s.mail := rfl
@[simp] theorem State.updComp_bus (s : State) (m : Nat) (f : Comp → Comp) : (s.updComp m f).bus = s.bus := rfl
@[simp] theorem State.updComp_pm (s : State) (m : Nat) (f : Comp → Comp) : (s.updComp m f).pm = s.pm := rfl
@[simp] theorem State.updComp_con (s : State) (m : Nat) (f : Comp → Comp) : (s.updComp m f).con = s.con := rfl
@[simp] theorem State.updComp_tap (s : State) (m : Nat) (f : Comp → Comp) : (s.updComp m f).tap = s.tap := rfl
@[simp] theorem State.updComp_ecc (s : State) (m : Nat) (f : Comp → Comp) : (s.updComp m f).ecc = s.ecc := rfl
@[simp] theorem State.updComp_free (s : State) (m : Nat) (f : Comp → Comp) : (s.updComp m f).free = s.free := rfl
@[simp] theorem State.updComp_pending (s : State) (m : Nat) (f : Comp → Comp) : (s.updComp m f).pending = s.pending := rfl

/-! ### mapComps -/

@[simp] theorem State.mapComps_clock (s : State) (f : Nat → Comp → Comp) : (s.mapComps f).clock = s.clock := rfl
@[simp] theorem State.mapComps_pins (s : State) (f : Nat → Comp → Comp) : (s.mapComps f).pins = s.pins := rfl
@[simp] theorem State.mapComps_boot (s : State) (f : Nat → Comp → Comp) : (s.mapComps f).boot = s.boot := rfl
@[simp] theorem State.mapComps_varnish (s : State) (f : Nat → Comp → Comp) : (s.mapComps f).varnish = s.varnish := rfl
@[simp] theorem State.mapComps_fuses (s : State) (f : Nat → Comp → Comp) : (s.mapComps f).fuses = s.fuses := rfl
@[simp] theorem State.mapComps_ident (s : State) (f : Nat → Comp → Comp) : (s.mapComps f).ident = s.ident := rfl
@[simp] theorem State.mapComps_rom (s : State) (f : Nat → Comp → Comp) : (s.mapComps f).rom = s.rom := rfl
@[simp] theorem State.mapComps_flash (s : State) (f : Nat → Comp → Comp) : (s.mapComps f).flash = s.flash := rfl
@[simp] theorem State.mapComps_shadow (s : State) (f : Nat → Comp → Comp) : (s.mapComps f).shadow = s.shadow := rfl
@[simp] theorem State.mapComps_wetHeld (s : State) (f : Nat → Comp → Comp) : (s.mapComps f).wetHeld = s.wetHeld := rfl
@[simp] theorem State.mapComps_palette (s : State) (f : Nat → Comp → Comp) : (s.mapComps f).palette = s.palette := rfl
@[simp] theorem State.mapComps_ports (s : State) (f : Nat → Comp → Comp) : (s.mapComps f).ports = s.ports := rfl
@[simp] theorem State.mapComps_rails (s : State) (f : Nat → Comp → Comp) : (s.mapComps f).rails = s.rails := rfl
@[simp] theorem State.mapComps_phases (s : State) (f : Nat → Comp → Comp) : (s.mapComps f).phases = s.phases := rfl
@[simp] theorem State.mapComps_cells (s : State) (f : Nat → Comp → Comp) : (s.mapComps f).cells = s.cells := rfl
@[simp] theorem State.mapComps_links (s : State) (f : Nat → Comp → Comp) : (s.mapComps f).links = s.links := rfl
@[simp] theorem State.mapComps_comps (s : State) (f : Nat → Comp → Comp) : (s.mapComps f).comps = s.comps.mapIdx f := rfl
@[simp] theorem State.mapComps_timers (s : State) (f : Nat → Comp → Comp) : (s.mapComps f).timers = s.timers := rfl
@[simp] theorem State.mapComps_router (s : State) (f : Nat → Comp → Comp) : (s.mapComps f).router = s.router := rfl
@[simp] theorem State.mapComps_input (s : State) (f : Nat → Comp → Comp) : (s.mapComps f).input = s.input := rfl
@[simp] theorem State.mapComps_telem (s : State) (f : Nat → Comp → Comp) : (s.mapComps f).telem = s.telem := rfl
@[simp] theorem State.mapComps_app (s : State) (f : Nat → Comp → Comp) : (s.mapComps f).app = s.app := rfl
@[simp] theorem State.mapComps_cross (s : State) (f : Nat → Comp → Comp) : (s.mapComps f).cross = s.cross := rfl
@[simp] theorem State.mapComps_rm (s : State) (f : Nat → Comp → Comp) : (s.mapComps f).rm = s.rm := rfl
@[simp] theorem State.mapComps_hm (s : State) (f : Nat → Comp → Comp) : (s.mapComps f).hm = s.hm := rfl
@[simp] theorem State.mapComps_ret (s : State) (f : Nat → Comp → Comp) : (s.mapComps f).ret = s.ret := rfl
@[simp] theorem State.mapComps_safe (s : State) (f : Nat → Comp → Comp) : (s.mapComps f).safe = s.safe := rfl
@[simp] theorem State.mapComps_dump (s : State) (f : Nat → Comp → Comp) : (s.mapComps f).dump = s.dump := rfl
@[simp] theorem State.mapComps_sketch (s : State) (f : Nat → Comp → Comp) : (s.mapComps f).sketch = s.sketch := rfl
@[simp] theorem State.mapComps_work (s : State) (f : Nat → Comp → Comp) : (s.mapComps f).work = s.work := rfl
@[simp] theorem State.mapComps_mail (s : State) (f : Nat → Comp → Comp) : (s.mapComps f).mail = s.mail := rfl
@[simp] theorem State.mapComps_bus (s : State) (f : Nat → Comp → Comp) : (s.mapComps f).bus = s.bus := rfl
@[simp] theorem State.mapComps_pm (s : State) (f : Nat → Comp → Comp) : (s.mapComps f).pm = s.pm := rfl
@[simp] theorem State.mapComps_con (s : State) (f : Nat → Comp → Comp) : (s.mapComps f).con = s.con := rfl
@[simp] theorem State.mapComps_tap (s : State) (f : Nat → Comp → Comp) : (s.mapComps f).tap = s.tap := rfl
@[simp] theorem State.mapComps_ecc (s : State) (f : Nat → Comp → Comp) : (s.mapComps f).ecc = s.ecc := rfl
@[simp] theorem State.mapComps_free (s : State) (f : Nat → Comp → Comp) : (s.mapComps f).free = s.free := rfl
@[simp] theorem State.mapComps_pending (s : State) (f : Nat → Comp → Comp) : (s.mapComps f).pending = s.pending := rfl

/-! ### updPort -/

@[simp] theorem State.updPort_clock (s : State) (p : Nat) (f : Port → Port) : (s.updPort p f).clock = s.clock := rfl
@[simp] theorem State.updPort_pins (s : State) (p : Nat) (f : Port → Port) : (s.updPort p f).pins = s.pins := rfl
@[simp] theorem State.updPort_boot (s : State) (p : Nat) (f : Port → Port) : (s.updPort p f).boot = s.boot := rfl
@[simp] theorem State.updPort_varnish (s : State) (p : Nat) (f : Port → Port) : (s.updPort p f).varnish = s.varnish := rfl
@[simp] theorem State.updPort_fuses (s : State) (p : Nat) (f : Port → Port) : (s.updPort p f).fuses = s.fuses := rfl
@[simp] theorem State.updPort_ident (s : State) (p : Nat) (f : Port → Port) : (s.updPort p f).ident = s.ident := rfl
@[simp] theorem State.updPort_rom (s : State) (p : Nat) (f : Port → Port) : (s.updPort p f).rom = s.rom := rfl
@[simp] theorem State.updPort_flash (s : State) (p : Nat) (f : Port → Port) : (s.updPort p f).flash = s.flash := rfl
@[simp] theorem State.updPort_shadow (s : State) (p : Nat) (f : Port → Port) : (s.updPort p f).shadow = s.shadow := rfl
@[simp] theorem State.updPort_wetHeld (s : State) (p : Nat) (f : Port → Port) : (s.updPort p f).wetHeld = s.wetHeld := rfl
@[simp] theorem State.updPort_palette (s : State) (p : Nat) (f : Port → Port) : (s.updPort p f).palette = s.palette := rfl
@[simp] theorem State.updPort_ports (s : State) (p : Nat) (f : Port → Port) : (s.updPort p f).ports = s.ports.modify p f := rfl
@[simp] theorem State.updPort_rails (s : State) (p : Nat) (f : Port → Port) : (s.updPort p f).rails = s.rails := rfl
@[simp] theorem State.updPort_phases (s : State) (p : Nat) (f : Port → Port) : (s.updPort p f).phases = s.phases := rfl
@[simp] theorem State.updPort_cells (s : State) (p : Nat) (f : Port → Port) : (s.updPort p f).cells = s.cells := rfl
@[simp] theorem State.updPort_links (s : State) (p : Nat) (f : Port → Port) : (s.updPort p f).links = s.links := rfl
@[simp] theorem State.updPort_comps (s : State) (p : Nat) (f : Port → Port) : (s.updPort p f).comps = s.comps := rfl
@[simp] theorem State.updPort_timers (s : State) (p : Nat) (f : Port → Port) : (s.updPort p f).timers = s.timers := rfl
@[simp] theorem State.updPort_router (s : State) (p : Nat) (f : Port → Port) : (s.updPort p f).router = s.router := rfl
@[simp] theorem State.updPort_input (s : State) (p : Nat) (f : Port → Port) : (s.updPort p f).input = s.input := rfl
@[simp] theorem State.updPort_telem (s : State) (p : Nat) (f : Port → Port) : (s.updPort p f).telem = s.telem := rfl
@[simp] theorem State.updPort_app (s : State) (p : Nat) (f : Port → Port) : (s.updPort p f).app = s.app := rfl
@[simp] theorem State.updPort_cross (s : State) (p : Nat) (f : Port → Port) : (s.updPort p f).cross = s.cross := rfl
@[simp] theorem State.updPort_rm (s : State) (p : Nat) (f : Port → Port) : (s.updPort p f).rm = s.rm := rfl
@[simp] theorem State.updPort_hm (s : State) (p : Nat) (f : Port → Port) : (s.updPort p f).hm = s.hm := rfl
@[simp] theorem State.updPort_ret (s : State) (p : Nat) (f : Port → Port) : (s.updPort p f).ret = s.ret := rfl
@[simp] theorem State.updPort_safe (s : State) (p : Nat) (f : Port → Port) : (s.updPort p f).safe = s.safe := rfl
@[simp] theorem State.updPort_dump (s : State) (p : Nat) (f : Port → Port) : (s.updPort p f).dump = s.dump := rfl
@[simp] theorem State.updPort_sketch (s : State) (p : Nat) (f : Port → Port) : (s.updPort p f).sketch = s.sketch := rfl
@[simp] theorem State.updPort_work (s : State) (p : Nat) (f : Port → Port) : (s.updPort p f).work = s.work := rfl
@[simp] theorem State.updPort_mail (s : State) (p : Nat) (f : Port → Port) : (s.updPort p f).mail = s.mail := rfl
@[simp] theorem State.updPort_bus (s : State) (p : Nat) (f : Port → Port) : (s.updPort p f).bus = s.bus := rfl
@[simp] theorem State.updPort_pm (s : State) (p : Nat) (f : Port → Port) : (s.updPort p f).pm = s.pm := rfl
@[simp] theorem State.updPort_con (s : State) (p : Nat) (f : Port → Port) : (s.updPort p f).con = s.con := rfl
@[simp] theorem State.updPort_tap (s : State) (p : Nat) (f : Port → Port) : (s.updPort p f).tap = s.tap := rfl
@[simp] theorem State.updPort_ecc (s : State) (p : Nat) (f : Port → Port) : (s.updPort p f).ecc = s.ecc := rfl
@[simp] theorem State.updPort_free (s : State) (p : Nat) (f : Port → Port) : (s.updPort p f).free = s.free := rfl
@[simp] theorem State.updPort_pending (s : State) (p : Nat) (f : Port → Port) : (s.updPort p f).pending = s.pending := rfl

/-! ### updPair -/

@[simp] theorem State.updPair_clock (s : State) (i : Nat) (f : Pair → Pair) : (s.updPair i f).clock = s.clock := rfl
@[simp] theorem State.updPair_pins (s : State) (i : Nat) (f : Pair → Pair) : (s.updPair i f).pins = s.pins := rfl
@[simp] theorem State.updPair_boot (s : State) (i : Nat) (f : Pair → Pair) : (s.updPair i f).boot = s.boot := rfl
@[simp] theorem State.updPair_varnish (s : State) (i : Nat) (f : Pair → Pair) : (s.updPair i f).varnish = s.varnish := rfl
@[simp] theorem State.updPair_fuses (s : State) (i : Nat) (f : Pair → Pair) : (s.updPair i f).fuses = s.fuses := rfl
@[simp] theorem State.updPair_ident (s : State) (i : Nat) (f : Pair → Pair) : (s.updPair i f).ident = s.ident := rfl
@[simp] theorem State.updPair_rom (s : State) (i : Nat) (f : Pair → Pair) : (s.updPair i f).rom = s.rom := rfl
@[simp] theorem State.updPair_flash (s : State) (i : Nat) (f : Pair → Pair) : (s.updPair i f).flash = s.flash := rfl
@[simp] theorem State.updPair_shadow (s : State) (i : Nat) (f : Pair → Pair) : (s.updPair i f).shadow = s.shadow := rfl
@[simp] theorem State.updPair_wetHeld (s : State) (i : Nat) (f : Pair → Pair) : (s.updPair i f).wetHeld = s.wetHeld := rfl
@[simp] theorem State.updPair_palette (s : State) (i : Nat) (f : Pair → Pair) : (s.updPair i f).palette = s.palette := rfl
@[simp] theorem State.updPair_ports (s : State) (i : Nat) (f : Pair → Pair) : (s.updPair i f).ports = s.ports := rfl
@[simp] theorem State.updPair_rails (s : State) (i : Nat) (f : Pair → Pair) : (s.updPair i f).rails = s.rails := rfl
@[simp] theorem State.updPair_phases (s : State) (i : Nat) (f : Pair → Pair) : (s.updPair i f).phases = s.phases := rfl
@[simp] theorem State.updPair_cells (s : State) (i : Nat) (f : Pair → Pair) : (s.updPair i f).cells = s.cells := rfl
@[simp] theorem State.updPair_links (s : State) (i : Nat) (f : Pair → Pair) : (s.updPair i f).links = s.links := rfl
@[simp] theorem State.updPair_comps (s : State) (i : Nat) (f : Pair → Pair) : (s.updPair i f).comps = s.comps := rfl
@[simp] theorem State.updPair_timers (s : State) (i : Nat) (f : Pair → Pair) : (s.updPair i f).timers = s.timers := rfl
@[simp] theorem State.updPair_router (s : State) (i : Nat) (f : Pair → Pair) : (s.updPair i f).router = s.router := rfl
@[simp] theorem State.updPair_input (s : State) (i : Nat) (f : Pair → Pair) : (s.updPair i f).input = s.input := rfl
@[simp] theorem State.updPair_telem (s : State) (i : Nat) (f : Pair → Pair) : (s.updPair i f).telem = { s.telem with pairs := s.telem.pairs.modify i f } := rfl
@[simp] theorem State.updPair_app (s : State) (i : Nat) (f : Pair → Pair) : (s.updPair i f).app = s.app := rfl
@[simp] theorem State.updPair_cross (s : State) (i : Nat) (f : Pair → Pair) : (s.updPair i f).cross = s.cross := rfl
@[simp] theorem State.updPair_rm (s : State) (i : Nat) (f : Pair → Pair) : (s.updPair i f).rm = s.rm := rfl
@[simp] theorem State.updPair_hm (s : State) (i : Nat) (f : Pair → Pair) : (s.updPair i f).hm = s.hm := rfl
@[simp] theorem State.updPair_ret (s : State) (i : Nat) (f : Pair → Pair) : (s.updPair i f).ret = s.ret := rfl
@[simp] theorem State.updPair_safe (s : State) (i : Nat) (f : Pair → Pair) : (s.updPair i f).safe = s.safe := rfl
@[simp] theorem State.updPair_dump (s : State) (i : Nat) (f : Pair → Pair) : (s.updPair i f).dump = s.dump := rfl
@[simp] theorem State.updPair_sketch (s : State) (i : Nat) (f : Pair → Pair) : (s.updPair i f).sketch = s.sketch := rfl
@[simp] theorem State.updPair_work (s : State) (i : Nat) (f : Pair → Pair) : (s.updPair i f).work = s.work := rfl
@[simp] theorem State.updPair_mail (s : State) (i : Nat) (f : Pair → Pair) : (s.updPair i f).mail = s.mail := rfl
@[simp] theorem State.updPair_bus (s : State) (i : Nat) (f : Pair → Pair) : (s.updPair i f).bus = s.bus := rfl
@[simp] theorem State.updPair_pm (s : State) (i : Nat) (f : Pair → Pair) : (s.updPair i f).pm = s.pm := rfl
@[simp] theorem State.updPair_con (s : State) (i : Nat) (f : Pair → Pair) : (s.updPair i f).con = s.con := rfl
@[simp] theorem State.updPair_tap (s : State) (i : Nat) (f : Pair → Pair) : (s.updPair i f).tap = s.tap := rfl
@[simp] theorem State.updPair_ecc (s : State) (i : Nat) (f : Pair → Pair) : (s.updPair i f).ecc = s.ecc := rfl
@[simp] theorem State.updPair_free (s : State) (i : Nat) (f : Pair → Pair) : (s.updPair i f).free = s.free := rfl
@[simp] theorem State.updPair_pending (s : State) (i : Nat) (f : Pair → Pair) : (s.updPair i f).pending = s.pending := rfl

/-! ### updChan -/

@[simp] theorem State.updChan_clock (s : State) (c : Nat) (f : Channel → Channel) : (s.updChan c f).clock = s.clock := rfl
@[simp] theorem State.updChan_pins (s : State) (c : Nat) (f : Channel → Channel) : (s.updChan c f).pins = s.pins := rfl
@[simp] theorem State.updChan_boot (s : State) (c : Nat) (f : Channel → Channel) : (s.updChan c f).boot = s.boot := rfl
@[simp] theorem State.updChan_varnish (s : State) (c : Nat) (f : Channel → Channel) : (s.updChan c f).varnish = s.varnish := rfl
@[simp] theorem State.updChan_fuses (s : State) (c : Nat) (f : Channel → Channel) : (s.updChan c f).fuses = s.fuses := rfl
@[simp] theorem State.updChan_ident (s : State) (c : Nat) (f : Channel → Channel) : (s.updChan c f).ident = s.ident := rfl
@[simp] theorem State.updChan_rom (s : State) (c : Nat) (f : Channel → Channel) : (s.updChan c f).rom = s.rom := rfl
@[simp] theorem State.updChan_flash (s : State) (c : Nat) (f : Channel → Channel) : (s.updChan c f).flash = s.flash := rfl
@[simp] theorem State.updChan_shadow (s : State) (c : Nat) (f : Channel → Channel) : (s.updChan c f).shadow = s.shadow := rfl
@[simp] theorem State.updChan_wetHeld (s : State) (c : Nat) (f : Channel → Channel) : (s.updChan c f).wetHeld = s.wetHeld := rfl
@[simp] theorem State.updChan_palette (s : State) (c : Nat) (f : Channel → Channel) : (s.updChan c f).palette = s.palette := rfl
@[simp] theorem State.updChan_ports (s : State) (c : Nat) (f : Channel → Channel) : (s.updChan c f).ports = s.ports := rfl
@[simp] theorem State.updChan_rails (s : State) (c : Nat) (f : Channel → Channel) : (s.updChan c f).rails = s.rails := rfl
@[simp] theorem State.updChan_phases (s : State) (c : Nat) (f : Channel → Channel) : (s.updChan c f).phases = s.phases := rfl
@[simp] theorem State.updChan_cells (s : State) (c : Nat) (f : Channel → Channel) : (s.updChan c f).cells = s.cells := rfl
@[simp] theorem State.updChan_links (s : State) (c : Nat) (f : Channel → Channel) : (s.updChan c f).links = s.links := rfl
@[simp] theorem State.updChan_comps (s : State) (c : Nat) (f : Channel → Channel) : (s.updChan c f).comps = s.comps := rfl
@[simp] theorem State.updChan_timers (s : State) (c : Nat) (f : Channel → Channel) : (s.updChan c f).timers = s.timers := rfl
@[simp] theorem State.updChan_router (s : State) (c : Nat) (f : Channel → Channel) : (s.updChan c f).router = s.router := rfl
@[simp] theorem State.updChan_input (s : State) (c : Nat) (f : Channel → Channel) : (s.updChan c f).input = s.input := rfl
@[simp] theorem State.updChan_telem (s : State) (c : Nat) (f : Channel → Channel) : (s.updChan c f).telem = s.telem := rfl
@[simp] theorem State.updChan_app (s : State) (c : Nat) (f : Channel → Channel) : (s.updChan c f).app = s.app := rfl
@[simp] theorem State.updChan_cross (s : State) (c : Nat) (f : Channel → Channel) : (s.updChan c f).cross = s.cross := rfl
@[simp] theorem State.updChan_rm (s : State) (c : Nat) (f : Channel → Channel) : (s.updChan c f).rm = s.rm := rfl
@[simp] theorem State.updChan_hm (s : State) (c : Nat) (f : Channel → Channel) : (s.updChan c f).hm = s.hm := rfl
@[simp] theorem State.updChan_ret (s : State) (c : Nat) (f : Channel → Channel) : (s.updChan c f).ret = s.ret := rfl
@[simp] theorem State.updChan_safe (s : State) (c : Nat) (f : Channel → Channel) : (s.updChan c f).safe = s.safe := rfl
@[simp] theorem State.updChan_dump (s : State) (c : Nat) (f : Channel → Channel) : (s.updChan c f).dump = s.dump := rfl
@[simp] theorem State.updChan_sketch (s : State) (c : Nat) (f : Channel → Channel) : (s.updChan c f).sketch = s.sketch := rfl
@[simp] theorem State.updChan_work (s : State) (c : Nat) (f : Channel → Channel) : (s.updChan c f).work = s.work := rfl
@[simp] theorem State.updChan_mail (s : State) (c : Nat) (f : Channel → Channel) : (s.updChan c f).mail = { s.mail with chans := s.mail.chans.modify c f } := rfl
@[simp] theorem State.updChan_bus (s : State) (c : Nat) (f : Channel → Channel) : (s.updChan c f).bus = s.bus := rfl
@[simp] theorem State.updChan_pm (s : State) (c : Nat) (f : Channel → Channel) : (s.updChan c f).pm = s.pm := rfl
@[simp] theorem State.updChan_con (s : State) (c : Nat) (f : Channel → Channel) : (s.updChan c f).con = s.con := rfl
@[simp] theorem State.updChan_tap (s : State) (c : Nat) (f : Channel → Channel) : (s.updChan c f).tap = s.tap := rfl
@[simp] theorem State.updChan_ecc (s : State) (c : Nat) (f : Channel → Channel) : (s.updChan c f).ecc = s.ecc := rfl
@[simp] theorem State.updChan_free (s : State) (c : Nat) (f : Channel → Channel) : (s.updChan c f).free = s.free := rfl
@[simp] theorem State.updChan_pending (s : State) (c : Nat) (f : Channel → Channel) : (s.updChan c f).pending = s.pending := rfl

/-! ### updTimer -/

@[simp] theorem State.updTimer_clock (s : State) (k : Nat) (f : Timer → Timer) : (s.updTimer k f).clock = s.clock := rfl
@[simp] theorem State.updTimer_pins (s : State) (k : Nat) (f : Timer → Timer) : (s.updTimer k f).pins = s.pins := rfl
@[simp] theorem State.updTimer_boot (s : State) (k : Nat) (f : Timer → Timer) : (s.updTimer k f).boot = s.boot := rfl
@[simp] theorem State.updTimer_varnish (s : State) (k : Nat) (f : Timer → Timer) : (s.updTimer k f).varnish = s.varnish := rfl
@[simp] theorem State.updTimer_fuses (s : State) (k : Nat) (f : Timer → Timer) : (s.updTimer k f).fuses = s.fuses := rfl
@[simp] theorem State.updTimer_ident (s : State) (k : Nat) (f : Timer → Timer) : (s.updTimer k f).ident = s.ident := rfl
@[simp] theorem State.updTimer_rom (s : State) (k : Nat) (f : Timer → Timer) : (s.updTimer k f).rom = s.rom := rfl
@[simp] theorem State.updTimer_flash (s : State) (k : Nat) (f : Timer → Timer) : (s.updTimer k f).flash = s.flash := rfl
@[simp] theorem State.updTimer_shadow (s : State) (k : Nat) (f : Timer → Timer) : (s.updTimer k f).shadow = s.shadow := rfl
@[simp] theorem State.updTimer_wetHeld (s : State) (k : Nat) (f : Timer → Timer) : (s.updTimer k f).wetHeld = s.wetHeld := rfl
@[simp] theorem State.updTimer_palette (s : State) (k : Nat) (f : Timer → Timer) : (s.updTimer k f).palette = s.palette := rfl
@[simp] theorem State.updTimer_ports (s : State) (k : Nat) (f : Timer → Timer) : (s.updTimer k f).ports = s.ports := rfl
@[simp] theorem State.updTimer_rails (s : State) (k : Nat) (f : Timer → Timer) : (s.updTimer k f).rails = s.rails := rfl
@[simp] theorem State.updTimer_phases (s : State) (k : Nat) (f : Timer → Timer) : (s.updTimer k f).phases = s.phases := rfl
@[simp] theorem State.updTimer_cells (s : State) (k : Nat) (f : Timer → Timer) : (s.updTimer k f).cells = s.cells := rfl
@[simp] theorem State.updTimer_links (s : State) (k : Nat) (f : Timer → Timer) : (s.updTimer k f).links = s.links := rfl
@[simp] theorem State.updTimer_comps (s : State) (k : Nat) (f : Timer → Timer) : (s.updTimer k f).comps = s.comps := rfl
@[simp] theorem State.updTimer_timers (s : State) (k : Nat) (f : Timer → Timer) : (s.updTimer k f).timers = s.timers.modify k f := rfl
@[simp] theorem State.updTimer_router (s : State) (k : Nat) (f : Timer → Timer) : (s.updTimer k f).router = s.router := rfl
@[simp] theorem State.updTimer_input (s : State) (k : Nat) (f : Timer → Timer) : (s.updTimer k f).input = s.input := rfl
@[simp] theorem State.updTimer_telem (s : State) (k : Nat) (f : Timer → Timer) : (s.updTimer k f).telem = s.telem := rfl
@[simp] theorem State.updTimer_app (s : State) (k : Nat) (f : Timer → Timer) : (s.updTimer k f).app = s.app := rfl
@[simp] theorem State.updTimer_cross (s : State) (k : Nat) (f : Timer → Timer) : (s.updTimer k f).cross = s.cross := rfl
@[simp] theorem State.updTimer_rm (s : State) (k : Nat) (f : Timer → Timer) : (s.updTimer k f).rm = s.rm := rfl
@[simp] theorem State.updTimer_hm (s : State) (k : Nat) (f : Timer → Timer) : (s.updTimer k f).hm = s.hm := rfl
@[simp] theorem State.updTimer_ret (s : State) (k : Nat) (f : Timer → Timer) : (s.updTimer k f).ret = s.ret := rfl
@[simp] theorem State.updTimer_safe (s : State) (k : Nat) (f : Timer → Timer) : (s.updTimer k f).safe = s.safe := rfl
@[simp] theorem State.updTimer_dump (s : State) (k : Nat) (f : Timer → Timer) : (s.updTimer k f).dump = s.dump := rfl
@[simp] theorem State.updTimer_sketch (s : State) (k : Nat) (f : Timer → Timer) : (s.updTimer k f).sketch = s.sketch := rfl
@[simp] theorem State.updTimer_work (s : State) (k : Nat) (f : Timer → Timer) : (s.updTimer k f).work = s.work := rfl
@[simp] theorem State.updTimer_mail (s : State) (k : Nat) (f : Timer → Timer) : (s.updTimer k f).mail = s.mail := rfl
@[simp] theorem State.updTimer_bus (s : State) (k : Nat) (f : Timer → Timer) : (s.updTimer k f).bus = s.bus := rfl
@[simp] theorem State.updTimer_pm (s : State) (k : Nat) (f : Timer → Timer) : (s.updTimer k f).pm = s.pm := rfl
@[simp] theorem State.updTimer_con (s : State) (k : Nat) (f : Timer → Timer) : (s.updTimer k f).con = s.con := rfl
@[simp] theorem State.updTimer_tap (s : State) (k : Nat) (f : Timer → Timer) : (s.updTimer k f).tap = s.tap := rfl
@[simp] theorem State.updTimer_ecc (s : State) (k : Nat) (f : Timer → Timer) : (s.updTimer k f).ecc = s.ecc := rfl
@[simp] theorem State.updTimer_free (s : State) (k : Nat) (f : Timer → Timer) : (s.updTimer k f).free = s.free := rfl
@[simp] theorem State.updTimer_pending (s : State) (k : Nat) (f : Timer → Timer) : (s.updTimer k f).pending = s.pending := rfl

/-! ### updCore -/

@[simp] theorem State.updCore_clock (s : State) (n : Nat) (f : RailCore → RailCore) : (s.updCore n f).clock = s.clock := rfl
@[simp] theorem State.updCore_pins (s : State) (n : Nat) (f : RailCore → RailCore) : (s.updCore n f).pins = s.pins := rfl
@[simp] theorem State.updCore_boot (s : State) (n : Nat) (f : RailCore → RailCore) : (s.updCore n f).boot = s.boot := rfl
@[simp] theorem State.updCore_varnish (s : State) (n : Nat) (f : RailCore → RailCore) : (s.updCore n f).varnish = s.varnish := rfl
@[simp] theorem State.updCore_fuses (s : State) (n : Nat) (f : RailCore → RailCore) : (s.updCore n f).fuses = s.fuses := rfl
@[simp] theorem State.updCore_ident (s : State) (n : Nat) (f : RailCore → RailCore) : (s.updCore n f).ident = s.ident := rfl
@[simp] theorem State.updCore_rom (s : State) (n : Nat) (f : RailCore → RailCore) : (s.updCore n f).rom = s.rom := rfl
@[simp] theorem State.updCore_flash (s : State) (n : Nat) (f : RailCore → RailCore) : (s.updCore n f).flash = s.flash := rfl
@[simp] theorem State.updCore_shadow (s : State) (n : Nat) (f : RailCore → RailCore) : (s.updCore n f).shadow = s.shadow := rfl
@[simp] theorem State.updCore_wetHeld (s : State) (n : Nat) (f : RailCore → RailCore) : (s.updCore n f).wetHeld = s.wetHeld := rfl
@[simp] theorem State.updCore_palette (s : State) (n : Nat) (f : RailCore → RailCore) : (s.updCore n f).palette = s.palette := rfl
@[simp] theorem State.updCore_ports (s : State) (n : Nat) (f : RailCore → RailCore) : (s.updCore n f).ports = s.ports := rfl
@[simp] theorem State.updCore_rails (s : State) (n : Nat) (f : RailCore → RailCore) : (s.updCore n f).rails = s.rails.modify n fun r => { r with core := f r.core } := rfl
@[simp] theorem State.updCore_phases (s : State) (n : Nat) (f : RailCore → RailCore) : (s.updCore n f).phases = s.phases := rfl
@[simp] theorem State.updCore_cells (s : State) (n : Nat) (f : RailCore → RailCore) : (s.updCore n f).cells = s.cells := rfl
@[simp] theorem State.updCore_links (s : State) (n : Nat) (f : RailCore → RailCore) : (s.updCore n f).links = s.links := rfl
@[simp] theorem State.updCore_comps (s : State) (n : Nat) (f : RailCore → RailCore) : (s.updCore n f).comps = s.comps := rfl
@[simp] theorem State.updCore_timers (s : State) (n : Nat) (f : RailCore → RailCore) : (s.updCore n f).timers = s.timers := rfl
@[simp] theorem State.updCore_router (s : State) (n : Nat) (f : RailCore → RailCore) : (s.updCore n f).router = s.router := rfl
@[simp] theorem State.updCore_input (s : State) (n : Nat) (f : RailCore → RailCore) : (s.updCore n f).input = s.input := rfl
@[simp] theorem State.updCore_telem (s : State) (n : Nat) (f : RailCore → RailCore) : (s.updCore n f).telem = s.telem := rfl
@[simp] theorem State.updCore_app (s : State) (n : Nat) (f : RailCore → RailCore) : (s.updCore n f).app = s.app := rfl
@[simp] theorem State.updCore_cross (s : State) (n : Nat) (f : RailCore → RailCore) : (s.updCore n f).cross = s.cross := rfl
@[simp] theorem State.updCore_rm (s : State) (n : Nat) (f : RailCore → RailCore) : (s.updCore n f).rm = s.rm := rfl
@[simp] theorem State.updCore_hm (s : State) (n : Nat) (f : RailCore → RailCore) : (s.updCore n f).hm = s.hm := rfl
@[simp] theorem State.updCore_ret (s : State) (n : Nat) (f : RailCore → RailCore) : (s.updCore n f).ret = s.ret := rfl
@[simp] theorem State.updCore_safe (s : State) (n : Nat) (f : RailCore → RailCore) : (s.updCore n f).safe = s.safe := rfl
@[simp] theorem State.updCore_dump (s : State) (n : Nat) (f : RailCore → RailCore) : (s.updCore n f).dump = s.dump := rfl
@[simp] theorem State.updCore_sketch (s : State) (n : Nat) (f : RailCore → RailCore) : (s.updCore n f).sketch = s.sketch := rfl
@[simp] theorem State.updCore_work (s : State) (n : Nat) (f : RailCore → RailCore) : (s.updCore n f).work = s.work := rfl
@[simp] theorem State.updCore_mail (s : State) (n : Nat) (f : RailCore → RailCore) : (s.updCore n f).mail = s.mail := rfl
@[simp] theorem State.updCore_bus (s : State) (n : Nat) (f : RailCore → RailCore) : (s.updCore n f).bus = s.bus := rfl
@[simp] theorem State.updCore_pm (s : State) (n : Nat) (f : RailCore → RailCore) : (s.updCore n f).pm = s.pm := rfl
@[simp] theorem State.updCore_con (s : State) (n : Nat) (f : RailCore → RailCore) : (s.updCore n f).con = s.con := rfl
@[simp] theorem State.updCore_tap (s : State) (n : Nat) (f : RailCore → RailCore) : (s.updCore n f).tap = s.tap := rfl
@[simp] theorem State.updCore_ecc (s : State) (n : Nat) (f : RailCore → RailCore) : (s.updCore n f).ecc = s.ecc := rfl
@[simp] theorem State.updCore_free (s : State) (n : Nat) (f : RailCore → RailCore) : (s.updCore n f).free = s.free := rfl
@[simp] theorem State.updCore_pending (s : State) (n : Nat) (f : RailCore → RailCore) : (s.updCore n f).pending = s.pending := rfl

/-! ### updHost -/

@[simp] theorem State.updHost_clock (s : State) (n : Nat) (f : RailHost → RailHost) : (s.updHost n f).clock = s.clock := rfl
@[simp] theorem State.updHost_pins (s : State) (n : Nat) (f : RailHost → RailHost) : (s.updHost n f).pins = s.pins := rfl
@[simp] theorem State.updHost_boot (s : State) (n : Nat) (f : RailHost → RailHost) : (s.updHost n f).boot = s.boot := rfl
@[simp] theorem State.updHost_varnish (s : State) (n : Nat) (f : RailHost → RailHost) : (s.updHost n f).varnish = s.varnish := rfl
@[simp] theorem State.updHost_fuses (s : State) (n : Nat) (f : RailHost → RailHost) : (s.updHost n f).fuses = s.fuses := rfl
@[simp] theorem State.updHost_ident (s : State) (n : Nat) (f : RailHost → RailHost) : (s.updHost n f).ident = s.ident := rfl
@[simp] theorem State.updHost_rom (s : State) (n : Nat) (f : RailHost → RailHost) : (s.updHost n f).rom = s.rom := rfl
@[simp] theorem State.updHost_flash (s : State) (n : Nat) (f : RailHost → RailHost) : (s.updHost n f).flash = s.flash := rfl
@[simp] theorem State.updHost_shadow (s : State) (n : Nat) (f : RailHost → RailHost) : (s.updHost n f).shadow = s.shadow := rfl
@[simp] theorem State.updHost_wetHeld (s : State) (n : Nat) (f : RailHost → RailHost) : (s.updHost n f).wetHeld = s.wetHeld := rfl
@[simp] theorem State.updHost_palette (s : State) (n : Nat) (f : RailHost → RailHost) : (s.updHost n f).palette = s.palette := rfl
@[simp] theorem State.updHost_ports (s : State) (n : Nat) (f : RailHost → RailHost) : (s.updHost n f).ports = s.ports := rfl
@[simp] theorem State.updHost_rails (s : State) (n : Nat) (f : RailHost → RailHost) : (s.updHost n f).rails = s.rails.modify n fun r => { r with host := f r.host } := rfl
@[simp] theorem State.updHost_phases (s : State) (n : Nat) (f : RailHost → RailHost) : (s.updHost n f).phases = s.phases := rfl
@[simp] theorem State.updHost_cells (s : State) (n : Nat) (f : RailHost → RailHost) : (s.updHost n f).cells = s.cells := rfl
@[simp] theorem State.updHost_links (s : State) (n : Nat) (f : RailHost → RailHost) : (s.updHost n f).links = s.links := rfl
@[simp] theorem State.updHost_comps (s : State) (n : Nat) (f : RailHost → RailHost) : (s.updHost n f).comps = s.comps := rfl
@[simp] theorem State.updHost_timers (s : State) (n : Nat) (f : RailHost → RailHost) : (s.updHost n f).timers = s.timers := rfl
@[simp] theorem State.updHost_router (s : State) (n : Nat) (f : RailHost → RailHost) : (s.updHost n f).router = s.router := rfl
@[simp] theorem State.updHost_input (s : State) (n : Nat) (f : RailHost → RailHost) : (s.updHost n f).input = s.input := rfl
@[simp] theorem State.updHost_telem (s : State) (n : Nat) (f : RailHost → RailHost) : (s.updHost n f).telem = s.telem := rfl
@[simp] theorem State.updHost_app (s : State) (n : Nat) (f : RailHost → RailHost) : (s.updHost n f).app = s.app := rfl
@[simp] theorem State.updHost_cross (s : State) (n : Nat) (f : RailHost → RailHost) : (s.updHost n f).cross = s.cross := rfl
@[simp] theorem State.updHost_rm (s : State) (n : Nat) (f : RailHost → RailHost) : (s.updHost n f).rm = s.rm := rfl
@[simp] theorem State.updHost_hm (s : State) (n : Nat) (f : RailHost → RailHost) : (s.updHost n f).hm = s.hm := rfl
@[simp] theorem State.updHost_ret (s : State) (n : Nat) (f : RailHost → RailHost) : (s.updHost n f).ret = s.ret := rfl
@[simp] theorem State.updHost_safe (s : State) (n : Nat) (f : RailHost → RailHost) : (s.updHost n f).safe = s.safe := rfl
@[simp] theorem State.updHost_dump (s : State) (n : Nat) (f : RailHost → RailHost) : (s.updHost n f).dump = s.dump := rfl
@[simp] theorem State.updHost_sketch (s : State) (n : Nat) (f : RailHost → RailHost) : (s.updHost n f).sketch = s.sketch := rfl
@[simp] theorem State.updHost_work (s : State) (n : Nat) (f : RailHost → RailHost) : (s.updHost n f).work = s.work := rfl
@[simp] theorem State.updHost_mail (s : State) (n : Nat) (f : RailHost → RailHost) : (s.updHost n f).mail = s.mail := rfl
@[simp] theorem State.updHost_bus (s : State) (n : Nat) (f : RailHost → RailHost) : (s.updHost n f).bus = s.bus := rfl
@[simp] theorem State.updHost_pm (s : State) (n : Nat) (f : RailHost → RailHost) : (s.updHost n f).pm = s.pm := rfl
@[simp] theorem State.updHost_con (s : State) (n : Nat) (f : RailHost → RailHost) : (s.updHost n f).con = s.con := rfl
@[simp] theorem State.updHost_tap (s : State) (n : Nat) (f : RailHost → RailHost) : (s.updHost n f).tap = s.tap := rfl
@[simp] theorem State.updHost_ecc (s : State) (n : Nat) (f : RailHost → RailHost) : (s.updHost n f).ecc = s.ecc := rfl
@[simp] theorem State.updHost_free (s : State) (n : Nat) (f : RailHost → RailHost) : (s.updHost n f).free = s.free := rfl
@[simp] theorem State.updHost_pending (s : State) (n : Nat) (f : RailHost → RailHost) : (s.updHost n f).pending = s.pending := rfl

/-! ### updSense -/

@[simp] theorem State.updSense_clock (s : State) (n : Nat) (f : RailSense → RailSense) : (s.updSense n f).clock = s.clock := rfl
@[simp] theorem State.updSense_pins (s : State) (n : Nat) (f : RailSense → RailSense) : (s.updSense n f).pins = s.pins := rfl
@[simp] theorem State.updSense_boot (s : State) (n : Nat) (f : RailSense → RailSense) : (s.updSense n f).boot = s.boot := rfl
@[simp] theorem State.updSense_varnish (s : State) (n : Nat) (f : RailSense → RailSense) : (s.updSense n f).varnish = s.varnish := rfl
@[simp] theorem State.updSense_fuses (s : State) (n : Nat) (f : RailSense → RailSense) : (s.updSense n f).fuses = s.fuses := rfl
@[simp] theorem State.updSense_ident (s : State) (n : Nat) (f : RailSense → RailSense) : (s.updSense n f).ident = s.ident := rfl
@[simp] theorem State.updSense_rom (s : State) (n : Nat) (f : RailSense → RailSense) : (s.updSense n f).rom = s.rom := rfl
@[simp] theorem State.updSense_flash (s : State) (n : Nat) (f : RailSense → RailSense) : (s.updSense n f).flash = s.flash := rfl
@[simp] theorem State.updSense_shadow (s : State) (n : Nat) (f : RailSense → RailSense) : (s.updSense n f).shadow = s.shadow := rfl
@[simp] theorem State.updSense_wetHeld (s : State) (n : Nat) (f : RailSense → RailSense) : (s.updSense n f).wetHeld = s.wetHeld := rfl
@[simp] theorem State.updSense_palette (s : State) (n : Nat) (f : RailSense → RailSense) : (s.updSense n f).palette = s.palette := rfl
@[simp] theorem State.updSense_ports (s : State) (n : Nat) (f : RailSense → RailSense) : (s.updSense n f).ports = s.ports := rfl
@[simp] theorem State.updSense_rails (s : State) (n : Nat) (f : RailSense → RailSense) : (s.updSense n f).rails = s.rails.modify n fun r => { r with sense := f r.sense } := rfl
@[simp] theorem State.updSense_phases (s : State) (n : Nat) (f : RailSense → RailSense) : (s.updSense n f).phases = s.phases := rfl
@[simp] theorem State.updSense_cells (s : State) (n : Nat) (f : RailSense → RailSense) : (s.updSense n f).cells = s.cells := rfl
@[simp] theorem State.updSense_links (s : State) (n : Nat) (f : RailSense → RailSense) : (s.updSense n f).links = s.links := rfl
@[simp] theorem State.updSense_comps (s : State) (n : Nat) (f : RailSense → RailSense) : (s.updSense n f).comps = s.comps := rfl
@[simp] theorem State.updSense_timers (s : State) (n : Nat) (f : RailSense → RailSense) : (s.updSense n f).timers = s.timers := rfl
@[simp] theorem State.updSense_router (s : State) (n : Nat) (f : RailSense → RailSense) : (s.updSense n f).router = s.router := rfl
@[simp] theorem State.updSense_input (s : State) (n : Nat) (f : RailSense → RailSense) : (s.updSense n f).input = s.input := rfl
@[simp] theorem State.updSense_telem (s : State) (n : Nat) (f : RailSense → RailSense) : (s.updSense n f).telem = s.telem := rfl
@[simp] theorem State.updSense_app (s : State) (n : Nat) (f : RailSense → RailSense) : (s.updSense n f).app = s.app := rfl
@[simp] theorem State.updSense_cross (s : State) (n : Nat) (f : RailSense → RailSense) : (s.updSense n f).cross = s.cross := rfl
@[simp] theorem State.updSense_rm (s : State) (n : Nat) (f : RailSense → RailSense) : (s.updSense n f).rm = s.rm := rfl
@[simp] theorem State.updSense_hm (s : State) (n : Nat) (f : RailSense → RailSense) : (s.updSense n f).hm = s.hm := rfl
@[simp] theorem State.updSense_ret (s : State) (n : Nat) (f : RailSense → RailSense) : (s.updSense n f).ret = s.ret := rfl
@[simp] theorem State.updSense_safe (s : State) (n : Nat) (f : RailSense → RailSense) : (s.updSense n f).safe = s.safe := rfl
@[simp] theorem State.updSense_dump (s : State) (n : Nat) (f : RailSense → RailSense) : (s.updSense n f).dump = s.dump := rfl
@[simp] theorem State.updSense_sketch (s : State) (n : Nat) (f : RailSense → RailSense) : (s.updSense n f).sketch = s.sketch := rfl
@[simp] theorem State.updSense_work (s : State) (n : Nat) (f : RailSense → RailSense) : (s.updSense n f).work = s.work := rfl
@[simp] theorem State.updSense_mail (s : State) (n : Nat) (f : RailSense → RailSense) : (s.updSense n f).mail = s.mail := rfl
@[simp] theorem State.updSense_bus (s : State) (n : Nat) (f : RailSense → RailSense) : (s.updSense n f).bus = s.bus := rfl
@[simp] theorem State.updSense_pm (s : State) (n : Nat) (f : RailSense → RailSense) : (s.updSense n f).pm = s.pm := rfl
@[simp] theorem State.updSense_con (s : State) (n : Nat) (f : RailSense → RailSense) : (s.updSense n f).con = s.con := rfl
@[simp] theorem State.updSense_tap (s : State) (n : Nat) (f : RailSense → RailSense) : (s.updSense n f).tap = s.tap := rfl
@[simp] theorem State.updSense_ecc (s : State) (n : Nat) (f : RailSense → RailSense) : (s.updSense n f).ecc = s.ecc := rfl
@[simp] theorem State.updSense_free (s : State) (n : Nat) (f : RailSense → RailSense) : (s.updSense n f).free = s.free := rfl
@[simp] theorem State.updSense_pending (s : State) (n : Nat) (f : RailSense → RailSense) : (s.updSense n f).pending = s.pending := rfl

/-! ### updModel -/

@[simp] theorem State.updModel_clock (s : State) (n : Nat) (f : RailModel → RailModel) : (s.updModel n f).clock = s.clock := rfl
@[simp] theorem State.updModel_pins (s : State) (n : Nat) (f : RailModel → RailModel) : (s.updModel n f).pins = s.pins := rfl
@[simp] theorem State.updModel_boot (s : State) (n : Nat) (f : RailModel → RailModel) : (s.updModel n f).boot = s.boot := rfl
@[simp] theorem State.updModel_varnish (s : State) (n : Nat) (f : RailModel → RailModel) : (s.updModel n f).varnish = s.varnish := rfl
@[simp] theorem State.updModel_fuses (s : State) (n : Nat) (f : RailModel → RailModel) : (s.updModel n f).fuses = s.fuses := rfl
@[simp] theorem State.updModel_ident (s : State) (n : Nat) (f : RailModel → RailModel) : (s.updModel n f).ident = s.ident := rfl
@[simp] theorem State.updModel_rom (s : State) (n : Nat) (f : RailModel → RailModel) : (s.updModel n f).rom = s.rom := rfl
@[simp] theorem State.updModel_flash (s : State) (n : Nat) (f : RailModel → RailModel) : (s.updModel n f).flash = s.flash := rfl
@[simp] theorem State.updModel_shadow (s : State) (n : Nat) (f : RailModel → RailModel) : (s.updModel n f).shadow = s.shadow := rfl
@[simp] theorem State.updModel_wetHeld (s : State) (n : Nat) (f : RailModel → RailModel) : (s.updModel n f).wetHeld = s.wetHeld := rfl
@[simp] theorem State.updModel_palette (s : State) (n : Nat) (f : RailModel → RailModel) : (s.updModel n f).palette = s.palette := rfl
@[simp] theorem State.updModel_ports (s : State) (n : Nat) (f : RailModel → RailModel) : (s.updModel n f).ports = s.ports := rfl
@[simp] theorem State.updModel_rails (s : State) (n : Nat) (f : RailModel → RailModel) : (s.updModel n f).rails = s.rails.modify n fun r => { r with model := f r.model } := rfl
@[simp] theorem State.updModel_phases (s : State) (n : Nat) (f : RailModel → RailModel) : (s.updModel n f).phases = s.phases := rfl
@[simp] theorem State.updModel_cells (s : State) (n : Nat) (f : RailModel → RailModel) : (s.updModel n f).cells = s.cells := rfl
@[simp] theorem State.updModel_links (s : State) (n : Nat) (f : RailModel → RailModel) : (s.updModel n f).links = s.links := rfl
@[simp] theorem State.updModel_comps (s : State) (n : Nat) (f : RailModel → RailModel) : (s.updModel n f).comps = s.comps := rfl
@[simp] theorem State.updModel_timers (s : State) (n : Nat) (f : RailModel → RailModel) : (s.updModel n f).timers = s.timers := rfl
@[simp] theorem State.updModel_router (s : State) (n : Nat) (f : RailModel → RailModel) : (s.updModel n f).router = s.router := rfl
@[simp] theorem State.updModel_input (s : State) (n : Nat) (f : RailModel → RailModel) : (s.updModel n f).input = s.input := rfl
@[simp] theorem State.updModel_telem (s : State) (n : Nat) (f : RailModel → RailModel) : (s.updModel n f).telem = s.telem := rfl
@[simp] theorem State.updModel_app (s : State) (n : Nat) (f : RailModel → RailModel) : (s.updModel n f).app = s.app := rfl
@[simp] theorem State.updModel_cross (s : State) (n : Nat) (f : RailModel → RailModel) : (s.updModel n f).cross = s.cross := rfl
@[simp] theorem State.updModel_rm (s : State) (n : Nat) (f : RailModel → RailModel) : (s.updModel n f).rm = s.rm := rfl
@[simp] theorem State.updModel_hm (s : State) (n : Nat) (f : RailModel → RailModel) : (s.updModel n f).hm = s.hm := rfl
@[simp] theorem State.updModel_ret (s : State) (n : Nat) (f : RailModel → RailModel) : (s.updModel n f).ret = s.ret := rfl
@[simp] theorem State.updModel_safe (s : State) (n : Nat) (f : RailModel → RailModel) : (s.updModel n f).safe = s.safe := rfl
@[simp] theorem State.updModel_dump (s : State) (n : Nat) (f : RailModel → RailModel) : (s.updModel n f).dump = s.dump := rfl
@[simp] theorem State.updModel_sketch (s : State) (n : Nat) (f : RailModel → RailModel) : (s.updModel n f).sketch = s.sketch := rfl
@[simp] theorem State.updModel_work (s : State) (n : Nat) (f : RailModel → RailModel) : (s.updModel n f).work = s.work := rfl
@[simp] theorem State.updModel_mail (s : State) (n : Nat) (f : RailModel → RailModel) : (s.updModel n f).mail = s.mail := rfl
@[simp] theorem State.updModel_bus (s : State) (n : Nat) (f : RailModel → RailModel) : (s.updModel n f).bus = s.bus := rfl
@[simp] theorem State.updModel_pm (s : State) (n : Nat) (f : RailModel → RailModel) : (s.updModel n f).pm = s.pm := rfl
@[simp] theorem State.updModel_con (s : State) (n : Nat) (f : RailModel → RailModel) : (s.updModel n f).con = s.con := rfl
@[simp] theorem State.updModel_tap (s : State) (n : Nat) (f : RailModel → RailModel) : (s.updModel n f).tap = s.tap := rfl
@[simp] theorem State.updModel_ecc (s : State) (n : Nat) (f : RailModel → RailModel) : (s.updModel n f).ecc = s.ecc := rfl
@[simp] theorem State.updModel_free (s : State) (n : Nat) (f : RailModel → RailModel) : (s.updModel n f).free = s.free := rfl
@[simp] theorem State.updModel_pending (s : State) (n : Nat) (f : RailModel → RailModel) : (s.updModel n f).pending = s.pending := rfl

/-! ### updLe -/

@[simp] theorem State.updLe_clock (s : State) (n : Nat) (f : LoopEngine → LoopEngine) : (s.updLe n f).clock = s.clock := rfl
@[simp] theorem State.updLe_pins (s : State) (n : Nat) (f : LoopEngine → LoopEngine) : (s.updLe n f).pins = s.pins := rfl
@[simp] theorem State.updLe_boot (s : State) (n : Nat) (f : LoopEngine → LoopEngine) : (s.updLe n f).boot = s.boot := rfl
@[simp] theorem State.updLe_varnish (s : State) (n : Nat) (f : LoopEngine → LoopEngine) : (s.updLe n f).varnish = s.varnish := rfl
@[simp] theorem State.updLe_fuses (s : State) (n : Nat) (f : LoopEngine → LoopEngine) : (s.updLe n f).fuses = s.fuses := rfl
@[simp] theorem State.updLe_ident (s : State) (n : Nat) (f : LoopEngine → LoopEngine) : (s.updLe n f).ident = s.ident := rfl
@[simp] theorem State.updLe_rom (s : State) (n : Nat) (f : LoopEngine → LoopEngine) : (s.updLe n f).rom = s.rom := rfl
@[simp] theorem State.updLe_flash (s : State) (n : Nat) (f : LoopEngine → LoopEngine) : (s.updLe n f).flash = s.flash := rfl
@[simp] theorem State.updLe_shadow (s : State) (n : Nat) (f : LoopEngine → LoopEngine) : (s.updLe n f).shadow = s.shadow := rfl
@[simp] theorem State.updLe_wetHeld (s : State) (n : Nat) (f : LoopEngine → LoopEngine) : (s.updLe n f).wetHeld = s.wetHeld := rfl
@[simp] theorem State.updLe_palette (s : State) (n : Nat) (f : LoopEngine → LoopEngine) : (s.updLe n f).palette = s.palette := rfl
@[simp] theorem State.updLe_ports (s : State) (n : Nat) (f : LoopEngine → LoopEngine) : (s.updLe n f).ports = s.ports := rfl
@[simp] theorem State.updLe_rails (s : State) (n : Nat) (f : LoopEngine → LoopEngine) : (s.updLe n f).rails = s.rails.modify n fun r => { r with le := f r.le } := rfl
@[simp] theorem State.updLe_phases (s : State) (n : Nat) (f : LoopEngine → LoopEngine) : (s.updLe n f).phases = s.phases := rfl
@[simp] theorem State.updLe_cells (s : State) (n : Nat) (f : LoopEngine → LoopEngine) : (s.updLe n f).cells = s.cells := rfl
@[simp] theorem State.updLe_links (s : State) (n : Nat) (f : LoopEngine → LoopEngine) : (s.updLe n f).links = s.links := rfl
@[simp] theorem State.updLe_comps (s : State) (n : Nat) (f : LoopEngine → LoopEngine) : (s.updLe n f).comps = s.comps := rfl
@[simp] theorem State.updLe_timers (s : State) (n : Nat) (f : LoopEngine → LoopEngine) : (s.updLe n f).timers = s.timers := rfl
@[simp] theorem State.updLe_router (s : State) (n : Nat) (f : LoopEngine → LoopEngine) : (s.updLe n f).router = s.router := rfl
@[simp] theorem State.updLe_input (s : State) (n : Nat) (f : LoopEngine → LoopEngine) : (s.updLe n f).input = s.input := rfl
@[simp] theorem State.updLe_telem (s : State) (n : Nat) (f : LoopEngine → LoopEngine) : (s.updLe n f).telem = s.telem := rfl
@[simp] theorem State.updLe_app (s : State) (n : Nat) (f : LoopEngine → LoopEngine) : (s.updLe n f).app = s.app := rfl
@[simp] theorem State.updLe_cross (s : State) (n : Nat) (f : LoopEngine → LoopEngine) : (s.updLe n f).cross = s.cross := rfl
@[simp] theorem State.updLe_rm (s : State) (n : Nat) (f : LoopEngine → LoopEngine) : (s.updLe n f).rm = s.rm := rfl
@[simp] theorem State.updLe_hm (s : State) (n : Nat) (f : LoopEngine → LoopEngine) : (s.updLe n f).hm = s.hm := rfl
@[simp] theorem State.updLe_ret (s : State) (n : Nat) (f : LoopEngine → LoopEngine) : (s.updLe n f).ret = s.ret := rfl
@[simp] theorem State.updLe_safe (s : State) (n : Nat) (f : LoopEngine → LoopEngine) : (s.updLe n f).safe = s.safe := rfl
@[simp] theorem State.updLe_dump (s : State) (n : Nat) (f : LoopEngine → LoopEngine) : (s.updLe n f).dump = s.dump := rfl
@[simp] theorem State.updLe_sketch (s : State) (n : Nat) (f : LoopEngine → LoopEngine) : (s.updLe n f).sketch = s.sketch := rfl
@[simp] theorem State.updLe_work (s : State) (n : Nat) (f : LoopEngine → LoopEngine) : (s.updLe n f).work = s.work := rfl
@[simp] theorem State.updLe_mail (s : State) (n : Nat) (f : LoopEngine → LoopEngine) : (s.updLe n f).mail = s.mail := rfl
@[simp] theorem State.updLe_bus (s : State) (n : Nat) (f : LoopEngine → LoopEngine) : (s.updLe n f).bus = s.bus := rfl
@[simp] theorem State.updLe_pm (s : State) (n : Nat) (f : LoopEngine → LoopEngine) : (s.updLe n f).pm = s.pm := rfl
@[simp] theorem State.updLe_con (s : State) (n : Nat) (f : LoopEngine → LoopEngine) : (s.updLe n f).con = s.con := rfl
@[simp] theorem State.updLe_tap (s : State) (n : Nat) (f : LoopEngine → LoopEngine) : (s.updLe n f).tap = s.tap := rfl
@[simp] theorem State.updLe_ecc (s : State) (n : Nat) (f : LoopEngine → LoopEngine) : (s.updLe n f).ecc = s.ecc := rfl
@[simp] theorem State.updLe_free (s : State) (n : Nat) (f : LoopEngine → LoopEngine) : (s.updLe n f).free = s.free := rfl
@[simp] theorem State.updLe_pending (s : State) (n : Nat) (f : LoopEngine → LoopEngine) : (s.updLe n f).pending = s.pending := rfl

/-! ### updBs -/

@[simp] theorem State.updBs_clock (s : State) (n : Nat) (f : Backstop → Backstop) : (s.updBs n f).clock = s.clock := rfl
@[simp] theorem State.updBs_pins (s : State) (n : Nat) (f : Backstop → Backstop) : (s.updBs n f).pins = s.pins := rfl
@[simp] theorem State.updBs_boot (s : State) (n : Nat) (f : Backstop → Backstop) : (s.updBs n f).boot = s.boot := rfl
@[simp] theorem State.updBs_varnish (s : State) (n : Nat) (f : Backstop → Backstop) : (s.updBs n f).varnish = s.varnish := rfl
@[simp] theorem State.updBs_fuses (s : State) (n : Nat) (f : Backstop → Backstop) : (s.updBs n f).fuses = s.fuses := rfl
@[simp] theorem State.updBs_ident (s : State) (n : Nat) (f : Backstop → Backstop) : (s.updBs n f).ident = s.ident := rfl
@[simp] theorem State.updBs_rom (s : State) (n : Nat) (f : Backstop → Backstop) : (s.updBs n f).rom = s.rom := rfl
@[simp] theorem State.updBs_flash (s : State) (n : Nat) (f : Backstop → Backstop) : (s.updBs n f).flash = s.flash := rfl
@[simp] theorem State.updBs_shadow (s : State) (n : Nat) (f : Backstop → Backstop) : (s.updBs n f).shadow = s.shadow := rfl
@[simp] theorem State.updBs_wetHeld (s : State) (n : Nat) (f : Backstop → Backstop) : (s.updBs n f).wetHeld = s.wetHeld := rfl
@[simp] theorem State.updBs_palette (s : State) (n : Nat) (f : Backstop → Backstop) : (s.updBs n f).palette = s.palette := rfl
@[simp] theorem State.updBs_ports (s : State) (n : Nat) (f : Backstop → Backstop) : (s.updBs n f).ports = s.ports := rfl
@[simp] theorem State.updBs_rails (s : State) (n : Nat) (f : Backstop → Backstop) : (s.updBs n f).rails = s.rails.modify n fun r => { r with bs := f r.bs } := rfl
@[simp] theorem State.updBs_phases (s : State) (n : Nat) (f : Backstop → Backstop) : (s.updBs n f).phases = s.phases := rfl
@[simp] theorem State.updBs_cells (s : State) (n : Nat) (f : Backstop → Backstop) : (s.updBs n f).cells = s.cells := rfl
@[simp] theorem State.updBs_links (s : State) (n : Nat) (f : Backstop → Backstop) : (s.updBs n f).links = s.links := rfl
@[simp] theorem State.updBs_comps (s : State) (n : Nat) (f : Backstop → Backstop) : (s.updBs n f).comps = s.comps := rfl
@[simp] theorem State.updBs_timers (s : State) (n : Nat) (f : Backstop → Backstop) : (s.updBs n f).timers = s.timers := rfl
@[simp] theorem State.updBs_router (s : State) (n : Nat) (f : Backstop → Backstop) : (s.updBs n f).router = s.router := rfl
@[simp] theorem State.updBs_input (s : State) (n : Nat) (f : Backstop → Backstop) : (s.updBs n f).input = s.input := rfl
@[simp] theorem State.updBs_telem (s : State) (n : Nat) (f : Backstop → Backstop) : (s.updBs n f).telem = s.telem := rfl
@[simp] theorem State.updBs_app (s : State) (n : Nat) (f : Backstop → Backstop) : (s.updBs n f).app = s.app := rfl
@[simp] theorem State.updBs_cross (s : State) (n : Nat) (f : Backstop → Backstop) : (s.updBs n f).cross = s.cross := rfl
@[simp] theorem State.updBs_rm (s : State) (n : Nat) (f : Backstop → Backstop) : (s.updBs n f).rm = s.rm := rfl
@[simp] theorem State.updBs_hm (s : State) (n : Nat) (f : Backstop → Backstop) : (s.updBs n f).hm = s.hm := rfl
@[simp] theorem State.updBs_ret (s : State) (n : Nat) (f : Backstop → Backstop) : (s.updBs n f).ret = s.ret := rfl
@[simp] theorem State.updBs_safe (s : State) (n : Nat) (f : Backstop → Backstop) : (s.updBs n f).safe = s.safe := rfl
@[simp] theorem State.updBs_dump (s : State) (n : Nat) (f : Backstop → Backstop) : (s.updBs n f).dump = s.dump := rfl
@[simp] theorem State.updBs_sketch (s : State) (n : Nat) (f : Backstop → Backstop) : (s.updBs n f).sketch = s.sketch := rfl
@[simp] theorem State.updBs_work (s : State) (n : Nat) (f : Backstop → Backstop) : (s.updBs n f).work = s.work := rfl
@[simp] theorem State.updBs_mail (s : State) (n : Nat) (f : Backstop → Backstop) : (s.updBs n f).mail = s.mail := rfl
@[simp] theorem State.updBs_bus (s : State) (n : Nat) (f : Backstop → Backstop) : (s.updBs n f).bus = s.bus := rfl
@[simp] theorem State.updBs_pm (s : State) (n : Nat) (f : Backstop → Backstop) : (s.updBs n f).pm = s.pm := rfl
@[simp] theorem State.updBs_con (s : State) (n : Nat) (f : Backstop → Backstop) : (s.updBs n f).con = s.con := rfl
@[simp] theorem State.updBs_tap (s : State) (n : Nat) (f : Backstop → Backstop) : (s.updBs n f).tap = s.tap := rfl
@[simp] theorem State.updBs_ecc (s : State) (n : Nat) (f : Backstop → Backstop) : (s.updBs n f).ecc = s.ecc := rfl
@[simp] theorem State.updBs_free (s : State) (n : Nat) (f : Backstop → Backstop) : (s.updBs n f).free = s.free := rfl
@[simp] theorem State.updBs_pending (s : State) (n : Nat) (f : Backstop → Backstop) : (s.updBs n f).pending = s.pending := rfl

/-! ### updProt -/

@[simp] theorem State.updProt_clock (s : State) (n : Nat) (f : RailProt → RailProt) : (s.updProt n f).clock = s.clock := rfl
@[simp] theorem State.updProt_pins (s : State) (n : Nat) (f : RailProt → RailProt) : (s.updProt n f).pins = s.pins := rfl
@[simp] theorem State.updProt_boot (s : State) (n : Nat) (f : RailProt → RailProt) : (s.updProt n f).boot = s.boot := rfl
@[simp] theorem State.updProt_varnish (s : State) (n : Nat) (f : RailProt → RailProt) : (s.updProt n f).varnish = s.varnish := rfl
@[simp] theorem State.updProt_fuses (s : State) (n : Nat) (f : RailProt → RailProt) : (s.updProt n f).fuses = s.fuses := rfl
@[simp] theorem State.updProt_ident (s : State) (n : Nat) (f : RailProt → RailProt) : (s.updProt n f).ident = s.ident := rfl
@[simp] theorem State.updProt_rom (s : State) (n : Nat) (f : RailProt → RailProt) : (s.updProt n f).rom = s.rom := rfl
@[simp] theorem State.updProt_flash (s : State) (n : Nat) (f : RailProt → RailProt) : (s.updProt n f).flash = s.flash := rfl
@[simp] theorem State.updProt_shadow (s : State) (n : Nat) (f : RailProt → RailProt) : (s.updProt n f).shadow = s.shadow := rfl
@[simp] theorem State.updProt_wetHeld (s : State) (n : Nat) (f : RailProt → RailProt) : (s.updProt n f).wetHeld = s.wetHeld := rfl
@[simp] theorem State.updProt_palette (s : State) (n : Nat) (f : RailProt → RailProt) : (s.updProt n f).palette = s.palette := rfl
@[simp] theorem State.updProt_ports (s : State) (n : Nat) (f : RailProt → RailProt) : (s.updProt n f).ports = s.ports := rfl
@[simp] theorem State.updProt_rails (s : State) (n : Nat) (f : RailProt → RailProt) : (s.updProt n f).rails = s.rails.modify n fun r => { r with prot := f r.prot } := rfl
@[simp] theorem State.updProt_phases (s : State) (n : Nat) (f : RailProt → RailProt) : (s.updProt n f).phases = s.phases := rfl
@[simp] theorem State.updProt_cells (s : State) (n : Nat) (f : RailProt → RailProt) : (s.updProt n f).cells = s.cells := rfl
@[simp] theorem State.updProt_links (s : State) (n : Nat) (f : RailProt → RailProt) : (s.updProt n f).links = s.links := rfl
@[simp] theorem State.updProt_comps (s : State) (n : Nat) (f : RailProt → RailProt) : (s.updProt n f).comps = s.comps := rfl
@[simp] theorem State.updProt_timers (s : State) (n : Nat) (f : RailProt → RailProt) : (s.updProt n f).timers = s.timers := rfl
@[simp] theorem State.updProt_router (s : State) (n : Nat) (f : RailProt → RailProt) : (s.updProt n f).router = s.router := rfl
@[simp] theorem State.updProt_input (s : State) (n : Nat) (f : RailProt → RailProt) : (s.updProt n f).input = s.input := rfl
@[simp] theorem State.updProt_telem (s : State) (n : Nat) (f : RailProt → RailProt) : (s.updProt n f).telem = s.telem := rfl
@[simp] theorem State.updProt_app (s : State) (n : Nat) (f : RailProt → RailProt) : (s.updProt n f).app = s.app := rfl
@[simp] theorem State.updProt_cross (s : State) (n : Nat) (f : RailProt → RailProt) : (s.updProt n f).cross = s.cross := rfl
@[simp] theorem State.updProt_rm (s : State) (n : Nat) (f : RailProt → RailProt) : (s.updProt n f).rm = s.rm := rfl
@[simp] theorem State.updProt_hm (s : State) (n : Nat) (f : RailProt → RailProt) : (s.updProt n f).hm = s.hm := rfl
@[simp] theorem State.updProt_ret (s : State) (n : Nat) (f : RailProt → RailProt) : (s.updProt n f).ret = s.ret := rfl
@[simp] theorem State.updProt_safe (s : State) (n : Nat) (f : RailProt → RailProt) : (s.updProt n f).safe = s.safe := rfl
@[simp] theorem State.updProt_dump (s : State) (n : Nat) (f : RailProt → RailProt) : (s.updProt n f).dump = s.dump := rfl
@[simp] theorem State.updProt_sketch (s : State) (n : Nat) (f : RailProt → RailProt) : (s.updProt n f).sketch = s.sketch := rfl
@[simp] theorem State.updProt_work (s : State) (n : Nat) (f : RailProt → RailProt) : (s.updProt n f).work = s.work := rfl
@[simp] theorem State.updProt_mail (s : State) (n : Nat) (f : RailProt → RailProt) : (s.updProt n f).mail = s.mail := rfl
@[simp] theorem State.updProt_bus (s : State) (n : Nat) (f : RailProt → RailProt) : (s.updProt n f).bus = s.bus := rfl
@[simp] theorem State.updProt_pm (s : State) (n : Nat) (f : RailProt → RailProt) : (s.updProt n f).pm = s.pm := rfl
@[simp] theorem State.updProt_con (s : State) (n : Nat) (f : RailProt → RailProt) : (s.updProt n f).con = s.con := rfl
@[simp] theorem State.updProt_tap (s : State) (n : Nat) (f : RailProt → RailProt) : (s.updProt n f).tap = s.tap := rfl
@[simp] theorem State.updProt_ecc (s : State) (n : Nat) (f : RailProt → RailProt) : (s.updProt n f).ecc = s.ecc := rfl
@[simp] theorem State.updProt_free (s : State) (n : Nat) (f : RailProt → RailProt) : (s.updProt n f).free = s.free := rfl
@[simp] theorem State.updProt_pending (s : State) (n : Nat) (f : RailProt → RailProt) : (s.updProt n f).pending = s.pending := rfl

/-! ### updPol -/

@[simp] theorem State.updPol_clock (s : State) (n : Nat) (f : RailPolicy → RailPolicy) : (s.updPol n f).clock = s.clock := rfl
@[simp] theorem State.updPol_pins (s : State) (n : Nat) (f : RailPolicy → RailPolicy) : (s.updPol n f).pins = s.pins := rfl
@[simp] theorem State.updPol_boot (s : State) (n : Nat) (f : RailPolicy → RailPolicy) : (s.updPol n f).boot = s.boot := rfl
@[simp] theorem State.updPol_varnish (s : State) (n : Nat) (f : RailPolicy → RailPolicy) : (s.updPol n f).varnish = s.varnish := rfl
@[simp] theorem State.updPol_fuses (s : State) (n : Nat) (f : RailPolicy → RailPolicy) : (s.updPol n f).fuses = s.fuses := rfl
@[simp] theorem State.updPol_ident (s : State) (n : Nat) (f : RailPolicy → RailPolicy) : (s.updPol n f).ident = s.ident := rfl
@[simp] theorem State.updPol_rom (s : State) (n : Nat) (f : RailPolicy → RailPolicy) : (s.updPol n f).rom = s.rom := rfl
@[simp] theorem State.updPol_flash (s : State) (n : Nat) (f : RailPolicy → RailPolicy) : (s.updPol n f).flash = s.flash := rfl
@[simp] theorem State.updPol_shadow (s : State) (n : Nat) (f : RailPolicy → RailPolicy) : (s.updPol n f).shadow = s.shadow := rfl
@[simp] theorem State.updPol_wetHeld (s : State) (n : Nat) (f : RailPolicy → RailPolicy) : (s.updPol n f).wetHeld = s.wetHeld := rfl
@[simp] theorem State.updPol_palette (s : State) (n : Nat) (f : RailPolicy → RailPolicy) : (s.updPol n f).palette = s.palette := rfl
@[simp] theorem State.updPol_ports (s : State) (n : Nat) (f : RailPolicy → RailPolicy) : (s.updPol n f).ports = s.ports := rfl
@[simp] theorem State.updPol_rails (s : State) (n : Nat) (f : RailPolicy → RailPolicy) : (s.updPol n f).rails = s.rails.modify n fun r => { r with pol := f r.pol } := rfl
@[simp] theorem State.updPol_phases (s : State) (n : Nat) (f : RailPolicy → RailPolicy) : (s.updPol n f).phases = s.phases := rfl
@[simp] theorem State.updPol_cells (s : State) (n : Nat) (f : RailPolicy → RailPolicy) : (s.updPol n f).cells = s.cells := rfl
@[simp] theorem State.updPol_links (s : State) (n : Nat) (f : RailPolicy → RailPolicy) : (s.updPol n f).links = s.links := rfl
@[simp] theorem State.updPol_comps (s : State) (n : Nat) (f : RailPolicy → RailPolicy) : (s.updPol n f).comps = s.comps := rfl
@[simp] theorem State.updPol_timers (s : State) (n : Nat) (f : RailPolicy → RailPolicy) : (s.updPol n f).timers = s.timers := rfl
@[simp] theorem State.updPol_router (s : State) (n : Nat) (f : RailPolicy → RailPolicy) : (s.updPol n f).router = s.router := rfl
@[simp] theorem State.updPol_input (s : State) (n : Nat) (f : RailPolicy → RailPolicy) : (s.updPol n f).input = s.input := rfl
@[simp] theorem State.updPol_telem (s : State) (n : Nat) (f : RailPolicy → RailPolicy) : (s.updPol n f).telem = s.telem := rfl
@[simp] theorem State.updPol_app (s : State) (n : Nat) (f : RailPolicy → RailPolicy) : (s.updPol n f).app = s.app := rfl
@[simp] theorem State.updPol_cross (s : State) (n : Nat) (f : RailPolicy → RailPolicy) : (s.updPol n f).cross = s.cross := rfl
@[simp] theorem State.updPol_rm (s : State) (n : Nat) (f : RailPolicy → RailPolicy) : (s.updPol n f).rm = s.rm := rfl
@[simp] theorem State.updPol_hm (s : State) (n : Nat) (f : RailPolicy → RailPolicy) : (s.updPol n f).hm = s.hm := rfl
@[simp] theorem State.updPol_ret (s : State) (n : Nat) (f : RailPolicy → RailPolicy) : (s.updPol n f).ret = s.ret := rfl
@[simp] theorem State.updPol_safe (s : State) (n : Nat) (f : RailPolicy → RailPolicy) : (s.updPol n f).safe = s.safe := rfl
@[simp] theorem State.updPol_dump (s : State) (n : Nat) (f : RailPolicy → RailPolicy) : (s.updPol n f).dump = s.dump := rfl
@[simp] theorem State.updPol_sketch (s : State) (n : Nat) (f : RailPolicy → RailPolicy) : (s.updPol n f).sketch = s.sketch := rfl
@[simp] theorem State.updPol_work (s : State) (n : Nat) (f : RailPolicy → RailPolicy) : (s.updPol n f).work = s.work := rfl
@[simp] theorem State.updPol_mail (s : State) (n : Nat) (f : RailPolicy → RailPolicy) : (s.updPol n f).mail = s.mail := rfl
@[simp] theorem State.updPol_bus (s : State) (n : Nat) (f : RailPolicy → RailPolicy) : (s.updPol n f).bus = s.bus := rfl
@[simp] theorem State.updPol_pm (s : State) (n : Nat) (f : RailPolicy → RailPolicy) : (s.updPol n f).pm = s.pm := rfl
@[simp] theorem State.updPol_con (s : State) (n : Nat) (f : RailPolicy → RailPolicy) : (s.updPol n f).con = s.con := rfl
@[simp] theorem State.updPol_tap (s : State) (n : Nat) (f : RailPolicy → RailPolicy) : (s.updPol n f).tap = s.tap := rfl
@[simp] theorem State.updPol_ecc (s : State) (n : Nat) (f : RailPolicy → RailPolicy) : (s.updPol n f).ecc = s.ecc := rfl
@[simp] theorem State.updPol_free (s : State) (n : Nat) (f : RailPolicy → RailPolicy) : (s.updPol n f).free = s.free := rfl
@[simp] theorem State.updPol_pending (s : State) (n : Nat) (f : RailPolicy → RailPolicy) : (s.updPol n f).pending = s.pending := rfl

/-! ### updMgr -/

@[simp] theorem State.updMgr_clock (s : State) (m : Manager) (f : PairState → PairState) : (s.updMgr m f).clock = s.clock := by cases m <;> rfl
@[simp] theorem State.updMgr_pins (s : State) (m : Manager) (f : PairState → PairState) : (s.updMgr m f).pins = s.pins := by cases m <;> rfl
@[simp] theorem State.updMgr_boot (s : State) (m : Manager) (f : PairState → PairState) : (s.updMgr m f).boot = s.boot := by cases m <;> rfl
@[simp] theorem State.updMgr_varnish (s : State) (m : Manager) (f : PairState → PairState) : (s.updMgr m f).varnish = s.varnish := by cases m <;> rfl
@[simp] theorem State.updMgr_fuses (s : State) (m : Manager) (f : PairState → PairState) : (s.updMgr m f).fuses = s.fuses := by cases m <;> rfl
@[simp] theorem State.updMgr_ident (s : State) (m : Manager) (f : PairState → PairState) : (s.updMgr m f).ident = s.ident := by cases m <;> rfl
@[simp] theorem State.updMgr_rom (s : State) (m : Manager) (f : PairState → PairState) : (s.updMgr m f).rom = s.rom := by cases m <;> rfl
@[simp] theorem State.updMgr_flash (s : State) (m : Manager) (f : PairState → PairState) : (s.updMgr m f).flash = s.flash := by cases m <;> rfl
@[simp] theorem State.updMgr_shadow (s : State) (m : Manager) (f : PairState → PairState) : (s.updMgr m f).shadow = s.shadow := by cases m <;> rfl
@[simp] theorem State.updMgr_wetHeld (s : State) (m : Manager) (f : PairState → PairState) : (s.updMgr m f).wetHeld = s.wetHeld := by cases m <;> rfl
@[simp] theorem State.updMgr_palette (s : State) (m : Manager) (f : PairState → PairState) : (s.updMgr m f).palette = s.palette := by cases m <;> rfl
@[simp] theorem State.updMgr_ports (s : State) (m : Manager) (f : PairState → PairState) : (s.updMgr m f).ports = s.ports := by cases m <;> rfl
@[simp] theorem State.updMgr_rails (s : State) (m : Manager) (f : PairState → PairState) : (s.updMgr m f).rails = s.rails := by cases m <;> rfl
@[simp] theorem State.updMgr_phases (s : State) (m : Manager) (f : PairState → PairState) : (s.updMgr m f).phases = s.phases := by cases m <;> rfl
@[simp] theorem State.updMgr_cells (s : State) (m : Manager) (f : PairState → PairState) : (s.updMgr m f).cells = s.cells := by cases m <;> rfl
@[simp] theorem State.updMgr_links (s : State) (m : Manager) (f : PairState → PairState) : (s.updMgr m f).links = s.links := by cases m <;> rfl
@[simp] theorem State.updMgr_comps (s : State) (m : Manager) (f : PairState → PairState) : (s.updMgr m f).comps = s.comps := by cases m <;> rfl
@[simp] theorem State.updMgr_timers (s : State) (m : Manager) (f : PairState → PairState) : (s.updMgr m f).timers = s.timers := by cases m <;> rfl
@[simp] theorem State.updMgr_router (s : State) (m : Manager) (f : PairState → PairState) : (s.updMgr m f).router = s.router := by cases m <;> rfl
@[simp] theorem State.updMgr_input (s : State) (m : Manager) (f : PairState → PairState) : (s.updMgr m f).input = s.input := by cases m <;> rfl
@[simp] theorem State.updMgr_telem (s : State) (m : Manager) (f : PairState → PairState) : (s.updMgr m f).telem = s.telem := by cases m <;> rfl
@[simp] theorem State.updMgr_app (s : State) (m : Manager) (f : PairState → PairState) : (s.updMgr m f).app = s.app := by cases m <;> rfl
@[simp] theorem State.updMgr_cross (s : State) (m : Manager) (f : PairState → PairState) : (s.updMgr m f).cross = s.cross := by cases m <;> rfl
@[simp] theorem State.updMgr_ret (s : State) (m : Manager) (f : PairState → PairState) : (s.updMgr m f).ret = s.ret := by cases m <;> rfl
@[simp] theorem State.updMgr_safe (s : State) (m : Manager) (f : PairState → PairState) : (s.updMgr m f).safe = s.safe := by cases m <;> rfl
@[simp] theorem State.updMgr_dump (s : State) (m : Manager) (f : PairState → PairState) : (s.updMgr m f).dump = s.dump := by cases m <;> rfl
@[simp] theorem State.updMgr_sketch (s : State) (m : Manager) (f : PairState → PairState) : (s.updMgr m f).sketch = s.sketch := by cases m <;> rfl
@[simp] theorem State.updMgr_work (s : State) (m : Manager) (f : PairState → PairState) : (s.updMgr m f).work = s.work := by cases m <;> rfl
@[simp] theorem State.updMgr_mail (s : State) (m : Manager) (f : PairState → PairState) : (s.updMgr m f).mail = s.mail := by cases m <;> rfl
@[simp] theorem State.updMgr_bus (s : State) (m : Manager) (f : PairState → PairState) : (s.updMgr m f).bus = s.bus := by cases m <;> rfl
@[simp] theorem State.updMgr_pm (s : State) (m : Manager) (f : PairState → PairState) : (s.updMgr m f).pm = s.pm := by cases m <;> rfl
@[simp] theorem State.updMgr_con (s : State) (m : Manager) (f : PairState → PairState) : (s.updMgr m f).con = s.con := by cases m <;> rfl
@[simp] theorem State.updMgr_tap (s : State) (m : Manager) (f : PairState → PairState) : (s.updMgr m f).tap = s.tap := by cases m <;> rfl
@[simp] theorem State.updMgr_ecc (s : State) (m : Manager) (f : PairState → PairState) : (s.updMgr m f).ecc = s.ecc := by cases m <;> rfl
@[simp] theorem State.updMgr_free (s : State) (m : Manager) (f : PairState → PairState) : (s.updMgr m f).free = s.free := by cases m <;> rfl
@[simp] theorem State.updMgr_pending (s : State) (m : Manager) (f : PairState → PairState) : (s.updMgr m f).pending = s.pending := by cases m <;> rfl
@[simp] theorem State.updMgr_rm_rm (s : State) (f : PairState → PairState) : (s.updMgr .rm f).rm = f s.rm := rfl
@[simp] theorem State.updMgr_rm_hm (s : State) (f : PairState → PairState) : (s.updMgr .rm f).hm = s.hm := rfl
@[simp] theorem State.updMgr_hm_hm (s : State) (f : PairState → PairState) : (s.updMgr .hm f).hm = f s.hm := rfl
@[simp] theorem State.updMgr_hm_rm (s : State) (f : PairState → PairState) : (s.updMgr .hm f).rm = s.rm := rfl
@[simp] theorem State.updMgr_mgr (s : State) (m : Manager) (f : PairState → PairState) : (s.updMgr m f).mgr m = f (s.mgr m) := by cases m <;> rfl

/-! ### record -/

/-- Writing a record changes the recorder only. -/
theorem State.record_eq (s : State) (code src p0 p1 : Nat) : ∃ sketch1, s.record code src p0 p1 = { s with sketch := sketch1 } := by
  unfold State.record; split
  · exact ⟨_, rfl⟩
  · exact ⟨_, rfl⟩

@[simp] theorem State.record_clock (s : State) (code src p0 p1 : Nat) : (s.record code src p0 p1 ).clock = s.clock := by
  obtain ⟨_, h⟩ := s.record_eq code src p0 p1; rw [h]
@[simp] theorem State.record_pins (s : State) (code src p0 p1 : Nat) : (s.record code src p0 p1 ).pins = s.pins := by
  obtain ⟨_, h⟩ := s.record_eq code src p0 p1; rw [h]
@[simp] theorem State.record_boot (s : State) (code src p0 p1 : Nat) : (s.record code src p0 p1 ).boot = s.boot := by
  obtain ⟨_, h⟩ := s.record_eq code src p0 p1; rw [h]
@[simp] theorem State.record_varnish (s : State) (code src p0 p1 : Nat) : (s.record code src p0 p1 ).varnish = s.varnish := by
  obtain ⟨_, h⟩ := s.record_eq code src p0 p1; rw [h]
@[simp] theorem State.record_fuses (s : State) (code src p0 p1 : Nat) : (s.record code src p0 p1 ).fuses = s.fuses := by
  obtain ⟨_, h⟩ := s.record_eq code src p0 p1; rw [h]
@[simp] theorem State.record_ident (s : State) (code src p0 p1 : Nat) : (s.record code src p0 p1 ).ident = s.ident := by
  obtain ⟨_, h⟩ := s.record_eq code src p0 p1; rw [h]
@[simp] theorem State.record_rom (s : State) (code src p0 p1 : Nat) : (s.record code src p0 p1 ).rom = s.rom := by
  obtain ⟨_, h⟩ := s.record_eq code src p0 p1; rw [h]
@[simp] theorem State.record_flash (s : State) (code src p0 p1 : Nat) : (s.record code src p0 p1 ).flash = s.flash := by
  obtain ⟨_, h⟩ := s.record_eq code src p0 p1; rw [h]
@[simp] theorem State.record_shadow (s : State) (code src p0 p1 : Nat) : (s.record code src p0 p1 ).shadow = s.shadow := by
  obtain ⟨_, h⟩ := s.record_eq code src p0 p1; rw [h]
@[simp] theorem State.record_wetHeld (s : State) (code src p0 p1 : Nat) : (s.record code src p0 p1 ).wetHeld = s.wetHeld := by
  obtain ⟨_, h⟩ := s.record_eq code src p0 p1; rw [h]
@[simp] theorem State.record_palette (s : State) (code src p0 p1 : Nat) : (s.record code src p0 p1 ).palette = s.palette := by
  obtain ⟨_, h⟩ := s.record_eq code src p0 p1; rw [h]
@[simp] theorem State.record_ports (s : State) (code src p0 p1 : Nat) : (s.record code src p0 p1 ).ports = s.ports := by
  obtain ⟨_, h⟩ := s.record_eq code src p0 p1; rw [h]
@[simp] theorem State.record_rails (s : State) (code src p0 p1 : Nat) : (s.record code src p0 p1 ).rails = s.rails := by
  obtain ⟨_, h⟩ := s.record_eq code src p0 p1; rw [h]
@[simp] theorem State.record_phases (s : State) (code src p0 p1 : Nat) : (s.record code src p0 p1 ).phases = s.phases := by
  obtain ⟨_, h⟩ := s.record_eq code src p0 p1; rw [h]
@[simp] theorem State.record_cells (s : State) (code src p0 p1 : Nat) : (s.record code src p0 p1 ).cells = s.cells := by
  obtain ⟨_, h⟩ := s.record_eq code src p0 p1; rw [h]
@[simp] theorem State.record_links (s : State) (code src p0 p1 : Nat) : (s.record code src p0 p1 ).links = s.links := by
  obtain ⟨_, h⟩ := s.record_eq code src p0 p1; rw [h]
@[simp] theorem State.record_comps (s : State) (code src p0 p1 : Nat) : (s.record code src p0 p1 ).comps = s.comps := by
  obtain ⟨_, h⟩ := s.record_eq code src p0 p1; rw [h]
@[simp] theorem State.record_timers (s : State) (code src p0 p1 : Nat) : (s.record code src p0 p1 ).timers = s.timers := by
  obtain ⟨_, h⟩ := s.record_eq code src p0 p1; rw [h]
@[simp] theorem State.record_router (s : State) (code src p0 p1 : Nat) : (s.record code src p0 p1 ).router = s.router := by
  obtain ⟨_, h⟩ := s.record_eq code src p0 p1; rw [h]
@[simp] theorem State.record_input (s : State) (code src p0 p1 : Nat) : (s.record code src p0 p1 ).input = s.input := by
  obtain ⟨_, h⟩ := s.record_eq code src p0 p1; rw [h]
@[simp] theorem State.record_telem (s : State) (code src p0 p1 : Nat) : (s.record code src p0 p1 ).telem = s.telem := by
  obtain ⟨_, h⟩ := s.record_eq code src p0 p1; rw [h]
@[simp] theorem State.record_app (s : State) (code src p0 p1 : Nat) : (s.record code src p0 p1 ).app = s.app := by
  obtain ⟨_, h⟩ := s.record_eq code src p0 p1; rw [h]
@[simp] theorem State.record_cross (s : State) (code src p0 p1 : Nat) : (s.record code src p0 p1 ).cross = s.cross := by
  obtain ⟨_, h⟩ := s.record_eq code src p0 p1; rw [h]
@[simp] theorem State.record_rm (s : State) (code src p0 p1 : Nat) : (s.record code src p0 p1 ).rm = s.rm := by
  obtain ⟨_, h⟩ := s.record_eq code src p0 p1; rw [h]
@[simp] theorem State.record_hm (s : State) (code src p0 p1 : Nat) : (s.record code src p0 p1 ).hm = s.hm := by
  obtain ⟨_, h⟩ := s.record_eq code src p0 p1; rw [h]
@[simp] theorem State.record_ret (s : State) (code src p0 p1 : Nat) : (s.record code src p0 p1 ).ret = s.ret := by
  obtain ⟨_, h⟩ := s.record_eq code src p0 p1; rw [h]
@[simp] theorem State.record_safe (s : State) (code src p0 p1 : Nat) : (s.record code src p0 p1 ).safe = s.safe := by
  obtain ⟨_, h⟩ := s.record_eq code src p0 p1; rw [h]
@[simp] theorem State.record_dump (s : State) (code src p0 p1 : Nat) : (s.record code src p0 p1 ).dump = s.dump := by
  obtain ⟨_, h⟩ := s.record_eq code src p0 p1; rw [h]
@[simp] theorem State.record_work (s : State) (code src p0 p1 : Nat) : (s.record code src p0 p1 ).work = s.work := by
  obtain ⟨_, h⟩ := s.record_eq code src p0 p1; rw [h]
@[simp] theorem State.record_mail (s : State) (code src p0 p1 : Nat) : (s.record code src p0 p1 ).mail = s.mail := by
  obtain ⟨_, h⟩ := s.record_eq code src p0 p1; rw [h]
@[simp] theorem State.record_bus (s : State) (code src p0 p1 : Nat) : (s.record code src p0 p1 ).bus = s.bus := by
  obtain ⟨_, h⟩ := s.record_eq code src p0 p1; rw [h]
@[simp] theorem State.record_pm (s : State) (code src p0 p1 : Nat) : (s.record code src p0 p1 ).pm = s.pm := by
  obtain ⟨_, h⟩ := s.record_eq code src p0 p1; rw [h]
@[simp] theorem State.record_con (s : State) (code src p0 p1 : Nat) : (s.record code src p0 p1 ).con = s.con := by
  obtain ⟨_, h⟩ := s.record_eq code src p0 p1; rw [h]
@[simp] theorem State.record_tap (s : State) (code src p0 p1 : Nat) : (s.record code src p0 p1 ).tap = s.tap := by
  obtain ⟨_, h⟩ := s.record_eq code src p0 p1; rw [h]
@[simp] theorem State.record_ecc (s : State) (code src p0 p1 : Nat) : (s.record code src p0 p1 ).ecc = s.ecc := by
  obtain ⟨_, h⟩ := s.record_eq code src p0 p1; rw [h]
@[simp] theorem State.record_free (s : State) (code src p0 p1 : Nat) : (s.record code src p0 p1 ).free = s.free := by
  obtain ⟨_, h⟩ := s.record_eq code src p0 p1; rw [h]
@[simp] theorem State.record_pending (s : State) (code src p0 p1 : Nat) : (s.record code src p0 p1 ).pending = s.pending := by
  obtain ⟨_, h⟩ := s.record_eq code src p0 p1; rw [h]

/-! ### noteSources -/

/-- The router looks at its sources; nothing else changes. -/
theorem State.noteSources_eq (s : State) : ∃ router1, s.noteSources = { s with router := router1 } := by
  exact ⟨_, rfl⟩

@[simp] theorem State.noteSources_clock (s : State) : s.noteSources.clock = s.clock := by
  obtain ⟨_, h⟩ := s.noteSources_eq; rw [h]
@[simp] theorem State.noteSources_pins (s : State) : s.noteSources.pins = s.pins := by
  obtain ⟨_, h⟩ := s.noteSources_eq; rw [h]
@[simp] theorem State.noteSources_boot (s : State) : s.noteSources.boot = s.boot := by
  obtain ⟨_, h⟩ := s.noteSources_eq; rw [h]
@[simp] theorem State.noteSources_varnish (s : State) : s.noteSources.varnish = s.varnish := by
  obtain ⟨_, h⟩ := s.noteSources_eq; rw [h]
@[simp] theorem State.noteSources_fuses (s : State) : s.noteSources.fuses = s.fuses := by
  obtain ⟨_, h⟩ := s.noteSources_eq; rw [h]
@[simp] theorem State.noteSources_ident (s : State) : s.noteSources.ident = s.ident := by
  obtain ⟨_, h⟩ := s.noteSources_eq; rw [h]
@[simp] theorem State.noteSources_rom (s : State) : s.noteSources.rom = s.rom := by
  obtain ⟨_, h⟩ := s.noteSources_eq; rw [h]
@[simp] theorem State.noteSources_flash (s : State) : s.noteSources.flash = s.flash := by
  obtain ⟨_, h⟩ := s.noteSources_eq; rw [h]
@[simp] theorem State.noteSources_shadow (s : State) : s.noteSources.shadow = s.shadow := by
  obtain ⟨_, h⟩ := s.noteSources_eq; rw [h]
@[simp] theorem State.noteSources_wetHeld (s : State) : s.noteSources.wetHeld = s.wetHeld := by
  obtain ⟨_, h⟩ := s.noteSources_eq; rw [h]
@[simp] theorem State.noteSources_palette (s : State) : s.noteSources.palette = s.palette := by
  obtain ⟨_, h⟩ := s.noteSources_eq; rw [h]
@[simp] theorem State.noteSources_ports (s : State) : s.noteSources.ports = s.ports := by
  obtain ⟨_, h⟩ := s.noteSources_eq; rw [h]
@[simp] theorem State.noteSources_rails (s : State) : s.noteSources.rails = s.rails := by
  obtain ⟨_, h⟩ := s.noteSources_eq; rw [h]
@[simp] theorem State.noteSources_phases (s : State) : s.noteSources.phases = s.phases := by
  obtain ⟨_, h⟩ := s.noteSources_eq; rw [h]
@[simp] theorem State.noteSources_cells (s : State) : s.noteSources.cells = s.cells := by
  obtain ⟨_, h⟩ := s.noteSources_eq; rw [h]
@[simp] theorem State.noteSources_links (s : State) : s.noteSources.links = s.links := by
  obtain ⟨_, h⟩ := s.noteSources_eq; rw [h]
@[simp] theorem State.noteSources_comps (s : State) : s.noteSources.comps = s.comps := by
  obtain ⟨_, h⟩ := s.noteSources_eq; rw [h]
@[simp] theorem State.noteSources_timers (s : State) : s.noteSources.timers = s.timers := by
  obtain ⟨_, h⟩ := s.noteSources_eq; rw [h]
@[simp] theorem State.noteSources_input (s : State) : s.noteSources.input = s.input := by
  obtain ⟨_, h⟩ := s.noteSources_eq; rw [h]
@[simp] theorem State.noteSources_telem (s : State) : s.noteSources.telem = s.telem := by
  obtain ⟨_, h⟩ := s.noteSources_eq; rw [h]
@[simp] theorem State.noteSources_app (s : State) : s.noteSources.app = s.app := by
  obtain ⟨_, h⟩ := s.noteSources_eq; rw [h]
@[simp] theorem State.noteSources_cross (s : State) : s.noteSources.cross = s.cross := by
  obtain ⟨_, h⟩ := s.noteSources_eq; rw [h]
@[simp] theorem State.noteSources_rm (s : State) : s.noteSources.rm = s.rm := by
  obtain ⟨_, h⟩ := s.noteSources_eq; rw [h]
@[simp] theorem State.noteSources_hm (s : State) : s.noteSources.hm = s.hm := by
  obtain ⟨_, h⟩ := s.noteSources_eq; rw [h]
@[simp] theorem State.noteSources_ret (s : State) : s.noteSources.ret = s.ret := by
  obtain ⟨_, h⟩ := s.noteSources_eq; rw [h]
@[simp] theorem State.noteSources_safe (s : State) : s.noteSources.safe = s.safe := by
  obtain ⟨_, h⟩ := s.noteSources_eq; rw [h]
@[simp] theorem State.noteSources_dump (s : State) : s.noteSources.dump = s.dump := by
  obtain ⟨_, h⟩ := s.noteSources_eq; rw [h]
@[simp] theorem State.noteSources_sketch (s : State) : s.noteSources.sketch = s.sketch := by
  obtain ⟨_, h⟩ := s.noteSources_eq; rw [h]
@[simp] theorem State.noteSources_work (s : State) : s.noteSources.work = s.work := by
  obtain ⟨_, h⟩ := s.noteSources_eq; rw [h]
@[simp] theorem State.noteSources_mail (s : State) : s.noteSources.mail = s.mail := by
  obtain ⟨_, h⟩ := s.noteSources_eq; rw [h]
@[simp] theorem State.noteSources_bus (s : State) : s.noteSources.bus = s.bus := by
  obtain ⟨_, h⟩ := s.noteSources_eq; rw [h]
@[simp] theorem State.noteSources_pm (s : State) : s.noteSources.pm = s.pm := by
  obtain ⟨_, h⟩ := s.noteSources_eq; rw [h]
@[simp] theorem State.noteSources_con (s : State) : s.noteSources.con = s.con := by
  obtain ⟨_, h⟩ := s.noteSources_eq; rw [h]
@[simp] theorem State.noteSources_tap (s : State) : s.noteSources.tap = s.tap := by
  obtain ⟨_, h⟩ := s.noteSources_eq; rw [h]
@[simp] theorem State.noteSources_ecc (s : State) : s.noteSources.ecc = s.ecc := by
  obtain ⟨_, h⟩ := s.noteSources_eq; rw [h]
@[simp] theorem State.noteSources_free (s : State) : s.noteSources.free = s.free := by
  obtain ⟨_, h⟩ := s.noteSources_eq; rw [h]
@[simp] theorem State.noteSources_pending (s : State) : s.noteSources.pending = s.pending := by
  obtain ⟨_, h⟩ := s.noteSources_eq; rw [h]

/-! ### judgeAlert -/

/-- The alert judgement changes the bus only. -/
theorem State.judgeAlert_eq (s : State) : ∃ bus1, s.judgeAlert = { s with bus := bus1 } := by
  unfold State.judgeAlert State.setAlert
  split
  · dsimp only
    split
    · exact ⟨_, rfl⟩
    · exact ⟨_, rfl⟩
  · exact ⟨s.bus, rfl⟩

@[simp] theorem State.judgeAlert_clock (s : State) : s.judgeAlert.clock = s.clock := by
  obtain ⟨_, h⟩ := s.judgeAlert_eq; rw [h]
@[simp] theorem State.judgeAlert_pins (s : State) : s.judgeAlert.pins = s.pins := by
  obtain ⟨_, h⟩ := s.judgeAlert_eq; rw [h]
@[simp] theorem State.judgeAlert_boot (s : State) : s.judgeAlert.boot = s.boot := by
  obtain ⟨_, h⟩ := s.judgeAlert_eq; rw [h]
@[simp] theorem State.judgeAlert_varnish (s : State) : s.judgeAlert.varnish = s.varnish := by
  obtain ⟨_, h⟩ := s.judgeAlert_eq; rw [h]
@[simp] theorem State.judgeAlert_fuses (s : State) : s.judgeAlert.fuses = s.fuses := by
  obtain ⟨_, h⟩ := s.judgeAlert_eq; rw [h]
@[simp] theorem State.judgeAlert_ident (s : State) : s.judgeAlert.ident = s.ident := by
  obtain ⟨_, h⟩ := s.judgeAlert_eq; rw [h]
@[simp] theorem State.judgeAlert_rom (s : State) : s.judgeAlert.rom = s.rom := by
  obtain ⟨_, h⟩ := s.judgeAlert_eq; rw [h]
@[simp] theorem State.judgeAlert_flash (s : State) : s.judgeAlert.flash = s.flash := by
  obtain ⟨_, h⟩ := s.judgeAlert_eq; rw [h]
@[simp] theorem State.judgeAlert_shadow (s : State) : s.judgeAlert.shadow = s.shadow := by
  obtain ⟨_, h⟩ := s.judgeAlert_eq; rw [h]
@[simp] theorem State.judgeAlert_wetHeld (s : State) : s.judgeAlert.wetHeld = s.wetHeld := by
  obtain ⟨_, h⟩ := s.judgeAlert_eq; rw [h]
@[simp] theorem State.judgeAlert_palette (s : State) : s.judgeAlert.palette = s.palette := by
  obtain ⟨_, h⟩ := s.judgeAlert_eq; rw [h]
@[simp] theorem State.judgeAlert_ports (s : State) : s.judgeAlert.ports = s.ports := by
  obtain ⟨_, h⟩ := s.judgeAlert_eq; rw [h]
@[simp] theorem State.judgeAlert_rails (s : State) : s.judgeAlert.rails = s.rails := by
  obtain ⟨_, h⟩ := s.judgeAlert_eq; rw [h]
@[simp] theorem State.judgeAlert_phases (s : State) : s.judgeAlert.phases = s.phases := by
  obtain ⟨_, h⟩ := s.judgeAlert_eq; rw [h]
@[simp] theorem State.judgeAlert_cells (s : State) : s.judgeAlert.cells = s.cells := by
  obtain ⟨_, h⟩ := s.judgeAlert_eq; rw [h]
@[simp] theorem State.judgeAlert_links (s : State) : s.judgeAlert.links = s.links := by
  obtain ⟨_, h⟩ := s.judgeAlert_eq; rw [h]
@[simp] theorem State.judgeAlert_comps (s : State) : s.judgeAlert.comps = s.comps := by
  obtain ⟨_, h⟩ := s.judgeAlert_eq; rw [h]
@[simp] theorem State.judgeAlert_timers (s : State) : s.judgeAlert.timers = s.timers := by
  obtain ⟨_, h⟩ := s.judgeAlert_eq; rw [h]
@[simp] theorem State.judgeAlert_router (s : State) : s.judgeAlert.router = s.router := by
  obtain ⟨_, h⟩ := s.judgeAlert_eq; rw [h]
@[simp] theorem State.judgeAlert_input (s : State) : s.judgeAlert.input = s.input := by
  obtain ⟨_, h⟩ := s.judgeAlert_eq; rw [h]
@[simp] theorem State.judgeAlert_telem (s : State) : s.judgeAlert.telem = s.telem := by
  obtain ⟨_, h⟩ := s.judgeAlert_eq; rw [h]
@[simp] theorem State.judgeAlert_app (s : State) : s.judgeAlert.app = s.app := by
  obtain ⟨_, h⟩ := s.judgeAlert_eq; rw [h]
@[simp] theorem State.judgeAlert_cross (s : State) : s.judgeAlert.cross = s.cross := by
  obtain ⟨_, h⟩ := s.judgeAlert_eq; rw [h]
@[simp] theorem State.judgeAlert_rm (s : State) : s.judgeAlert.rm = s.rm := by
  obtain ⟨_, h⟩ := s.judgeAlert_eq; rw [h]
@[simp] theorem State.judgeAlert_hm (s : State) : s.judgeAlert.hm = s.hm := by
  obtain ⟨_, h⟩ := s.judgeAlert_eq; rw [h]
@[simp] theorem State.judgeAlert_ret (s : State) : s.judgeAlert.ret = s.ret := by
  obtain ⟨_, h⟩ := s.judgeAlert_eq; rw [h]
@[simp] theorem State.judgeAlert_safe (s : State) : s.judgeAlert.safe = s.safe := by
  obtain ⟨_, h⟩ := s.judgeAlert_eq; rw [h]
@[simp] theorem State.judgeAlert_dump (s : State) : s.judgeAlert.dump = s.dump := by
  obtain ⟨_, h⟩ := s.judgeAlert_eq; rw [h]
@[simp] theorem State.judgeAlert_sketch (s : State) : s.judgeAlert.sketch = s.sketch := by
  obtain ⟨_, h⟩ := s.judgeAlert_eq; rw [h]
@[simp] theorem State.judgeAlert_work (s : State) : s.judgeAlert.work = s.work := by
  obtain ⟨_, h⟩ := s.judgeAlert_eq; rw [h]
@[simp] theorem State.judgeAlert_mail (s : State) : s.judgeAlert.mail = s.mail := by
  obtain ⟨_, h⟩ := s.judgeAlert_eq; rw [h]
@[simp] theorem State.judgeAlert_pm (s : State) : s.judgeAlert.pm = s.pm := by
  obtain ⟨_, h⟩ := s.judgeAlert_eq; rw [h]
@[simp] theorem State.judgeAlert_con (s : State) : s.judgeAlert.con = s.con := by
  obtain ⟨_, h⟩ := s.judgeAlert_eq; rw [h]
@[simp] theorem State.judgeAlert_tap (s : State) : s.judgeAlert.tap = s.tap := by
  obtain ⟨_, h⟩ := s.judgeAlert_eq; rw [h]
@[simp] theorem State.judgeAlert_ecc (s : State) : s.judgeAlert.ecc = s.ecc := by
  obtain ⟨_, h⟩ := s.judgeAlert_eq; rw [h]
@[simp] theorem State.judgeAlert_free (s : State) : s.judgeAlert.free = s.free := by
  obtain ⟨_, h⟩ := s.judgeAlert_eq; rw [h]
@[simp] theorem State.judgeAlert_pending (s : State) : s.judgeAlert.pending = s.pending := by
  obtain ⟨_, h⟩ := s.judgeAlert_eq; rw [h]

/-! ### judge -/

/-- What the block notes after a command changes the router and the bus only. -/
theorem State.judge_eq (s : State) : ∃ router1 bus1, s.judge = { s with router := router1, bus := bus1 } := by
  obtain ⟨r, hr⟩ := s.noteSources_eq
  obtain ⟨b, hb⟩ := s.noteSources.judgeAlert_eq
  exact ⟨r, b, by unfold State.judge; rw [hb, hr]⟩

@[simp] theorem State.judge_clock (s : State) : s.judge.clock = s.clock := by
  obtain ⟨_, _, h⟩ := s.judge_eq; rw [h]
@[simp] theorem State.judge_pins (s : State) : s.judge.pins = s.pins := by
  obtain ⟨_, _, h⟩ := s.judge_eq; rw [h]
@[simp] theorem State.judge_boot (s : State) : s.judge.boot = s.boot := by
  obtain ⟨_, _, h⟩ := s.judge_eq; rw [h]
@[simp] theorem State.judge_varnish (s : State) : s.judge.varnish = s.varnish := by
  obtain ⟨_, _, h⟩ := s.judge_eq; rw [h]
@[simp] theorem State.judge_fuses (s : State) : s.judge.fuses = s.fuses := by
  obtain ⟨_, _, h⟩ := s.judge_eq; rw [h]
@[simp] theorem State.judge_ident (s : State) : s.judge.ident = s.ident := by
  obtain ⟨_, _, h⟩ := s.judge_eq; rw [h]
@[simp] theorem State.judge_rom (s : State) : s.judge.rom = s.rom := by
  obtain ⟨_, _, h⟩ := s.judge_eq; rw [h]
@[simp] theorem State.judge_flash (s : State) : s.judge.flash = s.flash := by
  obtain ⟨_, _, h⟩ := s.judge_eq; rw [h]
@[simp] theorem State.judge_shadow (s : State) : s.judge.shadow = s.shadow := by
  obtain ⟨_, _, h⟩ := s.judge_eq; rw [h]
@[simp] theorem State.judge_wetHeld (s : State) : s.judge.wetHeld = s.wetHeld := by
  obtain ⟨_, _, h⟩ := s.judge_eq; rw [h]
@[simp] theorem State.judge_palette (s : State) : s.judge.palette = s.palette := by
  obtain ⟨_, _, h⟩ := s.judge_eq; rw [h]
@[simp] theorem State.judge_ports (s : State) : s.judge.ports = s.ports := by
  obtain ⟨_, _, h⟩ := s.judge_eq; rw [h]
@[simp] theorem State.judge_rails (s : State) : s.judge.rails = s.rails := by
  obtain ⟨_, _, h⟩ := s.judge_eq; rw [h]
@[simp] theorem State.judge_phases (s : State) : s.judge.phases = s.phases := by
  obtain ⟨_, _, h⟩ := s.judge_eq; rw [h]
@[simp] theorem State.judge_cells (s : State) : s.judge.cells = s.cells := by
  obtain ⟨_, _, h⟩ := s.judge_eq; rw [h]
@[simp] theorem State.judge_links (s : State) : s.judge.links = s.links := by
  obtain ⟨_, _, h⟩ := s.judge_eq; rw [h]
@[simp] theorem State.judge_comps (s : State) : s.judge.comps = s.comps := by
  obtain ⟨_, _, h⟩ := s.judge_eq; rw [h]
@[simp] theorem State.judge_timers (s : State) : s.judge.timers = s.timers := by
  obtain ⟨_, _, h⟩ := s.judge_eq; rw [h]
@[simp] theorem State.judge_input (s : State) : s.judge.input = s.input := by
  obtain ⟨_, _, h⟩ := s.judge_eq; rw [h]
@[simp] theorem State.judge_telem (s : State) : s.judge.telem = s.telem := by
  obtain ⟨_, _, h⟩ := s.judge_eq; rw [h]
@[simp] theorem State.judge_app (s : State) : s.judge.app = s.app := by
  obtain ⟨_, _, h⟩ := s.judge_eq; rw [h]
@[simp] theorem State.judge_cross (s : State) : s.judge.cross = s.cross := by
  obtain ⟨_, _, h⟩ := s.judge_eq; rw [h]
@[simp] theorem State.judge_rm (s : State) : s.judge.rm = s.rm := by
  obtain ⟨_, _, h⟩ := s.judge_eq; rw [h]
@[simp] theorem State.judge_hm (s : State) : s.judge.hm = s.hm := by
  obtain ⟨_, _, h⟩ := s.judge_eq; rw [h]
@[simp] theorem State.judge_ret (s : State) : s.judge.ret = s.ret := by
  obtain ⟨_, _, h⟩ := s.judge_eq; rw [h]
@[simp] theorem State.judge_safe (s : State) : s.judge.safe = s.safe := by
  obtain ⟨_, _, h⟩ := s.judge_eq; rw [h]
@[simp] theorem State.judge_dump (s : State) : s.judge.dump = s.dump := by
  obtain ⟨_, _, h⟩ := s.judge_eq; rw [h]
@[simp] theorem State.judge_sketch (s : State) : s.judge.sketch = s.sketch := by
  obtain ⟨_, _, h⟩ := s.judge_eq; rw [h]
@[simp] theorem State.judge_work (s : State) : s.judge.work = s.work := by
  obtain ⟨_, _, h⟩ := s.judge_eq; rw [h]
@[simp] theorem State.judge_mail (s : State) : s.judge.mail = s.mail := by
  obtain ⟨_, _, h⟩ := s.judge_eq; rw [h]
@[simp] theorem State.judge_pm (s : State) : s.judge.pm = s.pm := by
  obtain ⟨_, _, h⟩ := s.judge_eq; rw [h]
@[simp] theorem State.judge_con (s : State) : s.judge.con = s.con := by
  obtain ⟨_, _, h⟩ := s.judge_eq; rw [h]
@[simp] theorem State.judge_tap (s : State) : s.judge.tap = s.tap := by
  obtain ⟨_, _, h⟩ := s.judge_eq; rw [h]
@[simp] theorem State.judge_ecc (s : State) : s.judge.ecc = s.ecc := by
  obtain ⟨_, _, h⟩ := s.judge_eq; rw [h]
@[simp] theorem State.judge_free (s : State) : s.judge.free = s.free := by
  obtain ⟨_, _, h⟩ := s.judge_eq; rw [h]
@[simp] theorem State.judge_pending (s : State) : s.judge.pending = s.pending := by
  obtain ⟨_, _, h⟩ := s.judge_eq; rw [h]

/-! ### Completion -/

@[simp] theorem complete_eq (s : State) : complete s = .next s.judge := rfl

/-! ### Elements after an update -/

theorem getD_modify_self {α : Type} (l : List α) (n : Nat) (f : α → α) (d : α) (h : n < l.length) : (l.modify n f).getD n d = f (l.getD n d) := by
  simp [List.getD, h]
theorem getD_modify_ne {α : Type} (l : List α) (n m : Nat) (f : α → α) (d : α) (h : n ≠ m) : (l.modify n f).getD m d = l.getD m d := by
  simp [List.getD, h]
theorem getD_mapIdx {α : Type} (l : List α) (n : Nat) (f : Nat → α → α) (d : α) (h : n < l.length) : (l.mapIdx f).getD n d = f n (l.getD n d) := by
  simp [List.getD, h]

@[simp] theorem State.updRail_rail (s : State) (n : Nat) (f : Rail → Rail) (h : n < s.rails.length) : (s.updRail n f).rail n = f (s.rail n) :=
  getD_modify_self _ _ _ _ h
theorem State.updRail_rail_ne (s : State) (n m : Nat) (f : Rail → Rail) (h : n ≠ m) : (s.updRail n f).rail m = s.rail m :=
  getD_modify_ne _ _ _ _ _ h
@[simp] theorem State.updPhase_phase (s : State) (n : Nat) (f : Phase → Phase) (h : n < s.phases.length) : (s.updPhase n f).phase n = f (s.phase n) :=
  getD_modify_self _ _ _ _ h
theorem State.updPhase_phase_ne (s : State) (n m : Nat) (f : Phase → Phase) (h : n ≠ m) : (s.updPhase n f).phase m = s.phase m :=
  getD_modify_ne _ _ _ _ _ h
@[simp] theorem State.updCell_cell (s : State) (n : Nat) (f : Cell → Cell) (h : n < s.cells.length) : (s.updCell n f).cell n = f (s.cell n) :=
  getD_modify_self _ _ _ _ h
theorem State.updCell_cell_ne (s : State) (n m : Nat) (f : Cell → Cell) (h : n ≠ m) : (s.updCell n f).cell m = s.cell m :=
  getD_modify_ne _ _ _ _ _ h
@[simp] theorem State.updLink_link (s : State) (n : Nat) (f : Link → Link) (h : n < s.links.length) : (s.updLink n f).link n = f (s.link n) :=
  getD_modify_self _ _ _ _ h
theorem State.updLink_link_ne (s : State) (n m : Nat) (f : Link → Link) (h : n ≠ m) : (s.updLink n f).link m = s.link m :=
  getD_modify_ne _ _ _ _ _ h
@[simp] theorem State.updComp_comp (s : State) (n : Nat) (f : Comp → Comp) (h : n < s.comps.length) : (s.updComp n f).comp n = f (s.comp n) :=
  getD_modify_self _ _ _ _ h
theorem State.updComp_comp_ne (s : State) (n m : Nat) (f : Comp → Comp) (h : n ≠ m) : (s.updComp n f).comp m = s.comp m :=
  getD_modify_ne _ _ _ _ _ h
@[simp] theorem State.updPort_port (s : State) (n : Nat) (f : Port → Port) (h : n < s.ports.length) : (s.updPort n f).port n = f (s.port n) :=
  getD_modify_self _ _ _ _ h
theorem State.updPort_port_ne (s : State) (n m : Nat) (f : Port → Port) (h : n ≠ m) : (s.updPort n f).port m = s.port m :=
  getD_modify_ne _ _ _ _ _ h
@[simp] theorem State.updTimer_timer (s : State) (n : Nat) (f : Timer → Timer) (h : n < s.timers.length) : (s.updTimer n f).timer n = f (s.timer n) :=
  getD_modify_self _ _ _ _ h
theorem State.updTimer_timer_ne (s : State) (n m : Nat) (f : Timer → Timer) (h : n ≠ m) : (s.updTimer n f).timer m = s.timer m :=
  getD_modify_ne _ _ _ _ _ h
@[simp] theorem State.updChan_chan (s : State) (n : Nat) (f : Channel → Channel) (h : n < s.mail.chans.length) : (s.updChan n f).chan n = f (s.chan n) :=
  getD_modify_self _ _ _ _ h
theorem State.updChan_chan_ne (s : State) (n m : Nat) (f : Channel → Channel) (h : n ≠ m) : (s.updChan n f).chan m = s.chan m :=
  getD_modify_ne _ _ _ _ _ h
@[simp] theorem State.updPair_pair (s : State) (n : Nat) (f : Pair → Pair) (h : n < s.telem.pairs.length) : (s.updPair n f).pair n = f (s.pair n) :=
  getD_modify_self _ _ _ _ h
theorem State.updPair_pair_ne (s : State) (n m : Nat) (f : Pair → Pair) (h : n ≠ m) : (s.updPair n f).pair m = s.pair m :=
  getD_modify_ne _ _ _ _ _ h
@[simp] theorem State.mapRails_rail (s : State) (n : Nat) (f : Nat → Rail → Rail) (h : n < s.rails.length) : (s.mapRails f).rail n = f n (s.rail n) :=
  getD_mapIdx _ _ _ _ h
@[simp] theorem State.mapPhases_phase (s : State) (n : Nat) (f : Nat → Phase → Phase) (h : n < s.phases.length) : (s.mapPhases f).phase n = f n (s.phase n) :=
  getD_mapIdx _ _ _ _ h
@[simp] theorem State.mapCells_cell (s : State) (n : Nat) (f : Nat → Cell → Cell) (h : n < s.cells.length) : (s.mapCells f).cell n = f n (s.cell n) :=
  getD_mapIdx _ _ _ _ h
@[simp] theorem State.mapComps_comp (s : State) (n : Nat) (f : Nat → Comp → Comp) (h : n < s.comps.length) : (s.mapComps f).comp n = f n (s.comp n) :=
  getD_mapIdx _ _ _ _ h

end Sys2Proof.Machine
end

