-- ==== Sys2Proof/WellFormed.lean ====
section
/-! DEFINITION. Which operands a command may carry. The types of Syntax.lean already bound every index; what is checked here
is what they do not say: lengths, ranges of converter codes, and lists without repeats. -/

namespace Sys2Proof

/-- Two core blocks of 128 words (Table 12.8). -/
def Frozen.wellFormed (f : Frozen) : Bool := f.core0.length == 128 && f.core1.length == 128

/-- A comparator of each entry exists and is named once, there is at most one measurement for each of the 32
senses, and one result for each of the eight sums and the sixteen readings (R75, R76, R333, R503). -/
def SelfTest.wellFormed (r : SelfTest) : Bool :=
  decide (r.senses.length ≤ 32) && r.comps.all (fun x => x.1 < 76) && decide (r.comps.map (·.1)).Nodup && r.diffs.length == 8 && r.vout.length == 16

/-- Every cell number of a discovery is named once (R239). -/
def wellFormedCells (l : List FoundCell) : Bool := decide (l.map (·.cell)).Nodup

/-- A code a telemetry converter gives: 0 to 4095, or −2048 to 2047 for IIN (R319). -/
def telemCode (c : Int) : Bool := decide (-2048 ≤ c) && decide (c ≤ 4095)

/-- A transaction's byte count: a block of 255 bytes with its count and PEC at most, either way (R417, R423). -/
def BusXfer.wellFormed : BusXfer → Bool
  | .send bs => bs.length ≤ 257
  | .recv n => n ≤ 257
  | .call bs n => bs.length ≤ 257 && n ≤ 257

/-- The byte at which an attempt failed. -/
def NotifyFail.byte : NotifyFail → Nat
  | .lost i | .refused i | .misplaced i => i

/-- The operands of a command are ones the outside can send. -/
def Instr.wellFormed : Instr → Bool
  | .primeP5 found | .stageMaximumExceeded found => wellFormedCells found
  | .primeP6 r => r.wellFormed
  | .enableEvaluation _ l => l.length ≤ 32
  | .syncInEdge _ periodNs => decide (0 < periodNs)
  | .conversionComplete _ a b => telemCode a && telemCode b
  | .converterRecheck _ codes => codes.all fun x => telemCode x.1 && telemCode x.2
  | .lockstepMismatch _ f => f.wellFormed
  | .keyA _ f => f.wellFormed
  | .keyB _ f => f.wellFormed
  | .wdtExpiry _ _ f => f.wellFormed
  | .svcWdtForce _ f => f.wellFormed
  | .hostNotify (some f) => f.byte ≤ 4
  | .hostNotify none => true
  | .page x | .operation x | .onOffConfig x | .clearFaults x | .phase x | .writeProtect x | .capability x | .voutMode x
  | .voutCommand x | .voutMax x | .voutMarginHigh x | .voutMarginLow x | .voutTransitionRate x | .ioutOcFaultLimit x
  | .statusByte x | .statusWord x | .statusVout x | .statusIout x | .statusInput x | .statusTemperature x | .statusCml x
  | .statusMfrSpecific x | .readVin x | .readIin x | .readVout x | .readIout x | .readTemperature1 x | .readPout x
  | .readPin x | .pmbusRevision x | .mfrId x | .mfrModel x | .mfrRevision x | .icDeviceId x | .icDeviceRev x
  | .mfrMboxPost x | .mfrMboxTake x | .mfrMboxStatus x | .epochBump x | .mboxControlRecall x | .select x
  | .mfrMboxControlRead x | .mfrRailState x | .mfrPhaseState x | .mfrCellSelect x | .mfrCellStatus x | .mfrEvtHead x
  | .mfrEvtRead x | .mfrWdtCounts x | .mfrPaletteState x | .mfrGuaranteeState x | .mfrTelemMinmax x | .mfrDumpInfo x
  | .mfrPrimingStatus x | .mfrSecurityState x | .mfrGpio x | .mfrResourceClaims x | .mfrLoopState x | .mfrModelState x
  | .mfrThrottleState x | .unsupportedCommandCode _ x => x.wellFormed
  | .unknownConsoleCommand _ f => f.wellFormed
  | _ => true

end Sys2Proof
end

