-- ==== Sys2Proof/Tests/Slice0.lean ====
section
/-! SUPPORT. Tests of the model: ill-formed operands that WellFormed refuses, for every statement of Obligations.lean a small
state that meets the hypotheses of each of its clauses, and single steps whose results the spec gives. -/

namespace Sys2Proof.Tests

open Sys2Proof Sys2Proof.Machine

set_option Elab.async false

/-! ### Small states -/

/-- A shadow that holds the given fields: section, offset, size in bytes, value. -/
def shadowOf (l : List (Nat × Nat × Nat × Nat)) : Memory :=
  l.foldl (fun m x => sputs 0 m (shadowKey x.1 x.2.1) (leBytes x.2.2.1 x.2.2.2)) []

/-- Rail 0 enabled at 400 kHz with an envelope from 100 to 1000, and its DMAX and UPD_DIV. -/
def basics : List (Nat × Nat × Nat × Nat) :=
  [(3, 0x8, 4, 0x80000190), (3, 0xC, 4, 0x03E80064), (3, 0x10, 4, 0x80000001)]

/-- A device in PRIMED with both pairs running and a configuration of a few fields. -/
def upWith (l : List (Nat × Nat × Nat × Nat)) : State :=
  { State.reset with
    boot := { Boot.reset with held := false, stage := 8, imageLoaded := true }
    clock := { Clock.reset with corePresent := true, loopPresent := true }
    rm := { PairState.reset with run := .running }
    hm := { PairState.reset with run := .running }
    shadow := shadowOf l }

/-- The usual small state. -/
def up : State := upWith basics

/-- The same device before PRIMED, out of power-on reset, at a stage of priming, without an image. -/
def priming (stage : BitVec 4) : State :=
  { State.reset with boot := { Boot.reset with held := false, stage := stage } }

/-- The state a command leaves, or the reset state where it leaves none. -/
def after (c : Instr) (s : State) : State := match exec c s with
  | .next t => t
  | _ => State.reset

theorem up_sized : up.Sized := by unfold State.Sized; decide +kernel

theorem up_inv : up.Inv := ⟨by unfold State.Canonical; decide +kernel, up_sized⟩

/-! ### Refused terms (WellFormed) -/

theorem test_wf_refuses_repeated_cell :
    (Instr.primeP5 [⟨3, none, false, false, [], none⟩, ⟨3, some 1, true, true, [], some 0⟩]).wellFormed = false := by decide

/-- A pass of P6 with nothing failed. -/
def goodTest : SelfTest :=
  { senses := [], comps := [], convA := 0, convB := 0, diffs := List.replicate 8 0, vout := List.replicate 16 0 }

theorem test_wf_self_test :
    goodTest.wellFormed = true ∧
    { goodTest with comps := [(76, 15, 15)] }.wellFormed = false ∧
    { goodTest with comps := [(75, 0, 0), (75, 15, 15)] }.wellFormed = false ∧
    { goodTest with diffs := List.replicate 7 0 }.wellFormed = false ∧
    { goodTest with senses := List.replicate 33 ⟨-256, 0, 256, 0, 0, 500⟩ }.wellFormed = false ∧
    (Instr.enableEvaluation 0 (List.replicate 33 ⟨-256, 0, 256, 0, 0, 500⟩)).wellFormed = false ∧
    { goodTest with vout := [] }.wellFormed = false := by decide

/-- Frozen registers of two cores, `n` words each. -/
def regsOf (n : Nat) : Frozen := { core0 := List.replicate n 0x12345678, core1 := List.replicate n 0x9ABCDEF0 }

theorem test_wf_frozen_registers :
    (regsOf 128).wellFormed = true ∧ (Instr.lockstepMismatch .rm (regsOf 127)).wellFormed = false ∧
    (Instr.keyB .hm (regsOf 129)).wellFormed = false ∧ (Instr.keyA .hm (regsOf 127)).wellFormed = false ∧ (Instr.wdtExpiry .rm .remain (regsOf 0)).wellFormed = false ∧
    (Instr.svcWdtForce .hm (regsOf 1)).wellFormed = false := by decide +kernel

theorem test_wf_numbers_and_lengths :
    (Instr.syncInEdge false 0).wellFormed = false ∧ (Instr.syncInEdge true 1).wellFormed = true ∧
    (Instr.conversionComplete 0 4096 0).wellFormed = false ∧ (Instr.conversionComplete 3 4095 (-2048)).wellFormed = true ∧
    (Instr.converterRecheck 1 [(0, 0), (-2049, 0)]).wellFormed = false ∧
    (Instr.hostNotify (some (.lost 5))).wellFormed = false ∧ (Instr.hostNotify (some (.refused 4))).wellFormed = true ∧
    (Instr.page (.send (List.replicate 258 0))).wellFormed = false ∧ (Instr.mfrMboxTake (.call [1, 0] 258)).wellFormed = false ∧
    (Instr.mfrEvtHead (.recv 258)).wellFormed = false ∧ (Instr.mfrEvtHead (.recv 257)).wellFormed = true := by decide +kernel

theorem test_wf_console_line :
    (Instr.unknownConsoleCommand [.char 0x66] (regsOf 127)).wellFormed = false ∧
    (Instr.unknownConsoleCommand [.char 0x66, .char 0x0D] (regsOf 128)).wellFormed = true := by decide +kernel

/-! ### The hypotheses of each statement can be met -/

theorem test_meets_StepRunsTheFrontCommand :
    step { up with pending := [.settleElapsed 0, .primeP4] } = exec (.settleElapsed 0) { up with pending := [.primeP4] } := rfl

theorem test_meets_IdleStepIsOneClockCycle :
    up.pending = [] ∧ up.boot.held = false ∧ State.reset.pending = [] ∧ State.reset.boot.held = true ∧
    ({ up with clock := { up.clock with tick := 799 } }.clock.tick + 1) % 800 = 0 := by decide

theorem test_meets_EveryStepKeepsTheInvariant : up.Inv ∧ step up = .next up.idleTick := ⟨up_inv, rfl⟩

theorem test_meets_VarnishOnlyBurns : ∃ t, step { priming 7 with pending := [.primeP7] } = .next t := ⟨_, rfl⟩

/-- P2 of a unit with ID_GEN unburned, and P7 with BURN_WDT_HW, change the fuses. -/
theorem test_meets_FusesBurnOnlyInPriming :
    (after (.primeP2 true true true) (priming 2)).fuses.idGen = true ∧ (priming 2).fuses.idGen = false ∧
    (after .primeP7 { upWith [(14, 0x8, 4, 2)] with boot := { up.boot with stage := 7 } }).fuses.wdtHw = true ∧
    up.fuses.wdtHw = false := by decide +kernel

theorem test_meets_OnlyTheirCommandsWriteTheMemories :
    (∃ t, exec (.settleElapsed 0) up = .next t) ∧
    (∀ f ∈ [WritesFlash, WritesShadow, WritesPalette, WritesDump, WritesIdentity], f (.settleElapsed 0) = false) :=
  ⟨⟨_, rfl⟩, by decide⟩

/-- Outside and in power-on reset, with and without work on the flash and the event store in progress. -/
theorem test_meets_PowerOnResetResetsEveryDomain :
    up.boot.held = false ∧ up.boot.stage ≠ 7 ∧ up.work.activating = none ∧ up.work.committing = false ∧ up.work.erasing = none ∧
    State.reset.boot.held = true ∧ (after (.supplyFall 4 0) up).boot.held = true ∧
    (after (.porstNLow 0) up).ret.cause = 1 := by decide +kernel

/-- Held in reset; P1; and a strap on each side of, and on, a band edge and the two ends of Table 2.6. -/
theorem test_meets_ReleaseAndStrap :
    State.reset.boot.held = true ∧ (State.reset.pins.porstN || false) = true ∧
    ({ State.reset with pins := { Pins.reset with porstN := false } }.pins.porstN || false) = false ∧
    (priming 1).boot.held = false ∧ (priming 1).safe.active = false ∧ (priming 1).boot.stage = 1 ∧
    (after (.primeP1 4429 false) (priming 1)).boot.strapInvalid = true ∧
    (after (.primeP1 4430 false) (priming 1)).bus.address = 0x40 ∧
    (after (.primeP1 5619 true) (priming 1)).bus.address = 0x40 ∧
    (after (.primeP1 5620 true) (priming 1)).bus.address = 0x41 ∧
    (after (.primeP1 205100 false) (priming 1)).boot.strapInvalid = false ∧
    (after (.primeP1 205101 false) (priming 1)).bus.address = 0x4F ∧
    (after (.primeP1 205101 false) (priming 1)).boot.strapInvalid = true := by decide +kernel

theorem test_meets_BandEdgeSelectsTheHigherBand :
    (priming 1).boot.held = false ∧ (priming 1).safe.active = false ∧ (priming 1).boot.stage = 1 := by decide

/-- A state in P4 with a configuration. -/
def atP4 (l : List (Nat × Nat × Nat × Nat)) : State :=
  { priming 4 with shadow := shadowOf l, boot := { (priming 4).boot with imageLoaded := true } }

/-- Every stage; an unburned and a burned ID_GEN; claims that do not name what is in use, and claims of which the first is
not allowed (claims in order: test_meets_P4_claims_in_order). -/
theorem test_meets_EarlyPrimingStages :
    (∀ g ∈ [0, 1, 2, 3, 4, 5, 6, 7], (priming g).boot.held = false ∧ (priming g).safe.active = false ∧ (priming g).boot.stage = g) ∧
    (priming 2).fuses.idGen = false ∧ { (priming 2).fuses with idGen := true }.idGen = true ∧
    (atP4 []).boot.held = false ∧ (atP4 []).boot.stage = 4 ∧
    (atP4 []).claimsFail = some 0xFF ∧ (atP4 [(2, 0, 2, 1), (2, 4, 4, 0x06002500)]).claimsFail = some 0 := by decide +kernel

/-- An erased flash, in which both slots fail order 2; a slot A that is marked superseded; a slot that has failed already. That a slot
passes is no witness that can be computed here: what a signature is worth is open (log entry 6). -/
theorem test_meets_ImageSelection :
    let s := priming 3
    let a := startP3 s none .ok
    let marked : State := { s with flash := [(0x18, 0)] }
    s.boot.held = false ∧ s.safe.active = false ∧ s.boot.stage = 3 ∧ s.boot.aFail = false ∧ s.boot.bFail = false ∧ s.flash = [] ∧
    a.boot.aSuperseded = false ∧ slotFails a false .ok = some (2, 0) ∧ slotFails (a.trySlot false .ok).2 true .ok = some (2, 0) ∧
    (startP3 marked none .ok).boot.aSuperseded = true ∧ slotFails (startP3 marked none .ok) true .ok = some (2, 0) ∧
    { s.boot with aFail := true }.aFail = true ∧ { s.boot with bFail := true }.bFail = true := by decide +kernel

/-- P5 of a device that expects cells 0 and 1 and hears cells 0, 1 and 2; the configuration of cell 1 fails. -/
theorem test_meets_DiscoveryFillsTheCellTable :
    let s : State := { priming 5 with
      shadow := shadowOf [(4, 8, 4, 0x80000000), (4, 16, 4, 0x80000000)]
      boot := { (priming 5).boot with imageLoaded := true } }
    let found : List FoundCell :=
      [⟨0, some 7, false, true, [], none⟩, ⟨1, some 8, false, false, [1], some 2⟩, ⟨2, some 9, false, true, [], none⟩]
    s.boot.held = false ∧ s.safe.active = false ∧ s.boot.stage = 5 ∧ s.expect 0 = 1 ∧ s.expect 1 = 1 ∧ s.expect 2 = 0 ∧
    found.find? (fun f => f.cell.val == 0) = some ⟨0, some 7, false, true, [], none⟩ ∧
    found.find? (fun f => f.cell.val == 1) = some ⟨1, some 8, false, false, [1], some 2⟩ ∧
    found.find? (fun f => f.cell.val == 2) = some ⟨2, some 9, false, true, [], none⟩ ∧
    s.linkFault (cellLink 1) = false ∧ s.links.length = 16 ∧
    (found.filter fun g => g.failsAt.isSome && cellLink g.cell.val == cellLink 1).length = 1 ∧
    found.find? (fun f => f.cell.val == 1023) = none ∧ wellFormedCells found = true := by decide +kernel

/-- Four failed configurations on one link declare it (R244). -/
theorem test_four_failed_configurations :
    let f (c : Nat) : FoundCell := ⟨Fin.ofNat 1024 c, some 7, false, false, [], some 0⟩
    let three := (List.range 3).foldl (fun s c => s.configureFound (f c) 7) (priming 5)
    three.linkFault 0 = false ∧ (three.cell 2).state = .silent ∧ (three.configureFound (f 3) 7).linkFault 0 = true := by
  decide +kernel

/-- The measurements of a sound sense pair, and of one whose zero level is 5 codes off (R503). -/
def soundSense : SenseTest := { low := -260, zero := 4, high := 252, moveP := 200, moveN := 200, loop := 500 }

/-- P6 with rail 0 enabled whose sense B fails, and P7. -/
theorem test_meets_SelfTestsAndPrimed :
    let s : State := { up with boot := { up.boot with stage := 6 } }
    let bad := [soundSense, { soundSense with zero := 5 }]
    s.boot.held = false ∧ s.safe.active = false ∧ s.boot.stage = 6 ∧ s.railEn 0 = true ∧
    sensePasses bad 0 false = true ∧ sensePasses bad 0 true = false ∧
    (List.range 16).all (fun n => sensePasses goodTest.senses n false && sensePasses goodTest.senses n true) = true ∧
    (priming 7).boot.stage = 7 ∧ (priming 7).advanceRb = 0 ∧
    { (priming 7).boot with fuseWdtHw := true }.fuseWdtHw = true := by decide +kernel

/-- P6 with comparators of rail 0, both input twins or both converters of pair 0 failing; P7 with a claim to burn, a rollback to
advance and a rail whose node stood too high. -/
theorem test_meets_SelfTestsAndPrimed_rest :
    let s : State := { up with boot := { up.boot with stage := 6 } }
    let two (a b : Fin 76) : SelfTest := { goodTest with comps := [(a.val, 0, 0), (b.val, 0, 0)] }
    let sensed := upWith (basics ++ [(9, 8, 4, 0x00040000), (9, 12, 4, 0xFE000000)])
    let p7 : State := { upWith (basics ++ [(14, 8, 4, 1)]) with
      boot := { up.boot with stage := 7, burnClaim := true, rollback := 5, ovNodes := 1 } }
    goodTest.comps = [] ∧ goodTest.convA = 0 ∧ goodTest.convB = 0 ∧ compFails (two 0 1) 0 = true ∧
    s.enabledRails ≠ [] ∧ compFails (two 64 65) 64 = true ∧ compFails (two 64 65) 65 = true ∧
    (compFails (two 66 67) 64 && compFails (two 66 67) 65) = false ∧ compFails (two 66 67) 66 = true ∧ compFails (two 66 67) 67 = true ∧
    (∀ n < 16, ∀ k < 4, compFails (two 64 65) (4 * n + k) = false) ∧ sensed.pairPowered 0 = true ∧
    { goodTest with convA := 1, convB := 1 }.convA.getLsbD 0 = true ∧
    p7.boot.burnClaim = true ∧ p7.fuses.keyHash.length = 4 ∧ p7.advanceRb = 1 ∧ p7.fuses.rbCount ≤ p7.boot.rollback.toNat ∧
    p7.boot.rollback.toNat ≤ 64 ∧ p7.rails.length = 16 ∧ p7.pm.stVout.length = 16 ∧ p7.boot.ovNodes.getLsbD 0 = true ∧
    p7.railEn 0 = true ∧ (after .primeP7 p7).boot.heldOff.getLsbD 0 = false := by decide +kernel

/-- Each part of the known-level test fails a sense just beyond its bound (R503). -/
theorem test_sense_bounds :
    senseTestPasses soundSense = true ∧ senseTestPasses { soundSense with low := -261 } = false ∧
    senseTestPasses { soundSense with high := 251 } = false ∧ senseTestPasses { soundSense with moveP := 201 } = false ∧
    senseTestPasses { soundSense with moveN := 201 } = false ∧ senseTestPasses { soundSense with loop := 499 } = false := by decide

/-- An erased flash: both slots fail MAGIC (R57, R69, Table 3.6); the bytes are the text of R57. -/
theorem test_priming_lines :
    (after (.primeP3 (some ⟨[], 50000⟩) .ok .ok) (priming 3)).con.out =
      [.text [0x50, 0x52, 0x49, 0x4D, 0x45, 0x20, 0x50, 0x33, 0x20, 0x53, 0x4C, 0x4F, 0x54, 0x20, 0x41],
       .text [0x50, 0x52, 0x49, 0x4D, 0x45, 0x20, 0x50, 0x33, 0x20, 0x53, 0x4C, 0x4F, 0x54, 0x20, 0x42],
       .text [0x42, 0x4C, 0x41, 0x4E, 0x4B, 0x20, 0x43, 0x41, 0x4E, 0x56, 0x41, 0x53, 0x20, 0x43, 0x41, 0x55, 0x53, 0x45, 0x20,
              0x30, 0x78, 0x32, 0x20, 0x44, 0x45, 0x54, 0x41, 0x49, 0x4C, 0x20, 0x30, 0x78, 0x30, 0x30]] := by decide +kernel

theorem test_meets_StageMaximumOutcomes :
    (∀ g ∈ [0, 1, 2, 3, 4, 5, 6, 8], (priming g).boot.held = false ∧ (priming g).safe.active = false ∧ (priming g).boot.stage = g) ∧
    (priming 3).boot.aFail = false ∧ (priming 3).boot.bFail = false ∧ (priming 3).markA = false ∧
    { (priming 3).boot with aFail := true }.aFail = true := by decide

/-! Restarts, clocks and standby -/

/-- `up` with a message in channel 1 bound to the RM. -/
def fullToRm : State := { upWith [(12, 12, 4, 0x0104FF00)] with
  mail := { Mail.reset with chans := Mail.reset.chans.modify 1 fun c => { c with full := true } } }

theorem test_meets_PairRestartsAndReturns :
    up.boot.held = false ∧ up.boot.stage = 8 ∧ up.safe.warm = none ∧ up.rm.run = .running ∧ up.hm.run = .running ∧
    fullToRm.chanReceiver 1 = 4 ∧ (fullToRm.chan 1).full = true ∧ (fullToRm.mail.chans[1]?).isSome := by decide +kernel

theorem test_meets_PairRestartsAndReturns_ends :
    let s : State := { up with
      rm := { up.rm with run := .restarting, frozen := some (regsOf 128) }
      hm := { up.hm with run := .restarting }
      bus := { Bus.reset with cut := true } }
    s.safe.warm = none ∧ s.clock.corePresent = true ∧ s.rm.run = .restarting ∧ s.hm.run = .restarting ∧ s.bus.cut = true ∧
    s.rm.frozen = some (regsOf 128) ∧ s.ret.capPending = false ∧ s.app.heldClears = [] ∧ s.app.holding = false ∧
    s.cross.posts = [] ∧ s.cross.toLoop = [] ∧ s.clock.loopPresent = true ∧ { s.ret with capPending := true }.capPending = true ∧
    s.takable = [] ∧ (let run := s.updCore 0 fun c => { c with state := .regulating }
     run.takable = [0] ∧ (after .rmReadyHeartbeat run).app.taking = 1) := by
  decide +kernel

theorem test_meets_WarmRestartKeepsRetainedCounts :
    let t := after (.warmChipRestart (.begins .ladder none)) up
    up.boot.stage = 8 ∧ up.safe.warm = none ∧ up.rm.run = .running ∧ up.hm.run = .running ∧ up.rails.length = 16 ∧
    t.safe.warm.isSome = true ∧ t.clock.corePresent = true ∧ t.hm.run = .restarting ∧ t.clock.onBackup = false := by
  decide +kernel

/-- A warm restart while both pairs restart; one of a device whose RM is held, without and with a RESUME; and what it absorbs. -/
theorem test_meets_WarmRestartKeepsRetainedCounts_begins :
    let both := after (.pairRestartHm (.begins .wdExpiry none)) (after .pairRestartRm up)
    let t := after (.warmChipRestart (.begins .ladder none)) both
    let safe : State := { up with rm := { up.rm with run := .heldReset }, safe := { up.safe with active := true, resumed := true } }
    both.rm.run = .restarting ∧ both.hm.run = .restarting ∧ both.safe.warm = none ∧ t.safe.warm.isSome = true ∧
    t.mail.epRm = both.mail.epRm + 1 ∧ (after .pairRestartRm t).ret.cause = t.ret.cause ∧ safe.boot.stage = 8 ∧
    (after (.warmChipRestart (.begins .ladder none)) safe).rm.run = .heldReset ∧
    (after (.warmChipRestart (.begins .resume none)) safe).rm.run = .restarting := by decide +kernel

/-- The ends of the warm restart: without an image, with the shadow as it was checked, and with a wet CRC that fails. -/
theorem test_meets_WarmRestartKeepsRetainedCounts_ends :
    let t : State := after (.warmChipRestart (.begins .ladder none)) { up with boot := { up.boot with imageLoaded := false } }
    t.safe.warm.isSome = true ∧ t.clock.corePresent = true ∧ t.hm.run = .restarting ∧ t.boot.imageLoaded = false := by
  decide +kernel

/-- A state whose CRC of the wet sections is another than the one kept. -/
def wrongCrc (s : State) : State :=
  { s with boot := { s.boot with imageLoaded := true, wetCrc := BitVec.ofNat 32 (crc32 s.committed.wetBytes + 1) } }

theorem next_crc_differs (c : Nat) : (BitVec.ofNat 32 (c + 1)).toNat ≠ c := by simp; omega

theorem test_meets_WarmRestartKeepsRetainedCounts_crc (s : State) :
    (wrongCrc s).boot.imageLoaded = true ∧ (wrongCrc s).boot.wetCrc.toNat ≠ crc32 (wrongCrc s).committed.wetBytes :=
  ⟨rfl, next_crc_differs _⟩

theorem test_meets_WarmRestartKeepsRetainedCounts_digest :
    let good : State := { up with boot := { up.boot with dryDigest := sha384 up.dryBytes } }
    good.boot.imageLoaded = true ∧ good.boot.dryDigest = sha384 good.dryBytes := ⟨rfl, rfl⟩

theorem test_meets_ClockLossAndReturn :
    let lost : State := { up with clock := { up.clock with corePresent := false, loopPresent := false, onBackup := true } }
    let backup : State := { up with clock := { up.clock with onBackup := true } }
    up.boot.held = false ∧ up.clock.corePresent = true ∧ up.phases.length = 128 ∧ up.phaseRail 127 = some 0 ∧
    up.railEn 0 = true ∧ lost.clock.loopPresent = false ∧ lost.clock.corePresent = false ∧ lost.clock.standby = false ∧
    lost.boot.stage = 8 ∧ lost.safe.warm = none ∧ lost.rm.run = .running ∧ lost.hm.run = .running ∧
    backup.clock.onBackup = true ∧ backup.clock.corePresent = true ∧ up.clock.appPresent = true ∧ lost.clock.appPresent = true ∧
    (after (.heartbeatCheck true) up).clock.appPresent = false := by decide +kernel

/-- A device at rest with STANDBY_EN = 1 and no rail. -/
def quietUp : State := upWith [(13, 8, 4, 0x00080000)]

theorem test_meets_StandbyStopsAndWakes :
    quietUp.boot.stage = 8 ∧ quietUp.standbyEn = 1 ∧ quietUp.clock.corePresent = true ∧ quietUp.busyState = false ∧
    quietUp.quiet = true ∧ up.standbyEn ≠ 1 ∧
    (after .standbyEntry quietUp).clock.standby = true ∧ (after .standbyEntry quietUp).clock.appPresent = true := by decide +kernel

theorem test_meets_ScrubReactions :
    up.boot.held = false ∧ up.boot.stage = 8 ∧ up.safe.active = false ∧ Sparse.wf (0 : Word) up.palette ∧
    up.rails.length = 16 ∧ ((up.updLe 0 fun l => { l with mode := 1 }).rail 0).le.mode = 1 ∧
    ((up.updLe 0 fun l => { l with mode := 1 }).rail 0).le.declared = 0 := by
  refine ⟨rfl, rfl, rfl, up_inv.1.2.2, up_sized.2.1, ?_⟩; decide +kernel

/-- A word that fails on two passes, a full mailbox with a free reply channel, a staged record, and a torn one. -/
theorem test_meets_ScrubReactions_rest :
    let one := after (.scrub [.double .palette 7] none) up
    let two := after (.scrub [.double .palette 7] none) one
    let box : State := { upWith [(12, 12, 4, 0x0004FF00), (12, 8, 4, 0x00010301)] with
      mail := { Mail.reset with chans := Mail.reset.chans.modify 0 fun c => { c with full := true } } }
    let staged : State := { up with sketch := { up.sketch with closed := [up.sketch.fresh 0 0x1001 0 0 0 0] } }
    one.memoryFault .palette 7 = true ∧ up.memoryFault .palette 7 = false ∧ one.input.faults.map (·.lasting) = [false] ∧
    two.input.faults.map (·.lasting) = [true] ∧ (box.chan 0).full = true ∧ (box.chan 0).out = [] ∧
    (box.chan 1).full = false ∧ 0 < staged.sketch.closed.length ∧ up.safe.warm = none ∧
    (after (.scrub [.double .hmMemory 0] none) up).hm.run = .restarting ∧ (after (.scrub [.double .rom 4] none) up).rm.run = .restarting := by
  decide +kernel

theorem test_meets_PlainRegisterWrites :
    let full : State := { up with mail := { up.mail with chans := up.mail.chans.modify 3 fun c => { c with full := true } } }
    let served : State := { up with rm := { up.rm with wd := { up.rm.wd with run := true, serviced := true } } }
    let fixed : State := { up with boot := { up.boot with fixative := true } }
    up.boot.held = false ∧ up.rm.run = .running ∧ up.hm.run = .running ∧ up.clock.corePresent = true ∧
    up.rm.wd.run = false ∧ served.rm.wd.run = true ∧ served.rm.wd.serviced = true ∧ up.mail.chans.length = 16 ∧
    fullToRm.chanSender 1 = identCode .host ∧ (fullToRm.chan 2).full = false ∧ (full.chan 3).full = true ∧
    up.chanSender 3 ≠ identCode .host ∧ fixed.boot.fixative = true ∧ up.boot.fixative = false ∧
    (upWith [(12, 8, 4, 0x0304FF00)]).chanSender 0 = identCode .hm ∧ up.pairPath .hm = true ∧ (up.chan 0).full = false ∧ up.boot.stage = 8 ∧
    Memory.wf 0 up.shadow ∧ (unitAt 3 8).isSome = true ∧ reservedByte 3 8 = false ∧ reservedByte 7 0x8C = true ∧ unitAt 255 0 = none ∧
    Sparse.wf (0 : Word) up.palette ∧ { up.rm with run := .restarting }.run ≠ .running ∧
    (up.port 7).actBank = false ∧ up.entryRefused 7 0 [200] = none ∧ up.entryRefused 7 0 [99] ≠ none := by decide +kernel

/-! Supervision -/

/-- `up` with the RM's watchdog running, REMAIN at `r`, a mask and what has checked in. -/
def wdUp (r : Nat) (keyA : Bool) (mask checked : BitVec 16) : State :=
  { up with rm := { up.rm with wd := { up.rm.wd with run := true, remain := r, keyA := keyA, taskMask := mask, checked := checked } } }

theorem test_meets_WatchdogService :
    let s := wdUp 1 true 3 3
    (s.mgr .rm).run = .running ∧ s.clock.corePresent = true ∧ (s.mgr .rm).wd.run = true ∧ (s.mgr .rm).wd.remain ≠ 0 ∧
    (s.mgr .rm).wd.keyA = true ∧ (s.mgr .rm).wd.taskMask ≠ 0 ∧ (s.mgr .rm).wd.checked = (s.mgr .rm).wd.taskMask ∧
    ((wdUp 1 true 3 1).mgr .rm).wd.checked ≠ ((wdUp 1 true 3 1).mgr .rm).wd.taskMask ∧
    ((wdUp 1 true 0 0).mgr .rm).wd.taskMask = 0 ∧ ((wdUp 0 true 3 3).mgr .rm).wd.remain = 0 ∧
    ((wdUp 1 false 3 3).mgr .rm).wd.keyA = false ∧ (s.mgr .rm).wd.taskMask.getLsbD 1 = true ∧
    (s.mgr .rm).wd.checked.getLsbD 1 = true ∧ ((wdUp 1 true 3 1).mgr .rm).wd.checked.getLsbD 1 = false ∧
    field (0x5AA5 : Word).toNat 0 16 = 0x5AA5 ∧ field (0xA55A : Word).toNat 0 16 = 0xA55A ∧ s.wdLock .rm = false ∧
    { s with fuses := { s.fuses with wdtHw := true }, boot := { s.boot with fuseWdtHw := true } }.wdLock .rm = true ∧
    (up.mgr .rm).wd.run = false := by decide +kernel

/-- GO in PRIMED and during priming; check-ins and the disable sequence are with the service sequence's states. -/
theorem test_meets_WatchdogRegisters :
    let early : State := { up with boot := { up.boot with stage := 5 } }
    (up.mgr .hm).run = .running ∧ up.clock.corePresent = true ∧ (up.mgr .hm).wd.run = false ∧ up.boot.stage = 8 ∧
    early.boot.stage ≠ 8 ∧ early.boot.stage ≠ 0xE ∧ ((wdUp 1 true 3 1).mgr .rm).wd.run = true := by decide +kernel

theorem test_meets_ExpiriesAndMiscompares :
    let s := wdUp 0 false 3 1
    let moving := up.updCore 0 fun c => { c with state := .regulating }
    (s.mgr .rm).run = .running ∧ s.clock.corePresent = true ∧ (s.mgr .rm).wd.run = true ∧ s.railsRest = true ∧
    moving.railsRest = false ∧ (moving.mgr .hm).run = .running ∧ ExpiryCause.remain ≠ .forced ∧
    ({ s with rm := { s.rm with run := .restarting } }.mgr .rm).run = .restarting := by decide +kernel

theorem test_meets_DecayLowersOneCount : (priming 8).decayH = 24 ∧ up.decayH = 0 := by decide +kernel

/-- `up` with rail 0 in a state. -/
def railAt (x : RailState) : State := up.updCore 0 fun c => { c with state := x }

theorem test_meets_ApprenticeTakesTheRails :
    let s := railAt .regulating
    s.boot.held = false ∧ s.rails.length = 16 ∧ s.app.disabled = false ∧ s.app.mismatch = false ∧ s.app.holding = false ∧
    s.railEn 0 = true ∧ (s.rail 0).core.state.running = true ∧ s.railEn 1 = false ∧ (∀ n : Fin 16, (s.rail n).core.waitWake = false) ∧
    (after (.apprenticeTakeover .router) s).app.holding = true ∧ (after (.apprenticeTakeover .router) s).app.handback = false ∧
    { s.app with disabled := true }.disabled = true ∧ s.clock.appPresent = true ∧
    (after (.apprenticeTakeover .router) (after (.heartbeatCheck true) s)).app.holding = false := by decide +kernel

/-- The Apprentice holds rails 0 and 1, and the RM runs again. -/
def heldUp (handback : Bool) : State :=
  let s := (railAt .apprenticeHold).updCore 1 fun c => { c with state := .apprenticeHold }
  { s with app := { s.app with holding := true, handback := handback } }

theorem test_meets_HandbackRailByRail :
    let s := (heldUp true).updCore 1 fun c => { c with waitStart := true }
    let noRail : State := { up with app := { up.app with holding := true } }
    let last : State := { railAt .apprenticeHold with app := { up.app with holding := true, handback := true } }
    let bursting := s.updPol 0 fun p => { p with burst := true }
    s.rails.length = 16 ∧ s.handbackMay = true ∧ (heldUp false).handbackMay = true ∧ s.app.handback = true ∧
    (s.rail 0).core.state = .apprenticeHold ∧ (s.rail 1).core.state = .apprenticeHold ∧ s.railQuiet 0 = true ∧
    (s.rail 0).core.ramping = true ∧ (s.rail 1).core.ramping = false ∧
    last.app.handback = true ∧ (last.rail 0).core.state = .apprenticeHold ∧ last.railQuiet 0 = true ∧
    (∀ j : Fin 16, j ≠ 0 → (last.rail j).core.state ≠ .apprenticeHold) ∧ (last.rail 0).core.ramping = true ∧
    last.app.heldClears = [] ∧ last.app.mismatch = false ∧ last.handbackMay = true ∧ last.cross = { posts := [], toLoop := [] } ∧
    bursting.railQuiet 0 = false ∧ bursting.handbackMay = true ∧ noRail.handbackMay = true ∧
    (∀ n : Fin 16, (noRail.rail n).core.state ≠ .apprenticeHold) ∧
    bursting.app.handback = true := by decide +kernel

/-- Rails 0 and 1 are left to take, and rail 0 alone. -/
theorem test_meets_HandbackRailByRail_takes :
    let two : State := { railAt .regulating with app := { up.app with taking := 3 } }
    let one : State := { railAt .regulating with app := { up.app with taking := 1, heldClears := [0] } }
    two.app.holding = false ∧ two.rmReady = true ∧ two.railQuiet 0 = true ∧ two.app.taking.getLsbD 0 = true ∧
    two.app.taking.getLsbD 2 = false ∧ two.cross = { posts := [], toLoop := [] } ∧ (after (.railHandback 0) two).app.taking = 2 ∧
    (after (.railHandback 0) one).app.taking = 0 ∧ (after (.railHandback 0) one).app.heldClears = [] := by decide +kernel

theorem test_meets_ApprenticeSelfCheck :
    up.boot.held = false ∧ up.rm.run = .running ∧ up.clock.corePresent = true ∧ up.safe.warm = none ∧ up.app.disabled = false ∧
    up.dest 75 = false ∧ up.pending = [] ∧ (after (.heartbeatCheck true) up).clock.appPresent = false ∧
    (after (.heartbeatCheck true) up).pending = [] := by decide +kernel

theorem test_meets_PentimentoCommits :
    let s : State := { up with ret := { up.ret with capPending := true } }
    s.hm.run = .running ∧ s.clock.corePresent = true ∧ s.ret.capPending = true ∧ s.dump.locked = false ∧
    s.captureWaits = false ∧ s.work.dumping = false ∧ up.ret.capPending = false ∧
    (let ending : State := { s with work := { s.work with dumping := true } }
     ending.work.dumping = true ∧ ending.ret.capPending = true ∧ ending.dump.locked = false ∧ ending.captureWaits = false) := by decide +kernel

/-! Rails -/

theorem test_meets_LatchEdgesAndThrottleBalls :
    let alone := upWith [(5, 8, 4, 0xFFFFFFFF)]
    let low := up.updProt 0 fun p => { p with throt := 1 }
    let routed : State := { upWith [(8, 0x1800 + 41, 1, 4)] with
      router := { Router.reset with delivered := Router.reset.delivered.set 165 true } }
    up.boot.held = false ∧ up.clock.loopPresent = true ∧ up.ports.length = 8 ∧ up.boot.stage = 8 ∧ up.groupRails 7 ≠ [] ∧ alone.groupRails 0 = [] ∧
    (priming 7).boot.stage ≠ 8 ∧ up.softDest 71 = false ∧ (∀ n ∈ up.groupRails 7, (up.rail n).prot.throt = 0) ∧
    (∃ n ∈ low.groupRails 7, (low.rail n).prot.throt ≠ 0) ∧ routed.softDest 64 = true := by decide +kernel

/-- A rail of a group that the palette governs: not live; live with ANTIC 0, and with ANTIC 3 after the edge; held. -/
theorem test_meets_LatchEdgesAndThrottleBalls_rails :
    let own := [(5, 8, 4, 0xFFFFFF00)]
    let off := upWith (basics ++ own)
    let live := off.updCore 0 fun c => { c with state := .regulating }
    let three := { live with palette := [(0, BitVec.ofNat 32 (3 * 2 ^ 22))] }
    let held : State := { off.updCore 0 fun c => { c with state := .apprenticeHold } with app := { up.app with holding := true } }
    0 ∈ off.groupRails 0 ∧ off.rails.length = 16 ∧ off.paletteGoverns 0 = true ∧ off.rank1 0 = false ∧
    (off.rail 0).core.state.live = false ∧ (live.rail 0).core.state.live = true ∧ (after (.slatEdge 0 0 0 5 5) live).antic 0 ≠ 3 ∧
    live.rank1 0 = false ∧ (after (.slatEdge 0 0 0 5 5) three).antic 0 = 3 ∧ three.rank1 0 = false ∧ held.paletteGoverns 0 = true ∧
    held.rank1 0 = false ∧ (held.rail 0).core.state = .apprenticeHold ∧ held.appStopped = false := by decide +kernel

theorem test_meets_SlewLimiterMovesTowardTheTarget :
    up.rails.length = 16 ∧ up.clock.loopPresent = true ∧ ((railAt .regulating).rail 0).core.state = .regulating ∧
    ((railAt .slewing).rail 0).core.state = .slewing ∧ ((railAt .softStart).rail 0).core.state = .softStart ∧
    ((railAt .softStart).rail 0).core.waitStart = false ∧ ((railAt .softStart).rail 0).core.waitWake = false ∧
    ((railAt .apprenticeHold).rail 0).core.state = .apprenticeHold ∧ ((railAt .apprenticeHold).rail 0).core.ramping = true ∧
    ((railAt .softStop).rail 0).core.state = .softStop ∧ (up.rail 15).core.state = .off ∧ (railAt .softStop).stopLevel 0 = 0 := by
  decide +kernel

theorem test_meets_SettleAndPrebias :
    let pre := (railAt .regulating).updCore 0 fun c => { c with prebias := true }
    let waits := (railAt .softStart).updCore 0 fun c => { c with waitStart := true, waitWake := true }
    let wakes := waits.updPhase 127 fun p => { p with state := .waking }
    up.rails.length = 16 ∧ ((railAt .slewing).rail 0).core.state.live = true ∧ (pre.rail 0).core.prebias = true ∧
    pre.paletteGoverns 0 = true ∧ (pre.rail 0).core.state ≠ .apprenticeHold ∧ pre.rank1 0 = false ∧
    ((railAt .discharge).rail 0).core.state = .discharge ∧ (waits.rail 0).core.state = .softStart ∧
    (((railAt .apprenticeHold).updCore 0 fun c => { c with waitStart := true, waitWake := true }).rail 0).core.waitStart = true ∧
    (waits.rail 0).core.waitStart = true ∧ (waits.rail 0).core.waitWake = true ∧ waits.phasesIn 0 Phase.wakingActive = [] ∧
    wakes.phasesIn 0 Phase.wakingActive ≠ [] := by decide +kernel

/-- Rail 0 regulating with sense codes `a` and `b`, `n` samples of disagreement and as many of agreement, a model or none. -/
def voting (a b : Int) (n : Nat) (valid pending : Bool) : State :=
  ((railAt .regulating).updSense 0 fun x =>
    { x with cA := a, cB := b, disCount := n, agreeCount := n, votePending := pending }).updModel 0 fun m => { m with valid := valid }

theorem test_meets_SensesAndVote :
    up.rails.length = 16 ∧ up.railEn 0 = true ∧ up.clock.loopPresent = true ∧
    ((voting 0 62 64 true false).rail 0).sense.votes = true ∧ ((voting 0 62 64 true false).rail 0).sense.votePending = false ∧
    (if (voting 0 62 64 true false).clock.onBackup then 32 else 64) ≤ ((voting 0 62 64 true false).rail 0).sense.disCount ∧
    ((voting 0 62 64 true false).rail 0).model.valid = true ∧ ((voting 0 62 64 false false).rail 0).model.valid = false ∧
    ((voting 40 102 64 true false).fromModel 0 40).natAbs ≤ 10240 ∧ 10240 < ((voting 40 102 64 true false).fromModel 0 102).natAbs ∧
    10240 < ((voting (-41) 41 64 true false).fromModel 0 41).natAbs ∧
    10240 < ((voting (-41) 41 64 true false).fromModel 0 (-41)).natAbs ∧
    ((voting (-41) 41 64 true false).rail 0).core.state ≠ .off ∧
    ((voting 0 0 64 true true).rail 0).sense.votePending = true ∧ 64 ≤ ((voting 0 0 64 true true).rail 0).sense.agreeCount := by
  decide +kernel

/-- Rail 0 regulating with a program of one bundle, NOP with END. -/
def coded : State := (railAt .regulating).updLe 0 fun l => { l with mode := 1, code := [0x02000000] }

theorem test_meets_LoopEngineUpdates :
    let held := railAt .apprenticeHold
    coded.rails.length = 16 ∧ coded.railEn 0 = true ∧ coded.updates 0 = true ∧
    held.updates 0 = true ∧ held.leRuns 0 = false ∧ coded.leRuns 0 = true ∧
    (match leRun (coded.rail 0).le (coded.updateInputs 0) none (25 * coded.updDiv 0) with
      | .done c a _ => c == 1 && a == 0
      | _ => false) = true ∧
    (coded.rail 0).le.mode = 1 ∧ (coded.rail 0).le.envRun < 7 ∧ (coded.rail 0).le.satRun < 7 := by decide +kernel

theorem test_meets_FaultyLoopEngines :
    let late := coded.updLe 0 fun l => { l with unfinished := some 0, overruns := List.replicate 15 true }
    let due := coded.updLe 0 fun l => { l with mode := 3, rearmDue := true }
    let shadow := coded.updLe 0 fun l => { l with mode := 2, shadowCount := 1024 }
    late.rails.length = 16 ∧ (late.rail 0).le.unfinished = some 0 ∧ (late.rail 0).le.mode = 1 ∧ (late.rail 0).le.declared = 0 ∧
    16 ≤ ((true :: (late.rail 0).le.overruns).take 1024).countP id ∧ (due.rail 0).le.mode = 3 ∧ (due.rail 0).le.rearmDue = true ∧
    (due.rail 0).core.state ≠ .apprenticeHold ∧ due.rm.run = .running ∧ due.clock.loopPresent = true ∧ due.clock.corePresent = true ∧ due.cross = { posts := [], toLoop := [] } ∧ (shadow.rail 0).le.mode = 2 ∧ 1024 ≤ (shadow.rail 0).le.shadowCount := by decide +kernel

theorem test_meets_SelfCharacterisationRuns :
    let ready := (railAt .regulating).updModel 0 fun m => { m with firstLight := true, charDue := true, charAborts := 1 }
    let spent := ready.updModel 0 fun m => { m with charAborts := 3 }
    let busy := ready.updModel 0 fun m => { m with charBusy := true }
    ready.rails.length = 16 ∧ ready.charReady 0 = true ∧ (ready.rail 0).model.firstLight = true ∧
    (ready.rail 0).model.charDue = true ∧ 1 ≤ (ready.rail 0).model.charAborts ∧ (ready.rail 0).model.charAborts < 3 ∧
    spent.charReady 0 = true ∧ 3 ≤ (spent.rail 0).model.charAborts ∧ (busy.rail 0).model.charBusy = true := by decide +kernel

theorem test_meets_EnableRequestMovesTheRail :
    let s := railAt .primed
    s.boot.stage = 8 ∧ s.rails.length = 16 ∧ s.railEn 0 = true ∧ s.railEn 15 = false ∧ s.tap.enHeld = false ∧
    s.app.holding = false ∧ s.classStopped 0 = false ∧ s.clock.standby = false ∧ s.levelHeld = false ∧
    { s with pins := { s.pins with enOn := 1 } }.enableRequest 0 = true ∧
    { s with pins := { s.pins with enOn := 2 } }.enableRequest 0 = false ∧
    ((railAt .reenablePending).rail 0).core.state = .reenablePending ∧
    ((railAt .softStop).rail 0).core.state = .softStop ∧ ((railAt .softStop).rail 0).core.appStop = false ∧
    ((railAt .softStart).rail 0).core.state = .softStart ∧ { s.app with holding := true }.holding = true ∧ s.railKept 0 = false ∧
    { s with app := { s.app with causes := 1, disabled := true } }.railKept 0 = true ∧
    (∀ n : Fin 16, ({ s with app := { s.app with taking := 1 } }.railKept n = true) = (n = 0)) := by decide +kernel

/-! Comparators, bursts, timers -/

/-- Comparator 1 (OV_FAST of rail 0) with two open windows. -/
def windows : State := up.updComp 1 fun c => { c with win := 3 }

theorem test_meets_ComparatorsAndTheirTests :
    let one := up.updComp 1 fun c => { c with win := 1, live := true }
    let kept := upWith (basics ++ [(8, 0x18, 4, 0x10000000)])
    let asserted := up.updComp 1 fun c => { c with out := true }
    let due := up.updComp 1 fun c => { c with repeatDue := some 2 }
    let switched := up.updSense 0 fun x => { x with switchAt := some 0 }
    up.selectorMoves 1 = false ∧ switched.selectorMoves 1 = true ∧ up.comps.length = 76 ∧ up.rails.length = 16 ∧ up.boot.stage = 8 ∧ up.compInService 1 = true ∧ up.compOver 1 = true ∧
    up.threshold 1 = 0 ∧ up.hyst 1 = 0 ∧ up.compInService 0 = true ∧ up.compOver 0 = false ∧ up.threshold 0 = 0 ∧
    (windows.comp 1).win ≠ 0 ∧ (up.comp 1).win = 0 ∧ (up.comp 1).live = (up.comp 1).out ∧ up.classP 1 = true ∧
    (windows.comp 1).win.getLsbD (maskIdx .gt) = true ∧ (windows.comp 1).win &&& ~~~(winBit (maskIdx .gt)) ≠ 0 ∧
    (one.comp 1).win &&& ~~~(winBit (maskIdx .gt)) = 0 ∧ (one.comp 1).failed = false ∧ bit (kept.cmpWord 1) 28 = true ∧
    kept.classP 1 = true ∧ kept.clock.loopPresent = true ∧ kept.sameCycle (kept.comp 1).setAt = false ∧
    up.sameCycle ((up.updComp 1 fun c => { c with setAt := some 0 }).comp 1).setAt = true ∧
    { up.con with waiting := some (.cmp 1) }.waiting = some (.cmp 1) ∧ up.con.waiting ≠ some (.cmp 1) ∧ (kept.comp 1).out = false ∧ (asserted.comp 1).out = true ∧ windows.testable 1 = true ∧
    up.testable 1 = true ∧ up.railQuiet (up.mrail 1) = true ∧ (due.comp 1).repeatDue = some 2 := by decide +kernel

theorem test_meets_BurstsRoutesAndTimers :
    let burst := up.updPol 0 fun p => { p with burst := true }
    let routed : State := { upWith (basics ++ [(8, 0x800 + 64 * 16 + 48, 1, 1)]) with
      router := { Router.reset with delivered := Router.reset.delivered.set 192 true } }
    let clamp := routed.updPol 0 fun p => { p with clamp := true }
    let timed := upWith [(2, 0, 2, 1), (2, 4, 4, 0x02002000), (8, 0x6C8, 4, 0x00C00000), (8, 0x6CC, 4, 80)]
    let plain := upWith [(2, 0, 2, 1), (2, 4, 4, 0x02002000)]
    let runs := timed.updTimer 0 fun t => { t with running := true }
    let once := plain.updTimer 0 fun t => { t with running := true }
    burst.rails.length = 16 ∧ burst.comps.length = 76 ∧ burst.phases.length = 128 ∧ (burst.rail 0).pol.burst = true ∧ burst.burstOverridden 0 = false ∧
    ((burst.updPhase 5 fun p => { p with fired := true }).phase 5).fired = true ∧ burst.phaseRail 5 = some 0 ∧
    (clamp.rail 0).pol.clamp = true ∧ (clamp.rail 0).pol.clampIdle = false ∧ clamp.dest 16 = true ∧
    (up.rail 0).pol.burst = false ∧ timed.timers.length = 8 ∧ timed.timerRuns 0 = true ∧ (timed.timer 0).running = false ∧
    (runs.timer 0).running = true ∧ runs.gtPeriodic 0 = 1 ∧ runs.gtRetrig 0 = 1 ∧ plain.timerRuns 0 = true ∧
    up.clock.corePresent = true ∧ up.clock.loopPresent = true ∧ (up.router.levels.getD 3 false) = false ∧
    (once.timer 0).running = true ∧ once.gtRetrig 0 ≠ 1 ∧ once.gtPeriodic 0 ≠ 1 ∧
    (∀ m : Fin 76, (once.comp m).win.getLsbD 0 = false) := by decide +kernel

/-! Phases, synchronisation and links -/

/-- `up` with phase 5 in a state. -/
def phaseAt (x : PhaseState) : State := up.updPhase 5 fun p => { p with state := x }

/-- Phase 5 of `up` and its neighbours ACTIVE. -/
def threeOn : State := ((phaseAt .active).updPhase 4 fun p => { p with state := .active }).updPhase 6 fun p => { p with state := .active }

theorem test_meets_PhaseMoves :
    up.phaseRail 5 = some 0 ∧ (threeOn.phase 5).state = .active ∧ threeOn.burstHolds 0 = false ∧
    threeOn.effFloor 0 + 1 ≤ threeOn.nCount 0 ∧ threeOn.frozenRail 0 = false ∧ threeOn.rm.run = .running ∧ threeOn.clock.corePresent = true ∧ threeOn.clock.loopPresent = true ∧
    threeOn.cross = { posts := [], toLoop := [] } ∧ (threeOn.rail 0).core.state ≠ .softStart ∧
    (threeOn.rail 0).core.state ≠ .softStop ∧ (threeOn.rail 0).pol.addAt ≠ some threeOn.clock.tick ∧
    threeOn.burstOverridden 0 = false ∧ { threeOn with app := { threeOn.app with holding := true } }.frozenRail 0 = true ∧
    ((railAt .softStop).rail 0).core.state = .softStop ∧
    ((threeOn.updPol 0 fun p => { p with addAt := some 0 }).rail 0).pol.addAt = some threeOn.clock.tick ∧
    (threeOn.updPol 0 fun p => { p with burst := true }).burstHolds 0 = true ∧
    (let s := (upWith (basics ++ [(7, 0x100, 4, 0x01000000)])).updPhase 5 fun p => { p with state := .active }
     s.nCount 0 ≤ s.effFloor 0) ∧ ((phaseAt .waking).phase 5).wakePark = false ∧
    (((phaseAt .waking).updPhase 5 fun p => { p with wakePark := true }).phase 5).wakePark = true ∧
    ((phaseAt .tristated).phase 5).state = .tristated ∧ ((phaseAt .parked).phase 5).state = .parked ∧
    (upWith (basics ++ [(7, 0x114, 4, 1)])).deepParkTime 0 ≠ 0 ∧ up.antic 0 = 0 ∧ up.linkFault 0 = false ∧
    (up.rail 0).prot.yieldWarm = false ∧ (up.phase 5).state ≠ .waking ∧
    ((after (.shedCommand 5) threeOn).phase 5).state = .decidedShed := by decide +kernel

/-- Phase 5 waits for its retry on a regulating rail whose cells 40 and 41 are expected; cell 40 has answered. -/
def retryUp (owed : Bool) : State :=
  (((upWith (basics ++ [(4, 8 + 320, 4, 0x80000000), (4, 16 + 320, 4, 0x80000000)])).updCore 0 fun c =>
    { c with state := .regulating }).updCell 40 fun c => { c with state := .silent }).updPhase 5 fun p =>
      { p with state := .retryWait, disc := if owed then .owed else .idle }

theorem test_meets_PhaseRetries :
    ((retryUp false).phase 5).state = .retryWait ∧ ((retryUp false).rail 0).core.state = .regulating ∧
    (retryUp false).frozenRail 0 = false ∧ (retryUp false).rm.run = .running ∧ (retryUp false).tooHot 5 = false ∧
    ((retryUp false).phase 5).retrying = false ∧ ((retryUp false).phase 5).disc = .idle ∧
    (retryUp false).expect (8 * 5 + 0) = 1 ∧ ((retryUp false).cell (8 * 5 + 0)).state ≠ .absent ∧
    (retryUp false).expect (8 * 5 + 1) = 1 ∧ ((retryUp false).cell (8 * 5 + 1)).state = .absent ∧
    (retryUp false).expect (8 * 5 + 2) ≠ 1 ∧ ((retryUp true).phase 5).disc = .owed ∧
    (((retryUp true).updPhase 5 fun p => { p with retrying := true }).phase 5).retrying = true ∧
    ((retryUp false).cell 40).wasSent = false ∧ ((retryUp false).cell 40).state = .silent ∧
    (let sent := (retryUp false).updCell 40 fun c => { c with
        state := .running, outstanding := some (cellFrame 40 7 0 false), sentAt := some 1 }
     (sent.cell 40).wasSent = true ∧ (sent.cell 40).state ≠ .silent) ∧
    (retryUp false).phaseRail 5 = some 0 := by decide +kernel

theorem test_sized_phases : threeOn.Sized ∧ (retryUp true).Sized := by unfold State.Sized; decide +kernel

theorem test_meets_PeriodStartsAndSynchronisation :
    let drains := (railAt .regulating).updPhase 5 fun p => { p with state := .draining, drain := 4 }
    let runs := (railAt .regulating).updPhase 5 fun p => { p with state := .active, stepsLeft := 1 }
    let synced := upWith (basics ++ [(7, 0x100, 4, 4)])
    up.clock.loopPresent = true ∧ { up.clock with loopPresent := false }.loopPresent = false ∧
    (∀ k < 8, up.gtTrig k ≠ 0xC0 + (15 : Fin 16).val) ∧ up.phaseRail 5 = some 0 ∧ (drains.phase 5).drain = 4 ∧
    ((phaseAt .decidedShed).phase 5).state = .decidedShed ∧ ((phaseAt .draining).phase 5).drain < 4 ∧
    (runs.phase 5).state = .active ∧ (runs.phase 5).stepsLeft = 1 ∧ runs.lanesFree 0 = true ∧ runs.burstOverridden 0 = false ∧ (runs.phase 5).held = false ∧
    (runs.phase 5).drainStep.state.switching = true ∧ ((up.comp 1).out = false ∧ up.sameCycle (up.comp 1).setAt = false) ∧
    (runs.takeDuty 0 (runs.offsetStep 0 (runs.phase 5).drainStep)).highTime = 0 ∧
    (let full := runs.updRail 0 fun r => { r with bs := { r.bs with applied := 2 ^ 30 } }
     full.lanesFree 0 = true ∧ (full.takeDuty 0 (full.offsetStep 0 (full.phase 5).drainStep)).highTime ≠ 0) ∧
    (phaseAt .active).lanesFree 0 = false ∧ ((phaseAt .parked).phase 5).state.switching = false ∧
    synced.railEn 0 = true ∧ synced.syncSrc 0 = 1 ∧ synced.syncSrc 1 ≠ 1 ∧
    ((synced.fsw 0 * 2500 : Nat) - (1000000 : Int)).natAbs * 20 ≤ synced.fsw 0 * 2500 ∧
    ((synced.fsw 0 * 2632 : Nat) - (1000000 : Int)).natAbs * 20 > synced.fsw 0 * 2632 - 1600 ∧
    synced.fsw 0 * 2000 < ((synced.fsw 0 * 2000 : Nat) - (1000000 : Int)).natAbs * 20 ∧
    (quot ((synced.fsw 0 * 2525 : Nat) - (1000000 : Int)) 100 - (synced.rail 0).pol.periodCorr).natAbs ≤ 100 := by
  decide +kernel

/-- `up` with its FD drivers and FU receivers on and its links at a frame time. -/
def linkAt (k : Nat) (q : List (Nat × DownFrame)) : State :=
  { up with
    links := up.links.map fun l => { l with frameTime := k, frames := 70, queue := q }
    pins := { up.pins with fdEnabled := true, fuOn := true } }

/-- A downstream frame of a code to cell 0. -/
def frameOf (code : BitVec 5) (data : BitVec 24) : DownFrame :=
  { bc := false, seq := true, slot := 0, defer := false, round := false, code := code, data := data }

theorem test_meets_FrameTimes :
    let one := (linkAt 5 [(1, frameOf 4 0)]).updCell 128 fun c => { c with outstanding := some (frameOf 4 0) }
    let bad := (linkAt 63 []).updLink 3 fun l => { l with badLive := 2, badRounds := 2 }
    let held := (linkAt 5 []).updLink 4 fun l => { l with fdHeld := true }
    let noRm : State := { linkAt 5 [(5, frameOf 2 0), (6, frameOf 5 0)] with rm := { up.rm with run := .restarting } }
    (linkAt 5 []).clock.loopPresent = true ∧ ((linkAt 5 []).link 0).frameTime ≠ 63 ∧ ((linkAt 63 []).link 0).frameTime = 63 ∧
    (∀ p : Fin 128, (up.phase p).state ≠ .retryWait) ∧ (held.link 4).fdHeld = true ∧ up.pins.fdEnabled = false ∧
    ((linkAt 5 []).link 15).fdHeld = false ∧ (linkAt 5 []).pins.fdEnabled = true ∧ ((linkAt 5 []).link 15).queue = [] ∧
    (one.link 2).queue = [(1, frameOf 4 0)] ∧ (one.cell 128).outstanding = some (frameOf 4 0) ∧ noRm.rm.run ≠ .running ∧
    (∀ q ∈ (noRm.link 2).queue, q.1 = 5 ∨ q.1 = 6) ∧ (bad.link 3).fault = none ∧ (bad.link 3).fdHeld = false ∧
    bad.clock.suspendLinks = false ∧ 2 ≤ (bad.link 3).badLive ∧ 2 ≤ (bad.link 3).badRounds ∧ (bad.link 4).badLive < 2 ∧
    (bad.link 4).ffltRounds = 0 := by decide +kernel

/-- SET_MODE before a SET_LIMIT that waited first; a phase whose retry is ready, one with a cell to configure, and a pattern in its
time and at its end. -/
theorem test_meets_FrameTimes_retry :
    let two := linkAt 5 [(6, frameOf 5 0), (3, frameOf 4 0)]
    let base := ((linkAt 5 []).updCore 0 fun c => { c with state := .regulating }).updPhase 5 fun p =>
      { p with state := .retryWait, retrying := true }
    let config := base.updCell 40 fun c => { c with configuring := true }
    let found (since : Nat) := base.updPhase 5 fun p =>
      { p with retrying := false, lane := .pattern, disc := .pattern since false }
    (two.link 2).queue.find? (fun q => q.1 == 3 && two.mayGo 2 q) = some (3, frameOf 4 0) ∧
    (two.link 2).queue.find? (fun q => q.1 == 6 && two.mayGo 2 q) = some (6, frameOf 5 0) ∧ two.frozen = false ∧
    ((after .frameTime two).link 2).lastSent = some { frameOf 4 0 with round := false } ∧
    base.phaseRail 5 = some 0 ∧ (base.phase 5).disc = .idle ∧ (∀ c ∈ phaseCells 5, (base.cell c).configuring = false) ∧
    base.frozenRail 0 = false ∧ ((after .frameTime base).phase 5).state = .waking ∧ 40 ∈ phaseCells 5 ∧
    (config.cell 40).configuring = true ∧ ((found 60).phase 5).disc = .pattern 60 false ∧
    ((found 60).link 0).frames + 1 < 60 + patternFrames ∧ 55 + patternFrames ≤ ((found 55).link 0).frames + 1 ∧
    ((after .frameTime (found 55)).phase 5).disc = .enumerate 71 false := by decide +kernel

theorem test_meets_LinkSilenceAndFfltLines :
    let heard := up.updCell 64 fun c => { c with state := .running }
    heard.linkFault 1 = false ∧ heard.clock.suspendLinks = false ∧ (heard.link 1).fdHeld = false ∧
    (∃ c ∈ linkCells 1, (heard.cell c).healthy = true) ∧
    (∀ c ∈ linkCells 2, (heard.cell c).healthy = false) ∧ (up.link 1).ffltLow = false := by decide +kernel

/-- `linkAt 1` with cell 0 in a state, an outstanding command sent 66 frame times before its slot, and an attempt made. -/
def cellAt (x : CellState) (cmd : Option DownFrame) (attempt : Nat) : State :=
  (linkAt 1 []).updCell 0 fun c => { c with state := x, outstanding := cmd, sentAt := some 3, attempt := attempt }

/-- Bytes 1 to 5 of upstream telemetry frames: a peak in AUX; a temperature with ECHO 1; and the worked frame of cell 106
(spec/08_femel_link.md). -/
def bodies : List (List Nat) := [[0, 0x28, 0x61, 0x98, 0], [0x80, 0x28, 0x61, 0x98, 0x80], [0xAA, 0x28, 0x61, 0x98, 0x80]]

/-- The frame received from a body, and what two of its bytes say. -/
theorem test_bodies_received :
    (bodies.all fun b => match receive (upstreamBits b) with
      | .good f => !bit (upByte f 1) 6 && bit (upByte f 5) 7 == (b.getD 4 0 == 0x80) && (bit (upByte f 1) 7 == (b.getD 0 0 != 0))
      | _ => false) = true ∧ receive (List.replicate 79 true) = .bad ∧ receive (List.replicate 80 false) = .absent := by
  decide +kernel

/-- The SET_WIDTH of the worked example, W = 639 with SEQ 1 and DEFER 1 to slot 42 (spec/08_femel_link.md). -/
theorem test_worked_set_width :
    (frameBytes { bc := false, seq := true, slot := 42, defer := true, round := false, code := 2, data := 0x027F00 }).take 5 =
      [0x6A, 0x82, 0x02, 0x7F, 0x00] := by decide

/-- D0.0, D0.1 and D10.2 after K28.5 at both disparities (the code groups of the standard). -/
theorem test_code_groups :
    commaCode false = 0b0011111010 ∧ commaCode true = 0b1100000101 ∧ (encodeBytes false [0]).1 = [0b1001110100] ∧
    (encodeBytes true [0]).1 = [0b0110001011] ∧ (encodeBytes true [0xB5]).1 = [0b1010101010] := by decide

theorem test_meets_UpstreamFramesUpdateTheCell :
    let run := frameOf 4 0
    let stopped : State := { cellAt .running none 0 with clock := { up.clock with loopPresent := false } }
    (cellAt .running none 0).clock.loopPresent = true ∧ stopped.clock.loopPresent = false ∧
    (cellAt .running none 0).pins.fuOn = true ∧ ((cellAt .running none 0).link 0).rx = [] ∧
    ((linkAt 1 []).cell 0).state = .absent ∧ (linkAt 1 []).takesReplies 0 = false ∧
    ((cellAt .running none 0).cell 0).state ≠ .absent ∧ (cellAt .running none 0).checkable 0 = none ∧
    (cellAt .configured (some run) 0).checkable 0 = some run ∧ run.code = 4 ∧ run.data.toNat / 65536 % 4 = 0 ∧ run.seq = true ∧
    ((cellAt .configured (some run) 0).cell 0).attempt = 0 ∧ ((cellAt .configured (some run) 0).cell 0).state = .configured ∧
    (cellAt .running none 1).linkFault 0 = false ∧ ((cellAt .running none 1).link 0).fdHeld = false ∧
    (cellAt .running none 1).clock.suspendLinks = false ∧ ((cellAt .running none 1).cell 0).healthy = true ∧
    ((cellAt .running none 1).cell 0).senseCheck = none ∧ ((cellAt .running none 1).cell 0).attempt ≠ 0 ∧
    (cellAt .running none 1).silentCount 0 < 3 ∧ ((cellAt .running (some run) 1).checkable 0).isSome = true ∧
    (cellAt .running (some run) 1).silentCount 0 < 3 := by decide +kernel

theorem test_sized_links : (linkAt 63 []).Sized ∧ (cellAt .running none 1).Sized := by unfold State.Sized; decide +kernel

/-! Protection, telemetry and records -/

/-- Rail 0 in a state with latch causes. -/
def latchedAt (x : RailState) (l : BitVec 10) : State := (railAt x).updProt 0 fun p => { p with latch := l }

theorem test_meets_HiccupAndPowerGoodTimes :
    let low := (railAt .regulating).updComp 3 fun c => { c with out := true }
    let resp := (((upWith (basics ++ [(8, 0x202C, 4, 1)])).updCore 0 fun c => { c with state := .slewing }).updComp 3 fun c =>
      { c with out := true })
    let high := (railAt .regulating).updComp 3 fun c => { c with out := false }
    ((latchedAt .faultLatched 8).rail 0).core.state = .faultLatched ∧ ((latchedAt .faultLatched 8).rail 0).prot.latch = 8 ∧
    ((latchedAt .reenablePending 8).rail 0).core.state = .reenablePending ∧
    ((latchedAt .faultLatched 9).rail 0).core.state.latched = true ∧ (9 : BitVec 10).getLsbD 3 = true ∧ (9 : BitVec 10) ≠ 8 ∧
    (up.rail 0).core.state.latched = false ∧ (low.comp 3).out = true ∧ (low.rail 0).core.state.onTarget = true ∧
    low.uvResp 0 ≠ 1 ∧ resp.uvResp 0 = 1 ∧ (resp.comp 3).out = true ∧ (resp.rail 0).core.state.onTarget = true ∧
    (latchedAt .reenablePending 8).startFree 0 = true ∧
    { latchedAt .reenablePending 8 with tap := { up.tap with enHeld := true } }.startFree 0 = false ∧
    (high.comp 3).out = false ∧ high.pgHolds 0 = true ∧ low.pgHolds 0 = false := by decide +kernel

/-- The twins disagree, and rail 0 gives an estimate of the input of 12 V. -/
def disagreeing (a b : Nat) (visits : Nat) : State :=
  let s := (railAt .regulating).updModel 0 fun m => { m with visitDuty := if visits = 0 then none else some (800 * 2 ^ 30) }
  { s with
    input := { s.input with disagree := true, vinA := a, vinB := b }
    telem := { s.telem with vout := s.telem.vout.set 0 48000 } }

theorem test_meets_InputMonitor :
    let both := (up.updComp 64 fun c => { c with out := true }).updComp 65 fun c => { c with out := true }
    let one := both.updComp 65 fun c => { c with out := false }
    let auto := upWith (basics ++ [(8, 0x2404, 4, 0x10000)])
    let quiet := ((auto.updComp 64 fun c => { c with out := false }).updComp 65 fun c => { c with out := false }).updCore 0 fun c =>
      { c with state := .faultLatched }
    both.compInService 64 = true ∧ both.compInService 65 = true ∧ (both.comp 64).out = true ∧ (both.comp 65).out = true ∧
    (one.comp 65).out = false ∧ both.railEn 0 = true ∧ ((latchedAt .faultLatched 6).rail 0).core.state ≠ .off ∧
    (disagreeing 2400 2400 0).vinEst = none ∧ (disagreeing 2400 2400 1).input.disagree = true ∧
    (∃ e, (disagreeing 2400 2400 1).vinEst = some e ∧ vinNear e 2400 = true ∧ vinNear e 2520 = true ∧ vinNear e 2521 = false ∧
      vinNear e 2280 = true ∧ vinNear e 2279 = false) ∧
    (disagreeing 2400 2521 1).input.vinAFailed = false ∧ (disagreeing 2400 2521 1).input.vinBFailed = false ∧
    quiet.vinAuto = 1 ∧ (∀ m ∈ [64, 65, 66, 67], quiet.compInService m = true → (quiet.comp m).out = false) ∧
    (quiet.rail 0).core.state = .faultLatched ∧ (6 : BitVec 10) &&& 0x3F9 = 0 ∧ (8 : BitVec 10) &&& 0x3F9 ≠ 0 ∧ up.vinAuto ≠ 1 ∧
    (∃ m ∈ [64, 65, 66, 67], auto.compInService m = true ∧ (auto.comp m).out = true) :=
  ⟨by decide +kernel, by decide +kernel, by decide +kernel, by decide +kernel, by decide +kernel, by decide +kernel,
   by decide +kernel, by decide +kernel, by decide +kernel, ⟨_, rfl, by decide +kernel⟩, by decide +kernel, by decide +kernel,
   by decide +kernel, by decide +kernel, by decide +kernel, by decide +kernel, by decide +kernel, by decide +kernel, by decide +kernel⟩

theorem test_meets_TelemetryRounds :
    up.clock.loopPresent = true ∧ { up.clock with loopPresent := false }.loopPresent = false ∧ up.railEn 0 = true ∧
    up.railEn 15 = false := by decide +kernel

/-- Rail 0 regulating with phases 5 and 6 ACTIVE, `amps` A, and settings of section 8; its cell 48 carries 10 A, its cell 40 none and
has been low twice. -/
def loaded (amps : Nat) (l : List (Nat × Nat × Nat × Nat)) : State :=
  let s := (upWith (basics ++ l)).updCore 0 fun c => { c with state := .regulating }
  let s := (s.updPhase 5 fun p => { p with state := .active }).updPhase 6 fun p => { p with state := .active }
  let s := (s.updCell 48 fun c => { c with state := .running, iavg := 1000 }).updCell 40 fun c =>
    { c with state := .running, lowRun := 2, skipped := false }
  s.updPol 0 fun p => { p with irail := 65536 * amps }

/-- A visit of rail 0 at tick 1000 whose preceding 1 µs had the duty 3 up to tick 400 and 5 after it. -/
theorem test_meets_SensesAndVote_duty :
    let s : State := { (loaded 0 [(4, 8 + 8 * 48, 4, 0x80000190)]).updModel 0 fun m => { m with duties := [(400, 5), (50, 3)] } with
      clock := { up.clock with tick := 1000 } }
    (s.rail 0).model.duties = [(400, 5), (50, 3)] ∧ 800 ≤ s.clock.tick ∧ s.dutyOver 0 = 3600 ∧ s.visitValid 0 = true := by
  decide +kernel

/-- An open phase; a slow over-current trip and none; a yield that is due, one in its grace, and one that is relieved. -/
theorem test_meets_TelemetryRounds_decisions :
    let s := loaded 10 []
    let trip := loaded 10 [(8, 0x2008, 4, 12)]
    let calm := loaded 0 [(8, 0x2008, 4, 12)]
    let grace := loaded 10 [(8, 0x2014, 4, 5)]
    let yields := (loaded 0 []).updProt 0 fun p => { p with yieldOver := true }
    let sum (s : State) := ((s.rail 0).pol.irail :: (s.rail 0).prot.ocpWin).take (s.ocpCount 0)
    s.phaseRail 5 = some 0 ∧ (s.phase 5).state.switching = true ∧ (s.phase 5).state ≠ .blind ∧ s.atLeastPct 0 5 = true ∧
    (s.phase 5).probation = false ∧ (s.phase 5).retried = false ∧ 40 ∈ phaseCells 5 ∧ s.reports 40 = true ∧
    (s.cell 40).skipped = false ∧ 2 ≤ (s.cell 40).lowRun ∧ belowTenth (s.cell 40).iavg (s.siblingCells 0 5) = true ∧
    (s.rail 0).core.state.running = true ∧
    (trip.ocpCount 0 ≤ (sum trip).length ∧ ((trip.ocpCount 0 * 65536 * trip.ocpLevel 0 : Nat) : Int) < (sum trip).sum * 1000) ∧
    ¬((calm.ocpCount 0 * 65536 * calm.ocpLevel 0 : Nat) : Int) < (sum calm).sum * 1000 ∧ (s.rail 0).core.state.live = true ∧
    (s.rail 0).prot.yieldOver = false ∧ s.overloaded 0 = true ∧
    usTicks (s.throtGrace 0) ≤ s.since ((s.rail 0).prot.grace.getD s.clock.tick) ∧ grace.overloaded 0 = true ∧
    grace.since ((grace.rail 0).prot.grace.getD grace.clock.tick) < usTicks (grace.throtGrace 0) ∧ calm.overloaded 0 = false ∧
    (yields.rail 0).core.state.live = true ∧ (yields.rail 0).prot.yieldOver = true ∧ yields.relieved 0 = true ∧
    usTicks (yields.yieldHold 0) ≤ yields.since ((yields.rail 0).prot.clearSince.getD yields.clock.tick) := by decide +kernel

/-- An add that is due, a shed that is due, and an input current above its cap in stage 0 and in stage 1. -/
theorem test_meets_TelemetryRounds_counts :
    let s := loaded 10 []
    let calm := loaded 0 [(7, 0x108, 4, 100)]
    let capped : State := { loaded 0 [(2, 0, 2, 1), (2, 4, 4, 0x04002200), (9, 0x208, 4, 0x04000000), (8, 0x2400, 4, 5)] with
      telem := { up.telem with accs := up.telem.accs.set 0 { Accum.reset with result := 1 } } }
    (s.rail 0).core.state = .regulating ∧ (s.rail 0).prot.yieldWarm = false ∧ s.policyRuns = true ∧ s.cross.posts = [] ∧
    s.cross.toLoop = [] ∧ s.effFloor 0 ≤ s.nCount 0 ∧
    ((s.addThr 0 * 65536 * s.nCount 0 : Nat) : Int) < (s.rail 0).pol.irail * 10 ∧ s.addDue 0 = true ∧
    (calm.rail 0).pol.irail * 10 ≤ ((calm.addThr 0 * 65536 * calm.nCount 0 : Nat) : Int) ∧ calm.nTarget 0 < calm.nCount 0 ∧
    calm.burstHolds 0 = false ∧ (calm.rail 0).model.charBusy = false ∧ calm.effFloor 0 ≤ calm.nCount 0 ∧
    usTicks (calm.shedDwell 0) ≤ calm.since (max ((calm.rail 0).pol.shedSince.getD calm.clock.tick) ((calm.rail 0).pol.lastShed.getD 0)) ∧
    capped.iinCap ≠ 0 ∧ capped.iinAbove 100 = true ∧ capped.input.stage = 0 ∧ { capped.input with stage := 1 }.stage = 1 ∧
    s.iinCap = 0 := by decide +kernel

/-- `up` with telemetry running and a sequence of one entry, VIN at input A, on pair 0. -/
def converting : State :=
  { upWith (basics ++ [(9, 8, 4, 0x00040000), (9, 12, 4, 0xFE000000), (9, 0x48, 4, 0x00040000), (9, 0x4C, 4, 0xFE000000)]) with
    telem := { up.telem with running := true } }

theorem test_meets_ConversionsAndTheirChecks :
    let ended := converting.updPair 0 fun p => { p with pos := 1, arbDue := true }
    let aside := up.updPair 3 fun p => { p with aAside := true }
    converting.telem.running = true ∧ converting.pairPowered 0 = true ∧ converting.clock.loopPresent = true ∧
    converting.boot.stage ≠ 6 ∧ (priming 6).boot.stage = 6 ∧ converting.nextEntry 0 = some 0 ∧ entChan (converting.seqEntry 0 0) = 0 ∧ (converting.rail 0).core.state ≠ .discharge ∧
    ended.nextEntry 0 = none ∧ (ended.pair 0).arbitrating = false ∧ (ended.pair 0).arbDue = true ∧
    (2 ^ 1 ≤ (if ({ up.telem.accs.headD Accum.reset with k := 1, count := 1 } : Accum).k = 1 then
      ({ up.telem.accs.headD Accum.reset with k := 1, count := 1 } : Accum).count + 1 else 1)) ∧
    up.telem.running = false ∧ (up.pair 3).aAside = false ∧ (up.pair 3).bAside = false ∧ (aside.pair 3).aAside = true ∧
    (List.replicate 16 ((0 : Int), (4 : Int))).length = 16 ∧ (∀ x ∈ List.replicate 16 ((0 : Int), (4 : Int)), (x.1 - x.2).natAbs ≤ 4) ∧
    (∃ x ∈ [((0 : Int), (5 : Int))], 4 < (x.1 - x.2).natAbs) ∧ up.xchkPct = 0 ∧ { up with hm := { up.hm with run := .restarting } }.hm.run ≠ .running ∧ up.telem.xcheckRun ≤ 2 := by decide +kernel

/-- A record of a code. -/
def recOf (code : BitVec 16) : Rec :=
  { seq := 0, time := 0, powerCycle := 0, code := code, src := 1, p0 := 2, p1 := 3, rep := 0, flags := 0 }

/-- `up` with a recorder of this many closed records, an open one of code 0x1001, and one token for that code. -/
def recording (closed used : Nat) : State :=
  { upWith [(11, 0xC, 4, 0x00010001)] with
    sketch := { Recorder.reset with
      closed := List.replicate closed (recOf 0x2010)
      opened := some (recOf 0x1001)
      buckets := [{ code := 0x1001, used := used, suppressed := 0, lastSrc := 0 }] } }

theorem test_meets_RecorderStages :
    eventCode 0x1001 = true ∧ eventCode 0x1002 = false ∧ eventCode 0xF000 = true ∧ (recording 0 0).boot.held = false ∧
    (recording 0 0).clock.corePresent = true ∧ { (recording 0 0).clock with corePresent := false }.corePresent = false ∧
    (recording 0 0).sketch.opened = some (recOf 0x1001) ∧ (recording 0 0).sketch.repeats 0x1001 1 2 = true ∧
    (recording 0 0).sketch.repeats 0x1001 1 3 = false ∧ (recording 30 0).sketch.hasRoom = true ∧
    (recording 31 0).sketch.hasRoom = false ∧ (recording 0 0).recDepth 0x1001 = 1 ∧
    ((recording 0 0).sketch.bucket 0x1001).used < (recording 0 0).recDepth 0x1001 ∧
    (recording 0 1).recDepth 0x1001 ≤ ((recording 0 1).sketch.bucket 0x1001).used ∧ (recording 0 0).recDepth 0x2010 = 0 := by
  decide +kernel

theorem test_meets_RecorderCommits :
    let s := recording 1 1
    let owed : State := { s with sketch := { s.sketch with
      buckets := [{ code := 0x1001, used := 1, suppressed := 5, lastSrc := 9 }] } }
    let older : State := { s with sketch := { s.sketch with newest := some 127 } }
    let going : State := { s with work := { s.work with committing := true } }
    s.clock.corePresent = true ∧ s.recRate 0x1001 ≠ 0 ∧ s.recRate 0x2010 = 0 ∧ (s.sketch.bucket 0x1001).suppressed = 0 ∧
    (owed.sketch.bucket 0x1001).suppressed ≠ 0 ∧ owed.sketch.dueOrder = [] ∧ owed.sketch.dropDue = 0 ∧ owed.sketch.hasRoom = true ∧
    s.committer = true ∧ going.committer = false ∧ s.sketch.exhausted = false ∧ s.sketch.closed = [recOf 0x2010] ∧
    going.work.committing = true ∧ going.sketch.closed = [recOf 0x2010] ∧ going.sketch.dueOrder = [] ∧ going.sketch.dropDue = 0 ∧
    older.sketch.nextSeq % 128 = 0 ∧ { s.sketch with newest := some 128 }.nextSeq % 128 ≠ 0 ∧ up.sketch.closed = [] ∧
    s.work.committing = false := by decide +kernel

/-- A store whose first sector holds SEQ 0 to 127, and a clear up to 127. -/
def clearingUp : State :=
  { up with sketch := { Recorder.reset with
      store := (List.range 128).map fun i => (i, .valid { recOf 0x1001 with seq := BitVec.ofNat 32 i })
      newest := some 127
      clearing := some 127 } }

/-- A clear that has a sector to erase, one that has none left, the erase in progress and none. -/
theorem test_meets_RecorderCommits_clear :
    let going : State := { clearingUp with work := { up.work with erasing := some 0 } }
    clearingUp.sketch.clearing = some 127 ∧ clearingUp.committer = true ∧ clearingUp.sketch.sectorBelow 127 0 = true ∧
    clearingUp.sketch.sectorBelow 126 0 = false ∧ up.sketch.clearing = none ∧ going.work.erasing = some 0 ∧
    going.work.committing = false ∧ up.work.erasing = none := by decide +kernel

/-! Mailbox and messages -/

/-- Bindings: 0 HOST to HM and 1 back, 2 SVC to HM and 3 back, 4 HM to RM. -/
def bindings : List (Nat × Nat × Nat × Nat) :=
  [(12, 8, 4, 0x01030100), (12, 12, 4, 0x0301FF00), (12, 16, 4, 0x02030300), (12, 20, 4, 0x0302FF00), (12, 24, 4, 0x0304FF00)]

/-- `up` with bindings and more of a configuration, and channels changed by `f`. -/
def mailUp (l : List (Nat × Nat × Nat × Nat)) (f : Nat → Channel → Channel) : State :=
  { upWith (basics ++ bindings ++ l) with mail := { Mail.reset with chans := Mail.reset.chans.mapIdx f } }

/-- Its channels as after reset. -/
def served : State := mailUp [] fun _ x => x

/-- A header of a PING with one word of payload, alone or as a first fragment. -/
def pingHeader (more : Bool) : Word := if more then 16785920 else 16785408

/-- Channel `c` FULL with a header. -/
def posted (c : Nat) (d : Word) (read : Bool) : State :=
  mailUp [] fun k x => if k = c then { x with full := true, read := read, d := x.d.set 0 d } else x

theorem test_meets_MailboxChannels :
    let ready := mailUp [] fun _ x => { x with d := x.d.set 0 (pingHeader false) }
    let both := mailUp [] fun _ x => { x with full := true }
    let frag := mailUp [] fun _ x => { x with
      full := true
      frag := some { code := 1, tag := 0, epoch := 0, count := 1, payload := [], stamp := 0, orphan := false, stale := false } }
    ready.pairPath .hm = true ∧ ready.sends .hm 1 = true ∧ (ready.chan 1).full = false ∧
    hdrOk ((ready.chan 1).d.getD 0 0) = true ∧ ready.sends .svc 0 = false ∧ hdrOk 0 = false ∧ ready.sends .hm 0 = false ∧
    both.sends .hm 1 = true ∧ (both.chan 1).read = false ∧ (both.chan 1).full = true ∧
    ((posted 0 (pingHeader false) true).chan 0).read = true ∧ ((posted 0 (pingHeader false) false).chan 0).read = false ∧
    ((posted 0 (pingHeader false) false).chan 0).full = true ∧ ((posted 0 (pingHeader false) false).chan 0).out = [] ∧
    ready.receives .host 0 = false ∧ both.receives .host 1 = true ∧ (both.chan 1).out = [] ∧ both.reverseOf 0 = some 1 ∧
    ready.reverseOf 4 = none ∧ (frag.chan 0).frag.isSome ∧ frag.pairRuns .hm = true ∧ (frag.chan (frag.replyCh 0)).waiting < 8 ∧
    frag.replyCh 0 = 1 ∧ (frag.chan 1).full = true ∧ ready.clock.corePresent = true ∧ (priming 0).pairPath .hm = false ∧ (ready.chan 0).frag = none := by decide +kernel

/-- The RM's and the console's takes: a whole message, a first fragment, one STALE behind a full reply channel that holds 7 and 8
messages more; a reassembly of the RM; the reply that a command waits for. -/
theorem test_meets_MailboxChannels_takes :
    let rm (d : Word) (stale : Bool) (k : Nat) := mailUp [(12, 24, 4, 0x03040500), (12, 28, 4, 0x0403FF00)] fun c x =>
      if c = 4 then { x with full := true, stale := stale, d := x.d.set 0 d }
      else if c = 5 then { x with full := true, out := List.replicate k [0] } else x
    let whole := rm (pingHeader false) false 0
    let first := rm (pingHeader true) false 0
    let late (k : Nat) := rm (mkHeader 3 9 2 false false false) true k
    let part := (late 8).updChan 4 fun x => { x with
      frag := some { code := 1, tag := 0, epoch := 0, count := 1, payload := [], stamp := 0, orphan := false, stale := false } }
    let conUp : State := { posted 3 (pingHeader false) false with con := { served.con with waiting := some (.reply 3 0) } }
    whole.pairPath .rm = true ∧ whole.receives .rm 4 = true ∧ (whole.chan 4).full = true ∧ (whole.chan 4).out = [] ∧ whole.replyCh 4 ≠ 4 ∧
    hdrMore (pingHeader false) = false ∧ hdrCont (pingHeader false) = false ∧ (whole.chan 4).d.getD 0 0 = pingHeader false ∧
    (whole.chan 4).orphan = false ∧ (first.chan 4).d.getD 0 0 = pingHeader true ∧ hdrMore (pingHeader true) = true ∧
    hdrCont (pingHeader true) = false ∧ ((late 7).chan 4).stale = true ∧ isQuery (hdrCode (((late 7).chan 4).d.getD 0 0)).toNat = false ∧
    (late 7).replyCh 4 = 5 ∧ ((late 7).chan 5).full = true ∧ ((late 7).chan 5).waiting < 8 ∧ ((late 7).chan 5).owed = [] ∧
    8 ≤ ((late 8).chan 5).waiting ∧ (part.chan 4).frag.isSome = true ∧ part.pairRuns .rm = true ∧ part.receives .rm 4 = true ∧
    conUp.conReads 3 = true ∧ conUp.receives .svc 3 = true ∧ (conUp.chan 3).full = true ∧ (conUp.chan 3).out = [] ∧
    served.conReads 3 = false ∧ served.receives .rm 0 = false := by decide +kernel

theorem test_sized_mail : served.Sized ∧ served.Inv := by
  unfold State.Inv State.Canonical State.Sized; decide +kernel

/-- The HM serves every request of HOST and of SVC. -/
theorem served_mayServe : ∀ code, MayServe served 0 code ∧ MayServe served 2 code := by
  intro code
  have h1 : served.hmServes 0 = true ∧ served.hmServes 2 = true ∧ served.asker 0 = 1 ∧ served.asker 2 = 2 ∧
    served.blank = false ∧ served.safe.active = false := by decide +kernel
  unfold MayServe
  refine ⟨⟨h1.1, .inl h1.2.2.1, fun h => ?_, fun h => ?_⟩, ⟨h1.2.1, .inr h1.2.2.2.1, fun h => ?_, fun h => ?_⟩⟩ <;>
    simp [h1.2.2.2.2.1, h1.2.2.2.2.2] at h

/-- A message with a body. -/
def msg (body : List Word) : Message := { tag := 7, orphan := false, stale := false, body := body }

theorem crc32Shift_lt {c : Nat} (h : c < 2 ^ 32) : crc32Shift c < 2 ^ 32 := by
  unfold crc32Shift
  split
  · exact Nat.xor_lt_two_pow (by omega) (by omega)
  · omega

theorem crc32Byte_lt {c : Nat} (b : Byte) (h : c < 2 ^ 32) : crc32Byte c b < 2 ^ 32 := by
  have h0 : c ^^^ b.toNat < 2 ^ 32 := Nat.xor_lt_two_pow h (by have := b.isLt; omega)
  have h1 (l : List Nat) : ∀ x, x < 2 ^ 32 → l.foldl (fun x _ => crc32Shift x) x < 2 ^ 32 := by
    induction l with
    | nil => intro x hx; exact hx
    | cons y l ih => intro x hx; exact ih _ (crc32Shift_lt hx)
  exact h1 _ _ h0

theorem crc32_lt (l : List Byte) : crc32 l < 2 ^ 32 := by
  have h1 (l : List Byte) : ∀ c, c < 2 ^ 32 → l.foldl crc32Byte c < 2 ^ 32 := by
    induction l with
    | nil => intro c hc; exact hc
    | cons b l ih => intro c hc; exact ih _ (crc32Byte_lt b hc)
  exact Nat.xor_lt_two_pow (h1 l _ (by omega)) (by omega)

/-- A slot of 4,095 words and their CRC is VALID. -/
theorem dump_valid (l : List Word) (b : Bool) (h : l.length = 4095) :
    ({ slot := l ++ [BitVec.ofNat 32 (crc32 (wordBytes l))], locked := b } : Dump).valid = true := by
  have h1 : (l ++ [BitVec.ofNat 32 (crc32 (wordBytes l))]).take 4095 = l := by rw [← h]; exact List.take_left
  have h2 : (l ++ [BitVec.ofNat 32 (crc32 (wordBytes l))]).getD 4095 0 = BitVec.ofNat 32 (crc32 (wordBytes l)) := by
    rw [← h, List.getD_eq_getElem?_getD, List.getElem?_append_right (Nat.le_refl _), Nat.sub_self]; rfl
  have h3 := crc32_lt (wordBytes l)
  simp only [Dump.valid, Dump.full, dumpCrc, List.length_append, h, h1, h2, BitVec.toNat_ofNat, Nat.mod_eq_of_lt h3,
    List.length_singleton, beq_self_eq_true, Bool.and_self]

/-- A locked dump of zeros. -/
def zeroDump : Dump :=
  { slot := List.replicate 4095 0 ++ [BitVec.ofNat 32 (crc32 (wordBytes (List.replicate 4095 0)))], locked := true }

theorem zeroDump_valid : zeroDump.valid = true := dump_valid _ _ List.length_replicate

theorem test_meets_HostQueries :
    let dumped : State := { served with dump := zeroDump }
    dumped.dump.valid = true ∧ served.dump.valid = false ∧ served.wetRead 0x03000008 ≠ none ∧ served.wetRead 0x0300000C ≠ none ∧
    served.wetRead 0x00000000 = none ∧ (0x3FF : Word).toNat < 1024 ∧ 1024 ≤ (0x400 : Word).toNat ∧ served.cells.length = 1024 ∧
    field (0xFFF : Word).toNat 12 19 = 0 ∧ 0 < (1 : Word).toNat ∧ field (0xFFF : Word).toNat 0 12 + (1 : Word).toNat ≤ 4096 ∧
    { served.ident with checked := true }.checked = true ∧ served.ident.checked = false ∧ (msg (List.replicate 8 0)).body.length = 8 ∧
    (msg []).stale = false ∧ served.work.signing = none ∧ served.hmServes 0 = true ∧ (priming 5).hmServes 0 = false :=
  ⟨zeroDump_valid, by decide +kernel⟩

/-- `served` while the HM signs a measurement for channel 0 (SVC asks on channel 2), and while it carries out its activation. -/
def working : State :=
  { served with work := { served.work with
      signing := some { ch := 0, message := msg [], snapshot := [], newest := 0 }, activating := some (0, msg []) } }

theorem test_meets_working : working.hmServes 0 = true ∧ working.hmServes 2 = true ∧ working.asker 2 = 2 ∧ working.asker 0 = 1 ∧
    working.blank = false ∧ working.safe.active = false ∧ working.work.signing.map (·.ch) = some 0 ∧
    working.work.activating.map (·.1) = some 0 ∧ (msg []).stale = false ∧
    { working.ident with checked := true }.checked = true := by decide +kernel

/-- An activation that passes is one whose digests and signature the primitives accept (log entry 6): no closed state shows it; one
that fails, every other premise, and each boundary of the operands stand here. -/
theorem test_meets_PaletteAndImageMessages :
    let pending := served.updPort 3 fun p => { p with pendingSwap := true }
    let e : Word := 0x000001F4
    served.anyPending = false ∧ pending.anyPending = true ∧ served.rmServes = true ∧ (served.port 0).actBank = false ∧
    { served with rm := { served.rm with run := .restarting } }.rmServes = false ∧ served.clock.loopPresent = true ∧
    served.cross = { posts := [], toLoop := [] } ∧ served.work.activating = none ∧
    served.entryRefused 0 252 [e] = none ∧ served.entryRefused 0 255 [0] ≠ none ∧ field (0x000100FC : Word).toNat 24 3 = 0 ∧
    bit (0x000100FC : Word).toNat 16 = true ∧ bit (0x000000FC : Word).toNat 16 = false ∧ field (0x000100FC : Word).toNat 0 8 = 252 ∧
    field (0x000100FC : Word).toNat 27 5 = 0 ∧ field (0x000100FC : Word).toNat 17 7 = 0 ∧ field (0x000100FC : Word).toNat 8 8 = 0 ∧
    4 * [e].length = (4 : Word).toNat ∧ (4 : Word).toNat ≤ 4096 ∧ (0x3FFFFC : Word).toNat % 4 = 0 ∧
    (0x3FFFFC : Word).toNat + (4 : Word).toNat ≤ 0x400000 ∧
    { served.boot with updOffset := some 0x3FFFFC }.updOffset = some (0x3FFFFC : Word).toNat ∧ served.spareB = false ∧
    (served.activationFail false).isSome = true := by decide +kernel

/-- Wet fields with limits: OCP_ABS and HOST_SLEW_CLASS of rail 0; class 1 has a RATE of 1.0 mV/us. -/
def wetLimits : List (Nat × Nat × Nat × Nat) :=
  [(5, 0, 4, 0x5000), (5, 4, 2, 1), (5, 0x4C, 4, 0x0001000A), (5, 0x8C, 4, 0x100), (5, 0x5000, 4, 0x05000098), (5, 0x5004, 4, 1),
   (5, 0x5008, 4, 2), (8, 0, 4, 0x3000), (8, 4, 2, 1), (8, 0x3000, 4, 0x08002004), (8, 0x3004, 4, 1), (8, 0x3008, 4, 30000)]

/-- `served` with those wet fields, and a slot of zeros. -/
def wetUp : State := { mailUp wetLimits fun _ x => x with dump := zeroDump }

/-- In a service session the SVC identity needs no statement; HOST does, and an empty body is none. -/
theorem test_meets_LogWetPhaseAndResumeMessages :
    let open' : State := { wetUp with con := { wetUp.con with session := true } }
    let safe : State := { open' with safe := { Safe.reset with active := true } }
    let gone := wetUp.updPhase 5 fun p => { p with state := .retired }
    let first := posted 0 (pingHeader true) false
    let activate := posted 0 (mkHeader 6 0 1 false false false) false
    let held : State := { wetUp with app := { wetUp.app with holding := true } }
    wetUp.authorised 0 2 (wordBytes []) (fun _ => true) = false ∧
    open'.authorised 2 3 (wordBytes []) (· == (open'.dump.slot.getD 2 0).toNat) = true ∧ open'.ret.capPending = false ∧
    (wetUp.wetWrite 0x08002004 (some 4) 30000).1 = 0 ∧ (wetUp.wetWrite 0x08002004 (some 4) 30001).1 = 4 ∧
    (wetUp.wetWrite 0x08002004 (some 2) 1).1 = 5 ∧ wetUp.app.holding = false ∧
    open'.authorised 2 4 (wordBytes []) (fun _ => false) = true ∧ wetUp.authorised 0 4 (wordBytes []) (fun _ => true) = false ∧
    gone.restoreRefused 5 = none ∧ wetUp.restoreRefused 5 = some 2 ∧ safe.safe.active = true ∧ safe.safe.fromCheck = false ∧
    safe.safe.resumed = false ∧ open'.safe.active = false ∧ first.hmNext = some 0 ∧
    hdrCont ((first.chan 0).d.getD 0 0) = false ∧ hdrMore ((first.chan 0).d.getD 0 0) = true ∧ (first.chan 0).out = [] ∧
    wetUp.hmNext ≠ some 0 ∧ open'.work.committing = false ∧ held.app.holding = true ∧
    (held.wetWrite 0x08002004 (some 4) 30000).1 = 0 ∧ open'.dump.slot.length = 4096 ∧
    activate.hmNext = some 0 ∧ activate.hmServes 0 = true ∧ activate.asker 0 = 1 ∧ (activate.chan 0).stale = false ∧
    activate.work.activating = none ∧ hdrCode ((activate.chan 0).d.getD 0 0) = 6 ∧
    hdrCont ((activate.chan 0).d.getD 0 0) = false ∧ hdrMore ((activate.chan 0).d.getD 0 0) = false := by decide +kernel

/-- The premises of an authorised EVT_CLEAR_AUTH of HOST, but for its statement's signature, which the kernel takes too long to verify (log entry 6). -/
theorem test_meets_EvtClearAuth :
    served.asker 0 = 1 ∧ { served with sketch := clearingUp.sketch }.sketch.oldest.toNat ≤ stArg (wordBytes []) ∧
    served.asker 2 = 2 ∧ { served.con with session := true }.session = true ∧ served.con.session = false ∧ (msg [5]).body.head? = some 5 ∧
    stArg (wordBytes []) < clearingUp.sketch.nextSeq ∧ stArg (wordBytes []) < 2 ^ 32 - 1 ∧
    { clearingUp.sketch with clearing := none }.clearing = none ∧ clearingUp.sketch.exhausted = false := by decide +kernel

/-- A release beside a pending capture whose cause record is staged and one whose record is not; PHASE_RESTORE while LOOP is away. -/
theorem test_meets_LogWetPhaseAndResumeMessages_rest :
    let more : State := { wetUp with ret := { wetUp.ret with capPending := true } }
    let staged : State := { more with
      sketch := { more.sketch with closed := [recOf 0x8004] }, ret := { more.ret with capCause := some (0x8004, 1, 2, 0) } }
    let away : State := { wetUp with clock := { wetUp.clock with loopPresent := false } }
    more.ret.capPending = true ∧ (more.record 0x800C 1 0 0).captureWaits = false ∧ (staged.record 0x800C 1 0 0).captureWaits = true ∧
    away.clock.loopPresent = false ∧ away.cross.posts = [] ∧ away.cross.toLoop.length < 16 ∧
    (away.updPhase 5 fun p => { p with state := .retired }).restoreRefused 5 = none := by decide +kernel

/-! The bus -/

/-- `served` takes transactions, out of standby and accepting every code, with rail 0 on PAGE 0. -/
theorem served_bus : served.busUp = true ∧ served.clock.standby = false ∧
    (List.range 256).all served.accepts = true ∧ OnPage served 0 := by
  unfold OnPage; decide +kernel

theorem test_meets_BusErrorsAlertAndNotify :
    let low : State := { served with bus := { served.bus with alert := true } }
    let due : State := { served with bus := { served.bus with notifyDue := true, notifyTries := 3 } }
    served.busUp = true ∧ served.clock.corePresent = true ∧ low.salertLow = true ∧ served.salertLow = false ∧
    low.bus.alert = true ∧ anyRise low.bus.seen low.statusBytes = false ∧ due.bus.notifyDue = true ∧ 3 ≤ due.bus.notifyTries ∧
    { due.bus with notifyTries := 2 }.notifyTries < 3 ∧ busCodes.contains (0x05 : Byte).toNat = false ∧
    (priming 1).busUp = false := by decide +kernel

theorem test_meets_BusReads :
    let all : State := { served with pm := { served.pm with page := 0xFF } }
    let off : State := { served with pm := { served.pm with page := 15 } }
    let one : State := { served with pm := { served.pm with phase := 127 } }
    let early : State := { priming 4 with clock := up.clock }
    (∀ code < 256, BusServes served code) ∧ all.pm.page = 0xFF ∧ off.pm.page = BitVec.ofNat 8 (15 : Fin 16).val ∧
    off.railEn 15 = false ∧ one.pm.phase = BitVec.ofNat 8 (127 : Fin 128).val ∧ early.accepts 0x79 = false ∧
    early.busUp = true ∧ early.accepts 0xDF = true ∧ (priming 1).busUp = false := by
  refine ⟨fun code h => ⟨served_bus.1, served_bus.2.1, ?_⟩, by decide +kernel⟩
  exact List.all_eq_true.mp served_bus.2.2.1 code (List.mem_range.mpr h)

theorem test_meets_BusCallsAndClearingReads :
    let post := posted 1 (pingHeader false) false
    let tracked := mailUp [(2, 0, 2, 1), (2, 4, 4, 0x03002100)] fun _ x => x
    served.pm.cellSelect.toNat < 1024 ∧ (served.chan 0).full = false ∧ served.receives .host 0 = false ∧
    (post.chan 1).full = true ∧ post.receives .host 1 = true ∧ (post.chan 1).out = [] ∧ tracked.trkCh 0 ≠ 0x7F ∧
    tracked.owner 3 0 = 0x21 ∧ ((0 : Word) ≠ 0xFFFFFFFF) := by decide +kernel

theorem test_meets_BusWrites :
    let margins := ({ wetUp with pm := { wetUp.pm with page := 0 } }).updHost 0 fun h => { h with marginLow := 100, marginHigh := 1000 }
    let holding : State := { served with app := { served.app with holding := true } }
    (∀ code < 256, served.guarded code = false) ∧ served.pecReq = 0 ∧ served.phaseRail 127 = some (0 : Fin 16).val ∧
    wetUp.hostAllowed 0 = 1 ∧ served.hostAllowed 0 ≠ 1 ∧ margins.outside 0 (margins.rail 0).host.marginLow.toNat = false ∧
    margins.outside 0 (margins.rail 0).host.marginHigh.toNat = false ∧ wetUp.outside 0 99 = true ∧ wetUp.outside 0 1001 = true ∧
    wetUp.margin 0 = none ∧ wetUp.rank1 0 = false ∧ wetUp.app.holding = false ∧ tenths 0x0064 = some 1000 ∧
    (wetUp.wetWrite (ocpAbsId 0) none 1000).1 = 0 ∧ wetUp.rateClass 0 (linear11Value 1).1 (linear11Value 1).2 = some 1 ∧
    (wetUp.wetWrite (hostClassId 0) none 1).1 = 0 ∧ holding.app.holding = true ∧ holding.pageOff = false ∧
    served.rmServes = true ∧ served.clock.loopPresent = true ∧ served.cross = { posts := [], toLoop := [] } ∧
    { served with rm := { served.rm with run := .restarting } }.rmServes = false ∧
    (served.rail 0).core.state ≠ .apprenticeHold ∧ (served.rail 0).hosted.voutCommand ≠ 0x1234 ∧ 128 ≤ (0x80 : Byte).toNat ∧
    served.railEn 15 = false ∧ { served.pm with page := 0xFF }.page = 0xFF ∧ (0x11 : Byte) ≠ 0x80 ∧ (0x11 : Byte) ≠ 0x40 ∧ (0x11 : Byte) ≠ 0x20 ∧
    (0x94 : Byte) ≠ 0x98 ∧ ((0 : BitVec 16) = 0) ∧
    ((latchedAt .faultLatched 0x20).rail 0).prot.latch = 0x20 := by decide +kernel

theorem test_meets_MailboxAndGpioWritesAndBadWrites :
    let full := posted 0 (pingHeader false) false
    let protected' : State := { served with pm := { served.pm with writeProtect := 0x80 } }
    let balls := mailUp [(2, 0, 2, 1), (2, 4, 4, 0x011F0106)] fun _ x => x
    hdrOk (pingHeader false) = true ∧ hdrLen (pingHeader false) = [pingHeader false, 5].length ∧ served.sends .host 0 = true ∧
    (served.chan 0).full = false ∧ served.sends .host 1 = false ∧ (full.chan 0).full = true ∧ hdrOk 0 = false ∧
    balls.hostGpio 31 = true ∧ balls.hostGpio 30 = false ∧ (0 : Word).getLsbD 31 = false ∧
    ([0, 0xFF] : List Byte).length = 1 + 1 ∧
    pecOf ([served.ownByte false, BitVec.ofNat 8 0] ++ ([0, 0xFF] : List Byte).take 1) ≠ ([0, 0xFF] : List Byte).getD 1 0 ∧
    ([] : List Byte).length ≠ 1 ∧ served.pecReq = 0 ∧ protected'.guarded 0x21 = true := by decide +kernel

/-! The console -/

/-- The HM writes the Pentimento slot, erases a sector and activates an image. -/
def busy : State := { served with work := { served.work with dumping := true, erasing := some 3, activating := some (0, msg []) } }

theorem test_meets_ConsolePrintsAndChangesNothing : ConsoleReady up ∧ ConsoleReady served ∧ ConsoleReady busy ∧
    zeroDump.full = true ∧ State.reset.dump.full = false ∧ busy.work.dumping = true ∧ busy.work.erasing ≠ none ∧ busy.work.activating ≠ none ∧
    up.work.dumping = false ∧ up.work.erasing = none ∧ up.work.activating = none :=
  ⟨by unfold ConsoleReady; decide +kernel, by unfold ConsoleReady; decide +kernel, by unfold ConsoleReady; decide +kernel, by
    have h := zeroDump_valid
    simp only [Dump.valid, Bool.and_eq_true] at h
    exact h.1, by decide +kernel⟩

/-- Typed lines that spell a command, that spell none, and that are too long. -/
theorem test_meets_ConsolePrintsAndChangesNothing_lines :
    served.con.line = [] ∧ served.con.afterCr = false ∧ (ascii ['r', 'A', 'i', 'l', ' ', '0', 'x', '0']).length ≤ 80 ∧
    (∀ b ∈ ascii ['r', 'A', 'i', 'l', ' ', '0', 'x', '0'], 0x20 ≤ b.toNat ∧ b.toNat ≤ 0x7E) ∧
    splitTokens (ascii ['r', 'A', 'i', 'l', ' ', '0', 'x', '0']) [] = [ascii ['r', 'A', 'i', 'l'], ascii ['0', 'x', '0']] ∧
    (commandOf (regsOf 128) (ascii ['r', 'A', 'i', 'l']) [ascii ['0', 'x', '0']]).isSome = true ∧
    (commandOf (regsOf 128) (ascii ['r', 'A', 'i', 'l']) []).isNone = true ∧ 80 < (List.replicate 81 (0x61 : Byte)).length := by
  decide +kernel

/-- A session is open; phase 5 is in use and cell 40 has answered. -/
def session : State :=
  let s := (wetUp.updPhase 5 fun p => { p with state := .parked }).updCell 40 fun c => { c with state := .running }
  { s with con := { s.con with session := true } }

theorem test_meets_ConsoleActionsNeedASession :
    let locked : State := { session with boot := { session.boot with fuseWdtHw := true }, fuses := { session.fuses with wdtHw := true } }
    let moving := session.updCore 0 fun c => { c with state := .regulating }
    let powered : State := { converting with con := { converting.con with session := true } }
    let logged : State := { session with sketch := { clearingUp.sketch with clearing := none } }
    session.con.session = true ∧ up.con.session = false ∧ session.conUp = true ∧ session.con.waiting = none ∧
    atbRange (.vsa 15) = true ∧ (session.phase 5).state ≠ .unused ∧ session.levelOk (phaseCells 5) = true ∧
    session.levelOk (linkCells 0) = true ∧ moving.levelOk (phaseCells 5) = false ∧ session.linkFault 0 = false ∧
    (session.cell 40).state ≠ .absent ∧ powered.pairPowered 0 = true ∧ (powered.pair 0).arbitrating = false ∧
    session.compInService 3 = true ∧ session.wdLock .rm = false ∧ session.railsRest = true ∧ locked.wdLock .rm = true ∧
    session.pairRuns .hm = true ∧ logged.sketch.oldest.toNat ≤ 127 ∧ 127 < logged.sketch.nextSeq ∧ logged.sketch.clearing = none ∧
    logged.sketch.exhausted = false ∧ session.ret.capPending = false ∧ session.svcChannel = some 2 ∧
    session.clock.standby = false ∧ session.loopCells 0 ≠ [] ∧ session.loopCells 1 = [] ∧ session.pairRuns .rm = true ∧
    (session.phase 6).state = .unused ∧ moving.levelOk (linkCells 0) = false ∧ moving.railsRest = false ∧
    (session.updComp 3 fun c => { c with failed := true }).compInService 3 = false ∧ zeroDump.locked = true ∧ State.reset.dump.valid = false ∧
    up.svcChannel = none ∧ (wdUp 1 true 3 3).rm.wd.run = true ∧
    { session.rm with wdOff := true }.wdOff = true ∧
    { session with rm := { session.rm with run := .restarting } }.pairRuns .rm = false ∧ logged.work.committing = false ∧
    session.work.dumping = false ∧ { session.work with dumping := true }.dumping = true ∧
    { Safe.reset with active := true }.active = true ∧ Safe.reset.fromCheck = false ∧ Safe.reset.resumed = false := by decide +kernel

/-- A key is set and a challenge in force; `right` is what the HMAC gives (log entry 6). -/
def challenged : State :=
  { served with
    ident := { served.ident with serviceKey := 1 }
    con := { served.con with challenge := some 5 } }

theorem test_meets_SessionsAndStaticLevels :
    let lockedOut : State := { served with
      ident := { served.ident with lockout := true }
      con := { served.con with lockUntil := some 9 } }
    let held := ((session.updPhase 5 fun p => { p with held := true }).updCore 0 fun c => { c with state := .regulating })
    let waits : State := { served with con := { served.con with waiting := some (.adc 0) } }
    challenged.authBarred = none ∧ challenged.conUp = true ∧ lockedOut.con.session = false ∧ lockedOut.ident.lockout = true ∧
    lockedOut.con.lockUntil.isSome = true ∧ served.svcChannel = some 2 ∧ session.con.session = true ∧ waits.con.waiting.isSome = true ∧
    held.lostLevels ≠ [] ∧ session.lostLevels = [] ∧ takesBalls .extest = true ∧ session.railsRest = true ∧
    held.railsRest = false ∧ session.boot.stage = 8 ∧ (priming 7).boot.stage ≠ 8 ∧ served.con.waiting = none ∧
    served.ident.serviceKey = 0 ∧ served.work.signing = none ∧ served.ident.lockout = false ∧ served.con.session = false ∧
    (priming 5).conUp = false ∧ { served.con with afterCr := true }.afterCr = true := by decide +kernel

/-- The right answer to a challenge exists whatever the HMAC is, and so does a wrong one. -/
theorem test_meets_answers : (∃ a, challenged.answerOk a = true) ∧ (∃ a, challenged.answerOk a = false) := by
  have h : ∀ a, challenged.answerOk a = (a == challenged.rightAnswer 5) := by
    intro a
    have h1 : challenged.con.challenge = some 5 := rfl
    have h2 : challenged.since challenged.con.challengeAt ≤ msTicks 60000 := by decide +kernel
    simp only [State.answerOk, h1, h2, decide_true, Bool.true_and]
  refine ⟨⟨challenged.rightAnswer 5, by simp [h]⟩, ⟨challenged.rightAnswer 5 + 1, ?_⟩⟩
  rw [h, beq_eq_false_iff_ne]
  generalize challenged.rightAnswer 5 = x
  intro hx; bv_omega

/-! ### Claims in order (P4)

A configuration whose claims are those of the staging port and the dump, with every sequence entry, accumulator and tracker
empty and no other resource in use. It has too many bytes to be evaluated entry by entry. -/

/-- Its bytes below section 9. -/
def quietBase : Memory :=
  [(0x2000000, 2), (0x2000005, 0x24), (0x2000007, 6), (0x2000009, 0x25), (0x200000B, 7), (0x700008A, 0xFF), (0x700008B, 0xFF)]

/-- The bytes of that configuration: the two claims, the two SYNC outputs off, and channel 0x7F in every entry of section 9. -/
def quietBytes : Memory :=
  quietBase ++ (List.range 128).map (fun i => (0x900000B + 4 * i, 0xFE)) ++
  (List.range 64).map (fun i => (0x900020B + 8 * i, 0xFE)) ++ (List.range 64).map (fun i => (0x900040B + 4 * i, 0xFE))

theorem sget_all {m : Memory} {a : Nat} {v : Byte} (h : ∀ x ∈ m, x.1 = a → x.2 = v) (h0 : (∃ x ∈ m, x.1 = a) ∨ v = 0) :
    sget 0 m a = v := by
  induction m with
  | nil =>
    rcases h0 with ⟨y, hy, _⟩ | h0
    · cases hy
    · exact h0.symm
  | cons x m ih =>
    obtain ⟨k, w⟩ := x
    unfold sget
    split
    · next hk => exact h (k, w) (by simp) hk
    · next hk =>
      refine ih (fun y hy => h y (by simp [hy])) ?_
      rcases h0 with ⟨y, hy, e⟩ | h0
      · rcases List.mem_cons.mp hy with rfl | hy
        · exact absurd e hk
        · exact .inl ⟨y, hy, e⟩
      · exact .inr h0

theorem mem_quietBytes {x : Nat × Byte} (h : x ∈ quietBytes) :
    (x.1 < 0x200000C ∨ (0x700008A ≤ x.1 ∧ x.1 < 0x700008C)) ∨ (x.2 = 0xFE ∧ ∃ i, (i < 128 ∧ x.1 = 0x900000B + 4 * i) ∨
      (i < 64 ∧ x.1 = 0x900020B + 8 * i) ∨ (i < 64 ∧ x.1 = 0x900040B + 4 * i)) := by
  have hb : ∀ y ∈ quietBase, y.1 < 0x200000C ∨ (0x700008A ≤ y.1 ∧ y.1 < 0x700008C) := by decide +kernel
  simp only [quietBytes, List.mem_append, List.mem_map, List.mem_range] at h
  rcases h with ((h | ⟨i, hi, rfl⟩) | ⟨i, hi, rfl⟩) | ⟨i, hi, rfl⟩
  · exact .inl (hb x h)
  · exact .inr ⟨rfl, i, .inl ⟨hi, rfl⟩⟩
  · exact .inr ⟨rfl, i, .inr (.inl ⟨hi, rfl⟩)⟩
  · exact .inr ⟨rfl, i, .inr (.inr ⟨hi, rfl⟩)⟩

/-- A byte outside the listed ones reads 0. -/
theorem quiet_zero {a : Nat} (h : 0x700008C ≤ a) (h9 : a < 0x9000000 ∨ a % 4 ≠ 3) : sget 0 quietBytes a = 0 := by
  refine sget_all (fun x hx e => ?_) (.inr rfl)
  rcases mem_quietBytes hx with h1 | ⟨_, i, h1⟩ <;> omega

/-- The top byte of every entry of section 9 is 0xFE. -/
theorem quiet_fe {a : Nat} (h : ∃ i, (i < 128 ∧ a = 0x900000B + 4 * i) ∨ (i < 64 ∧ a = 0x900020B + 8 * i) ∨
    (i < 64 ∧ a = 0x900040B + 4 * i)) : sget 0 quietBytes a = 0xFE := by
  refine sget_all (fun x hx e => ?_) (.inl ⟨(a, 0xFE), ?_, rfl⟩)
  · rcases mem_quietBytes hx with h1 | ⟨h1, _⟩
    · omega
    · exact h1
  · obtain ⟨i, ⟨hi, rfl⟩ | ⟨hi, rfl⟩ | ⟨hi, rfl⟩⟩ := h
    · simp only [quietBytes, List.mem_append, List.mem_map, List.mem_range]; exact .inl (.inl (.inr ⟨i, hi, rfl⟩))
    · simp only [quietBytes, List.mem_append, List.mem_map, List.mem_range]; exact .inl (.inr ⟨i, hi, rfl⟩)
    · simp only [quietBytes, List.mem_append, List.mem_map, List.mem_range]; exact .inr ⟨i, hi, rfl⟩

/-- P4 with it. -/
def claimed : State := { priming 4 with shadow := quietBytes, boot := { (priming 4).boot with imageLoaded := true } }

theorem claimed_word {sec off : Nat} (h : 0x700008C ≤ shadowKey sec off) (h9 : shadowKey sec off + 4 ≤ 0x9000000) :
    claimed.cfgWord sec off = 0 := by
  have h0 (i : Nat) (hi : i < 4) : sget 0 quietBytes (shadowKey sec off + i) = 0 := quiet_zero (by omega) (.inl (by omega))
  have h1 : sgets 0 quietBytes (shadowKey sec off) 4 = [0, 0, 0, 0] := by
    simp only [sgets, List.range, List.range.loop, List.map, h0 0 (by omega), h0 1 (by omega), h0 2 (by omega), h0 3 (by omega)]
  show ofBytes (sgets 0 quietBytes (shadowKey sec off) 4) = 0
  rw [h1]; rfl

theorem claimed_entry {off : Nat} (h : off % 4 = 0) (hf : ∃ i, (i < 128 ∧ 0x9000003 + off = 0x900000B + 4 * i) ∨
    (i < 64 ∧ 0x9000003 + off = 0x900020B + 8 * i) ∨ (i < 64 ∧ 0x9000003 + off = 0x900040B + 4 * i)) :
    claimed.cfgWord 9 off = 0xFE000000 := by
  have h0 (i : Nat) (hi : i < 3) : sget 0 quietBytes (shadowKey 9 off + i) = 0 :=
    quiet_zero (by unfold shadowKey; omega) (.inr (by unfold shadowKey; omega))
  have h3 : sget 0 quietBytes (shadowKey 9 off + 3) = 0xFE := by
    refine quiet_fe ?_
    have : shadowKey 9 off + 3 = 0x9000003 + off := by unfold shadowKey; omega
    rw [this]; exact hf
  have h1 : sgets 0 quietBytes (shadowKey 9 off) 4 = [0, 0, 0, 0xFE] := by
    simp only [sgets, List.range, List.range.loop, List.map, h0 0 (by omega), h0 1 (by omega), h0 2 (by omega), h3]
  show ofBytes (sgets 0 quietBytes (shadowKey 9 off) 4) = 0xFE000000
  rw [h1]; rfl

theorem claimed_head : claimed.claimCount = 2 ∧ (List.range 2).find? claimed.claimBad = none ∧ (claimed.claimOf 6 0).isNone = false ∧
    (claimed.claimOf 7 0).isNone = false ∧ claimed.synco2 = 0xFF ∧ claimed.synco3 = 0xFF := by decide +kernel

theorem test_meets_P4_claims_in_order : claimed.boot.held = false ∧ claimed.boot.stage = 4 ∧ claimed.claimsFail = none := by
  refine ⟨rfl, rfl, ?_⟩
  obtain ⟨h1, h2, h3, h4, h5, h6⟩ := claimed_head
  have seq (c e : Nat) (hc : c < 8) (he : e < 16) : entChan (claimed.seqEntry c e) = 0x7F := by
    have : claimed.seqEntry c e = 0xFE000000 :=
      claimed_entry (by omega) ⟨16 * c + e, .inl ⟨by omega, by omega⟩⟩
    rw [this]; rfl
  have acc (a : Nat) (ha : a < 64) : claimed.accCh a = 0x7F := by
    show field (claimed.cfgWord 9 (0x208 + 8 * a)) 25 7 = 0x7F
    rw [claimed_entry (by omega) ⟨a, .inr (.inl ⟨ha, by omega⟩)⟩]; rfl
  have trk (t : Nat) (ht : t < 64) : claimed.trkCh t = 0x7F := by
    show field (claimed.cfgWord 9 (0x408 + 4 * t)) 25 7 = 0x7F
    rw [claimed_entry (by omega) ⟨t, .inr (.inr ⟨ht, by omega⟩)⟩]; rfl
  have sync (n : Nat) (hn : n < 16) : claimed.syncSrc n = 0 := by
    show field (claimed.cfgWord 7 (0x100 + 64 * n)) 2 2 = 0
    rw [claimed_word (by unfold shadowKey; omega) (by unfold shadowKey; omega)]; rfl
  have cmp (m : Nat) (hm : m < 76) : claimed.cmpWord m = 0 :=
    claimed_word (by unfold shadowKey; omega) (by unfold shadowKey; omega)
  have cross (d src : Nat) (hd : d < 96) (hs : src < 256) : claimed.xp d src = 0 := by
    have h0 : sget 0 quietBytes (shadowKey 8 (0x800 + 64 * d + src / 4)) = 0 :=
      quiet_zero (by unfold shadowKey; omega) (.inl (by unfold shadowKey; omega))
    have h1 : sgets 0 quietBytes (shadowKey 8 (0x800 + 64 * d + src / 4)) 1 = [0] := by
      simp only [sgets, List.range, List.range.loop, List.map, Nat.add_zero, h0]
    show ofBytes (sgets 0 quietBytes (shadowKey 8 (0x800 + 64 * d + src / 4)) 1) / 4 ^ (src % 4) % 4 = 0
    rw [h1]
    show 0 / 4 ^ (src % 4) % 4 = 0
    simp
  unfold State.claimsFail
  rw [h1, h2]
  have : claimed.useBad = false := by
    simp only [State.useBad, h3, h4, h5, h6, Bool.or_eq_false_iff, List.any_eq_false, List.mem_range]
    refine ⟨⟨⟨⟨⟨⟨⟨⟨⟨trivial, trivial⟩, ?_⟩, ?_⟩, ?_⟩, ?_⟩, ?_⟩, ?_⟩, ?_⟩, ?_⟩
    · intro c hc; simp only [List.any_eq_true, List.mem_range, not_exists]
      rintro e ⟨he, h⟩; simp [seq c e hc he] at h
    · intro a ha; simp [acc a ha]
    · intro t ht; simp [trk t ht]
    · intro n hn; simp [sync n hn]
    · simp
    · simp
    · intro m hm; simp [cmp m hm, bit]
    · intro d hd; simp only [List.any_eq_true, List.mem_range, not_exists]
      rintro k ⟨hk, h⟩; simp [cross d (92 + k) hd (by omega)] at h
  rw [this]; rfl

/-! ### Single steps with results from the spec -/

/-- The check values of the three polynomials over the digits 1 to 9 (their published catalogue values). -/
def digits : List Byte := [0x31, 0x32, 0x33, 0x34, 0x35, 0x36, 0x37, 0x38, 0x39]

set_option maxRecDepth 5000 in
theorem test_crc32_check_value : crc32 digits = 0xCBF43926 := by
  simp [digits, crc32, crc32Byte, crc32Shift, List.range, List.range.loop]

set_option maxRecDepth 5000 in
theorem test_crc16_and_crc8_check_values : crc16 digits = 0x29B1 ∧ crc8 digits = 0xF4 := by
  constructor <;> simp [digits, crc16, crc8, bit, List.range, List.range.loop]

/-- R436: 100 A in LINEAR11 is 800 × 2^-3, and -0.5 is -1024 × 2^-11. -/
theorem test_linear11 : linear11 1000 10 = 0xEB20 ∧ linear11 (-1) 2 = 0xAC00 ∧ linear11 0 1 = 0 := by decide +kernel

/-- R87: a low time of 4 ns only counts in IGNORED; 5 ns latches the swatch. -/
theorem test_latch_edge_at_the_minimum :
    ((after (.slatEdge 2 9 9 4 5) up).port 2).ignored = 1 ∧ ((after (.slatEdge 2 9 9 4 5) up).port 2).swatch = 0 ∧
    ((after (.slatEdge 2 9 9 5 5) up).port 2).swatch = 9 ∧ ((after (.slatEdge 2 9 9 5 5) up).port 2).edges = 1 := by decide +kernel

/-- R195: a shed phase drains at -25 % per period and is TRISTATED after four. -/
theorem test_drain :
    ((after (.periodStart 0 (some 5)) (phaseAt .decidedShed)).phase 5).trim = -16384 ∧
    ((after (.periodStart 0 (some 5)) ((phaseAt .draining).updPhase 5 fun p => { p with drain := 4 })).phase 5).state = .tristated := by
  decide +kernel

/-- R375: REPEAT saturates at 65,535, and P1 is that of the last event. -/
theorem test_repeat_saturates :
    let s : State := { up with sketch := { up.sketch with opened := some { recOf 0x1001 with rep := 65535 } } }
    ((after (.eventStage 0x1001 1 2 9) s).sketch.opened.map fun r => (r.rep, r.p1)) = some (65535, 9) := by decide +kernel

/-- R409, Table 14.6: PING answers on channel 1 with code 0x81, its TAG, status 0, its word, 3.2.0 and the epochs. -/
theorem test_ping :
    ((after (.ping 0 (msg [0xCAFE])) served).chan 1).d.take 4 = [0x81075000, 0, 0xCAFE, 0x00030200] := by decide +kernel

/-- Table 12.4, R358: with SAFE_N = 3 (no image) the third counted miscompare is the safe state. -/
theorem test_third_miscompare :
    let s : State := { priming 8 with clock := up.clock, rm := up.rm, hm := up.hm }
    (after (.lockstepMismatch .rm (regsOf 128)) { s with ret := { s.ret with recentRm := 2 } }).safe.active = true ∧
    (after (.lockstepMismatch .rm (regsOf 128)) { s with ret := { s.ret with recentRm := 1 } }).safe.active = false := by
  decide +kernel

/-- R442: 100 A written to IOUT_OC_FAULT_LIMIT is 1000 in OCP_ABS, in tenths of an ampere. -/
theorem test_oc_limit_write : (after (.ioutOcFaultLimit (.send [0x64, 0x00])) wetUp).ocpAbs 0 = 1000 := by decide +kernel

/-- Table 16.1: MFR_ID reads 6 and HOLETH. -/
theorem test_mfr_id :
    (after (.mfrId (.recv 7)) served).bus.reply = [6, 0x48, 0x4F, 0x4C, 0x45, 0x54, 0x48] := by decide +kernel

/-- Characters of SVC_RX, then a CR. -/
def typed (l : List Char) : Instr := .unknownConsoleCommand ((ascii l).map RxEvent.char ++ [.char 0x0D]) (regsOf 128)

/-- R475, Table 18.2: a line that no command matches ends in ERR 1, and what is sent back is its echo, the error and the prompt. -/
theorem test_unknown_line :
    (after (typed ['f']) served).consoleSent =
      [0x66] ++ ascii ['E', 'R', 'R', ' ', '1', ' ', 'S', 'Y', 'N', 'T', 'A', 'X'] ++ [0x0D, 0x0A, 0x3E, 0x20] := by decide +kernel

/-- R475: command words in either case, numbers in hexadecimal, and 0x08 deleting a character. -/
theorem test_typed_line :
    (after (typed ['R', 'A', 'i', 'l', ' ', '0', 'x', 'F', '1', Char.ofNat 8]) served).con.out = (after (.svcRail 15) served).con.out ∧
    (after (typed ['r', 'a', 'i', 'l', ' ', '1', '6']) served).con.out = [.err 2] ∧
    (after (typed ['r', 'a', 'i', 'l']) served).con.out = [.err 1] := by decide +kernel

end Sys2Proof.Tests
end

/-! SUPPORT. Writes of plain registers (REGISTER_WRITE): the bytes of a storage unit read back what was written, what a
write to the shadow or to the palette leaves alone, and what the command does for each of its targets. -/

section
namespace Sys2Proof.Machine

/-! ### Bytes of a number -/

theorem leBytes_succ (n x : Nat) : leBytes (n + 1) x = BitVec.ofNat 8 x :: leBytes n (x / 256) := by
  simp only [leBytes, List.range_succ_eq_map, List.map_cons, List.map_map]
  congr 1
  · simp
  · refine List.map_congr_left fun i _ => ?_
    have hi : 2 ^ (8 * (i + 1)) = 256 * 2 ^ (8 * i) := by rw [mul_add, pow_add]; omega
    simp [hi, Nat.div_div_eq_div_mul]

@[simp] theorem length_leBytes (n x : Nat) : (leBytes n x).length = n := by simp [leBytes]

theorem ofBytes_leBytes (n x : Nat) : ofBytes (leBytes n x) = x % 256 ^ n := by
  induction n generalizing x with
  | zero => simp [leBytes, ofBytes, Nat.mod_one]
  | succ n ih => rw [leBytes_succ, ofBytes, ih, pow_succ', Nat.mod_mul]; simp

theorem ofBytes_lt (bs : List Byte) : ofBytes bs < 256 ^ bs.length := by
  induction bs with
  | nil => simp [ofBytes]
  | cons b bs ih => have hb := b.isLt; simp only [ofBytes, List.length_cons, pow_succ]; omega

/-! ### Consecutive keys of a sparse memory -/

section Sparse
variable {α : Type}

theorem sgets_succ (d : α) (m : List (Nat × α)) (a n : Nat) : sgets d m a (n + 1) = sget d m a :: sgets d m (a + 1) n := by
  simp [sgets, List.range_succ_eq_map, Function.comp_def, Nat.add_assoc, Nat.add_comm 1]

/-- A read of the keys just written. -/
theorem sgets_sputs_self [DecidableEq α] (d : α) (m : List (Nat × α)) (a : Nat) (vs : List α) (h : Sparse.wf d m) :
    sgets d (sputs d m a vs) a vs.length = vs := by
  induction vs generalizing m a with
  | nil => rfl
  | cons v vs ih =>
    have hw := sput_wf d m a v h
    rw [List.length_cons, sputs, sgets_succ, ih _ _ hw, sget_sputs_ne d _ _ vs a (by omega) hw, sget_sput_self d m a v h]

end Sparse

/-! ### Storage units of the shadow -/

theorem State.cfg_lt (s : State) (sec off n : Nat) : s.cfg sec off n < 256 ^ n := by
  simpa [State.cfg, sgets] using ofBytes_lt (sgets 0 s.shadow (shadowKey sec off) n)

/-- A storage unit reads the value written to it, of which it holds `n` bytes. -/
theorem State.putShadow_cfg (s : State) (sec off n v : Nat) (h : Memory.wf 0 s.shadow) :
    (s.putShadow sec off n v).cfg sec off n = v % 256 ^ n := by
  have hb := sgets_sputs_self 0 s.shadow (shadowKey sec off) (leBytes n v) h
  rw [length_leBytes] at hb
  rw [State.cfg, State.putShadow, hb, ofBytes_leBytes]

/-- The unit that `unitAt` names holds the byte asked for. -/
theorem unitAt_holds {sec off o : Nat} {u : UnitRow} (h : unitAt sec off = some (u, o)) : o ≤ off ∧ off < o + u.size := by
  obtain ⟨i, -, hi⟩ := List.exists_of_findSome?_eq_some h
  split at hi
  · cases hi
  · obtain ⟨w, -, hw⟩ := Option.bind_eq_some_iff.1 hi
    split at hw
    · cases hw; omega
    · cases hw

/-! ### A byte written to the shadow -/

section PutShadowByte
variable {s : State} {sec off : Nat} (v : Nat)

theorem State.putShadowByte_reserved (hr : reservedByte sec off = true) : s.putShadowByte sec off v = s.putShadow sec off 1 0 := by
  simp [State.putShadowByte, hr]

theorem State.putShadowByte_unit {u : UnitRow} {o : Nat} (hr : reservedByte sec off = false) (hu : unitAt sec off = some (u, o)) :
    s.putShadowByte sec off v = (s.putShadow sec off 1 v).putShadow sec o u.size
      ((s.putShadow sec off 1 v).cfg sec o u.size &&& u.mask ((s.putShadow sec off 1 v).cfg sec o u.size)) := by
  simp [State.putShadowByte, hr, hu]

theorem State.putShadowByte_outside (hr : reservedByte sec off = false) (hu : unitAt sec off = none) :
    s.putShadowByte sec off v = s.putShadow sec off 1 v := by
  simp [State.putShadowByte, hr, hu]

/-- A byte written changes the shadow only. -/
theorem State.putShadowByte_eq : ∃ shadow1, s.putShadowByte sec off v = { s with shadow := shadow1 } := by
  cases hr : reservedByte sec off with
  | true => exact ⟨_, State.putShadowByte_reserved v hr⟩
  | false =>
    cases hu : unitAt sec off with
    | none => exact ⟨_, State.putShadowByte_outside v hr hu⟩
    | some x => exact ⟨_, State.putShadowByte_unit v hr hu⟩

theorem State.putShadowByte_rails : (s.putShadowByte sec off v).rails = s.rails := by
  obtain ⟨_, h⟩ := State.putShadowByte_eq (s := s) (sec := sec) (off := off) v; rw [h]

variable (hw : Memory.wf 0 s.shadow)
include hw

/-- A reserved byte reads 0 (R4). -/
theorem State.putShadowByte_cfg_reserved (hr : reservedByte sec off = true) : (s.putShadowByte sec off v).cfg sec off 1 = 0 := by
  rw [State.putShadowByte_reserved v hr, State.putShadow_cfg _ _ _ _ _ hw, Nat.zero_mod]

/-- A byte outside the tables reads what was written. -/
theorem State.putShadowByte_cfg_outside (hr : reservedByte sec off = false) (hu : unitAt sec off = none) :
    (s.putShadowByte sec off v).cfg sec off 1 = v % 256 := by
  rw [State.putShadowByte_outside v hr hu, State.putShadow_cfg _ _ _ _ _ hw, pow_one]

/-- Of the unit that holds the byte only the bits of its fields stand (R4). -/
theorem State.putShadowByte_cfg_unit {u : UnitRow} {o : Nat} (hr : reservedByte sec off = false)
    (hu : unitAt sec off = some (u, o)) :
    (s.putShadowByte sec off v).cfg sec o u.size =
      (s.putShadow sec off 1 v).cfg sec o u.size &&& u.mask ((s.putShadow sec off 1 v).cfg sec o u.size) := by
  rw [State.putShadowByte_unit v hr hu, State.putShadow_cfg _ _ _ _ _ (State.putShadow_wf _ _ _ _ _ hw)]
  exact Nat.mod_eq_of_lt (Nat.and_le_left.trans_lt (State.cfg_lt _ _ _ _))

/-- Bytes outside the unit that holds the byte written stay. -/
theorem State.putShadowByte_other_unit {u : UnitRow} {o a : Nat} (hr : reservedByte sec off = false)
    (hu : unitAt sec off = some (u, o)) (ha : a < shadowKey sec o ∨ shadowKey sec o + u.size ≤ a) :
    sget 0 (s.putShadowByte sec off v).shadow a = sget 0 s.shadow a := by
  have hin := unitAt_holds hu
  rw [State.putShadowByte_unit v hr hu, State.putShadow_other _ _ _ _ _ _ ha (State.putShadow_wf _ _ _ _ _ hw)]
  exact State.putShadow_other _ _ _ _ _ _ (by simp only [shadowKey] at ha ⊢; omega) hw

/-- Where no unit keeps it to its fields' bits, a write changes no byte but the one addressed. -/
theorem State.putShadowByte_other {a : Nat} (h : unitAt sec off = none ∨ reservedByte sec off = true)
    (ha : a ≠ shadowKey sec off) : sget 0 (s.putShadowByte sec off v).shadow a = sget 0 s.shadow a := by
  have hout : a < shadowKey sec off ∨ shadowKey sec off + 1 ≤ a := by omega
  cases hr : reservedByte sec off with
  | true => rw [State.putShadowByte_reserved v hr]; exact State.putShadow_other _ _ _ _ _ _ hout hw
  | false =>
    have hu : unitAt sec off = none := h.resolve_right (by simp [hr])
    rw [State.putShadowByte_outside v hr hu]; exact State.putShadow_other _ _ _ _ _ _ hout hw

end PutShadowByte

/-! ### Entries written to the palette -/

/-- The entries go into the shadow's copy and into the palette memory; beside them the boot group alone changes. -/
theorem State.writeEntries_eq (s : State) (bank : Bool) (p first : Nat) (l : List Word) : ∃ boot1,
    s.writeEntries bank p first l = { s with
      boot := boot1, palette := sputs 0 s.palette (entryIndex bank p 0 0 + first) l,
      shadow := sputs 0 s.shadow (shadowKey 5 (0x288 + 4 * (entryIndex bank p 0 0 + first))) (wordBytes l) } := ⟨_, rfl⟩

theorem State.writeEntries_palette (s : State) (bank : Bool) (p first : Nat) (l : List Word) :
    (s.writeEntries bank p first l).palette = sputs 0 s.palette (entryIndex bank p 0 0 + first) l := by
  obtain ⟨_, h⟩ := s.writeEntries_eq bank p first l; rw [h]
@[simp] theorem State.writeEntries_rails (s : State) (bank : Bool) (p first : Nat) (l : List Word) :
    (s.writeEntries bank p first l).rails = s.rails := by
  obtain ⟨_, h⟩ := s.writeEntries_eq bank p first l; rw [h]
@[simp] theorem State.writeEntries_ports (s : State) (bank : Bool) (p first : Nat) (l : List Word) :
    (s.writeEntries bank p first l).ports = s.ports := by
  obtain ⟨_, h⟩ := s.writeEntries_eq bank p first l; rw [h]

/-- Bank, port and place of an entry of the palette memory name that entry. -/
theorem entryIndex_of_index (i : Fin 4096) : entryIndex (decide (2048 ≤ i.val)) (i % 2048 / 256) 0 0 + i % 256 = i.val := by
  have hi := i.isLt
  by_cases h : 2048 ≤ i.val
  · simp only [entryIndex, b2n, h, decide_true, if_true]; omega
  · simp only [entryIndex, b2n, h, decide_false, Bool.false_eq_true, if_false]; omega

/-- One entry written in place of entry `i`. -/
theorem State.writeEntries_palette_index (s : State) (i : Fin 4096) (v : Word) :
    (s.writeEntries (decide (2048 ≤ i.val)) (i % 2048 / 256) (i % 256) [v]).palette = sput 0 s.palette i v := by
  rw [State.writeEntries_palette, entryIndex_of_index]; rfl

/-! ### Pairs, channels and bytes after the judgement -/

@[simp] theorem State.judge_mgr (s : State) (m : Manager) : s.judge.mgr m = s.mgr m := by cases m <;> simp [State.mgr]
@[simp] theorem State.judge_chan (s : State) (c : Nat) : s.judge.chan c = s.chan c := by simp [State.chan]
@[simp] theorem State.judge_cfg (s : State) (sec off n : Nat) : s.judge.cfg sec off n = s.cfg sec off n := by simp [State.cfg]

/-! ### REGISTER_WRITE, by its target -/

theorem complete_ite (c : Prop) [Decidable c] (s t : State) :
    complete (if c then s else t) = if c then complete s else complete t := apply_ite complete c s t

/-- Only what the block notes after every command changes. -/
def OnlyNoted (o : Host.Outcome State Fault Refusal) (s : State) : Prop :=
  ∃ t, o = .next t ∧ t = { s with router := t.router, bus := t.bus }

theorem complete_onlyNoted (s : State) : OnlyNoted (complete s) s := by
  obtain ⟨r, b, h⟩ := s.judge_eq
  exact ⟨s.judge, rfl, by rw [h]⟩

section RegisterWrite
variable {s : State} (hh : s.boot.held = false) (v : Word)
include hh

theorem exec_registerWrite_wdMask (m : Manager) :
    exec (.registerWrite (.wdMask m) v) s =
      complete (if s.pairRuns m && (s.mgr m).wd.maskOpen then
        s.updWd m fun w => { w with taskMask := BitVec.ofNat 16 v.toNat } else s) := by
  rw [complete_ite]; simp [exec, execRegisterWrite, hh]

theorem exec_registerWrite_mailboxData (ch : Fin 16) (i : Fin 12) (who : Identity) :
    exec (.registerWrite (.mailboxData ch i who) v) s =
      complete (if s.pairPath who && s.sends who ch && !(s.chan ch).full then
        s.updChan ch fun x => { x with d := x.d.set i v } else s) := by
  rw [complete_ite]; simp [exec, execRegisterWrite, hh]

theorem exec_registerWrite_paletteEntry (i : Fin 4096) :
    exec (.registerWrite (.paletteEntry i) v) s =
      complete (if s.pairRuns .rm && s.primed && (s.port (i % 2048 / 256)).actBank != decide (2048 ≤ i.val) &&
          (s.entryRefused (i % 2048 / 256) (i % 256) [v]).isNone then
        s.writeEntries (decide (2048 ≤ i.val)) (i % 2048 / 256) (i % 256) [v] else s) := by
  rw [complete_ite]; simp [exec, execRegisterWrite, hh]

theorem exec_registerWrite_shadowByte (sec : Fin 256) (off : Fin 1048576) :
    exec (.registerWrite (.shadowByte sec off) v) s =
      complete (if s.boot.fixative then s else s.putShadowByte sec off v.toNat) := by
  rw [complete_ite]; simp [exec, execRegisterWrite, hh]

end RegisterWrite

section Clauses
variable {s : State} (hh : s.boot.held = false) (v : Word)
include hh

/-- WD_MASK is open until the watchdog's first service after its start (R350, R351). -/
theorem registerWrite_wdMask (m : Manager) (hrun : (s.mgr m).run = .running) (hcore : s.clock.corePresent = true) :
    ((s.mgr m).wd.run = false ∨ (s.mgr m).wd.serviced = false →
      ∃ t, exec (.registerWrite (.wdMask m) v) s = .next t ∧
        (t.mgr m).wd = { (s.mgr m).wd with taskMask := BitVec.ofNat 16 v.toNat } ∧ t.rails = s.rails) ∧
    ((s.mgr m).wd.run = true → (s.mgr m).wd.serviced = true → OnlyNoted (exec (.registerWrite (.wdMask m) v) s) s) := by
  have hp : s.pairRuns m = true := by simp [State.pairRuns, hrun, hcore]
  rw [exec_registerWrite_wdMask hh v m]
  refine ⟨fun hopen => ?_, fun hr hs => ?_⟩
  · rw [if_pos (by simpa [hp, Watchdog.maskOpen] using hopen)]
    exact ⟨_, rfl, by simp [State.updWd], by simp [State.updWd]⟩
  · rw [if_neg (by simp [hp, Watchdog.maskOpen, hr, hs])]
    exact complete_onlyNoted s

/-- A free channel takes its data words from its sender, where that is a pair that runs (R391, R398). -/
theorem registerWrite_mailboxData_taken (ch : Fin 16) (i : Fin 12) (who : Identity) (hlen : s.mail.chans.length = 16)
    (hsend : s.chanSender ch = identCode who) (hfree : (s.chan ch).full = false) (hpath : s.pairPath who = true) :
    ∃ t, exec (.registerWrite (.mailboxData ch i who) v) s = .next t ∧
      t.chan ch = { s.chan ch with d := (s.chan ch).d.set i v } ∧
      (∀ k : Fin 16, k ≠ ch → t.chan k = s.chan k) ∧ t.shadow = s.shadow := by
  have hc : ch.val < s.mail.chans.length := by omega
  rw [exec_registerWrite_mailboxData hh v ch i who, if_pos (by simp [hpath, hfree, State.sends, hsend])]
  refine ⟨_, rfl, by simp [hc], fun k hk => ?_, by simp⟩
  rw [State.judge_chan, State.updChan_chan_ne _ _ _ _ fun h => hk (Fin.ext h.symm)]

/-- Any other write of a data word is refused: the host and the console have no such path, nor has a pair that is down. -/
theorem registerWrite_mailboxData_refused (ch : Fin 16) (i : Fin 12) (who : Identity)
    (hno : s.chanSender ch ≠ identCode who ∨ (s.chan ch).full = true ∨ who = .host ∨ who = .svc ∨
      (who = .hm ∧ s.hm.run ≠ .running) ∨ (who = .rm ∧ s.rm.run ≠ .running)) :
    OnlyNoted (exec (.registerWrite (.mailboxData ch i who) v) s) s := by
  rw [exec_registerWrite_mailboxData hh v ch i who, if_neg]
  · exact complete_onlyNoted s
  · obtain h | h | rfl | rfl | ⟨rfl, h⟩ | ⟨rfl, h⟩ := hno
    · simp [State.sends, h]
    · simp [h]
    · simp [State.pairPath]
    · simp [State.pairPath]
    · simp [State.pairPath, State.pairRuns, State.mgr, h]
    · simp [State.pairPath, State.pairRuns, State.mgr, h]

/-- With the Fixative bit set the shadow takes no write. -/
theorem registerWrite_shadowByte_fixed (sec : Fin 256) (off : Fin 1048576) (hf : s.boot.fixative = true) :
    OnlyNoted (exec (.registerWrite (.shadowByte sec off) v) s) s := by
  rw [exec_registerWrite_shadowByte hh v sec off, if_pos hf]
  exact complete_onlyNoted s

theorem registerWrite_shadowByte_open (sec : Fin 256) (off : Fin 1048576) (hf : s.boot.fixative = false) :
    exec (.registerWrite (.shadowByte sec off) v) s = .next (s.putShadowByte sec off v.toNat).judge := by
  rw [exec_registerWrite_shadowByte hh v sec off, if_neg (by simp [hf]), complete_eq]

/-- An entry of a bank that is not active takes the RM's write where PALETTE_WRITE would accept it (R94, R97). -/
theorem registerWrite_paletteEntry_taken (i : Fin 4096) (hw : Sparse.wf (0 : Word) s.palette) (hrun : s.rm.run = .running)
    (hcore : s.clock.corePresent = true) (hprimed : s.boot.stage = 8)
    (hbank : (s.port (i % 2048 / 256)).actBank ≠ decide (2048 ≤ i.val))
    (hok : s.entryRefused (i % 2048 / 256) (i % 256) [v] = none) :
    ∃ t, exec (.registerWrite (.paletteEntry i) v) s = .next t ∧ sget (0 : Word) t.palette i = v ∧
      (∀ j, j ≠ i.val → sget (0 : Word) t.palette j = sget (0 : Word) s.palette j) ∧ t.rails = s.rails ∧ t.ports = s.ports := by
  rw [exec_registerWrite_paletteEntry hh v i,
    if_pos (by simp [State.pairRuns, State.mgr, State.primed, hrun, hcore, hprimed, hbank, hok])]
  refine ⟨_, rfl, ?_, fun j hj => ?_, by simp, by simp⟩
  · rw [State.judge_palette, State.writeEntries_palette_index, sget_sput_self _ _ _ _ hw]
  · rw [State.judge_palette, State.writeEntries_palette_index, sget_sput_ne _ _ _ _ _ hj.symm hw]

theorem registerWrite_paletteEntry_refused (i : Fin 4096)
    (hno : (s.port (i % 2048 / 256)).actBank = decide (2048 ≤ i.val) ∨ s.entryRefused (i % 2048 / 256) (i % 256) [v] ≠ none) :
    OnlyNoted (exec (.registerWrite (.paletteEntry i) v) s) s := by
  rw [exec_registerWrite_paletteEntry hh v i, if_neg]
  · exact complete_onlyNoted s
  · obtain h | h := hno <;> simp [h]

end Clauses

/-- Settles O22: the clauses of each target, where the shadow's follow from what `State.putShadowByte` does. -/
theorem plainRegisterWrites : Obligations.PlainRegisterWrites := by
  unfold Obligations.PlainRegisterWrites
  intro s hh v
  refine ⟨registerWrite_wdMask hh v, fun ch i who hlen => ⟨registerWrite_mailboxData_taken hh v ch i who hlen,
    registerWrite_mailboxData_refused hh v ch i who⟩, fun sec off hw => ⟨registerWrite_shadowByte_fixed hh v sec off,
    fun hf => ⟨_, registerWrite_shadowByte_open hh v sec off hf, ?_⟩⟩, fun i hw =>
    ⟨registerWrite_paletteEntry_taken hh v i hw, registerWrite_paletteEntry_refused hh v i⟩⟩
  simp only [State.judge_cfg, State.judge_shadow, State.judge_rails]
  exact ⟨State.putShadowByte_cfg_reserved _ hw,
    fun u o hu hr => ⟨fun a => State.putShadowByte_other_unit _ hw hr hu, State.putShadowByte_cfg_unit _ hw hr hu⟩,
    fun hout a => State.putShadowByte_other _ hw hout,
    fun hu hr => State.putShadowByte_cfg_outside _ hw hr hu, State.putShadowByte_rails _⟩

end Sys2Proof.Machine
end

/-! SUPPORT. Power-on reset: what the work that a reset interrupts leaves behind, and the reset itself. -/

section
namespace Sys2Proof.Machine

/-! ### What an interrupted burn, commit, erase or activation leaves -/

/-- Program pulses only burn (R452). -/
theorem Varnish.burns_burn (v : Varnish) (l : List Nat) (done : Nat) : v.Burns (v.burn l done) := by
  have h (x y : BitVec 2048) : x &&& (x ||| y) = x := by ext i; simp; tauto
  exact ⟨h _ _, h _ _, h _ _⟩

theorem Varnish.burns_refl (v : Varnish) : v.Burns v := by simp [Varnish.Burns]

/-- An interrupted commit or erase changes the event store only. -/
theorem State.storePart_eq (s : State) (done : Nat) :
    ∃ store1, s.storePart done = { s with sketch := { s.sketch with store := store1 } } := ⟨_, rfl⟩

theorem State.storePart_idle {s : State} (done : Nat) (hc : s.work.committing = false) (he : s.work.erasing = none) :
    s.storePart done = s := by simp [State.storePart, hc, he]

/-- An interrupted activation changes the flash only. -/
theorem State.activatePart_eq (s : State) (done : Nat) : ∃ flash1, s.activatePart done = { s with flash := flash1 } := by
  unfold State.activatePart
  split
  · dsimp only [State.when]
    split <;> exact ⟨_, rfl⟩
  · exact ⟨_, rfl⟩

theorem State.activatePart_idle {s : State} (done : Nat) (h : s.work.activating = none) : s.activatePart done = s := by
  simp [State.activatePart, h]

/-- The burns of P7 that a reset interrupts. -/
def State.burnPart (s : State) (done : Nat) : State := s.when (s.boot.stage == 7) fun s => s.burnPulses done

theorem State.burnPart_eq (s : State) (done : Nat) :
    ∃ varnish1, s.burnPart done = { s with varnish := varnish1 } ∧ s.varnish.Burns varnish1 := by
  unfold State.burnPart State.when
  split
  · exact ⟨_, rfl, Varnish.burns_burn _ _ _⟩
  · exact ⟨_, rfl, Varnish.burns_refl _⟩

theorem State.burnPart_idle {s : State} (done : Nat) (h : s.boot.stage ≠ 7) : s.burnPart done = s := by
  rw [State.burnPart, State.when, if_neg (by simpa using h)]

/-- What the work in progress leaves of the non-volatile memories, each changed by its own work alone. -/
theorem State.interruptWork_eq (s : State) (done : Nat) : ∃ varnish1 flash1 store1,
    s.interruptWork done = { s with varnish := varnish1, flash := flash1, sketch := { s.sketch with store := store1 } } ∧
    s.varnish.Burns varnish1 ∧ (s.boot.stage ≠ 7 → varnish1 = s.varnish) ∧ (s.work.activating = none → flash1 = s.flash) ∧
    (s.work.committing = false → s.work.erasing = none → store1 = s.sketch.store) := by
  have hdef : s.interruptWork done = ((s.burnPart done).storePart done).activatePart done := rfl
  obtain ⟨v, hb, hburns⟩ := s.burnPart_eq done
  obtain ⟨st, hs⟩ := (s.burnPart done).storePart_eq done
  obtain ⟨f, ha⟩ := ((s.burnPart done).storePart done).activatePart_eq done
  refine ⟨v, f, st, by rw [hdef, ha, hs, hb], hburns, fun h => ?_, fun h => ?_, fun hc he => ?_⟩
  · simpa [hb] using congrArg State.varnish (State.burnPart_idle done h)
  · have hi : ((s.burnPart done).storePart done).work.activating = none := by rw [hs, hb]; exact h
    rw [State.activatePart_idle done hi, hs, hb] at ha
    exact (congrArg State.flash ha).symm
  · have hi := State.storePart_idle (s := s.burnPart done) done (by rw [hb]; exact hc) (by rw [hb]; exact he)
    simpa [hb] using congrArg (·.sketch.store) (hs.symm.trans hi)

/-! ### The reset and its triggers -/

/-- A power-on reset with CAUSE `cause` from `s`: every domain reset, what is non-volatile kept but for the work in progress. -/
def PowerOnFrom (s t : State) (cause : Nat) : Prop :=
  t.boot.held = true ∧ t.ret.cause = BitVec.ofNat 4 cause ∧ t.pins.lanesEnabled = false ∧ t.pins.fdEnabled = false ∧
  t.pins.faultReleased = false ∧ t.ret.recentRm = 0 ∧ t.ret.recentHm = 0 ∧ t.ret.warm = 0 ∧ t.rails = State.reset.rails ∧
  t.phases = State.reset.phases ∧ t.mail = State.reset.mail ∧ t.shadow = [] ∧ t.dump = s.dump ∧
  t.ident.scalar = s.ident.scalar ∧ t.ident.serviceKey = s.ident.serviceKey ∧ s.varnish.Burns t.varnish ∧
  (s.boot.stage ≠ 7 → t.varnish = s.varnish) ∧ (s.work.activating = none → t.flash = s.flash) ∧
  (s.work.committing = false → s.work.erasing = none → t.sketch.store = s.sketch.store)

theorem State.triggerReset_powerOn {s : State} (cause done : Nat) (h : s.boot.held = false) :
    PowerOnFrom s (s.triggerReset cause done).judge cause ∧
    (s.triggerReset cause done).judge.pins.supplies = s.pins.supplies ∧
    (s.triggerReset cause done).judge.pins.porstN = s.pins.porstN := by
  obtain ⟨v, f, st, hw, hburns, hv, hf, hst⟩ := s.interruptWork_eq done
  have ht : s.triggerReset cause done = (s.interruptWork done).powerOn cause := by simp [State.triggerReset, h]
  rw [ht, hw]
  simp only [PowerOnFrom, State.judge_boot, State.judge_ret, State.judge_pins, State.judge_rails, State.judge_phases,
    State.judge_mail, State.judge_shadow, State.judge_dump, State.judge_ident, State.judge_varnish, State.judge_flash,
    State.judge_sketch]
  exact ⟨⟨rfl, rfl, rfl, rfl, rfl, rfl, rfl, rfl, rfl, rfl, rfl, rfl, rfl, rfl, rfl, hburns, hv, hf, hst⟩, rfl, rfl⟩

theorem State.triggerReset_absorbed {s : State} (cause done : Nat) (h : s.boot.held = true) : s.triggerReset cause done = s := by
  simp [State.triggerReset, h]

theorem exec_supplyFall (k : Fin 5) (done : Nat) (s : State) : exec (.supplyFall k done) s =
    complete ({ s with pins := { s.pins with supplies := s.pins.supplies.set k false } }.triggerReset 0 done) := rfl

theorem exec_porstNLow (done : Nat) (s : State) : exec (.porstNLow done) s =
    complete ({ s with pins := { s.pins with porstN := false } }.triggerReset 1 done) := rfl

/-- Settles O9: each trigger changes its pin, and the reset that it starts, or the one in progress, does the rest. -/
theorem powerOnResetResetsEveryDomain : Obligations.PowerOnResetResetsEveryDomain := by
  unfold Obligations.PowerOnResetResetsEveryDomain
  intro s done
  refine ⟨fun h k => ?_, fun h => ?_, fun h => ⟨fun k => ?_, ?_⟩⟩
  · obtain ⟨⟨h1, h2, h3⟩, h4, h5⟩ := State.triggerReset_powerOn (s := { s with pins := { s.pins with supplies := s.pins.supplies.set k false } }) 0 done h
    exact ⟨_, rfl, h1, h2, h4, h3⟩
  · obtain ⟨⟨h1, h2, h3⟩, h4, h5⟩ := State.triggerReset_powerOn (s := { s with pins := { s.pins with porstN := false } }) 1 done h
    exact ⟨_, rfl, h1, h2, h5, h4, h3⟩
  · rw [exec_supplyFall, State.triggerReset_absorbed _ _ (by exact h)]
    exact complete_onlyNoted _
  · rw [exec_porstNLow, State.triggerReset_absorbed _ _ (by exact h)]
    exact complete_onlyNoted _

end Sys2Proof.Machine
end

/-! SUPPORT. The ladder of Table 12.4: what the freeze of a pair, a recorded fault, a pair's reset and the entry into the
safe state change, and what each step of the ladder asks for. -/

section
namespace Sys2Proof.Machine

/-! ### Rails that differ in their model alone -/

/-- A rail without its model. -/
def Rail.unmodeled (r : Rail) : Rail := { r with model := RailModel.reset }

/-- The rails are the same but for their models. -/
def SameButModel (l l' : List Rail) : Prop := l'.map Rail.unmodeled = l.map Rail.unmodeled

theorem SameButModel.getD {l l' : List Rail} (h : SameButModel l l') (n : Nat) :
    (l'.getD n Rail.reset).unmodeled = (l.getD n Rail.reset).unmodeled := by
  have hd (k : List Rail) : (k.getD n Rail.reset).unmodeled = (k.map Rail.unmodeled).getD n Rail.reset := by
    rw [show Rail.reset = Rail.unmodeled Rail.reset from rfl, List.getD_map]; rfl
  rw [hd, hd, h]

theorem SameButModel.core {s t : State} (h : SameButModel s.rails t.rails) (n : Nat) : (t.rail n).core = (s.rail n).core := by
  have hn := congrArg Rail.core (h.getD n)
  exact hn

theorem SameButModel.trans {a b c : List Rail} (h : SameButModel a b) (h' : SameButModel b c) : SameButModel a c := 
  Eq.trans h' h

theorem sameButModel_modify (l : List Rail) (n : Nat) (f : RailModel → RailModel) :
    SameButModel l (l.modify n fun r => { r with model := f r.model }) := by
  refine List.ext_getElem (by simp) fun i h1 h2 => ?_
  simp only [List.getElem_map, List.getElem_modify]
  split <;> rfl

theorem State.updModel_sameButModel (s : State) (n : Nat) (f : RailModel → RailModel) :
    SameButModel s.rails (s.updModel n f).rails := sameButModel_modify _ _ f

/-- An aborted run changes the rail's model only. -/
theorem State.abortChar_eq (s : State) (n : Nat) :
    ∃ rails1, s.abortChar n = { s with rails := rails1 } ∧ SameButModel s.rails rails1 :=
  ⟨(s.abortChar n).rails, rfl, s.updModel_sameButModel n _⟩

theorem State.abortChars_eq (l : List Nat) (s : State) :
    ∃ rails1, s.forEach l State.abortChar = { s with rails := rails1 } ∧ SameButModel s.rails rails1 := by
  induction l generalizing s with
  | nil => exact ⟨_, rfl, rfl⟩
  | cons n l ih =>
    obtain ⟨r, h, hr⟩ := s.abortChar_eq n
    obtain ⟨r', h', hr'⟩ := ih (s.abortChar n)
    refine ⟨r', ?_, hr.trans (by simpa [h] using hr')⟩
    rw [show s.forEach (n :: l) State.abortChar = (s.abortChar n).forEach l State.abortChar from rfl, h', h]

/-! ### Faults, freezes and resets of a pair -/

/-- The outstanding faults once one is recorded (R310, R311). -/
def State.faultsWith (s : State) (k : FaultKind) (i : Nat) (lasting : Bool) : List FaultEntry :=
  let old := (s.input.faults.find? fun e => e.kind == k && e.idx == i && e.lasting).map (·.stamp)
  (s.input.faults.filter fun e => !(e.kind == k && e.idx == i)) ++
    [{ kind := k, idx := i, lasting := lasting || old.isSome, stamp := old.getD s.clock.tick }]

theorem State.faultOn_sameButModel (s : State) (k : FaultKind) (i : Nat) (lasting : Bool) :
    SameButModel s.rails (s.faultOn k i lasting).rails := by
  obtain ⟨r, h, hr⟩ := State.abortChars_eq (s.faultRails k i) { s with input := { s.input with faults := s.faultsWith k i lasting } }
  rw [State.faultOn]
  exact (congrArg (fun t : State => SameButModel s.rails t.rails) h).mpr hr

/-- A fault that is recorded changes the outstanding faults, and aborts the runs of its rails. -/
theorem State.faultOn_eq (s : State) (k : FaultKind) (i : Nat) (lasting : Bool) : s.faultOn k i lasting =
    { s with input := { s.input with faults := s.faultsWith k i lasting }, rails := (s.faultOn k i lasting).rails } := by
  obtain ⟨r, h, hr⟩ := State.abortChars_eq (s.faultRails k i) { s with input := { s.input with faults := s.faultsWith k i lasting } }
  have hd : s.faultOn k i lasting = _ := h
  rw [hd]

/-- A record changes the Sketchbook only. -/
theorem State.record_sketch_only (s : State) (code src p0 p1 : Nat) :
    s.record code src p0 p1 = { s with sketch := (s.record code src p0 p1).sketch } := by
  obtain ⟨k, h⟩ := s.record_eq code src p0 p1
  rw [h]

theorem State.recordFreeze_eq (s : State) (m : Manager) (code src p0 p1 : Nat) : s.recordFreeze m code src p0 p1 =
    { s with sketch := (s.record code src p0 p1).sketch }.updMgr m fun p =>
      { p with causeKey := (s.record code src p0 p1).keyOf code src p0 } := by
  unfold State.recordFreeze
  dsimp only
  rw [← State.record_sketch_only]

/-- A pair after its reset: what a capture needs of it is kept. -/
def PairState.afterReset (p : PairState) (run : PairRun) (timeout : Nat) : PairState :=
  { p with run := run, mem := [], wd := { Watchdog.reset with remain := timeout } }

theorem State.resetPair_rm (s : State) (run : PairRun) : s.resetPair .rm run = { s with
    cross := { s.cross with posts := s.cross.posts.filter RmPost.fromHm }
    rm := s.rm.afterReset run (s.wdTimeout .rm) } := rfl

theorem State.resetPair_hm (s : State) (run : PairRun) : s.resetPair .hm run = { s with
    work := { s.work with dumping := false, activating := none, signing := none }
    hm := s.hm.afterReset run (s.wdTimeout .hm) } := rfl

/-- In the safe state the RM is held in reset, and the HM, where it runs, stops for its restart (R358). -/
theorem State.enterSafe_eq (s : State) (src recent p1 : Nat) (fromCheck : Bool) : ∃ sketch1 key1 cross1,
    s.enterSafe src recent p1 fromCheck = { s with
      sketch := sketch1, cross := cross1
      safe := { s.safe with active := true, fromCheck := fromCheck, resumed := false, recordKey := key1 }
      rm := s.rm.afterReset .heldReset (s.wdTimeout .rm)
      hm := { s.hm with run := if s.hm.run == .running then .stopped else s.hm.run } } := by
  obtain ⟨k, h⟩ := State.record_eq { s with sketch := s.sketch.closeOpen } 0x8007 src recent p1
  unfold State.enterSafe
  dsimp only
  rw [h, State.resetPair_rm]
  exact ⟨_, _, _, rfl⟩

/-- Of the last reset a request that is absorbed changes nothing (R23). -/
theorem State.askReset_eq (s : State) (m : Manager) (kind cause : Nat) : ∃ kind1 cause1,
    s.askReset m kind cause = { s with ret := { s.ret with kind := kind1, cause := cause1 } } ∧
    (s.absorbs m kind = true → kind1 = s.ret.kind ∧ cause1 = s.ret.cause) ∧
    (s.absorbs m kind = false → kind1 = BitVec.ofNat 2 kind ∧ cause1 = BitVec.ofNat 4 cause) := by
  unfold State.askReset
  split
  next h => exact ⟨_, _, rfl, by simp [h]⟩
  next h => exact ⟨_, _, rfl, by simp [h]⟩

/-! ### The ladder (R356) -/

/-- The event is counted. -/
def State.counted (s : State) (m : Manager) : State :=
  { s with ret := (s.ret.setRecent m (min 7 (s.ret.recent m + 1))).setLast m s.clock.tick }

section Ladder
variable {s : State} {m : Manager} (cause : Nat)

theorem State.escalate_inSafe (h : s.safe.active = true) : s.escalate m cause = (s.counted m).resetPair m .heldReset := by
  unfold State.escalate
  exact if_pos h

theorem State.escalate_toSafe (h : s.safe.active = false) (hk : s.safeN ≤ min 7 (s.ret.recent m + 1)) :
    s.escalate m cause =
      ((s.counted m).askReset m (mgrNo m + 2) cause).enterSafe (mgrNo m) (min 7 (s.ret.recent m + 1)) 0 false := by
  unfold State.escalate
  exact (if_neg (by simp [h])).trans (if_pos hk)

theorem State.escalate_asks (h : s.safe.active = false) (hk : min 7 (s.ret.recent m + 1) < s.safeN) :
    s.escalate m cause = (s.counted m).askReset m
      (if s.within (s.ret.last m) (msTicks s.escWin) then 1 else mgrNo m + 2) cause := by
  unfold State.escalate
  exact (if_neg (by simp [h])).trans (if_neg (Nat.not_le.2 hk))

/-- What the ladder leaves of the pair and of its event, and that it counts the event and never replaces the reset of a
warm chip restart in progress. -/
def LadderKeeps (m : Manager) (s t : State) : Prop :=
  (t.mgr m).frozen = (s.mgr m).frozen ∧ (t.mgr m).expired = (s.mgr m).expired ∧ (t.mgr m).miscompare = (s.mgr m).miscompare ∧
  t.pm = s.pm ∧ t.rails = s.rails ∧ t.phases = s.phases ∧
  (t.ret.missingRm = s.ret.missingRm ∧ t.ret.doubleRm = s.ret.doubleRm ∧ t.ret.missingHm = s.ret.missingHm ∧
    t.ret.doubleHm = s.ret.doubleHm) ∧
  t.ret.recent m = min 7 (s.ret.recent m + 1) ∧ t.ret.last m = some s.clock.tick ∧
  (s.safe.warm.isSome = true → t.ret.kind = s.ret.kind ∧ t.ret.cause = s.ret.cause)

theorem LadderKeeps.askReset (kind : Nat) : LadderKeeps m s ((s.counted m).askReset m kind cause) := by
  obtain ⟨k, c, h, hab, -⟩ := (s.counted m).askReset_eq m kind cause
  have hw : s.safe.warm.isSome = true → k = (s.counted m).ret.kind ∧ c = (s.counted m).ret.cause := fun hw =>
    hab (by rw [State.absorbs]; exact Bool.or_eq_true_iff.2 (.inl hw))
  rw [h]
  cases m <;> exact ⟨rfl, rfl, rfl, rfl, rfl, rfl, ⟨rfl, rfl, rfl, rfl⟩, rfl, rfl, hw⟩

theorem LadderKeeps.enterSafe {t : State} (h : LadderKeeps m s t) (src recent p1 : Nat) (fromCheck : Bool) :
    LadderKeeps m s (t.enterSafe src recent p1 fromCheck) := by
  obtain ⟨k, key, x, he⟩ := t.enterSafe_eq src recent p1 fromCheck
  rw [he]
  cases m <;> exact h

theorem State.ladderKeeps_escalate (s : State) (m : Manager) : LadderKeeps m s (s.escalate m cause) := by
  cases hs : s.safe.active with
  | true =>
    rw [State.escalate_inSafe cause hs]
    cases m with
    | rm => rw [State.resetPair_rm]; exact ⟨rfl, rfl, rfl, rfl, rfl, rfl, ⟨rfl, rfl, rfl, rfl⟩, rfl, rfl, fun _ => ⟨rfl, rfl⟩⟩
    | hm => rw [State.resetPair_hm]; exact ⟨rfl, rfl, rfl, rfl, rfl, rfl, ⟨rfl, rfl, rfl, rfl⟩, rfl, rfl, fun _ => ⟨rfl, rfl⟩⟩
  | false =>
    by_cases hk : s.safeN ≤ min 7 (s.ret.recent m + 1)
    · rw [State.escalate_toSafe cause hs hk]
      exact (LadderKeeps.askReset cause _).enterSafe _ _ _ _
    · rw [State.escalate_asks cause hs (Nat.not_le.1 hk)]
      exact LadderKeeps.askReset cause _

end Ladder

section Stopped
variable {s : State} {m : Manager} (cause : Nat) (hrun : (s.mgr m).run = .stopped) (hs : s.safe.active = false)
include hrun hs

theorem State.escalate_entersSafe (hk : s.safeN ≤ min 7 (s.ret.recent m + 1)) :
    ((s.escalate m cause).mgr m).run ≠ .running ∧ (s.escalate m cause).safe.active = true ∧
    (s.escalate m cause).rm.run = .heldReset := by
  obtain ⟨k, c, ha, -⟩ := (s.counted m).askReset_eq m (mgrNo m + 2) cause
  obtain ⟨sk, key, x, he⟩ := ((s.counted m).askReset m (mgrNo m + 2) cause).enterSafe_eq (mgrNo m)
    (min 7 (s.ret.recent m + 1)) 0 false
  rw [State.escalate_toSafe cause hs hk, he, ha]
  refine ⟨?_, rfl, rfl⟩
  cases m with
  | rm => simp [State.mgr, PairState.afterReset]
  | hm => have hr : s.hm.run = .stopped := hrun; simp [State.mgr, State.counted, hr]

theorem State.escalate_asksReset (hk : min 7 (s.ret.recent m + 1) < s.safeN) :
    ((s.escalate m cause).mgr m).run = .stopped ∧ (s.escalate m cause).safe = s.safe ∧
    (s.safe.warm = none → (s.escalate m cause).ret.cause = BitVec.ofNat 4 cause ∧ (s.escalate m cause).ret.kind =
      if s.within (s.ret.last m) (msTicks s.escWin) then 1 else BitVec.ofNat 2 (mgrNo m + 2)) := by
  obtain ⟨k, c, ha, -, hno⟩ := (s.counted m).askReset_eq m
    (if s.within (s.ret.last m) (msTicks s.escWin) then 1 else mgrNo m + 2) cause
  rw [State.escalate_asks cause hs hk, ha]
  refine ⟨by cases m <;> exact hrun, rfl, fun hw => ?_⟩
  have hrun' : ((s.counted m).mgr m).run = .stopped := by cases m <;> exact hrun
  have hw' : (s.counted m).safe.warm = none := hw
  obtain ⟨rfl, rfl⟩ := hno (by simp [State.absorbs, hrun', hw'])
  exact ⟨rfl, by split <;> rfl⟩

end Stopped

/-- A pair that has stopped climbs the ladder. -/
theorem State.climbs_escalate {s : State} {m : Manager} (cause : Nat) (hrun : (s.mgr m).run = .stopped) :
    Climbs m cause s (s.escalate m cause) := by
  obtain ⟨-, -, -, -, hrails, hphases, -, hrecent, hlast, hwarm⟩ := s.ladderKeeps_escalate cause m
  have hcore (n : Nat) : ((s.escalate m cause).rail n).core = (s.rail n).core := by rw [State.rail, hrails]; rfl
  cases hs : s.safe.active with
  | true =>
    have hrun' : ((s.escalate m cause).mgr m).run = .heldReset := by
      rw [State.escalate_inSafe cause hs]; cases m <;> rfl
    refine ⟨by simp [hrun'], hrecent, hlast, fun _ => hrun', ?_, ?_, hwarm, ?_, hcore, hphases⟩ <;>
      exact fun h => absurd (hs.symm.trans h) (by decide)
  | false =>
    by_cases hk : s.safeN ≤ min 7 (s.ret.recent m + 1)
    · obtain ⟨hrun', hsafe, hrm⟩ := State.escalate_entersSafe cause hrun hs hk
      exact ⟨hrun', hrecent, hlast, fun h => absurd (hs.symm.trans h) (by decide), fun _ _ => ⟨hsafe, hrm⟩,
        fun _ h => absurd hk (Nat.not_le.2 h), hwarm, fun _ _ h => absurd hk (Nat.not_le.2 h), hcore, hphases⟩
    · obtain ⟨hrun', hsafe, hret⟩ := State.escalate_asksReset cause hrun hs (Nat.not_le.1 hk)
      exact ⟨by simp [hrun'], hrecent, hlast, fun h => absurd (hs.symm.trans h) (by decide), fun _ h => absurd h hk,
        fun _ _ => ⟨hsafe, hrun'⟩, hwarm, fun _ hw _ => hret hw, hcore, hphases⟩

/-! ### The commands -/

section Commands
variable {m : Manager} {s u t : State}

/-- Of `s` the event has changed nothing that the ladder looks at. -/
structure StopsPair (m : Manager) (s u : State) : Prop where
  clock : u.clock = s.clock
  boot : u.boot = s.boot
  shadow : u.shadow = s.shadow
  safe : u.safe = s.safe
  recent : u.ret.recent m = s.ret.recent m
  last : u.ret.last m = s.ret.last m
  reset : u.ret.kind = s.ret.kind ∧ u.ret.cause = s.ret.cause
  core : ∀ n, (u.rail n).core = (s.rail n).core
  phases : u.phases = s.phases

theorem StopsPair.climbs {cause : Nat} (h : StopsPair m s u) (hc : Climbs m cause u t) : Climbs m cause s t := by
  have hN : u.safeN = s.safeN := by simp [State.safeN, State.cfgField, State.cfgWord, State.cfg, h.boot, h.shadow]
  have hw : u.escWin = s.escWin := by simp [State.escWin, State.cfgWord, State.cfg, h.boot, h.shadow]
  have hin (x : Option Nat) (d : Nat) : u.within x d = s.within x d := by
    cases x with
    | none => rfl
    | some k => exact congrArg (fun c : Clock => decide (c.tick - k < d)) h.clock
  simpa only [Climbs, h.clock, h.safe, h.recent, h.last, h.reset.1, h.reset.2, h.core, h.phases, hN, hw, hin] using hc

/-- An expiry stops the pair with what the registers keep of it, and asks for the pair restart or climbs the ladder. -/
theorem State.expire_eq (s : State) (m : Manager) (forced : Bool) (regs : Frozen) (hrun : (s.mgr m).run = .running) :
    ∃ u, s.expire m forced regs = (if forced then u.askReset m (mgrNo m + 2) 6 else u.escalate m 2) ∧ StopsPair m s u ∧
      (u.mgr m).run = .stopped ∧ (u.mgr m).expired = true ∧ (u.mgr m).frozen = some regs ∧ u.pm.stCml.getLsbD 3 = true ∧
      (m = .rm → u.ret.missingRm = s.rm.wd.missing ∧ u.ret.doubleRm = s.rm.wd.double) ∧
      (m = .hm → u.ret.missingHm = s.hm.wd.missing ∧ u.ret.doubleHm = s.hm.wd.double) := by
  have hcml : (s.pm.stCml ||| 8).getLsbD 3 = true := by simp
  refine ⟨_, rfl, ?_⟩
  rw [State.recordFreeze_eq, hrun]
  cases m <;> dsimp only [State.freeze, State.setCml, State.updMgr, State.mgr] <;>
    exact ⟨⟨rfl, rfl, rfl, rfl, rfl, rfl, ⟨rfl, rfl⟩, fun _ => rfl, rfl⟩, rfl, rfl, rfl, hcml, by simp, by simp⟩

/-- The pair as a miscompare stops it; one that restarts goes on restarting. -/
def State.mismatched (s : State) (m : Manager) (regs : Frozen) : State :=
  ((((s.freeze m (mgrNo m + 1) regs).setCml 8).updMgr m fun p => { p with
    run := if (s.mgr m).run == .restarting then (s.mgr m).run else p.run
    miscompare := true, mismatchAt := some s.clock.tick }).recordFreeze m 0x8004 (mgrNo m) (regs.core0.getD 0 0).toNat
      (regs.core0.getD 3 0 ^^^ regs.core1.getD 3 0).toNat).faultOn .pairMiscompare (mgrNo m)
        (s.within (s.mgr m).mismatchAt (msTicks s.escWin))

theorem exec_lockstepMismatch {s : State} {m : Manager} (regs : Frozen) (hcore : s.clock.corePresent = true)
    (hrun : (s.mgr m).run = .running ∨ (s.mgr m).run = .restarting) :
    exec (.lockstepMismatch m regs) s = complete ((s.mismatched m regs).escalate m 3) := by
  have hmay : (((s.mgr m).run == .running || (s.mgr m).run == .restarting) && s.clock.corePresent) = true := by
    obtain h | h := hrun <;> simp [h, hcore]
  have hclock : ((s.freeze m (mgrNo m + 1) regs).setCml 8).clock = s.clock := by cases m <;> rfl
  change execLockstepMismatch m regs s = _
  unfold execLockstepMismatch
  dsimp only
  rw [if_pos hmay, hclock]
  rfl

theorem StopsPair.faultOn (h : StopsPair m s u) (k : FaultKind) (i : Nat) (lasting : Bool) :
    StopsPair m s (u.faultOn k i lasting) := by
  have hcore (n : Nat) := ((u.faultOn_sameButModel k i lasting).core n).trans (h.core n)
  rw [State.faultOn_eq] at hcore ⊢
  exact ⟨h.clock, h.boot, h.shadow, h.safe, h.recent, h.last, h.reset, hcore, h.phases⟩

@[simp] theorem State.faultOn_mgr (s : State) (k : FaultKind) (i : Nat) (lasting : Bool) (m : Manager) :
    (s.faultOn k i lasting).mgr m = s.mgr m := by rw [State.faultOn_eq]; cases m <;> rfl
@[simp] theorem State.faultOn_pm (s : State) (k : FaultKind) (i : Nat) (lasting : Bool) :
    (s.faultOn k i lasting).pm = s.pm := by rw [State.faultOn_eq]

/-- A miscompare stops the pair with what the registers keep of it (R340). -/
theorem State.stopsPair_mismatched (s : State) (m : Manager) (regs : Frozen) : StopsPair m s (s.mismatched m regs) ∧
    ((s.mgr m).run = .running → ((s.mismatched m regs).mgr m).run = .stopped) ∧
    ((s.mismatched m regs).mgr m).miscompare = true ∧ ((s.mismatched m regs).mgr m).frozen = some regs ∧
    (s.mismatched m regs).pm.stCml.getLsbD 3 = true := by
  have hcml : (s.pm.stCml ||| 8).getLsbD 3 = true := by simp
  unfold State.mismatched
  rw [State.faultOn_mgr, State.faultOn_pm, State.recordFreeze_eq]
  refine ⟨StopsPair.faultOn ?_ _ _ _, ?_⟩ <;> cases m <;> dsimp only [State.freeze, State.setCml, State.updMgr, State.mgr]
  · exact ⟨rfl, rfl, rfl, rfl, rfl, rfl, ⟨rfl, rfl⟩, fun _ => rfl, rfl⟩
  · exact ⟨rfl, rfl, rfl, rfl, rfl, rfl, ⟨rfl, rfl⟩, fun _ => rfl, rfl⟩
  · exact ⟨fun h => by simp [h], rfl, rfl, hcml⟩
  · exact ⟨fun h => by simp [h], rfl, rfl, hcml⟩

/-! ### Settling O24 -/

/-- What a command notes afterwards keeps the ladder's outcome. -/
theorem Climbs.judge {cause : Nat} (h : Climbs m cause s t) : Climbs m cause s t.judge := by
  simpa [Climbs, State.rail] using h

theorem exec_wdtExpiry_counted {why : ExpiryCause} (hwhy : why ≠ .forced) (regs : Frozen) (hrun : s.pairRuns m = true)
    (hwd : (s.mgr m).wd.run = true) : exec (.wdtExpiry m why regs) s = complete (s.expire m false regs) := by
  cases why with
  | forced => exact absurd rfl hwhy
  | _ => simp [exec, execWdtExpiry, hrun, hwd]

theorem exec_wdtExpiry_forced (regs : Frozen) (hrun : s.pairRuns m = true) :
    exec (.wdtExpiry m .forced regs) s = complete (if s.railsRest then s.expire m true regs else s) := by
  rw [complete_ite]
  simp [exec, execWdtExpiry, hrun]

/-- A counted expiry (R355, R356). -/
theorem wdtExpiry_climbs {why : ExpiryCause} (hwhy : why ≠ .forced) (regs : Frozen) (hcore : s.clock.corePresent = true)
    (hrun : (s.mgr m).run = .running) (hwd : (s.mgr m).wd.run = true) :
    ∃ t, exec (.wdtExpiry m why regs) s = .next t ∧ Climbs m 2 s t ∧ (t.mgr m).expired = true ∧
      (t.mgr m).frozen = some regs ∧ t.pm.stCml.getLsbD 3 = true ∧
      (m = .rm → t.ret.missingRm = s.rm.wd.missing ∧ t.ret.doubleRm = s.rm.wd.double) ∧
      (m = .hm → t.ret.missingHm = s.hm.wd.missing ∧ t.ret.doubleHm = s.hm.wd.double) := by
  obtain ⟨u, hu, hstop, hrun', hexp, hfro, hcml, hrm, hhm⟩ := s.expire_eq m false regs hrun
  obtain ⟨kfro, kexp, -, kpm, -, -, ⟨k1, k2, k3, k4⟩, -⟩ := u.ladderKeeps_escalate 2 m
  rw [exec_wdtExpiry_counted hwhy regs (by simp [State.pairRuns, hrun, hcore]) hwd, hu]
  refine ⟨_, rfl, Climbs.judge (hstop.climbs (State.climbs_escalate 2 hrun')), ?_⟩
  simpa [kfro, kexp, kpm, k1, k2, k3, k4] using ⟨hexp, hfro, hcml, hrm, hhm⟩

/-- A forced expiry asks for the pair restart and is not counted (R360). -/
theorem wdtExpiry_forced (regs : Frozen) (hcore : s.clock.corePresent = true) (hrun : (s.mgr m).run = .running)
    (hrest : s.railsRest = true) :
    ∃ t, exec (.wdtExpiry m .forced regs) s = .next t ∧ (t.mgr m).run = .stopped ∧ (t.mgr m).frozen = some regs ∧
      t.ret.recent m = s.ret.recent m ∧ t.safe = s.safe ∧
      (s.safe.warm = none → t.ret.cause = 6 ∧ t.ret.kind = BitVec.ofNat 2 (mgrNo m + 2)) ∧
      (s.safe.warm.isSome = true → t.ret.kind = s.ret.kind ∧ t.ret.cause = s.ret.cause) := by
  obtain ⟨u, hu, hstop, hrun', -, hfro, -⟩ := s.expire_eq m true regs hrun
  obtain ⟨k, c, ha, hab, hno⟩ := u.askReset_eq m (mgrNo m + 2) 6
  rw [exec_wdtExpiry_forced regs (by simp [State.pairRuns, hrun, hcore]), if_pos hrest, hu]
  refine ⟨_, rfl, ?_⟩
  rw [if_pos rfl, ha]
  simp only [State.judge_mgr, State.judge_ret, State.judge_safe]
  refine ⟨by cases m <;> exact hrun', by cases m <;> exact hfro, ?_, hstop.safe, fun hw => ?_, fun hw => ?_⟩
  · rw [← hstop.recent]; cases m <;> rfl
  · obtain ⟨rfl, rfl⟩ := hno (by simp [State.absorbs, hstop.safe, hw, hrun'])
    exact ⟨rfl, rfl⟩
  · rw [← hstop.reset.1, ← hstop.reset.2]
    exact hab (by simp [State.absorbs, hstop.safe, hw])

/-- A miscompare of a pair that runs. -/
theorem lockstepMismatch_climbs (regs : Frozen) (hcore : s.clock.corePresent = true) (hrun : (s.mgr m).run = .running) :
    ∃ t, exec (.lockstepMismatch m regs) s = .next t ∧ Climbs m 3 s t ∧ (t.mgr m).miscompare = true ∧
      (t.mgr m).frozen = some regs ∧ t.pm.stCml.getLsbD 3 = true := by
  obtain ⟨hstop, hrun', hmis, hfro, hcml⟩ := s.stopsPair_mismatched m regs
  obtain ⟨kfro, -, kmis, kpm, -⟩ := (s.mismatched m regs).ladderKeeps_escalate 3 m
  rw [exec_lockstepMismatch regs hcore (.inl hrun)]
  refine ⟨_, rfl, Climbs.judge (hstop.climbs (State.climbs_escalate 3 (hrun' hrun))), ?_⟩
  simpa [kfro, kmis, kpm] using ⟨hmis, hfro, hcml⟩

/-- A miscompare of a pair that restarts is counted too. -/
theorem lockstepMismatch_restarting (regs : Frozen) (hcore : s.clock.corePresent = true)
    (hrun : (s.mgr m).run = .restarting) :
    ∃ t, exec (.lockstepMismatch m regs) s = .next t ∧ (t.mgr m).miscompare = true ∧ (t.mgr m).frozen = some regs ∧
      t.pm.stCml.getLsbD 3 = true ∧ t.ret.recent m = min 7 (s.ret.recent m + 1) ∧
      (s.safe.warm.isSome = true → t.ret.kind = s.ret.kind ∧ t.ret.cause = s.ret.cause) ∧
      (∀ n, (t.rail n).core = (s.rail n).core) ∧ t.phases = s.phases := by
  obtain ⟨hstop, -, hmis, hfro, hcml⟩ := s.stopsPair_mismatched m regs
  obtain ⟨kfro, -, kmis, kpm, krails, kphases, -, krecent, -, kwarm⟩ := (s.mismatched m regs).ladderKeeps_escalate 3 m
  rw [hstop.recent] at krecent
  rw [hstop.safe, hstop.reset.1, hstop.reset.2] at kwarm
  have hcores (n : Nat) : (((s.mismatched m regs).escalate m 3).judge.rail n).core = (s.rail n).core := by
    rw [State.rail, State.judge_rails, krails]
    exact hstop.core n
  rw [exec_lockstepMismatch regs hcore (.inr hrun)]
  refine ⟨_, rfl, ?_⟩
  simp only [State.judge_mgr, State.judge_pm, State.judge_ret, State.judge_phases, kfro, kmis, kpm, kphases]
  exact ⟨hmis, hfro, hcml, krecent, kwarm, hcores, hstop.phases⟩

end Commands

/-- Settles O24, by what each command does to the pair and the step of the ladder it takes. -/
theorem expiriesAndMiscompares : Obligations.ExpiriesAndMiscompares := by
  unfold Obligations.ExpiriesAndMiscompares
  intro m s regs hcore
  refine ⟨fun hrun => ⟨fun why hwhy => wdtExpiry_climbs hwhy regs hcore hrun, wdtExpiry_forced regs hcore hrun, fun hbusy => ?_,
    lockstepMismatch_climbs regs hcore hrun⟩, lockstepMismatch_restarting regs hcore⟩
  rw [exec_wdtExpiry_forced regs (by simp [State.pairRuns, hrun, hcore]), if_neg (by simp [hbusy])]
  exact complete_onlyNoted s

end Sys2Proof.Machine
end

/-! SUPPORT. Restarts: what the end of a session, the cut of a transaction and the restart of a pair change. -/

section
namespace Sys2Proof.Machine

/-! ### The judgement after a command and the cut transaction -/

/-- The judgement leaves the transaction that a restart cut as it is. -/
@[simp] theorem State.judge_bus_cut (s : State) : s.judge.bus.cut = s.bus.cut := by
  obtain ⟨r, h⟩ := s.noteSources_eq
  unfold State.judge State.judgeAlert State.setAlert
  rw [h]
  dsimp only
  split
  · split <;> rfl
  · rfl

@[simp] theorem State.judge_rail (s : State) (n : Nat) : s.judge.rail n = s.rail n := by simp [State.rail]
@[simp] theorem State.judge_cell (s : State) (c : Nat) : s.judge.cell c = s.cell c := by simp [State.cell]

/-- The cut of a transaction changes the bus only. -/
theorem State.cutBus_eq (s : State) (cut : Option CutXfer) :
    ∃ bus1, s.cutBus cut = { s with bus := bus1 } ∧ (cut ≠ none → bus1.cut = true) := by
  match cut with
  | none => exact ⟨_, rfl, fun h => absurd rfl h⟩
  | some (.send _) => exact ⟨_, rfl, fun _ => rfl⟩
  | some (.recv _ _) => exact ⟨_, rfl, fun _ => rfl⟩

/-! ### The session -/

/-- The end of the session undoes its tests and advances the SVC epoch. -/
theorem State.cutSession_eq (s : State) : ∃ phases1 links1 con1 epSvc1 chans1, s.cutSession = { s with
    phases := phases1, links := links1, con := con1, mail := { s.mail with epSvc := epSvc1, chans := chans1 } } ∧
    con1.session = false := by
  unfold State.cutSession
  dsimp only
  split
  next => exact ⟨_, _, _, _, _, rfl, rfl⟩
  next h => exact ⟨_, _, _, _, _, rfl, Bool.eq_false_iff.2 h⟩

/-! ### The restart of one pair begins -/

theorem State.beginPair_rm_eq (s : State) (cause : BitVec 4) : ∃ cross1 mail1, s.beginPair .rm cause = { s with
    cross := cross1, mail := mail1, rm := s.rm.afterReset .restarting (s.wdTimeout .rm)
    ret := { s.ret with kind := 2, cause := cause } } := ⟨_, _, rfl⟩

theorem State.beginPair_hm_eq (s : State) (cause : BitVec 4) : ∃ phases1 links1 con1 mail1 work1, s.beginPair .hm cause = { s with
    phases := phases1, links := links1, con := con1, mail := mail1, work := work1
    sketch := s.sketch.closeOpen, hm := s.hm.afterReset .restarting (s.wdTimeout .hm)
    ret := { s.ret with kind := 3, cause := cause } } := by
  obtain ⟨p, l, c, e, ch, h, -⟩ := ({ s with sketch := s.sketch.closeOpen } : State).cutSession_eq
  unfold State.beginPair
  simp only [State.when, beq_self_eq_true, if_true, h]
  exact ⟨_, _, _, _, _, rfl⟩

/-- In PRIMED a pair that runs may restart. -/
theorem State.mayRestart_of_running {s : State} {m : Manager} (hb : s.boot.held = false) (hp : s.boot.stage = 8)
    (hw : s.safe.warm = none) (hr : (s.mgr m).run = .running) : s.mayRestart m = true := by
  simp [State.mayRestart, State.primed, hb, hp, hw, hr]

end Sys2Proof.Machine
end

/-! SUPPORT. Mailbox channels: what a post, a release and a reply change of the channels. -/

section
namespace Sys2Proof.Machine

/-! ### Mailbox operations change the channels only -/

/-- The channels of a state replaced. -/
def State.withChans (s : State) (l : List Channel) : State := { s with mail := { s.mail with chans := l } }

/-- A post from an outgoing queue changes the channels only. -/
theorem State.pump_eq (s : State) (c : Nat) : ∃ l, s.pump c = s.withChans l := by
  unfold State.pump
  split
  · exact ⟨_, rfl⟩
  · split <;> exact ⟨_, rfl⟩

theorem State.pumps_eq (l : List Nat) (s : State) : ∃ chans1, s.forEach l State.pump = s.withChans chans1 := by
  induction l generalizing s with
  | nil => exact ⟨_, rfl⟩
  | cons c l ih =>
    obtain ⟨_, hc⟩ := s.pump_eq c
    obtain ⟨k, hl⟩ := ih (s.pump c)
    exact ⟨k, hl.trans (by rw [hc]; rfl)⟩

theorem State.sendOn_eq (s : State) (c code tag : Nat) (orphan : Bool) (payload : List Word) :
    ∃ l, s.sendOn c code tag orphan payload = s.withChans l := by
  unfold State.sendOn
  split
  · obtain ⟨_, h⟩ := State.pump_eq (s.updChan c fun x =>
      Channel.refill { x with owed := x.owed ++ [fragments code tag orphan payload] }) c
    exact ⟨_, h⟩
  · exact ⟨_, rfl⟩

/-- CROSS falls on a channel (R404). -/
def State.uncross (s : State) (c : Nat) : State := s.updChan c fun x => { x with cross := false, crossTime := 0 }

theorem State.uncross_eq (l : List Nat) (s : State) : ∃ chans1, s.forEach l State.uncross = s.withChans chans1 := by
  induction l generalizing s with
  | nil => exact ⟨_, rfl⟩
  | cons c l ih => exact ih (s.uncross c)

/-- A channel whose message is taken: FULL and CROSS fall. -/
def Channel.freed (x : Channel) : Channel := { x with full := false, cross := false, crossTime := 0 }

/-- The channels that run the other way between the two identities of a channel (R404). -/
def State.reverses (s : State) (c : Nat) : List Nat := indices 16 fun k =>
  (s.chanSender k == s.chanReceiver c && s.chanReceiver k == s.chanSender c && s.chanSender c != 0) &&
    (s.replyCh k == c || s.replyCh c == k)

theorem State.release_def (s : State) (c : Nat) :
    s.release c = (State.forEach (s.updChan c Channel.freed) (s.reverses c) State.uncross).pump c := rfl

theorem State.release_eq (s : State) (c : Nat) : ∃ l, s.release c = s.withChans l := by
  obtain ⟨l, hu⟩ := State.uncross_eq (s.reverses c) (s.updChan c Channel.freed)
  obtain ⟨k, hp⟩ := State.pump_eq ((s.updChan c Channel.freed).withChans l) c
  exact ⟨k, by rw [s.release_def, hu, hp]; rfl⟩

theorem State.pump_length (s : State) (c : Nat) : (s.pump c).mail.chans.length = s.mail.chans.length := by
  unfold State.pump
  split
  · rfl
  · split
    · rfl
    · simp [State.post]

theorem State.uncross_length (l : List Nat) (s : State) : (s.forEach l State.uncross).mail.chans.length = s.mail.chans.length := by
  induction l generalizing s with
  | nil => rfl
  | cons c l ih => exact (ih (s.uncross c)).trans (List.length_modify ..)

theorem State.release_length (s : State) (c : Nat) : (s.release c).mail.chans.length = s.mail.chans.length := by
  rw [State.release_def, State.pump_length, State.uncross_length]
  exact List.length_modify ..

/-! ### Each channel after them -/

/-- An update of a channel that is not there changes nothing. -/
theorem State.updChan_chan_or (s : State) (c j : Nat) (f : Channel → Channel) :
    (s.updChan c f).chan j = s.chan j ∨ (s.updChan c f).chan j = f (s.chan j) := by
  by_cases hc : c = j
  · subst hc
    by_cases hl : c < s.mail.chans.length
    · exact .inr (s.updChan_chan c f hl)
    · exact .inl (by simp [State.chan, List.getD, List.getElem?_eq_none (Nat.not_lt.1 hl)])
  · exact .inl (s.updChan_chan_ne c j f hc)

/-- A channel but for CROSS. -/
def Channel.uncrossed (x : Channel) : Channel := { x with cross := false, crossTime := 0 }

theorem State.uncross_chan (l : List Nat) (s : State) (j : Nat) :
    ((s.forEach l State.uncross).chan j).uncrossed = (s.chan j).uncrossed := by
  induction l generalizing s with
  | nil => rfl
  | cons c l ih =>
    refine (ih (s.uncross c)).trans ?_
    obtain h | h := s.updChan_chan_or c j Channel.uncrossed
    · exact congrArg Channel.uncrossed h
    · exact (congrArg Channel.uncrossed h).trans rfl

/-- With nothing waiting to go out, nothing is posted. -/
theorem State.pump_idle {s : State} {c : Nat} (h : (s.chan c).out = []) : s.pump c = s := by
  unfold State.pump
  rw [h]

/-- A channel released with no message waiting is free, and every other channel is as it was but for CROSS. -/
theorem State.release_chan {s : State} {c : Nat} (hc : c < s.mail.chans.length) (hout : (s.chan c).out = []) :
    ((s.release c).chan c).full = false ∧ ∀ j, j ≠ c → ((s.release c).chan j).uncrossed = (s.chan j).uncrossed := by
  have hfree := s.updChan_chan c Channel.freed hc
  have hsame (j : Nat) (hj : j ≠ c) := s.updChan_chan_ne c j Channel.freed hj.symm
  have hun := State.uncross_chan (s.reverses c) (s.updChan c Channel.freed)
  have hidle : s.release c = State.forEach (s.updChan c Channel.freed) (s.reverses c) State.uncross :=
    State.pump_idle ((congrArg Channel.out (hun c)).trans (by rw [hfree]; exact hout))
  rw [hidle]
  exact ⟨(congrArg Channel.full (hun c)).trans (by rw [hfree]; rfl), fun j hj => (hun j).trans (by rw [hsame j hj])⟩

theorem State.pump_chan_ne (s : State) {c j : Nat} (h : c ≠ j) : (s.pump c).chan j = s.chan j := by
  unfold State.pump
  split
  · rfl
  · split
    · rfl
    · exact (State.updChan_chan_ne _ c j _ h).trans (State.updChan_chan_ne _ c j _ h)

theorem State.sendOn_chan_ne (s : State) {c j : Nat} (code tag : Nat) (orphan : Bool) (payload : List Word) (h : c ≠ j) :
    (s.sendOn c code tag orphan payload).chan j = s.chan j := by
  unfold State.sendOn
  split
  · exact (State.pump_chan_ne _ h).trans (State.updChan_chan_ne _ c j _ h)
  · rfl

theorem Channel.refill_d (x : Channel) : x.refill.d = x.d := by
  unfold Channel.refill
  split
  · split <;> rfl
  · rfl

/-- A free channel takes the next waiting message of a sender that runs. -/
theorem State.pump_takes {s : State} {c : Nat} {w : List Word} {rest : List (List Word)} (hc : c < s.mail.chans.length)
    (hrun : s.senderRuns c = true) (hfull : (s.chan c).full = false) (hout : (s.chan c).out = w :: rest) :
    ((s.pump c).chan c).full = true ∧ ((s.pump c).chan c).d = w ++ List.replicate (12 - w.length) 0 := by
  unfold State.pump
  rw [hout]
  dsimp only
  rw [if_neg (by simp [hfull, hrun])]
  have hpost (t : State) (ht : c < t.mail.chans.length) : ((t.post c).chan c).full = true ∧ ((t.post c).chan c).d = (t.chan c).d := by
    unfold State.post
    rw [t.updChan_chan c _ ht]
    exact ⟨rfl, rfl⟩
  obtain ⟨hf, hd⟩ := hpost (s.updChan c fun x =>
    Channel.refill { x with d := w ++ List.replicate (12 - w.length) 0, out := rest }) (by simpa using hc)
  exact ⟨hf, hd.trans (by rw [s.updChan_chan c _ hc, Channel.refill_d])⟩

/-- A message of one fragment that an idle channel owes waits to go out. -/
theorem Channel.refill_idle {x : Channel} (f : List Word) (hout : x.out = []) (howed : x.owed = []) :
    Channel.refill { x with owed := x.owed ++ [[f]] } = { x with out := [f], owed := [] } := by
  simp [Channel.refill, Channel.waiting, hout, howed]

/-- A free channel with nothing waiting takes a message of one word at once, if its sender runs. -/
theorem State.sendOn_free {s : State} {c : Nat} (code tag : Nat) (orphan : Bool) (w : Word) (h16 : c < 16)
    (hc : c < s.mail.chans.length) (hrun : s.senderRuns c = true) (hfull : (s.chan c).full = false)
    (hout : (s.chan c).out = []) (howed : (s.chan c).owed = []) :
    ((s.sendOn c code tag orphan [w]).chan c).full = true ∧ ((s.sendOn c code tag orphan [w]).chan c).d.getD 1 0 = w := by
  let t := s.updChan c fun x => Channel.refill { x with owed := x.owed ++ [fragments code tag orphan [w]] }
  have ht : t.chan c = { s.chan c with out := fragments code tag orphan [w], owed := [] } :=
    (s.updChan_chan c _ hc).trans (Channel.refill_idle _ hout howed)
  have hlen : c < t.mail.chans.length := by simpa [t] using hc
  obtain ⟨hf, hd⟩ := State.pump_takes (s := t) (rest := []) hlen hrun (by rw [ht]; exact hfull) (by rw [ht]; rfl)
  rw [State.sendOn, if_pos h16]
  exact ⟨hf, (congrArg (·.getD 1 0) hd).trans rfl⟩

end Sys2Proof.Machine
end

/-! SUPPORT. Scrubbing: what a pass notes of an error, and the reaction of each memory (Table 1.7). -/

section
namespace Sys2Proof.Machine

/-! ### The pass -/

/-- At the beginning of a pass the memory faults end that are neither lasting nor found again. -/
def State.passed (s : State) (bad : List Nat) : State := { s with input := { s.input with
  faults := s.input.faults.filter fun e => !(e.kind == .memory) || e.lasting || bad.contains e.idx } }

/-- The number of a word among the outstanding faults. -/
def wordNo (m : MemName) (i : Nat) : Nat := 65536 * memNo m + i

/-- A word that fails again stays outstanding. -/
theorem State.memoryFault_passed (s : State) (m : MemName) (i : Nat) :
    (s.passed [wordNo m i]).memoryFault m i = s.memoryFault m i := by
  rw [Bool.eq_iff_iff]
  simp only [State.memoryFault, State.passed, List.any_filter, List.any_eq_true, Bool.and_eq_true]
  refine exists_congr fun e => and_congr_right fun _ => and_iff_right_of_imp fun ⟨_, hidx⟩ => ?_
  simp only [beq_iff_eq] at hidx
  simp [hidx, wordNo]

/-- A double-bit error is noted, before the reaction of its memory. -/
def State.noted (s : State) (m : MemName) (i : Nat) : State :=
  ((s.passed [wordNo m i]).faultOn .memory (wordNo m i) ((s.passed [wordNo m i]).memoryFault m i)).setCml 0x10

section Pass
variable {s : State} (hb : s.boot.held = false)
include hb

theorem exec_scrub_nil (cut : Option CutXfer) : exec (.scrub [] cut) s = .next (s.passed []).judge := by
  change execScrub [] cut s = _
  unfold execScrub
  rw [if_neg (by simp [hb])]
  rfl

theorem exec_scrub_single (m : MemName) (i : Nat) (cut : Option CutXfer) :
    exec (.scrub [.single m i] cut) s = .next ((s.passed []).countSingle m).judge := by
  change execScrub [.single m i] cut s = _
  unfold execScrub
  rw [if_neg (by simp [hb])]
  rfl

theorem exec_scrub_double (m : MemName) (i : Nat) (cut : Option CutXfer) :
    exec (.scrub [.double m i] cut) s = .next ((s.noted m i).doubleBit m i cut).judge := by
  change execScrub [.double m i] cut s = _
  unfold execScrub
  rw [if_neg (by simp [hb])]
  simp only [List.filterMap_cons, ScrubFinding.word, List.filterMap_nil, List.foldl_cons, List.foldl_nil, complete_eq,
    State.scrubError]
  rfl

theorem exec_scrub_crc (n : Fin 16) (cut : Option CutXfer) :
    exec (.scrub [.crc n] cut) s = .next ((s.passed []).declareLe n 4 0xFFFF).judge := by
  change execScrub [.crc n] cut s = _
  unfold execScrub
  rw [if_neg (by simp [hb])]
  rfl

end Pass

/-- Noting a double-bit error records the fault, lasting where it stood already, and sets STATUS_CML bit 4. -/
theorem State.noted_eq (s : State) (m : MemName) (i : Nat) : ∃ faults1 rails1, s.noted m i = { s with
    input := { s.input with faults := faults1 }, rails := rails1, pm := { s.pm with stCml := s.pm.stCml ||| 0x10 } } ∧
    SameButModel s.rails rails1 ∧
    ∃ e ∈ faults1, e.kind = .memory ∧ e.idx = wordNo m i ∧ e.lasting = s.memoryFault m i := by
  let l := (s.passed [wordNo m i]).memoryFault m i
  refine ⟨(s.passed [wordNo m i]).faultsWith .memory (wordNo m i) l, _, ?_,
    (s.passed [wordNo m i]).faultOn_sameButModel .memory (wordNo m i) l, ?_⟩
  · unfold State.noted
    rw [State.faultOn_eq]
    rfl
  · refine ⟨_, List.mem_append_right _ (List.mem_singleton_self _), rfl, rfl, ?_⟩
    have hold : ((s.passed [wordNo m i]).input.faults.find? fun e => e.kind == .memory && e.idx == wordNo m i && e.lasting).isSome
        = true → l = true := by
      simp only [List.find?_isSome, l, State.memoryFault, List.any_eq_true]
      rintro ⟨e, he, hp⟩
      exact ⟨e, he, (Bool.and_eq_true_iff.1 hp).1⟩
    dsimp only
    rw [Option.isSome_map, ← s.memoryFault_passed m i]
    exact Bool.or_eq_left_iff_imp.2 hold

/-! ### A loop engine is declared faulty -/

/-- An LE that runs and was not declared faulty before: its shadow run is due. -/
def LoopEngine.faulty (l : LoopEngine) : LoopEngine := { l with
  declared := l.declared + 1, mode := 3, rearmDue := true, envRun := 0, satRun := 0, unfinished := none }

/-- A recorded fault changes the outstanding faults of its own kind only. -/
theorem State.mem_faultOn {s : State} {k : FaultKind} (i : Nat) (lasting : Bool) {e : FaultEntry}
    (he : e ∈ s.input.faults) (hk : e.kind ≠ k) : e ∈ (s.faultOn k i lasting).input.faults := by
  rw [s.faultOn_eq]
  exact List.mem_append_left _ (List.mem_filter.2 ⟨he, by simp [hk]⟩)

/-- The fault of an LE: its outstanding fault, an aborted run, and the record. -/
theorem State.leFault_eq (s : State) (n : Nat) (lasting : Bool) (cause p1 : Nat) : ∃ faults1 rails1 sketch1,
    ((s.faultOn .loopEngine n lasting).abortChar n).record 0x5002 n cause p1 =
      { s with input := { s.input with faults := faults1 }, rails := rails1, sketch := sketch1 } ∧
    SameButModel s.rails rails1 ∧ ∀ e ∈ s.input.faults, e.kind = .memory → e ∈ faults1 := by
  obtain ⟨r, ha, hr⟩ := (s.faultOn .loopEngine n lasting).abortChar_eq n
  refine ⟨(s.faultOn .loopEngine n lasting).input.faults, r,
    ({ s.faultOn .loopEngine n lasting with rails := r }.record 0x5002 n cause p1).sketch, ?_, (s.faultOn_sameButModel _ _ _).trans hr, fun e he hk => s.mem_faultOn n lasting he (by simp [hk])⟩
  rw [State.record_sketch_only, ha]
  conv_lhs => rw [s.faultOn_eq]
  rfl

theorem SameButModel.length {l l' : List Rail} (h : SameButModel l l') : l'.length = l.length := by
  simpa using congrArg List.length h

theorem SameButModel.le {s t : State} (h : SameButModel s.rails t.rails) (n : Nat) : (t.rail n).le = (s.rail n).le := by
  have hn := congrArg Rail.le (h.getD n)
  exact hn

theorem SameButModel.bs {s t : State} (h : SameButModel s.rails t.rails) (n : Nat) : (t.rail n).bs = (s.rail n).bs := by
  have hn := congrArg Rail.bs (h.getD n)
  exact hn

/-- The reaction to a double-bit error leaves STATUS_CML, the counts of corrected errors and the memory faults. -/
structure KeepsNotes (s t : State) : Prop where
  pm : t.pm = s.pm
  ecc : t.ecc = s.ecc
  faults : ∀ e ∈ s.input.faults, e.kind = .memory → e ∈ t.input.faults

theorem KeepsNotes.of_input {s t : State} (hpm : t.pm = s.pm) (hecc : t.ecc = s.ecc) (hin : t.input = s.input) : KeepsNotes s t :=
  ⟨hpm, hecc, fun e he _ => by rw [hin]; exact he⟩

theorem KeepsNotes.trans {s t u : State} (h : KeepsNotes s t) (h' : KeepsNotes t u) : KeepsNotes s u :=
  ⟨h'.pm.trans h.pm, h'.ecc.trans h.ecc, fun e he hk => h'.faults e (h.faults e he hk) hk⟩

theorem State.leFault_keepsNotes {s u : State} (n : Nat) (lasting : Bool) (cause p1 : Nat) (hpm : u.pm = s.pm)
    (hecc : u.ecc = s.ecc) (hin : u.input = s.input) :
    KeepsNotes s (((u.faultOn .loopEngine n lasting).abortChar n).record 0x5002 n cause p1) := by
  obtain ⟨f, r, k, h, -, hf⟩ := u.leFault_eq n lasting cause p1
  rw [h]
  exact ⟨hpm, hecc, fun e he => hf e (by rw [hin]; exact he)⟩

theorem State.declareLe_keepsNotes (s : State) (n cause p1 : Nat) : KeepsNotes s (s.declareLe n cause p1) := by
  unfold State.declareLe State.refuseLe
  dsimp only
  split
  · exact .of_input rfl rfl rfl
  · split
    · exact State.leFault_keepsNotes n true 7 0 rfl rfl rfl
    · exact State.leFault_keepsNotes n false cause p1 rfl rfl rfl

/-- The LE and the backstop of a rail, once it is declared faulty. -/
def Rail.faulty (cause : Nat) (r : Rail) : Rail := { r with le := r.le.faulty, bs := { r.bs with cause := BitVec.ofNat 3 cause } }

theorem State.declareLe_def {s : State} {n : Nat} (cause p1 : Nat) (hmode : (s.rail n).le.mode = 1)
    (hdecl : (s.rail n).le.declared = 0) : s.declareLe n cause p1 =
      (((s.updRail n (Rail.faulty cause)).faultOn .loopEngine n false).abortChar n).record 0x5002 n cause p1 := by
  unfold State.declareLe
  dsimp only
  rw [if_neg (by simp [hmode]), if_neg (by simp [hmode, hdecl])]
  have hu : (((s.updLe n fun l => { l with declared := l.declared + 1 }).updLe n fun l =>
      { l with mode := 3, rearmDue := true, envRun := 0, satRun := 0, unfinished := none }).updBs n fun b =>
      { b with cause := BitVec.ofNat 3 cause }) = s.updRail n (Rail.faulty cause) := by
    simp only [State.updLe, State.updBs, State.updRail, List.modify_modify_eq]
    rfl
  rw [hu]

/-- An LE that runs is declared faulty: its shadow run is due, and its backstop has the cause. -/
theorem State.declareLe_rail {s : State} {n : Nat} (cause p1 : Nat) (hn : n < s.rails.length)
    (hmode : (s.rail n).le.mode = 1) (hdecl : (s.rail n).le.declared = 0) :
    ((s.declareLe n cause p1).rail n).le = (s.rail n).le.faulty ∧
    ((s.declareLe n cause p1).rail n).bs.cause = BitVec.ofNat 3 cause ∧
    ∀ k, n ≠ k → ((s.declareLe n cause p1).rail k).le = (s.rail k).le := by
  obtain ⟨f, r, k, h, hr, -⟩ := (s.updRail n (Rail.faulty cause)).leFault_eq n false cause p1
  have hr' : SameButModel (s.updRail n (Rail.faulty cause)).rails (s.declareLe n cause p1).rails := by
    rw [State.declareLe_def cause p1 hmode hdecl, h]
    exact hr
  refine ⟨by rw [hr'.le, s.updRail_rail n _ hn]; rfl, by rw [hr'.bs, s.updRail_rail n _ hn]; rfl, fun k hk => ?_⟩
  rw [hr'.le, s.updRail_rail_ne n k _ hk]

/-! ### A pair restarts -/

section Restart
variable {s : State} {m : Manager} (cut : Option CutXfer)

theorem State.memoryRestart_rm_def (h : s.mayRestart .rm = true) : s.memoryRestart .rm cut = s.beginPair .rm 5 := by
  rw [State.memoryRestart, if_pos h]
  rfl

theorem State.memoryRestart_hm_def (h : s.mayRestart .hm = true) :
    s.memoryRestart .hm cut = (s.beginPair .hm 5).cutBus cut := by
  rw [State.memoryRestart, if_pos h]
  rfl

/-- The HM pair with its restart for a memory fault, and the transaction that it cuts. -/
theorem State.memoryRestart_hm_eq (h : s.mayRestart .hm = true) : ∃ phases1 links1 con1 mail1 work1 bus1,
    s.memoryRestart .hm cut = { s with
      phases := phases1, links := links1, con := con1, mail := mail1, work := work1, bus := bus1
      sketch := s.sketch.closeOpen, hm := s.hm.afterReset .restarting (s.wdTimeout .hm)
      ret := { s.ret with kind := 3, cause := 5 } } ∧ (cut ≠ none → bus1.cut = true) := by
  obtain ⟨p, l, c, ml, w, hbegin⟩ := s.beginPair_hm_eq 5
  obtain ⟨b, hcut, hbus⟩ := (s.beginPair .hm 5).cutBus_eq cut
  refine ⟨p, l, c, ml, w, b, ?_, hbus⟩
  rw [State.memoryRestart_hm_def cut h, hcut, hbegin]

/-- A pair's restart for a memory that a double-bit error has spoiled keeps the notes. -/
theorem State.memoryRestart_keepsNotes {u : State} (m : Manager) (hpm : s.pm = u.pm) (hecc : s.ecc = u.ecc)
    (hin : s.input = u.input) : KeepsNotes u (s.memoryRestart m cut) := by
  by_cases h : s.mayRestart m = true
  · cases m with
    | rm =>
      obtain ⟨_, _, heq⟩ := s.beginPair_rm_eq 5
      rw [State.memoryRestart_rm_def cut h, heq]
      exact .of_input hpm hecc hin
    | hm =>
      obtain ⟨_, _, _, _, _, _, heq, -⟩ := State.memoryRestart_hm_eq cut h
      rw [heq]
      exact .of_input hpm hecc hin
  · rw [State.memoryRestart, if_neg h]
    exact .of_input hpm hecc hin

/-- The RM restarts for a memory of its own; the HM and the rails stay. -/
theorem State.memoryRestart_rm (h : s.mayRestart .rm = true) : (s.memoryRestart .rm cut).rm.run = .restarting ∧
    (s.memoryRestart .rm cut).ret.cause = 5 ∧ (s.memoryRestart .rm cut).ret.kind = 2 ∧ (s.memoryRestart .rm cut).rm.mem = [] ∧
    (s.memoryRestart .rm cut).hm = s.hm ∧ (s.memoryRestart .rm cut).rails = s.rails := by
  obtain ⟨_, _, heq⟩ := s.beginPair_rm_eq 5
  rw [State.memoryRestart_rm_def cut h, heq]
  exact ⟨rfl, rfl, rfl, rfl, rfl, rfl⟩

/-- The HM restarts for a memory of its own; the RM stays. -/
theorem State.memoryRestart_hm (h : s.mayRestart .hm = true) : (s.memoryRestart .hm cut).hm.run = .restarting ∧
    (s.memoryRestart .hm cut).ret.cause = 5 ∧ (s.memoryRestart .hm cut).ret.kind = 3 ∧ (s.memoryRestart .hm cut).hm.mem = [] ∧
    (s.memoryRestart .hm cut).rm = s.rm ∧ (cut ≠ none → (s.memoryRestart .hm cut).bus.cut = true) := by
  obtain ⟨_, _, _, _, _, _, heq, hbus⟩ := State.memoryRestart_hm_eq cut h
  rw [heq]
  exact ⟨rfl, rfl, rfl, rfl, rfl, hbus⟩

end Restart

/-! ### The reaction of each memory -/

/-- What a command to a cell leaves of the cell: what it still owes. -/
def Cell.owes (x : Cell) : Bool × Bool := (x.idOwed, x.statusOwed)

theorem State.updCell_owes (s : State) (c k : Nat) (f : Cell → Cell) (hf : ∀ x, (f x).owes = x.owes) :
    ((s.updCell c f).cell k).owes = (s.cell k).owes := by
  by_cases hk : c = k
  · subst hk
    by_cases hl : c < s.cells.length
    · rw [s.updCell_cell c f hl, hf]
    · simp [State.cell, List.getD, List.getElem?_eq_none (Nat.not_lt.1 hl)]
  · rw [s.updCell_cell_ne c k f hk]

/-- Only cells and links change, and no cell owes less or more. -/
def CommandsCells (s t : State) : Prop := ∃ cells1 links1, t = { s with cells := cells1, links := links1 } ∧
  cells1.length = s.cells.length ∧ ∀ k, (t.cell k).owes = (s.cell k).owes

theorem CommandsCells.refl (s : State) : CommandsCells s s := ⟨_, _, rfl, rfl, fun _ => rfl⟩

theorem CommandsCells.trans {s t u : State} (h : CommandsCells s t) (h' : CommandsCells t u) : CommandsCells s u := by
  obtain ⟨c, l, rfl, hl, ho⟩ := h
  obtain ⟨c', l', rfl, hl', ho'⟩ := h'
  exact ⟨c', l', rfl, hl'.trans hl, fun k => (ho' k).trans (ho k)⟩

theorem State.updCell_commandsCells (s : State) (c : Nat) (f : Cell → Cell) (hf : ∀ x, (f x).owes = x.owes) :
    CommandsCells s (s.updCell c f) := ⟨_, _, rfl, List.length_modify .., fun k => s.updCell_owes c k f hf⟩

theorem State.updLink_commandsCells (s : State) (l : Nat) (f : Link → Link) : CommandsCells s (s.updLink l f) :=
  ⟨_, _, rfl, rfl, fun _ => rfl⟩

theorem State.commandCell_commandsCells (s : State) (cls c : Nat) (f : DownFrame) : CommandsCells s (s.commandCell cls c f) :=
  (s.updCell_commandsCells c (fun x => { x with
    seq := !(s.cell c).seq, outstanding := some { f with seq := !(s.cell c).seq }, attempt := 0, sentAt := none })
    fun _ => rfl).trans (State.updLink_commandsCells _ _ _)

theorem State.unsend_commandsCells (s : State) (c : Nat) : CommandsCells s (s.unsend c) := by
  unfold State.unsend
  split
  · exact (s.updLink_commandsCells _ _).trans (State.updCell_commandsCells _ _ _ fun _ => rfl)
  · exact .refl s

theorem State.sendCell_commandsCells (s : State) (cls c : Nat) (f : DownFrame) : CommandsCells s (s.sendCell cls c f) := by
  have hwaits : CommandsCells s (s.updCell c fun x => { x with queue := x.enqueue cls f }) :=
    s.updCell_commandsCells c _ fun _ => rfl
  unfold State.sendCell
  dsimp only
  split
  · exact s.commandCell_commandsCells cls c f
  · split
    · exact hwaits
    · split
      · split
        · exact (s.unsend_commandsCells c).trans (State.commandCell_commandsCells _ cls c f)
        · exact hwaits
      · exact hwaits

/-- A cell whose entry is lost owes its identity and its status. -/
def Cell.lost (x : Cell) : Cell := { x with idOwed := true, statusOwed := true, parts := [none, none, none] }

/-- A lost entry of the cell table is asked for again. -/
theorem State.askCell_eq (s : State) (i : Nat) (cut : Option CutXfer) :
    CommandsCells (s.updCell i Cell.lost) (s.doubleBit .cellTable i cut) :=
  (State.sendCell_commandsCells _ _ _ _).trans (State.sendCell_commandsCells _ _ _ _)

/-- A message that ECC has spoiled leaves its channel. -/
def State.discard (s : State) (c : Nat) : State := (s.updChan c fun x => { x with eccErr := true }).release c

/-- The answer to a message that ECC has spoiled at word `i` of the mailbox memory: BAD_FORMAT (status 5). -/
def State.answerSpoiled (s t : State) (i : Nat) : State :=
  let x := s.chan (i / 13)
  let h := if i % 13 == 0 then 0 else x.d.getD 0 0
  t.sendOn (t.replyCh (i / 13)) ((hdrCode h).toNat % 128 + 128) (hdrTag h).toNat x.orphan [BitVec.ofNat 32 5]

theorem State.doubleBit_mailbox (s : State) (i : Nat) (cut : Option CutXfer) : s.doubleBit .mailbox i cut =
    if (s.chan (i / 13)).full then
      (if (s.discard (i / 13)).chanReceiver (i / 13) == 3 || (s.discard (i / 13)).chanReceiver (i / 13) == 4 then
        s.answerSpoiled (s.discard (i / 13)) i else s.discard (i / 13))
    else s := rfl

theorem State.discard_eq (s : State) (c : Nat) : ∃ l, s.discard c = s.withChans l := by
  obtain ⟨l, h⟩ := (s.updChan c fun x => { x with eccErr := true }).release_eq c
  exact ⟨l, h⟩

/-- A double-bit error in the mailbox memory changes the channels only. -/
theorem State.doubleBit_mailbox_eq (s : State) (i : Nat) (cut : Option CutXfer) :
    ∃ l, s.doubleBit .mailbox i cut = s.withChans l := by
  obtain ⟨l, h⟩ := s.discard_eq (i / 13)
  rw [State.doubleBit_mailbox]
  split
  · split
    · obtain ⟨k, hk⟩ := State.sendOn_eq (s.discard (i / 13)) _ _ _ _ _
      exact ⟨k, hk.trans (by rw [h]; rfl)⟩
    · exact ⟨l, h⟩
  · exact ⟨_, rfl⟩

theorem State.doubleBit_keepsNotes (s : State) (m : MemName) (i : Nat) (cut : Option CutXfer) :
    KeepsNotes s (s.doubleBit m i cut) := by
  cases m with
  | leCode => exact s.declareLe_keepsNotes _ _ _
  | leCoef => exact s.declareLe_keepsNotes _ _ _
  | leState => exact s.declareLe_keepsNotes _ _ _
  | palette => exact .of_input rfl rfl rfl
  | cellTable =>
    obtain ⟨_, _, h, -⟩ := s.askCell_eq i cut
    rw [h]
    exact .of_input rfl rfl rfl
  | shadow =>
    change KeepsNotes s (if _ then _ else _)
    split
    · obtain ⟨_, _, _, h⟩ := s.enterSafe_eq 0x0F s.ret.recentRm 1 false
      rw [h]
      exact .of_input rfl rfl rfl
    · exact .of_input rfl rfl rfl
  | rmMemory => exact State.memoryRestart_keepsNotes cut .rm rfl rfl rfl
  | hmMemory => exact State.memoryRestart_keepsNotes cut .hm rfl rfl rfl
  | rmPatch => exact State.memoryRestart_keepsNotes cut .rm rfl rfl rfl
  | hmPatch => exact State.memoryRestart_keepsNotes cut .hm rfl rfl rfl
  | rom => exact State.memoryRestart_keepsNotes cut _ rfl rfl rfl
  | mailbox =>
    obtain ⟨_, h⟩ := s.doubleBit_mailbox_eq i cut
    rw [h]
    exact .of_input rfl rfl rfl
  | staging =>
    unfold State.doubleBit
    dsimp only
    split
    · exact .of_input rfl rfl rfl
    · split <;> exact .of_input rfl rfl rfl
    · exact .of_input rfl rfl rfl
  | retained => exact .of_input rfl rfl rfl
  | eventStore =>
    unfold State.doubleBit
    dsimp only
    split <;> exact .of_input rfl rfl rfl
  | pentimento => exact .of_input rfl rfl rfl
  | keyStore => exact .of_input rfl rfl rfl

/-- The state once a double-bit error is noted, and what the reaction of its memory keeps of the notes. -/
theorem State.doubleBit_noted (s : State) (m : MemName) (i : Nat) (cut : Option CutXfer) :
    ((s.noted m i).doubleBit m i cut).pm.stCml.getLsbD 4 = true ∧ ((s.noted m i).doubleBit m i cut).ecc = s.ecc ∧
    ∃ e ∈ ((s.noted m i).doubleBit m i cut).input.faults, e.kind = .memory ∧ e.idx = wordNo m i ∧ e.lasting = s.memoryFault m i := by
  obtain ⟨hpm, hecc, hfaults⟩ := (s.noted m i).doubleBit_keepsNotes m i cut
  obtain ⟨f, r, h, -, e, he, hk, hx⟩ := s.noted_eq m i
  rw [h] at hpm hecc hfaults
  rw [h, hpm, hecc]
  exact ⟨by simp, rfl, e, hfaults e he hk, hk, hx⟩

/-! ### Stores -/

/-- A corrected error counts against its own memory. -/
theorem State.countSingle_ecc (s : State) (m : MemName) :
    (((s.countSingle m).ecc.find? (·.1 == m)).map (·.2)).getD 0 = ((s.ecc.find? (·.1 == m)).map (·.2)).getD 0 + 1 ∧
    ∀ k, k ≠ m → (s.countSingle m).ecc.find? (·.1 == k) = s.ecc.find? (·.1 == k) := by
  have hnone : (s.ecc.filter (·.1 != m)).find? (·.1 == m) = none := by
    simp only [List.find?_eq_none, List.mem_filter]
    rintro e ⟨-, he⟩
    simpa using he
  refine ⟨by simp [State.countSingle, List.find?_append, hnone], fun k hk => ?_⟩
  have hsame : (s.ecc.filter (·.1 != m)).find? (·.1 == k) = s.ecc.find? (·.1 == k) := by
    rw [List.find?_filter]
    refine congrArg (fun p => List.find? p s.ecc) (funext fun e => ?_)
    by_cases h : e.1 = k
    · simp [h, hk]
    · simp [h]
  simp only [State.countSingle, List.find?_append, hsame]
  simp [hk.symm]

/-- One RATE_LIMITED summary is staged where there is room (R379). -/
def Recorder.settleOne (time : Nat) (r : Recorder) (code : BitVec 16) : Recorder :=
  if r.hasRoom then
    let b := r.bucket code
    let r := { r with closed := r.closed ++ [r.fresh time 0xC002 code (BitVec.ofNat 32 b.suppressed)
                        (BitVec.ofNat 32 b.lastSrc.toNat) 0x08],
                      dueOrder := r.dueOrder.erase code }
    r.putBucket { b with suppressed := 0 }
  else r

/-- Of the closed records none is lost, and no drop is counted. -/
def Recorder.Grows (r q : Recorder) : Prop := r.closed <+: q.closed ∧ q.drops = r.drops

theorem Recorder.Grows.trans {r q p : Recorder} (h : r.Grows q) (h' : q.Grows p) : r.Grows p :=
  ⟨h.1.trans h'.1, h'.2.trans h.2⟩

theorem Recorder.grows_settleOne (time : Nat) (r : Recorder) (code : BitVec 16) : r.Grows (r.settleOne time code) := by
  unfold Recorder.settleOne
  split
  · exact ⟨List.prefix_append _ _, rfl⟩
  · exact ⟨List.prefix_refl _, rfl⟩

theorem Recorder.grows_settleOnes (time : Nat) (l : List (BitVec 16)) (r : Recorder) :
    r.Grows (l.foldl (Recorder.settleOne time) r) := by
  induction l generalizing r with
  | nil => exact ⟨List.prefix_refl _, rfl⟩
  | cons c l ih => exact (r.grows_settleOne time c).trans (ih _)

/-- The summaries that settle join the closed records behind those that wait. -/
theorem Recorder.grows_settle (r : Recorder) (time : Nat) : r.Grows (r.settle time) := by
  unfold Recorder.settle
  dsimp only
  split
  · refine Recorder.Grows.trans ⟨?_, ?_⟩ (Recorder.grows_settleOnes time _ _)
    · exact List.prefix_append _ _
    · rfl
  · exact Recorder.grows_settleOnes time _ r

/-- A slot once it is written. -/
theorem find?_putSlot (k : Nat) (v : Slot) (l : List (Nat × Slot)) : (putSlot k v l).find? (·.1 == k) = some (k, v) := by
  induction l with
  | nil => simp [putSlot]
  | cons e l ih =>
    rw [putSlot]
    split
    · simp
    · split
      · simp
      next h => simp [h, ih]

/-- A dump whose last word is the complement of its CRC is not valid. -/
theorem Dump.not_valid_of_crc (d : Dump) :
    ({ d with slot := d.slot.set 4095 (~~~(BitVec.ofNat 32 (dumpCrc d.slot))) } : Dump).valid = false := by
  rw [Dump.valid, Dump.full, Bool.and_eq_false_imp]
  intro hlen
  have hlen : d.slot.length = 4096 := by simpa using hlen
  have hcrc : dumpCrc (d.slot.set 4095 (~~~(BitVec.ofNat 32 (dumpCrc d.slot)))) = dumpCrc d.slot := by
    rw [dumpCrc, List.take_set_of_le (by decide)]
    rfl
  have hlast : (d.slot.set 4095 (~~~(BitVec.ofNat 32 (dumpCrc d.slot)))).getD 4095 0 = ~~~(BitVec.ofNat 32 (dumpCrc d.slot)) := by
    simp [List.getD, hlen]
  dsimp only
  rw [hcrc, hlast, beq_eq_false_iff_ne, BitVec.toNat_not, BitVec.toNat_ofNat]
  omega

/-! ### The clauses -/

/-- A pass that finds no double-bit error leaves no memory fault but a lasting one. -/
theorem State.passed_faults (s : State) : ∀ e ∈ (s.passed []).input.faults, e.kind = .memory → e.lasting = true := by
  intro e he hk
  simpa [hk] using (List.mem_filter.1 he).2

section Clauses
variable (s : State) (cut : Option CutXfer)

variable {s} in
theorem State.core_of_noted (m : MemName) (i : Nat) {t : State} (h : t.rails = (s.noted m i).rails) (n : Nat) :
    (t.rail n).core = (s.rail n).core := by
  obtain ⟨f, r, hn, hr, -⟩ := s.noted_eq m i
  exact SameButModel.core (by rw [h, hn]; exact hr) n

/-- The shadow spoiled in PRIMED is the safe state. -/
theorem State.doubleBit_shadow (i : Nat) (hp : s.boot.stage = 8) (hs : s.safe.active = false) :
    ((s.noted .shadow i).doubleBit .shadow i cut).safe.active = true ∧
    ((s.noted .shadow i).doubleBit .shadow i cut).rm.run = .heldReset ∧
    ((s.noted .shadow i).doubleBit .shadow i cut).shadow = s.shadow := by
  obtain ⟨f, r, h, -⟩ := s.noted_eq .shadow i
  have hdef : (s.noted .shadow i).doubleBit .shadow i cut = (s.noted .shadow i).enterSafe 0x0F (s.noted .shadow i).ret.recentRm 1 false :=
    if_pos (by rw [h]; simp [hp, hs])
  obtain ⟨k, key, x, he⟩ := (s.noted .shadow i).enterSafe_eq 0x0F (s.noted .shadow i).ret.recentRm 1 false
  rw [hdef, he, h]
  exact ⟨rfl, rfl, rfl⟩

theorem State.doubleBit_palette_eq (i : Nat) : s.doubleBit .palette i cut = { s with
    palette := sput 0 s.palette i (BitVec.ofNat 32 (s.imageEntry (decide (2048 ≤ i)) (i % 2048))) } := rfl

/-- A spoiled palette entry is written again from the shadow, and no other. -/
theorem State.doubleBit_palette (i : Nat) (hw : Sparse.wf (0 : Word) s.palette) :
    sget (0 : Word) ((s.noted .palette i).doubleBit .palette i cut).palette i =
      BitVec.ofNat 32 (s.imageEntry (decide (2048 ≤ i)) (i % 2048)) ∧
    (∀ j, j ≠ i → sget (0 : Word) ((s.noted .palette i).doubleBit .palette i cut).palette j = sget (0 : Word) s.palette j) ∧
    ∀ n, (((s.noted .palette i).doubleBit .palette i cut).rail n).core = (s.rail n).core := by
  obtain ⟨f, r, h, -⟩ := s.noted_eq .palette i
  have hpal : (s.noted .palette i).palette = s.palette := by rw [h]
  have himg (b : Bool) (k : Nat) : (s.noted .palette i).imageEntry b k = s.imageEntry b k := by rw [h]; rfl
  rw [State.doubleBit_palette_eq]
  refine ⟨?_, fun j hj => ?_, State.core_of_noted .palette i rfl⟩
  · rw [hpal, himg]
    exact sget_sput_self _ _ _ _ hw
  · rw [hpal]
    exact sget_sput_ne _ _ _ _ _ hj.symm hw

/-- A spoiled entry of the cell table is asked for again. -/
theorem State.doubleBit_cellTable (i : Nat) (hi : i < s.cells.length) :
    (((s.noted .cellTable i).doubleBit .cellTable i cut).cell i).idOwed = true ∧
    (((s.noted .cellTable i).doubleBit .cellTable i cut).cell i).statusOwed = true ∧
    ∀ n, (((s.noted .cellTable i).doubleBit .cellTable i cut).rail n).core = (s.rail n).core := by
  obtain ⟨f, r, h, -⟩ := s.noted_eq .cellTable i
  obtain ⟨c, l, he, -, ho⟩ := (s.noted .cellTable i).askCell_eq i cut
  have hlost : ((s.noted .cellTable i).updCell i Cell.lost).cell i = Cell.lost ((s.noted .cellTable i).cell i) :=
    State.updCell_cell _ _ _ (by rw [h]; exact hi)
  have howes : (((s.noted .cellTable i).doubleBit .cellTable i cut).cell i).owes = (true, true) := by
    rw [ho i, hlost]; rfl
  refine ⟨congrArg Prod.fst howes, congrArg Prod.snd howes, State.core_of_noted .cellTable i ?_⟩
  rw [he]
  rfl

/-- A loop engine that is declared faulty for a state that differs from `s` in rail models, faults and STATUS_CML alone. -/
theorem State.declareLe_memory {u : State} {n : Fin 16} (p1 : Nat) (hr : SameButModel s.rails u.rails)
    (hmode : (s.rail n).le.mode = 1) (hdecl : (s.rail n).le.declared = 0) (h16 : s.rails.length = 16) :
    ((u.declareLe n 4 p1).rail n).le = (u.rail n).le.faulty ∧ ((u.declareLe n 4 p1).rail n).le.mode = 3 ∧
    ((u.declareLe n 4 p1).rail n).bs.cause = 4 ∧ ((u.declareLe n 4 p1).rail n).le.declared = 1 ∧
    ((u.declareLe n 4 p1).rail n).le.rearmDue = true ∧
    ∀ k : Fin 16, k ≠ n → ((u.declareLe n 4 p1).rail k).le = (s.rail k).le := by
  obtain ⟨hle, hbs, hne⟩ := State.declareLe_rail (s := u) (n := n) 4 p1 (by rw [hr.length, h16]; exact n.isLt)
    (by rw [hr.le]; exact hmode) (by rw [hr.le]; exact hdecl)
  refine ⟨hle, by rw [hle]; rfl, hbs, by rw [hle, hr.le]; simp [LoopEngine.faulty, hdecl], by rw [hle]; rfl, fun k hk => ?_⟩
  rw [hne k (fun h => hk (Fin.ext h.symm)), hr.le]

/-- A spoiled word of the stores or the state of a loop engine declares it faulty. -/
theorem State.doubleBit_le (n j : Nat) {m : MemName} {words : Nat}
    (hx : (m, words) ∈ [(MemName.leCode, 256), (MemName.leCoef, 512), (MemName.leState, 64)]) (hj : j < words) :
    ∃ p1, s.doubleBit m (words * n + j) cut = s.declareLe n 4 p1 := by
  have hdiv : (words * n + j) / words = n := by
    rw [Nat.mul_add_div (by omega), Nat.div_eq_of_lt hj, Nat.add_zero]
  have hword (k : Nat) : ∃ p1, s.doubleBit m k cut = s.declareLe (k / words) 4 p1 := by
    simp only [List.mem_cons, Prod.mk.injEq, List.not_mem_nil, or_false] at hx
    obtain ⟨rfl, rfl⟩ | ⟨rfl, rfl⟩ | ⟨rfl, rfl⟩ := hx
    · exact ⟨_, rfl⟩
    · exact ⟨_, rfl⟩
    · exact ⟨_, rfl⟩
  simpa only [hdiv] using hword (words * n + j)

/-- Of the LE stores and the LE's state: what each spoiled word does. -/
theorem State.doubleBit_noted_le (n : Fin 16) (j : Nat) {m : MemName} {words : Nat}
    (hmode : (s.rail n).le.mode = 1) (hdecl : (s.rail n).le.declared = 0) (h16 : s.rails.length = 16)
    (hx : (m, words) ∈ [(MemName.leCode, 256), (MemName.leCoef, 512), (MemName.leState, 64)]) (hj : j < words) :
    (((s.noted m (words * n + j)).doubleBit m (words * n + j) cut).rail n).le.mode = 3 ∧
    (((s.noted m (words * n + j)).doubleBit m (words * n + j) cut).rail n).bs.cause = 4 ∧
    (((s.noted m (words * n + j)).doubleBit m (words * n + j) cut).rail n).le.declared = 1 ∧
    (((s.noted m (words * n + j)).doubleBit m (words * n + j) cut).rail n).le.rearmDue = true ∧
    ∀ k : Fin 16, k ≠ n → (((s.noted m (words * n + j)).doubleBit m (words * n + j) cut).rail k).le = (s.rail k).le := by
  obtain ⟨f, r, h, hr, -⟩ := s.noted_eq m (words * n + j)
  obtain ⟨p1, hdef⟩ := (s.noted m (words * n + j)).doubleBit_le cut n j hx hj
  rw [hdef]
  exact (s.declareLe_memory p1 (by rw [h]; exact hr) hmode hdecl h16).2

/-- The pair that a double-bit error restarts (Table 1.7): the ROM's by the parity of the index (log entry 42). -/
def spoiledPair (m : MemName) (i : Nat) : Option Manager :=
  match m with
  | .rmMemory | .rmPatch => some .rm
  | .hmMemory | .hmPatch => some .hm
  | .rom => some (if i % 2 == 0 then .rm else .hm)
  | _ => none

/-- The memory of a pair is spoiled, and then the pair restarts. -/
theorem State.doubleBit_pair {m : MemName} {i : Nat} {p : Manager} (h : spoiledPair m i = some p) :
    ∃ u : State, s.doubleBit m i cut = u.memoryRestart p cut ∧ u.boot.held = s.boot.held ∧ u.boot.stage = s.boot.stage ∧
      u.safe = s.safe ∧ u.rm.run = s.rm.run ∧ u.hm.run = s.hm.run ∧ (p = .rm → u.hm = s.hm) ∧ (p = .hm → u.rm = s.rm) ∧
      u.rails = s.rails := by
  cases m with
  | rmMemory =>
    obtain rfl := Option.some.inj h
    exact ⟨s.spoilPair .rm i, rfl, rfl, rfl, rfl, rfl, rfl, fun _ => rfl, nofun, rfl⟩
  | rmPatch =>
    obtain rfl := Option.some.inj h
    exact ⟨s.spoilPatch .rm i, rfl, rfl, rfl, rfl, rfl, rfl, fun _ => rfl, nofun, rfl⟩
  | hmMemory =>
    obtain rfl := Option.some.inj h
    exact ⟨s.spoilPair .hm i, rfl, rfl, rfl, rfl, rfl, rfl, nofun, fun _ => rfl, rfl⟩
  | hmPatch =>
    obtain rfl := Option.some.inj h
    exact ⟨s.spoilPatch .hm i, rfl, rfl, rfl, rfl, rfl, rfl, nofun, fun _ => rfl, rfl⟩
  | rom =>
    obtain rfl := Option.some.inj h
    exact ⟨{ (s.spoil s.rom i).2 with rom := (s.spoil s.rom i).1 }, rfl, rfl, rfl, rfl, rfl, rfl, fun _ => rfl, fun _ => rfl, rfl⟩
  | _ => exact nomatch h

section Pairs
variable {m : MemName} {i : Nat} (hb : s.boot.held = false) (hp : s.boot.stage = 8) (hw : s.safe.warm = none)
include hb hp hw

/-- A spoiled byte of a memory of the RM restarts the RM. -/
theorem State.doubleBit_rm (hm : spoiledPair m i = some .rm) (hr : s.rm.run = .running) :
    ((s.noted m i).doubleBit m i cut).rm.run = .restarting ∧ ((s.noted m i).doubleBit m i cut).ret.cause = 5 ∧
    ((s.noted m i).doubleBit m i cut).ret.kind = 2 ∧ ((s.noted m i).doubleBit m i cut).rm.mem = [] ∧
    ((s.noted m i).doubleBit m i cut).hm = s.hm ∧
    ∀ n, (((s.noted m i).doubleBit m i cut).rail n).core = (s.rail n).core := by
  obtain ⟨f, r, h, -⟩ := s.noted_eq m i
  obtain ⟨u, hu, hheld, hstage, hsafe, hrun, -, hhm, -, hrails⟩ := (s.noted m i).doubleBit_pair cut hm
  have hmay : u.mayRestart .rm = true := State.mayRestart_of_running (by rw [hheld, h]; exact hb) (by rw [hstage, h]; exact hp)
    (by rw [hsafe, h]; exact hw) (hrun.trans (by rw [h]; exact hr))
  obtain ⟨hr1, hcause, hkind, hmem, hhm1, hrails1⟩ := u.memoryRestart_rm cut hmay
  rw [hu]
  refine ⟨hr1, hcause, hkind, hmem, hhm1.trans ((hhm rfl).trans (by rw [h])), State.core_of_noted m i (hrails1.trans hrails)⟩

/-- A spoiled byte of a memory of the HM restarts the HM. -/
theorem State.doubleBit_hm (hm : spoiledPair m i = some .hm) (hr : s.hm.run = .running) :
    ((s.noted m i).doubleBit m i cut).hm.run = .restarting ∧ ((s.noted m i).doubleBit m i cut).ret.cause = 5 ∧
    ((s.noted m i).doubleBit m i cut).ret.kind = 3 ∧ ((s.noted m i).doubleBit m i cut).hm.mem = [] ∧
    ((s.noted m i).doubleBit m i cut).rm = s.rm ∧
    (cut ≠ none → ((s.noted m i).doubleBit m i cut).bus.cut = true) := by
  obtain ⟨f, r, h, -⟩ := s.noted_eq m i
  obtain ⟨u, hu, hheld, hstage, hsafe, -, hrun, -, hrm, -⟩ := (s.noted m i).doubleBit_pair cut hm
  have hmay : u.mayRestart .hm = true := State.mayRestart_of_running (by rw [hheld, h]; exact hb) (by rw [hstage, h]; exact hp)
    (by rw [hsafe, h]; exact hw) (hrun.trans (by rw [h]; exact hr))
  obtain ⟨hr1, hcause, hkind, hmem, hrm1, hbus⟩ := u.memoryRestart_hm cut hmay
  rw [hu]
  exact ⟨hr1, hcause, hkind, hmem, hrm1.trans ((hrm rfl).trans (by rw [h])), hbus⟩

end Pairs

/-- A spoiled mailbox word: nothing where the channel is free, and otherwise the message is discarded and, where a pair
receives it, answered. -/
theorem State.doubleBit_free (c : Fin 16) (k : Fin 13) (hfull : (s.chan c).full = false) :
    ((s.noted .mailbox (13 * c + k)).doubleBit .mailbox (13 * c + k) cut).mail = s.mail := by
  obtain ⟨f, r, h, -⟩ := s.noted_eq .mailbox (13 * c + k)
  have hdiv : (13 * (c : Nat) + k) / 13 = c := by omega
  rw [State.doubleBit_mailbox, h, hdiv, if_neg (by exact fun h => absurd (hfull.symm.trans h) (by decide))]

theorem State.discard_chan (c : Nat) (hc : c < s.mail.chans.length) (hout : (s.chan c).out = []) :
    ((s.discard c).chan c).full = false ∧ ∀ j, j ≠ c → ((s.discard c).chan j).uncrossed = (s.chan j).uncrossed := by
  have hself := s.updChan_chan c (fun x => { x with eccErr := true }) hc
  obtain ⟨hf, hne⟩ := State.release_chan (s := s.updChan c fun x => { x with eccErr := true }) (c := c) (by simpa using hc)
    (by rw [hself]; exact hout)
  exact ⟨hf, fun j hj => (hne j hj).trans (by rw [State.updChan_chan_ne _ _ _ _ hj.symm])⟩

/-- A FULL message that ECC has spoiled is discarded. -/
theorem State.doubleBit_full (c : Fin 16) (k : Fin 13) (h16 : s.mail.chans.length = 16) (hfull : (s.chan c).full = true)
    (hout : (s.chan c).out = []) (hrep : s.replyCh c ≠ c) :
    ((s.doubleBit .mailbox (13 * c + k) cut).chan c).full = false := by
  have hdiv : (13 * (c : Nat) + k) / 13 = c := by omega
  obtain ⟨l, hl⟩ := s.discard_eq c
  obtain ⟨hf, -⟩ := s.discard_chan c (by rw [h16]; exact c.isLt) hout
  rw [State.doubleBit_mailbox, hdiv, if_pos hfull]
  split
  · rw [State.answerSpoiled, hdiv]
    rw [State.sendOn_chan_ne _ _ _ _ _ (by rw [hl]; exact hrep)]
    exact hf
  · exact hf

/-- A pair that would have received it answers BAD_FORMAT, where its channel is free and it runs. -/
theorem State.doubleBit_answered (c : Fin 16) (k : Fin 13) (h16 : s.mail.chans.length = 16) (hfull : (s.chan c).full = true)
    (hout : (s.chan c).out = []) (hrep : s.replyCh c ≠ c) (hrecv : s.chanReceiver c = 3 ∨ s.chanReceiver c = 4)
    (hr16 : s.replyCh c < 16) (hruns : s.senderRuns (s.replyCh c) = true) (hrfull : (s.chan (s.replyCh c)).full = false)
    (hrout : (s.chan (s.replyCh c)).out = []) (hrowed : (s.chan (s.replyCh c)).owed = []) :
    ((s.doubleBit .mailbox (13 * c + k) cut).chan (s.replyCh c)).full = true ∧
    ((s.doubleBit .mailbox (13 * c + k) cut).chan (s.replyCh c)).d.getD 1 0 = 5 := by
  have hdiv : (13 * (c : Nat) + k) / 13 = c := by omega
  obtain ⟨l, hl⟩ := s.discard_eq c
  obtain ⟨-, hne⟩ := s.discard_chan c (by rw [h16]; exact c.isLt) hout
  have hreply : (s.discard c).replyCh c = s.replyCh c := by rw [hl]; rfl
  have hreceiver : (s.discard c).chanReceiver c = s.chanReceiver c := by rw [hl]; rfl
  have hsender : (s.discard c).senderRuns (s.replyCh c) = true := by rw [hl]; exact hruns
  have hchan := hne (s.replyCh c) hrep
  rw [State.doubleBit_mailbox, hdiv, if_pos hfull, if_pos (by rw [hreceiver]; simpa using hrecv), State.answerSpoiled, hdiv, hreply]
  refine State.sendOn_free _ _ _ _ hr16 ?_ hsender ((congrArg Channel.full hchan).trans hrfull)
    ((congrArg Channel.out hchan).trans hrout) ((congrArg Channel.owed hchan).trans hrowed)
  rw [State.discard, State.release_length]
  exact (List.length_modify ..).trans_gt (by rw [h16]; exact hr16)

/-- A spoiled staged record is dropped and counted. -/
theorem State.doubleBit_staging (i : Nat) (hi : i < s.sketch.closed.length) :
    s.sketch.closed.eraseIdx i <+: (s.doubleBit .staging i cut).sketch.closed ∧
    (s.doubleBit .staging i cut).sketch.drops = BitVec.ofNat 16 (min 65535 (s.sketch.drops.toNat + 1)) := by
  obtain ⟨hclosed, hdrops⟩ := Recorder.grows_settle
    (({ s.sketch with closed := s.sketch.closed.eraseIdx i } : Recorder).drop 0xFFFF) s.clock.time
  have hdef : s.doubleBit .staging i cut = { s with
      sketch := (({ s.sketch with closed := s.sketch.closed.eraseIdx i } : Recorder).drop 0xFFFF).settle s.clock.time } := by
    unfold State.doubleBit
    dsimp only
    rw [List.getElem?_eq_getElem hi]
  rw [hdef]
  exact ⟨hclosed, hdrops⟩

/-- A spoiled record of the event store is torn. -/
theorem State.doubleBit_eventStore (i : Nat) :
    (s.doubleBit .eventStore i cut).sketch.slot i = (s.sketch.slot i).map fun _ => .torn := by
  cases h : s.sketch.slot i with
  | none =>
    have hdef : s.doubleBit .eventStore i cut = s := by unfold State.doubleBit; dsimp only; rw [h]
    rw [hdef, h]; rfl
  | some v =>
    have hdef : s.doubleBit .eventStore i cut =
        { s with sketch := { s.sketch with store := putSlot i .torn s.sketch.store } } := by
      unfold State.doubleBit; dsimp only; rw [h]
    rw [hdef, Recorder.slot, find?_putSlot]; rfl

end Clauses

/-- Settles O21: each reaction of Table 1.7 by its memory, after what the pass notes of the error. -/
theorem scrubReactions : Obligations.ScrubReactions := by
  unfold Obligations.ScrubReactions
  intro s hb
  refine ⟨fun m i cut => ?_, fun m i cut => ?_, fun i cut hp hs => ?_, fun i cut hw => ?_, fun i cut hlen => ?_,
    fun n cut hmode hdecl hlen => ⟨fun x hx j hj => ?_, ?_⟩, fun i cut hp hw hr => ⟨?_, ?_, ?_⟩, fun i cut hp hw hr => ⟨?_, ?_, ?_⟩,
    fun c k cut hlen => ⟨fun hfull => ?_, fun hfull hout hrep => ?_⟩, fun i cut hi => ?_, fun i cut => ?_, fun i cut => ?_,
    fun i cut => ?_, fun i cut => ?_, fun cut => ?_⟩
  case refine_1 =>
    obtain ⟨r, b, h⟩ := ((s.passed []).countSingle m).judge_eq
    refine ⟨_, exec_scrub_single hb m i cut, by rw [h]; rfl, ?_, ?_⟩
    · rw [State.judge_input]; exact s.passed_faults
    · rw [State.judge_ecc]; exact s.countSingle_ecc m
  case refine_2 =>
    refine ⟨_, exec_scrub_double hb m i cut, ?_⟩
    simp only [State.judge_pm, State.judge_ecc, State.judge_input]
    exact s.doubleBit_noted m i cut
  case refine_3 =>
    refine ⟨_, exec_scrub_double hb .shadow i cut, ?_⟩
    simpa only [State.judge_safe, State.judge_rm, State.judge_shadow] using s.doubleBit_shadow cut i hp hs
  case refine_4 =>
    refine ⟨_, exec_scrub_double hb .palette i cut, ?_⟩
    simpa only [State.judge_palette, State.judge_rail] using s.doubleBit_palette cut i hw
  case refine_5 =>
    refine ⟨_, exec_scrub_double hb .cellTable i cut, ?_⟩
    simpa only [State.judge_cell, State.judge_rail] using s.doubleBit_cellTable cut i (by rw [hlen]; exact i.isLt)
  case refine_6 =>
    refine ⟨_, exec_scrub_double hb x.1 _ cut, ?_⟩
    simpa only [State.judge_rail] using s.doubleBit_noted_le cut n j hmode hdecl hlen hx hj
  case refine_7 =>
    obtain ⟨-, hm, hc, hd, -⟩ := s.declareLe_memory (u := s.passed []) (n := n) 0xFFFF rfl hmode hdecl hlen
    refine ⟨_, exec_scrub_crc hb n cut, ?_⟩
    simpa only [State.judge_rail] using ⟨hm, hc, hd⟩
  case refine_8 =>
    obtain ⟨hrun, hcause, hkind, hmem, hrm, hbus⟩ := s.doubleBit_hm cut (i := i) hb hp hw (m := .hmMemory) rfl hr
    refine ⟨_, exec_scrub_double hb .hmMemory i cut, ?_⟩
    simpa only [State.judge_hm, State.judge_rm, State.judge_ret, State.judge_bus_cut] using ⟨hrun, hcause, hkind, hmem, hrm, hbus⟩
  case refine_9 =>
    obtain ⟨hrun, hcause, hkind, -, hrm, hbus⟩ := s.doubleBit_hm cut (i := i) hb hp hw (m := .hmPatch) rfl hr
    refine ⟨_, exec_scrub_double hb .hmPatch i cut, ?_⟩
    simpa only [State.judge_hm, State.judge_rm, State.judge_ret, State.judge_bus_cut] using ⟨hrun, hcause, hkind, hrm, hbus⟩
  case refine_10 =>
    have hodd : spoiledPair .rom (2 * i + 1) = some .hm := by simp [spoiledPair]
    obtain ⟨hrun, hcause, hkind, -, hrm, hbus⟩ := s.doubleBit_hm cut hb hp hw hodd hr
    refine ⟨_, exec_scrub_double hb .rom (2 * i + 1) cut, ?_⟩
    simpa only [State.judge_hm, State.judge_rm, State.judge_ret, State.judge_bus_cut] using ⟨hrun, hcause, hkind, hrm, hbus⟩
  case refine_11 =>
    obtain ⟨hrun, hcause, hkind, hmem, hhm, hcore⟩ := s.doubleBit_rm cut (i := i) hb hp hw (m := .rmMemory) rfl hr
    refine ⟨_, exec_scrub_double hb .rmMemory i cut, ?_⟩
    simpa only [State.judge_hm, State.judge_rm, State.judge_ret, State.judge_rail] using ⟨hrun, hcause, hkind, hmem, hhm, hcore⟩
  case refine_12 =>
    obtain ⟨hrun, hcause, hkind, -, hhm, hcore⟩ := s.doubleBit_rm cut (i := i) hb hp hw (m := .rmPatch) rfl hr
    refine ⟨_, exec_scrub_double hb .rmPatch i cut, ?_⟩
    simpa only [State.judge_hm, State.judge_rm, State.judge_ret, State.judge_rail] using ⟨hrun, hcause, hkind, hhm, hcore⟩
  case refine_13 =>
    have heven : spoiledPair .rom (2 * i) = some .rm := by simp [spoiledPair]
    obtain ⟨hrun, hcause, hkind, -, hhm, hcore⟩ := s.doubleBit_rm cut hb hp hw heven hr
    refine ⟨_, exec_scrub_double hb .rom (2 * i) cut, ?_⟩
    simpa only [State.judge_hm, State.judge_rm, State.judge_ret, State.judge_rail] using ⟨hrun, hcause, hkind, hhm, hcore⟩
  case refine_14 =>
    refine ⟨_, exec_scrub_double hb .mailbox _ cut, ?_⟩
    rw [State.judge_mail]
    exact s.doubleBit_free cut c k hfull
  case refine_15 =>
    obtain ⟨f, r, h, -⟩ := s.noted_eq .mailbox (13 * c + k)
    refine ⟨_, exec_scrub_double hb .mailbox _ cut, ?_, fun hrecv hr16 hruns hrfull hrout hrowed => ?_⟩
    · rw [State.judge_chan, h]
      exact State.doubleBit_full _ cut c k hlen hfull hout hrep
    · rw [State.judge_chan, h]
      exact State.doubleBit_answered _ cut c k hlen hfull hout hrep hrecv hr16 hruns hrfull hrout hrowed
  case refine_16 =>
    obtain ⟨f, r, h, -⟩ := s.noted_eq .staging i
    have hsk : (s.noted .staging i).sketch = s.sketch := by rw [h]
    refine ⟨_, exec_scrub_double hb .staging i cut, ?_⟩
    simpa only [State.judge_sketch, hsk] using (s.noted .staging i).doubleBit_staging cut i (by rw [hsk]; exact hi)
  case refine_17 =>
    obtain ⟨f, r, h, -⟩ := s.noted_eq .eventStore i
    have hsk : (s.noted .eventStore i).sketch = s.sketch := by rw [h]
    refine ⟨_, exec_scrub_double hb .eventStore i cut, ?_⟩
    simpa only [State.judge_sketch, hsk] using (s.noted .eventStore i).doubleBit_eventStore cut i
  case refine_18 =>
    obtain ⟨f, r, h, -⟩ := s.noted_eq .pentimento i
    refine ⟨_, exec_scrub_double hb .pentimento i cut, ?_⟩
    rw [State.judge_dump, h]
    exact ⟨s.dump.not_valid_of_crc, rfl⟩
  case refine_19 =>
    obtain ⟨f, r, h, -⟩ := s.noted_eq .keyStore i
    refine ⟨_, exec_scrub_double hb .keyStore i cut, ?_⟩
    rw [State.judge_ident, State.judge_safe, State.judge_ret, State.judge_rm, State.judge_hm, h]
    exact ⟨rfl, rfl, rfl, rfl, rfl⟩
  case refine_20 =>
    refine ⟨_, exec_scrub_double hb .retained i cut, ?_⟩
    rw [State.judge_ret]
    exact ⟨rfl, rfl, rfl, rfl⟩
  case refine_21 =>
    obtain ⟨r, b, h⟩ := (s.passed []).judge_eq
    refine ⟨_, exec_scrub_nil hb cut, ?_, fun e he hk => ?_, by rw [h]; rfl⟩
    · rw [State.judge_input]; exact s.passed_faults
    · rw [State.judge_input]
      exact List.mem_filter.2 ⟨he, by simp [hk]⟩

end Sys2Proof.Machine
end

/-! SUPPORT. What the operations of the fast path leave of each rail. A view `φ` of a rail that is blind to the rail's senses,
loop engine, backstop and policy is left alone by what a burst's end, a lane order or a latch's aftermath does; one that is deaf to
the rail's state and protection too is left alone by the whole fast path. -/

section
namespace Sys2Proof.Machine

/-- A view of a rail that sees neither senses, LE, backstop nor policy, of the model only what the plausibility unit holds, and of
the protection only the latch. -/
structure Blind {α : Type} (φ : Rail → α) : Prop where
  sense : ∀ r x, φ { r with sense := x } = φ r
  le : ∀ r x, φ { r with le := x } = φ r
  bs : ∀ r x, φ { r with bs := x } = φ r
  pol : ∀ r x, φ { r with pol := x } = φ r
  model : ∀ r x, x.vmodel = r.model.vmodel → x.valid = r.model.valid → x.duties = r.model.duties →
    x.visitDuty = r.model.visitDuty → φ { r with model := x } = φ r
  prot : ∀ r x, x.latch = r.prot.latch → φ { r with prot := x } = φ r

/-- A blind view that sees neither state nor latch. -/
structure Deaf {α : Type} (φ : Rail → α) : Prop extends Blind φ where
  core : ∀ r x, φ { r with core := x } = φ r
  latch : ∀ r x, φ { r with prot := x } = φ r

/-- A view of every rail. -/
def State.views {α : Type} (s : State) (φ : Rail → α) : List α := s.rails.map φ

section Frame
variable {α : Type} {φ : Rail → α}

/-- A state built with the same rails. -/
@[simp ↓] theorem views_mk (s : State) (a_clock : _) (a_pins : _) (a_boot : _) (a_varnish : _) (a_fuses : _) (a_ident : _)
    (a_rom : _) (a_flash : _) (a_shadow : _) (a_wetHeld : _) (a_palette : _) (a_ports : _) (a_phases : _) (a_cells : _)
    (a_links : _) (a_comps : _) (a_timers : _) (a_router : _) (a_input : _) (a_telem : _) (a_app : _) (a_cross : _) (a_rm :
    _) (a_hm : _) (a_ret : _) (a_safe : _) (a_dump : _) (a_sketch : _) (a_work : _) (a_mail : _) (a_bus : _) (a_pm : _)
    (a_con : _) (a_tap : _) (a_ecc : _) (a_free : _) (a_pending : _) :
        State.views (State.mk a_clock a_pins a_boot a_varnish a_fuses a_ident a_rom a_flash a_shadow a_wetHeld a_palette
    a_ports s.rails a_phases a_cells a_links a_comps a_timers a_router a_input a_telem a_app a_cross a_rm a_hm a_ret a_safe
    a_dump a_sketch a_work a_mail a_bus a_pm a_con a_tap a_ecc a_free a_pending) φ = s.views φ := rfl

@[simp ↓] theorem views_ite (c : Prop) [Decidable c] (a b : State) :
    (if c then a else b).views φ = if c then a.views φ else b.views φ := apply_ite (fun s => s.views φ) c a b

/-- A fold whose step leaves the views alone does so too. -/
theorem foldl_views {β : Type} (l : List β) (f : State → β → State) (s : State) (h : ∀ s a, (f s a).views φ = s.views φ) :
    (l.foldl f s).views φ = s.views φ := by
  induction l generalizing s with
  | nil => rfl
  | cons a l ih => simp only [List.foldl]; rw [ih, h]

theorem State.updRail_views (s : State) (n : Nat) (f : Rail → Rail) (h : ∀ r, φ (f r) = φ r) :
    (s.updRail n f).views φ = s.views φ := by
  refine List.ext_getElem (by simp [State.views]) fun i h1 h2 => ?_
  simp only [State.views, State.updRail_rails, List.getElem_map, List.getElem_modify]
  split
  · exact h _
  · rfl

@[simp ↓] theorem State.mapPhases_views (s : State) (f : Nat → Phase → Phase) :
    (State.mapPhases s f).views φ = s.views φ := by
  simp [State.mapPhases]
@[simp ↓] theorem State.updPhase_views (s : State) (p : Nat) (f : Phase → Phase) :
    (State.updPhase s p f).views φ = s.views φ := by
  simp [State.updPhase]
@[simp ↓] theorem State.updComp_views (s : State) (m : Nat) (f : Comp → Comp) :
    (State.updComp s m f).views φ = s.views φ := by
  simp [State.updComp]
@[simp ↓] theorem State.mapComps_views (s : State) (f : Nat → Comp → Comp) :
    (State.mapComps s f).views φ = s.views φ := by
  simp [State.mapComps]
@[simp ↓] theorem State.updTimer_views (s : State) (k : Nat) (f : Timer → Timer) :
    (State.updTimer s k f).views φ = s.views φ := by
  simp [State.updTimer]
@[simp ↓] theorem State.forEach_views (s : State) (l : List Nat) (f : State → Nat → State) (h : ∀ s a, (f s a).views φ = s.views φ) :
    (State.forEach s l f).views φ = s.views φ := foldl_views l f s h
@[simp ↓] theorem State.when_views (s : State) (c : Bool) (f : State → State) (h : ∀ s, (f s).views φ = s.views φ) :
    (State.when s c f).views φ = s.views φ := by
  unfold State.when; split <;> simp [h]
@[simp ↓] theorem State.record_views (s : State) (code src p0 p1 : Nat) : (s.record code src p0 p1).views φ = s.views φ := by
  rw [State.record_sketch_only]; rfl

@[simp ↓] theorem State.setVout_views (s : State) (n : Nat) (b : BitVec 8) :
    (State.setVout s n b).views φ = s.views φ := by
  simp [State.setVout]
@[simp ↓] theorem State.setInput_views (s : State) (b : BitVec 8) :
    (State.setInput s b).views φ = s.views φ := by
  simp [State.setInput]
@[simp ↓] theorem State.openWindow_views (s : State) (n : Nat) (src : MaskSrc) :
    (State.openWindow s n src).views φ = s.views φ := by
  simp [State.openWindow]
@[simp ↓] theorem State.setLanes_views (s : State) (n : Nat) (g : Phase → LaneCmd) :
    (State.setLanes s n g).views φ = s.views φ := by
  unfold State.setLanes; dsimp only
  exact (State.when_views _ _ _ (by simp)).trans (by simp)
@[simp ↓] theorem State.obeyOverrides_views (s : State) (n : Nat) :
    (State.obeyOverrides s n).views φ = s.views φ := by
  simp [State.obeyOverrides]
@[simp ↓] theorem State.yieldRecord_views (s : State) (n : Nat) (level : Nat) (cause : Nat) (fin : Bool) :
    (State.yieldRecord s n level cause fin).views φ = s.views φ := by
  simp [State.yieldRecord]
@[simp ↓] theorem State.triggerTimer_views (s : State) (k : Nat) :
    (State.triggerTimer s k).views φ = s.views φ := by
  simp [State.triggerTimer]
@[simp ↓] theorem State.triggerCodes_views (s : State) (codes : List Nat) :
    (State.triggerCodes s codes).views φ = s.views φ := by
  simp [State.triggerCodes]

section Blind
variable (hφ : Blind φ)
include hφ

@[simp ↓] theorem State.updSense_views (s : State) (n : Nat) (f : RailSense → RailSense) : (s.updSense n f).views φ = s.views φ :=
  s.updRail_views n _ fun _ => hφ.sense _ _
@[simp ↓] theorem State.updLe_views (s : State) (n : Nat) (f : LoopEngine → LoopEngine) : (s.updLe n f).views φ = s.views φ :=
  s.updRail_views n _ fun _ => hφ.le _ _
@[simp ↓] theorem State.updBs_views (s : State) (n : Nat) (f : Backstop → Backstop) : (s.updBs n f).views φ = s.views φ :=
  s.updRail_views n _ fun _ => hφ.bs _ _
@[simp ↓] theorem State.updPol_views (s : State) (n : Nat) (f : RailPolicy → RailPolicy) : (s.updPol n f).views φ = s.views φ :=
  s.updRail_views n _ fun _ => hφ.pol _ _
@[simp ↓] theorem State.updProt_views (s : State) (n : Nat) (f : RailProt → RailProt) (hf : ∀ p, (f p).latch = p.latch) :
    (s.updProt n f).views φ = s.views φ := s.updRail_views n _ fun _ => hφ.prot _ _ (hf _)
@[simp ↓] theorem State.updModel_views (s : State) (n : Nat) (f : RailModel → RailModel) (hv : ∀ m, (f m).vmodel = m.vmodel)
    (hok : ∀ m, (f m).valid = m.valid) (hd : ∀ m, (f m).duties = m.duties) (hx : ∀ m, (f m).visitDuty = m.visitDuty) :
    (s.updModel n f).views φ = s.views φ := s.updRail_views n _ fun _ => hφ.model _ _ (hv _) (hok _) (hd _) (hx _)
@[simp ↓] theorem State.disturb_views (s : State) (n : Nat) : (s.disturb n).views φ = s.views φ := by
  simp [State.disturb, hφ]
@[simp ↓] theorem State.abortChar_views (s : State) (n : Nat) : (s.abortChar n).views φ = s.views φ := by
  refine State.updModel_views hφ s n _ ?_ ?_ ?_ ?_ <;> exact fun m => by split <;> rfl
@[simp ↓] theorem State.idleLanes_views (s : State) (n : Nat) :
    (State.idleLanes s n).views φ = s.views φ := by
  simp [State.idleLanes, hφ]
@[simp ↓] theorem State.respace_views (s : State) (n : Nat) (old : List Nat) :
    (State.respace s n old).views φ = s.views φ := by
  simp [State.respace, hφ]
@[simp ↓] theorem State.movePhases_views (s : State) (n : Nat) (f : State → State) (h : ∀ s, (f s).views φ = s.views φ) : (State.movePhases s n f).views φ = s.views φ := by
  unfold State.movePhases; simp [h, hφ]
@[simp ↓] theorem State.dropSamples_views (s : State) (n : Nat) :
    (State.dropSamples s n).views φ = s.views φ := by
  simp [State.dropSamples, hφ]
@[simp ↓] theorem State.endBurst_views (s : State) (n : Nat) (tb4 : Nat) (hit : Bool) :
    (State.endBurst s n tb4 hit).views φ = s.views φ := by
  simp [State.endBurst, hφ]
@[simp ↓] theorem State.tristatePhases_views (s : State) (n : Nat) :
    (State.tristatePhases s n).views φ = s.views φ := by
  simp [State.tristatePhases, hφ]
@[simp ↓] theorem State.endYields_views (s : State) (n : Nat) (log : Bool) :
    (State.endYields s n log).views φ = s.views φ := by
  simp [State.endYields, hφ]
@[simp ↓] theorem State.dropPg_views (s : State) (n : Nat) :
    (State.dropPg s n).views φ = s.views φ := by
  simp [State.dropPg, hφ]
@[simp ↓] theorem State.faultOn_views (s : State) (k : FaultKind) (i : Nat) (lasting : Bool) :
    (State.faultOn s k i lasting).views φ = s.views φ := by
  simp [State.faultOn, hφ]

end Blind

section Deaf
variable (hφ : Deaf φ)
include hφ

@[simp ↓] theorem State.updCore_views (s : State) (n : Nat) (f : RailCore → RailCore) : (s.updCore n f).views φ = s.views φ :=
  s.updRail_views n _ fun _ => hφ.core _ _
@[simp ↓] theorem State.updProt_views_deaf (s : State) (n : Nat) (f : RailProt → RailProt) :
    (s.updProt n f).views φ = s.views φ := s.updRail_views n _ fun _ => hφ.latch _ _
@[simp ↓] theorem State.latchRail_views (s : State) (n : Nat) (cause : LatchCause) :
    (State.latchRail s n cause).views φ = s.views φ := by
  simp [State.latchRail, hφ, hφ.toBlind]
@[simp ↓] theorem State.rearmBurst_views (s : State) (n : Nat) :
    (State.rearmBurst s n).views φ = s.views φ := by
  simp [State.rearmBurst, hφ.toBlind]
@[simp ↓] theorem State.clampOff_views (s : State) (n : Nat) :
    (State.clampOff s n).views φ = s.views φ := by
  simp [State.clampOff, hφ.toBlind]
@[simp ↓] theorem State.setTristate_views (s : State) (n : Nat) (on : Bool) :
    (State.setTristate s n on).views φ = s.views φ := by
  simp [State.setTristate, hφ.toBlind]
@[simp ↓] theorem State.fastStop_views (s : State) (n : Nat) (src : Nat) :
    (State.fastStop s n src).views φ = s.views φ := by
  simp [State.fastStop, hφ, hφ.toBlind]
@[simp ↓] theorem State.fireBurst_views (s : State) (n : Nat) : (s.fireBurst n).views φ = s.views φ := by
  simp [State.fireBurst, hφ.toBlind]
@[simp ↓] theorem State.clampOn_views (s : State) (n : Nat) : (s.clampOn n).views φ = s.views φ := by
  simp [State.clampOn, hφ.toBlind]
@[simp ↓] theorem State.routeRail_views (old s : State) (rose : List Nat) (n : Nat) :
    (State.routeRail old rose s n).views φ = s.views φ := by
  simp [State.routeRail, hφ]
@[simp ↓] theorem State.settleHard_views (k : Nat) (old s : State) : (State.settleHard k old s).views φ = s.views φ := by
  induction k generalizing old s with
  | zero => rfl
  | succ k ih =>
    unfold State.settleHard
    dsimp only
    split
    · rfl
    · rw [ih]; simp [hφ]
@[simp ↓] theorem State.hardFrom_views (old s : State) : (State.hardFrom old s).views φ = s.views φ :=
  State.settleHard_views hφ 9 old s
@[simp ↓] theorem State.compStatus_views (s : State) (m : Nat) : (s.compStatus m).views φ = s.views φ := by
  unfold State.compStatus
  split
  · rfl
  · split
    · refine State.when_views _ _ _ fun t => ?_
      exact (State.when_views _ _ _ fun u => u.updProt_views_deaf hφ _ _).trans (t.setVout_views _ _)
    · simp [hφ]
@[simp ↓] theorem State.seeComp_views (s : State) (m : Nat) :
    (State.seeComp s m).views φ = s.views φ := by
  simp [State.seeComp, hφ]
@[simp ↓] theorem State.driveOut_views (s : State) (m : Nat) (v : Bool) :
    (State.driveOut s m v).views φ = s.views φ := by
  simp [State.driveOut, hφ]
@[simp ↓] theorem State.driveLive_views (s : State) (m : Nat) (v : Bool) :
    (State.driveLive s m v).views φ = s.views φ := by
  simp [State.driveLive, hφ, hφ.toBlind]

end Deaf

/-- What is the same in a view of every rail is the same in that of one. -/
theorem State.view_of_views {s t : State} (h : t.views φ = s.views φ) (n : Nat) : φ (t.rail n) = φ (s.rail n) := by
  have hd (u : State) : φ (u.rail n) = (u.views φ).getD n (φ Rail.reset) := (List.getD_map ..).symm
  rw [hd, hd, h]

theorem State.length_of_views {s t : State} (h : t.views φ = s.views φ) : t.rails.length = s.rails.length := by
  simpa [State.views] using congrArg List.length h

end Frame

end Sys2Proof.Machine
end

/-! SUPPORT. The senses and their vote, and the plausibility visit. -/

section
namespace Sys2Proof.Machine

/-! ### What a latch leaves of the rail -/

/-- The latch and the state of a rail. -/
def Rail.latchView (r : Rail) : RailCore × BitVec 10 := (r.core, r.prot.latch)

theorem blind_latchView : Blind Rail.latchView :=
  ⟨fun _ _ => rfl, fun _ _ => rfl, fun _ _ => rfl, fun _ _ => rfl, fun _ _ _ _ _ _ => rfl, fun _ _ h => by rw [Rail.latchView, h]; rfl⟩

/-- What the plausibility unit holds of a rail. -/
def Rail.visit (r : Rail) : Int × Bool × List (Nat × Int) × Option Int :=
  (r.model.vmodel, r.model.valid, r.model.duties, r.model.visitDuty)

theorem deaf_visit : Deaf Rail.visit :=
  { sense := fun _ _ => rfl, le := fun _ _ => rfl, bs := fun _ _ => rfl, pol := fun _ _ => rfl
    model := fun _ _ hv hok hd hx => by simp [Rail.visit, hv, hok, hd, hx]
    prot := fun _ _ _ => rfl, core := fun _ _ => rfl, latch := fun _ _ => rfl }

/-- The end of a latch: the rail is FAULT_LATCHED, PG_n falls, and its clamp ends. -/
theorem State.latchView_after {u v : State} {n : Nat} (f : RailCore → RailCore) (g : RailPolicy → RailPolicy)
    (hn : n < u.rails.length) (hv : v.views Rail.latchView = u.views Rail.latchView) (hf : ∀ c, (f c).state = .faultLatched) :
    ((((v.updCore n f).dropPg n).updPol n g).rail n).prot.latch = (u.rail n).prot.latch ∧
    ((((v.updCore n f).dropPg n).updPol n g).rail n).core.state.latched = true := by
  have hrail : (v.updCore n f).rail n = { v.rail n with core := f (v.rail n).core } :=
    v.updRail_rail n _ (by rw [State.length_of_views hv]; exact hn)
  have hz : (((v.updCore n f).dropPg n).updPol n g).views Rail.latchView = (v.updCore n f).views Rail.latchView := by
    simp [blind_latchView]
  have hview := State.view_of_views hz n
  rw [hrail] at hview
  refine ⟨(congrArg Prod.snd hview).trans (congrArg Prod.snd (State.view_of_views hv n)), ?_⟩
  have hcore : ((((v.updCore n f).dropPg n).updPol n g).rail n).core = f (v.rail n).core := congrArg Prod.fst hview
  rw [hcore, hf]
  rfl

/-- A latch of a rail that is not OFF sets the cause's bit and leaves the rail latched. -/
theorem State.latchRail_latches {s : State} {n : Nat} (cause : LatchCause) (hn : n < s.rails.length)
    (hoff : (s.rail n).core.state ≠ .off) :
    ((s.latchRail n cause).rail n).prot.latch = (s.rail n).prot.latch ||| cause.bit ∧
    ((s.latchRail n cause).rail n).core.state.latched = true := by
  have hset : (s.updProt n fun p => { p with latch := p.latch ||| cause.bit }).rail n =
      { s.rail n with prot := { (s.rail n).prot with latch := (s.rail n).prot.latch ||| cause.bit } } := s.updRail_rail n _ hn
  unfold State.latchRail
  dsimp only
  rw [if_neg (by simpa using hoff)]
  split
  next h =>
    rw [hset]
    exact ⟨rfl, h⟩
  next h =>
    rw [show (s.rail n).prot.latch ||| cause.bit =
      ((s.updProt n fun p => { p with latch := p.latch ||| cause.bit }).rail n).prot.latch by rw [hset]]
    exact State.latchView_after _ _ (by simpa using hn) (by simp [blind_latchView]) (fun _ => rfl)

/-! ### The vote -/

theorem RailSense.choose_sel (x : RailSense) (b : Bool) (now : Nat) : (x.choose b now).sel = b := by
  unfold RailSense.choose
  split
  next h => simpa using h
  next => rfl

theorem RailSense.choose_failed (x : RailSense) (b : Bool) (now : Nat) :
    (x.choose b now).aFailed = x.aFailed ∧ (x.choose b now).bFailed = x.bFailed := by
  unfold RailSense.choose
  split <;> exact ⟨rfl, rfl⟩

theorem RailSense.choose_pending (x : RailSense) (b : Bool) (now : Nat) :
    (x.choose b now).votePending = x.votePending ∧ (x.choose b now).disCount = x.disCount := by
  unfold RailSense.choose
  split <;> exact ⟨rfl, rfl⟩

theorem State.abortChar_sameButModel (s : State) (n : Nat) : SameButModel s.rails (s.abortChar n).rails :=
  s.updModel_sameButModel n _

theorem State.record_rail (s : State) (code src p0 p1 n : Nat) : (s.record code src p0 p1).rail n = s.rail n := by
  rw [State.record_sketch_only]; rfl

theorem SameButModel.sense {s t : State} (h : SameButModel s.rails t.rails) (n : Nat) : (t.rail n).sense = (s.rail n).sense := by
  have hn := congrArg Rail.sense (h.getD n)
  exact hn

/-- A sense that is declared failed, and the other one chosen. -/
def RailSense.fail (x : RailSense) (isB : Bool) (now : Nat) : RailSense :=
  if isB then { x with bFailed := true, outvotedB := true }.choose false now
  else { x with aFailed := true, outvotedA := true }.choose true now

theorem RailSense.fail_facts (x : RailSense) (isB : Bool) (now : Nat) : (x.fail isB now).sel = !isB ∧
    (x.fail isB now).bFailed = (isB || x.bFailed) ∧ (x.fail isB now).aFailed = (!isB || x.aFailed) := by
  cases isB with
  | true => exact ⟨RailSense.choose_sel _ _ _, (RailSense.choose_failed _ _ _).2, (RailSense.choose_failed _ _ _).1⟩
  | false => exact ⟨RailSense.choose_sel _ _ _, (RailSense.choose_failed _ _ _).2, (RailSense.choose_failed _ _ _).1⟩

theorem State.updSense_core {s : State} (n : Nat) (f : RailSense → RailSense) :
    ((s.updSense n f).rail n).core = (s.rail n).core :=
  State.view_of_views (s.updRail_views n (fun r => { r with sense := f r.sense }) fun _ => rfl) n

section Vote
variable {s : State} {n : Nat} (hn : n < s.rails.length)

include hn in
theorem State.updSense_sense (f : RailSense → RailSense) : ((s.updSense n f).rail n).sense = f (s.rail n).sense :=
  congrArg Rail.sense (s.updRail_rail n _ hn)

include hn in
/-- A sense failed by the vote changes the senses and the outstanding faults. -/
theorem State.failSense_sense (isB : Bool) :
    ((s.failSense n isB).rail n).sense = (s.rail n).sense.fail isB s.clock.tick := by
  have hdef : s.failSense n isB = ((s.updSense n fun x => x.fail isB s.clock.tick).faultOn .sense (2 * n + b2n isB)
      (if isB then (s.rail n).sense.outvotedB else (s.rail n).sense.outvotedA)).abortChar n := rfl
  have hsame := (s.updSense n fun x => x.fail isB s.clock.tick).faultOn_sameButModel .sense (2 * n + b2n isB)
    (if isB then (s.rail n).sense.outvotedB else (s.rail n).sense.outvotedA)
  rw [hdef]
  exact ((hsame.trans (State.abortChar_sameButModel _ n)).sense n).trans (State.updSense_sense hn _)

/-- The counts of a vote that is decided start again. -/
def RailSense.decided (x : RailSense) : RailSense :=
  { x with disCount := 0, agreeCount := 0, votePending := false, burstSpent := false, missRun := 0 }

/-- Both senses beyond 40 codes from the model: the rail latches. -/
theorem State.decideVote_both (hA : 10240 < (s.fromModel n (s.rail n).sense.cA).natAbs)
    (hB : 10240 < (s.fromModel n (s.rail n).sense.cB).natAbs) : s.decideVote n =
      ((s.updSense n RailSense.decided).record 0x5012 n 2 (s.outvotedP1 n)).latchRail n .vote := by
  unfold State.decideVote
  dsimp only
  rw [if_pos (by simp; omega)]
  rfl

/-- One sense beyond 40 codes from the model: it fails. -/
theorem State.decideVote_one (isB : Bool) (hA : (s.fromModel n (s.rail n).sense.cA).natAbs ≤ 10240 ↔ isB = true)
    (hB : (s.fromModel n (s.rail n).sense.cB).natAbs ≤ 10240 ↔ isB = false) :
    s.decideVote n = ((s.updSense n RailSense.decided).failSense n isB).record 0x5012 n (b2n isB) (s.outvotedP1 n) := by
  have hinA : decide ((s.fromModel n (s.rail n).sense.cA).natAbs ≤ 40 * 256) = isB := by
    rw [Bool.eq_iff_iff, decide_eq_true_iff]; exact hA
  have hinB : decide ((s.fromModel n (s.rail n).sense.cB).natAbs ≤ 40 * 256) = !isB := by
    rw [Bool.eq_iff_iff, decide_eq_true_iff, hB]; simp
  unfold State.decideVote
  dsimp only
  rw [hinA, hinB]
  cases isB <;> rfl

include hn in
theorem State.decideVote_latches (hA : 10240 < (s.fromModel n (s.rail n).sense.cA).natAbs)
    (hB : 10240 < (s.fromModel n (s.rail n).sense.cB).natAbs) (hoff : (s.rail n).core.state ≠ .off) :
    ((s.decideVote n).rail n).prot.latch.getLsbD 8 = true ∧ ((s.decideVote n).rail n).core.state.latched = true := by
  let u := (s.updSense n RailSense.decided).record 0x5012 n 2 (s.outvotedP1 n)
  have hcore : (u.rail n).core = (s.rail n).core := by
    rw [State.record_rail]; exact State.updSense_core n _
  obtain ⟨hlatch, hstate⟩ := State.latchRail_latches (s := u) (n := n) .vote (by simpa [u] using hn) (by rw [hcore]; exact hoff)
  rw [State.decideVote_both hA hB]
  refine ⟨?_, hstate⟩
  rw [hlatch, BitVec.getLsbD_or]
  exact Bool.or_eq_true_iff.2 (.inr (by decide))

include hn in
theorem State.decideVote_fails (isB : Bool) (hA : (s.fromModel n (s.rail n).sense.cA).natAbs ≤ 10240 ↔ isB = true)
    (hB : (s.fromModel n (s.rail n).sense.cB).natAbs ≤ 10240 ↔ isB = false) (hvotes : (s.rail n).sense.votes = true) :
    ((s.decideVote n).rail n).sense.bFailed = isB ∧ ((s.decideVote n).rail n).sense.aFailed = !isB ∧
    ((s.decideVote n).rail n).sense.sel = !isB := by
  have hsense : ((s.decideVote n).rail n).sense = (s.rail n).sense.decided.fail isB s.clock.tick := by
    rw [State.decideVote_one isB hA hB, State.record_rail]
    exact (State.failSense_sense (s := s.updSense n RailSense.decided) (by simpa using hn) isB).trans
      (by rw [State.updSense_sense hn]; rfl)
  obtain ⟨hsel, hb, ha⟩ := (s.rail n).sense.decided.fail_facts isB s.clock.tick
  obtain ⟨haf, hbf⟩ : (s.rail n).sense.aFailed = false ∧ (s.rail n).sense.bFailed = false := by
    simpa [RailSense.votes] using hvotes
  rw [hsense, hsel, ha, hb]
  simp [RailSense.decided, haf, hbf]

end Vote

/-! ### The visit -/

section Visit

theorem State.decideVote_visits (s : State) (n : Nat) : (s.decideVote n).views Rail.visit = s.views Rail.visit := by
  have hφ := deaf_visit
  simp [State.decideVote, State.failSense, hφ, hφ.toBlind]

theorem State.singleSense_visits (s : State) (n : Nat) : (s.singleSense n).views Rail.visit = s.views Rail.visit := by
  have hφ := deaf_visit
  simp [State.singleSense, hφ, hφ.toBlind]

theorem State.substitutePg_visits (s : State) (n : Nat) : (s.substitutePg n).views Rail.visit = s.views Rail.visit := by
  have hφ := deaf_visit
  simp [State.substitutePg, hφ]

theorem State.charVisit_visits (s : State) (n : Nat) : (s.charVisit n).views Rail.visit = s.views Rail.visit := by
  have hjudge : (s.judgeChar n).views Rail.visit = s.views Rail.visit := by
    refine State.updModel_views deaf_visit.toBlind s n _ ?_ ?_ ?_ ?_ <;> exact fun m => by split <;> rfl
  refine Eq.trans ?_ hjudge
  refine State.updModel_views deaf_visit.toBlind _ n _ ?_ ?_ ?_ ?_ <;> exact fun m => by split <;> rfl

/-- What a visit that follows `u` enters in the model. -/
def State.enterVisit (u : State) (n : Nat) (ok : Bool) (v : Int) : State := u.updModel n fun m => { m with
  valid := ok, vmodel := v, disturbed := false, countChanged := false
  visitDuty := if ok then some (u.dutyOver n) else m.visitDuty
  visitIrail := if ok then (u.rail n).pol.irail else m.visitIrail }

/-- What follows the model at a visit: the vote on a valid one, and PG_n from the telemetry. -/
def State.afterVisit (u : State) (n : Nat) (ok : Bool) : State :=
  (if ok then (if (u.rail n).sense.votePending then u.decideVote n else u.singleSense n) else u).substitutePg n

theorem State.afterVisit_visits (u : State) (n : Nat) (ok : Bool) : (u.afterVisit n ok).views Rail.visit = u.views Rail.visit := by
  rw [State.afterVisit, State.substitutePg_visits]
  split
  · split
    · exact u.decideVote_visits n
    · exact u.singleSense_visits n
  · rfl

theorem exec_plausibilityVisit {s : State} {n : Fin 16} (hen : s.railEn n = true) (hloop : s.clock.loopPresent = true) :
    ∃ comps1, exec (.plausibilityVisit n) s =
      .next (((({ s with comps := comps1 } : State).charVisit n).enterVisit n (s.visitValid n) (s.computeModel n)).afterVisit n
        (s.visitValid n)).judge := by
  have htick : ∃ comps1, s.when (n.val == 0 && s.clock.loopPresent) State.tickLatches = { s with comps := comps1 } := by
    unfold State.when
    split <;> exact ⟨_, rfl⟩
  obtain ⟨c, hc⟩ := htick
  refine ⟨c, ?_⟩
  change execPlausibilityVisit n s = _
  unfold execPlausibilityVisit
  rw [hc]
  exact if_pos (by rw [Bool.and_eq_true]; exact ⟨hen, hloop⟩)

/-- A visit enters VMODEL and its validity, and keeps the duty that was in force where it is valid. -/
theorem State.afterVisit_model (s : State) {n : Nat} (hn : n < s.rails.length) (comps1 : List Comp) :
    (((((({ s with comps := comps1 } : State).charVisit n).enterVisit n (s.visitValid n) (s.computeModel n)).afterVisit n
        (s.visitValid n)).rail n).visit) = (s.computeModel n, s.visitValid n, (s.rail n).model.duties,
          if s.visitValid n then some (s.dutyOver n) else (s.rail n).model.visitDuty) := by
  let u := ({ s with comps := comps1 } : State).charVisit n
  have hviews : u.views Rail.visit = s.views Rail.visit := State.charVisit_visits _ n
  have hview : (u.rail n).visit = (s.rail n).visit := State.view_of_views hviews n
  have hduties : (u.rail n).model.duties = (s.rail n).model.duties := congrArg (·.2.2.1) hview
  have hkept : (u.rail n).model.visitDuty = (s.rail n).model.visitDuty := congrArg (·.2.2.2) hview
  have hover : u.dutyOver n = s.dutyOver n := by
    rw [State.dutyOver, hduties]; rfl
  rw [State.view_of_views (State.afterVisit_visits _ n _) n]
  have hrail := u.updRail_rail n (fun r => { r with model := { r.model with
    valid := s.visitValid n, vmodel := s.computeModel n, disturbed := false, countChanged := false
    visitDuty := if s.visitValid n then some (u.dutyOver n) else r.model.visitDuty
    visitIrail := if s.visitValid n then (u.rail n).pol.irail else r.model.visitIrail } })
    (by rw [State.length_of_views hviews]; exact hn)
  rw [State.enterVisit]
  refine (congrArg Rail.visit hrail).trans ?_
  simp only [Rail.visit, hduties, hkept, hover]

end Visit

/-! ### A sample -/

/-- The senses of a rail once a sample pair is taken. -/
def State.sampled (s : State) (n : Nat) (vA vB : Int) (x : RailSense) : RailSense :=
  let y := { x with cA := s.senseCode n vA, cB := s.senseCode n vB }
  (if s.updates n then y.collect else y).count

theorem State.judgeChar_sense (s : State) (n : Nat) : (s.judgeChar n).views Rail.sense = s.views Rail.sense := by
  unfold State.judgeChar State.updModel
  exact s.updRail_views n _ fun _ => rfl

/-- A sample pair changes its rail only: the senses, and what the settle and a characterisation run make of them. -/
theorem exec_senseSample {s : State} {n : Fin 16} (vA vB : Int) (hn : n.val < s.rails.length) (hen : s.railEn n = true)
    (hloop : s.clock.loopPresent = true) : ∃ u : State, exec (.senseSample n vA vB) s = .next u.judge ∧
      u = { s with rails := u.rails } ∧ (u.rail n).sense = s.sampled n vA vB (s.rail n).sense := by
  let v := s.updSense n (s.sampled n vA vB)
  have hrun : ∃ (off : Bool) (f : RailCore → RailCore),
      exec (.senseSample n vA vB) s = .next ((v.judgeChar n).when off fun s => s.updCore n f).judge := by
    refine ⟨if (v.rail n).sense.sel then v.offTarget n vB (s.senseCode n vB) else v.offTarget n vA (s.senseCode n vA),
      fun c => if c.slide then c else { c with settleDone := false }, ?_⟩
    change execSenseSample n vA vB s = _
    unfold execSenseSample
    exact if_pos (by rw [Bool.and_eq_true]; exact ⟨hen, hloop⟩)
  obtain ⟨off, f, hrun⟩ := hrun
  refine ⟨_, hrun, ?_, ?_⟩
  · unfold State.when
    split <;> rfl
  · have hafter : ((v.judgeChar n).when off fun s => s.updCore n f).views Rail.sense = v.views Rail.sense :=
      (State.when_views _ _ _ fun s => s.updRail_views n (fun r => { r with core := f r.core }) fun _ => rfl).trans
        (State.judgeChar_sense v n)
    rw [State.view_of_views hafter n]
    exact State.updSense_sense hn _

theorem RailSense.count_facts (x : RailSense) : x.count.nSamples = x.nSamples ∧ x.count.cA = x.cA ∧ x.count.cB = x.cB ∧
    (x.votes = true → x.votePending = false →
      x.count.disCount = if 62 ≤ (x.cA - x.cB).natAbs then x.disCount + 1 else 0) := by
  unfold RailSense.count
  dsimp only
  split
  next h => exact ⟨rfl, rfl, rfl, fun hv => by simp [hv] at h⟩
  next =>
    split
    next h => exact ⟨rfl, rfl, rfl, fun _ hp => by simp [hp] at h⟩
    next => exact ⟨rfl, rfl, rfl, fun _ _ => by simp⟩

/-- What a sample pair enters: both codes, the sample where updates run, and the run of differences while a vote is open. -/
theorem State.sampled_facts (s : State) (n : Nat) (vA vB : Int) (x : RailSense) :
    (s.sampled n vA vB x).cA = s.senseCode n vA ∧ (s.sampled n vA vB x).cB = s.senseCode n vB ∧
    (s.sampled n vA vB x).nSamples = x.nSamples + (if s.updates n then 1 else 0) ∧
    (x.votes = true → x.votePending = false → (s.sampled n vA vB x).disCount =
      if 62 ≤ ((s.sampled n vA vB x).cA - (s.sampled n vA vB x).cB).natAbs then x.disCount + 1 else 0) := by
  let y : RailSense := if s.updates n then
    ({ x with cA := s.senseCode n vA, cB := s.senseCode n vB } : RailSense).collect else
    { x with cA := s.senseCode n vA, cB := s.senseCode n vB }
  obtain ⟨hs, hA, hB, hd⟩ := y.count_facts
  have hy : y.cA = s.senseCode n vA ∧ y.cB = s.senseCode n vB ∧ y.votes = x.votes ∧ y.votePending = x.votePending ∧
      y.disCount = x.disCount ∧ y.nSamples = x.nSamples + (if s.updates n then 1 else 0) := by
    simp only [y]
    split <;> exact ⟨rfl, rfl, rfl, rfl, rfl, rfl⟩
  obtain ⟨yA, yB, yv, yp, yd, yn⟩ := hy
  have hdef : s.sampled n vA vB x = y.count := rfl
  rw [hdef]
  refine ⟨hA.trans yA, hB.trans yB, hs.trans yn, fun hv hp => ?_⟩
  rw [hd (yv.trans hv) (yp.trans hp), hA, hB, yd]

/-! ### The statement -/

/-- Two duties in force over a time, each weighed with its own. -/
theorem dutySum_two {start stop t1 t0 : Nat} (d1 d0 : Int) (h0 : t0 ≤ start) (h1 : start ≤ t1) :
    dutySum start stop [(t1, d1), (t0, d0)] = d1 * (stop - t1 : Nat) + d0 * (t1 - start : Nat) := by
  simp only [dutySum, max_eq_left h1, max_eq_right h0]
  split
  next h => rw [Nat.le_antisymm h h1]; simp
  next => simp [h0]

theorem dutySum_one {start t0 : Nat} (stop : Nat) (d0 : Int) (h0 : t0 ≤ start) :
    dutySum start stop [(t0, d0)] = d0 * (stop - start : Nat) := by
  simp [dutySum, h0]

/-- Settles O32: a sample by its count, a decision by the row of Table 5.1, a visit by the duties in force before it. -/
theorem sensesAndVote : Obligations.SensesAndVote := by
  unfold Obligations.SensesAndVote
  intro n s hlen
  have hn : n.val < s.rails.length := by rw [hlen]; exact n.isLt
  refine ⟨fun vA vB hen hloop => ?_, fun hvotes hpend hcount => ⟨fun hinv => ?_, fun hval => ?_⟩, fun hpend hcount => ?_,
    fun hen hloop => ?_, fun t1 t0 d1 d0 hd _ h0 h1 _ => ?_, fun t0 d0 hd h800 h0 => ?_⟩
  case refine_1 =>
    obtain ⟨u, hu, heq, hsense⟩ := exec_senseSample vA vB hn hen hloop
    obtain ⟨r, b, hj⟩ := u.judge_eq
    obtain ⟨hA, hB, hsamples, hdis⟩ := s.sampled_facts n vA vB (s.rail n).sense
    refine ⟨_, hu, ?_⟩
    rw [State.judge_rail, hsense]
    refine ⟨hA, hB, hsamples, hdis, ?_⟩
    rw [hj]
    conv_lhs => rw [heq]
  case refine_2 =>
    let f (x : RailSense) : RailSense := ({ x with votePending := true, disCount := 0, agreeCount := 0 } : RailSense).choose
      (decide ((s.rail n).sense.cA < (s.rail n).sense.cB)) s.clock.tick
    have hrun : exec (.voteDecision n) s = .next ((s.updSense n f).record 0x5012 n 4
        (codePair (s.rail n).sense.cA (s.rail n).sense.cB)).judge := by
      change execVoteDecision n s = _
      unfold execVoteDecision
      dsimp only
      rw [if_pos (by simp [hvotes, hpend, State.voteCount, hcount]), if_neg (by simp [hinv])]
      rfl
    refine ⟨_, hrun, ?_⟩
    rw [State.judge_rail, State.record_rail, State.updSense_sense hn, State.updSense_core]
    exact ⟨(RailSense.choose_pending _ _ _).1, RailSense.choose_sel _ _ _, rfl⟩
  case refine_3 =>
    have hrun : exec (.voteDecision n) s = .next (s.decideVote n).judge := by
      change execVoteDecision n s = _
      unfold execVoteDecision
      dsimp only
      rw [if_pos (by simp [hvotes, hpend, State.voteCount, hcount]), if_pos hval]
      rfl
    refine ⟨_, hrun, ?_⟩
    rw [State.judge_rail]
    refine ⟨fun hA hB => ?_, fun hA hB => ?_, fun hA hB hoff => State.decideVote_latches hn hA hB hoff⟩
    · exact State.decideVote_fails hn true (by simpa using hA) (by simpa using hB) hvotes
    · obtain ⟨hb, ha, hsel⟩ := State.decideVote_fails hn false (by simpa using hA) (by simpa using hB) hvotes
      exact ⟨ha, hb, hsel⟩
  case refine_4 =>
    let f (x : RailSense) : RailSense := ({ x with
      votePending := false, agreeCount := 0, disCount := 0, burstSpent := false } : RailSense).choose false s.clock.tick
    have hrun : exec (.votePendingEnd n) s = .next (s.updSense n f).judge := by
      change execVotePendingEnd n s = _
      unfold execVotePendingEnd
      dsimp only
      rw [if_pos (by simp [hpend, State.voteCount, hcount])]
      rfl
    refine ⟨_, hrun, ?_⟩
    rw [State.judge_rail, State.updSense_sense hn, State.updSense_core]
    exact ⟨(RailSense.choose_pending _ _ _).1, RailSense.choose_sel _ _ _, (RailSense.choose_pending _ _ _).2, rfl⟩
  case refine_5 =>
    obtain ⟨c, hrun⟩ := exec_plausibilityVisit hen hloop
    have hvisit := s.afterVisit_model hn c
    refine ⟨_, hrun, ?_⟩
    rw [State.judge_rail]
    refine ⟨congrArg (·.1) hvisit, congrArg (·.2.1) hvisit, congrArg (·.2.2.1) hvisit, fun hok => ?_⟩
    exact (congrArg (·.2.2.2) hvisit).trans (if_pos hok)
  case refine_6 =>
    rw [State.dutyOver, hd]
    exact dutySum_two d1 d0 h0 h1
  case refine_7 =>
    rw [State.dutyOver, hd, dutySum_one _ _ h0]
    rw [show s.clock.tick - (s.clock.tick - 800) = 800 by omega]
    rfl

end Sys2Proof.Machine
end

/-! SUPPORT. The periods of a rail and of its phases: period starts, the drain of a shed phase, the duty that a period takes, and
SYNC_IN. -/

section
namespace Sys2Proof.Machine

/-! ### The rail counter's period -/

/-- Nothing rises or falls on the hard path where nothing has changed. -/
theorem State.hardFrom_self (s : State) : State.hardFrom s s = s := by
  unfold State.hardFrom State.settleHard
  simp [indices]

/-- A timer trigger that no timer listens to does nothing. -/
theorem State.triggerCodes_unheard {s : State} {code : Nat} (h : ∀ k < 8, s.gtTrig k ≠ code) : s.triggerCodes [code] = s := by
  have hnone : indices 8 (fun k => [code].contains (s.gtTrig k)) = [] := by
    simp only [indices, List.filter_eq_nil_iff, List.mem_range]
    exact fun k hk => by simpa using h k hk
  rw [State.triggerCodes, hnone]
  rfl

/-- The comparators of rail `n` after its counter's period start. -/
def State.periodLatch (s : State) (n m : Nat) (c : Comp) : Comp :=
  if m < 64 && s.mrail m == n && s.classP m && !bit (s.cmpWord m) 28 then s.clearLatch c else c

theorem State.railPeriod_eq {s : State} {n : Nat} (h : ∀ k < 8, s.gtTrig k ≠ 0xC0 + n) :
    s.railPeriod n = (s.updPol n fun q => { q with periodAt := some s.clock.tick }).mapComps (s.periodLatch n) := by
  have hdef : s.railPeriod n =
      State.hardFrom ((s.updPol n fun q => { q with periodAt := some s.clock.tick }).mapComps (s.periodLatch n))
        (((s.updPol n fun q => { q with periodAt := some s.clock.tick }).mapComps (s.periodLatch n)).triggerCodes [0xC0 + n]) := rfl
  rw [hdef, State.triggerCodes_unheard (by exact h), State.hardFrom_self]

theorem State.periodLatch_eq (s : State) (n m : Nat) (c : Comp) : s.periodLatch n m c =
    if m < 64 ∧ s.mrail m = n ∧ s.classP m = true ∧ bit (s.cmpWord m) 28 = false ∧ c.out = false ∧
      s.sameCycle c.setAt = false then { c with latch := false } else c := by
  unfold State.periodLatch State.clearLatch
  cases hout : c.out <;> cases hsame : s.sameCycle c.setAt <;> simp [and_assoc]

/-! ### A phase's own period -/

/-- What follows the drain step at a phase's period start. -/
def State.runPeriod (s : State) (n p : Nat) : State :=
  let s := s.updPol n fun q => { q with stepped := q.stepped || (s.phase p).stepsLeft != 0 }
  let s := s.updPhase p fun x => { s.offsetStep n x with fresh := false }
  if (s.phase p).state.switching && s.lanesFree n && !(s.phase p).held then
    if (s.rail n).pol.burst then s.updPhase p fun x => { s.takeDuty n x with lane := x.lane }
    else
      let s := s.updPhase p fun x => s.takeDuty n x
      if (s.phase p).lane == .pwm then s.openWindow n .edge else s
  else s

theorem State.phasePeriod_eq {s : State} {p : Nat} (n : Nat) (h : (s.phase p).state.switching = true) :
    s.phasePeriod n p = (s.movePhases n fun s => s.updPhase p Phase.drainStep).runPeriod n p := by
  unfold State.phasePeriod
  rw [h]
  rfl

/-- The drain step takes no phase into the spacing set or out of it. -/
theorem Phase.drainStep_spaced (x : Phase) : x.drainStep.state.spaced = x.state.spaced := by
  unfold Phase.drainStep
  split
  next h => rw [h]; rfl
  next h =>
    split
    · rfl
    · rw [h]; rfl
  next => rfl

theorem Phase.drainStep_shed {x : Phase} (h : x.state = .decidedShed) :
    x.drainStep = { x with state := .draining, drain := 1, trim := -16384 } := by
  unfold Phase.drainStep
  rw [h]

theorem Phase.drainStep_draining {x : Phase} (h : x.state = .draining) (hd : x.drain < 4) :
    x.drainStep = { x with drain := x.drain + 1, trim := -(16384 * (x.drain + 1 : Nat)) } := by
  unfold Phase.drainStep
  split
  next h' => exact nomatch h.symm.trans h'
  next => exact if_pos hd
  next hne => exact absurd h hne

theorem Phase.drainStep_ended {x : Phase} (h : x.state = .draining) (hd : 4 ≤ x.drain) :
    x.drainStep = { x with state := .tristated, lane := .idle, drain := 0, trim := 0, highTime := 0 } := by
  unfold Phase.drainStep
  rw [h]
  exact if_neg (Nat.not_lt.2 hd)

/-- The drain step starts no phase. -/
theorem Phase.switching_of_drainStep {x : Phase} (h : x.drainStep.state.switching = true) : x.state.switching = true := by
  unfold Phase.drainStep at h
  split at h
  next h' => rw [h']; rfl
  next h' => rw [h']; rfl
  next => exact h

theorem State.phasesIn_updPhase (s : State) (n p : Nat) (g : Phase → Phase) (f : Phase → Bool)
    (h : f (g (s.phase p)) = f (s.phase p)) : (s.updPhase p g).phasesIn n f = s.phasesIn n f := by
  refine List.filter_congr fun k _ => ?_
  by_cases hk : p = k
  · subst hk
    by_cases hl : p < s.phases.length
    · rw [s.updPhase_phase p g hl, h]
    · simp [State.phase, List.getD, List.getElem?_eq_none (Nat.not_lt.1 hl)]
  · rw [s.updPhase_phase_ne p k g hk]

theorem State.spacing_drainStep (s : State) (n p : Nat) : (s.updPhase p Phase.drainStep).spacing n = s.spacing n :=
  s.phasesIn_updPhase n p _ _ (Phase.drainStep_spaced _)

/-- A phase but for its lane. -/
def Phase.unlaned (x : Phase) : Phase := { x with lane := .idle }

theorem Phase.unlaned_facts {x y : Phase} (h : x.unlaned = y.unlaned) : x.state = y.state ∧ x.drain = y.drain ∧
    x.trim = y.trim ∧ x.stepsLeft = y.stepsLeft ∧ x.targetOff = y.targetOff := by
  have hstate := congrArg Phase.state h
  have hdrain := congrArg Phase.drain h
  have htrim := congrArg Phase.trim h
  have hsteps := congrArg Phase.stepsLeft h
  have htarget := congrArg Phase.targetOff h
  exact ⟨hstate, hdrain, htrim, hsteps, htarget⟩

/-- An order to the lanes of a rail: each of its phases gets its lane. -/
def State.ordered (s : State) (n : Nat) (g : Phase → LaneCmd) (k : Nat) (x : Phase) : Phase :=
  if s.phaseRail k == some n then { x with lane := g x } else x

theorem State.setLanes_eq (s : State) (n : Nat) (g : Phase → LaneCmd) : ∃ comps1,
    s.setLanes n g = { s with phases := s.phases.mapIdx (s.ordered n g), comps := comps1 } := by
  unfold State.setLanes State.when
  dsimp only
  split <;> exact ⟨_, rfl⟩

/-- Each phase after an order to the lanes of rail `n`, where one is made. -/
def State.obeyed (s : State) (n : Nat) : Nat → Phase → Phase :=
  let q := (s.rail n).pol
  if !s.clock.loopPresent || q.fastStop || q.tristate then s.ordered n fun _ => .idle
  else if q.clamp then s.ordered n fun x => if x.state.switching && !q.clampIdle then .low else .idle
  else fun _ x => x

theorem State.obeyOverrides_eq (s : State) (n : Nat) : ∃ comps1,
    s.obeyOverrides n = { s with phases := s.phases.mapIdx (s.obeyed n), comps := comps1 } := by
  unfold State.obeyOverrides State.obeyed
  dsimp only
  split
  · exact s.setLanes_eq n _
  · split
    · exact s.setLanes_eq n _
    · have hid : s.phases.mapIdx (fun _ x => x) = s.phases := List.ext_getElem (by simp) (by simp)
      exact ⟨s.comps, by rw [hid]⟩

theorem State.ordered_unlaned (s : State) (n : Nat) (g : Phase → LaneCmd) (k : Nat) (x : Phase) :
    (s.ordered n g k x).unlaned = x.unlaned := by
  unfold State.ordered
  split <;> rfl

/-- The overrides set lanes alone. -/
theorem State.obeyed_unlaned (s : State) (n k : Nat) (x : Phase) : (s.obeyed n k x).unlaned = x.unlaned := by
  unfold State.obeyed
  split
  · exact s.ordered_unlaned n _ k x
  · split
    · exact s.ordered_unlaned n _ k x
    · rfl

theorem State.obeyOverrides_free {s : State} {n : Nat} (h : s.burstOverridden n = false) : s.obeyOverrides n = s := by
  obtain ⟨⟨⟨hl, hf⟩, ht⟩, hc⟩ : ((s.clock.loopPresent = true ∧ (s.rail n).pol.fastStop = false) ∧
      (s.rail n).pol.tristate = false) ∧ (s.rail n).pol.clamp = false := by simpa [State.burstOverridden] using h
  simp [State.obeyOverrides, hl, hf, ht, hc]

/-- An idle phase that does not switch stays idle under any override. -/
theorem State.obeyed_idle (s : State) (n k : Nat) {x : Phase} (hlane : x.lane = .idle) (hsw : x.state.switching = false) :
    (s.obeyed n k x).lane = .idle := by
  have hord (g : Phase → LaneCmd) (hg : g x = .idle) : (s.ordered n g k x).lane = .idle := by
    unfold State.ordered
    split
    · exact hg
    · exact hlane
  unfold State.obeyed
  split
  · exact hord _ rfl
  · split
    · exact hord _ (by simp [hsw])
    · exact hlane

theorem State.obeyOverrides_phase (s : State) (n k : Nat) (hk : k < s.phases.length) :
    (s.obeyOverrides n).phase k = s.obeyed n k (s.phase k) := by
  obtain ⟨c, h⟩ := s.obeyOverrides_eq n
  rw [h]
  exact getD_mapIdx _ _ _ _ hk

theorem State.phasesIn_obeyOverrides (s : State) (n : Nat) (f : PhaseState → Bool) (h128 : s.phases.length = 128) :
    ((s.obeyOverrides n).phasesIn n fun p => f p.state) = s.phasesIn n fun p => f p.state := by
  have hstate (k : Nat) (hk : k < 128) : ((s.obeyOverrides n).phase k).state = (s.phase k).state := by
    rw [s.obeyOverrides_phase n k (by rw [h128]; exact hk)]
    exact (Phase.unlaned_facts (s.obeyed_unlaned n k (s.phase k))).1
  have hrails : (s.obeyOverrides n).railPhases n = s.railPhases n := by
    obtain ⟨c, h⟩ := s.obeyOverrides_eq n
    rw [h]
    rfl
  rw [State.phasesIn, hrails]
  refine List.filter_congr fun k hk => ?_
  rw [hstate k (List.mem_range.1 (List.mem_filter.1 hk).1)]

/-- The drain step re-spaces nothing; a phase that it ends is counted out. -/
theorem State.movePhases_drain (s : State) (n p : Nat) (h128 : s.phases.length = 128) : ∃ rails1,
    (s.movePhases n fun s => s.updPhase p Phase.drainStep) =
      { (s.updPhase p Phase.drainStep).obeyOverrides n with rails := rails1 } ∧
    ((s.phase p).drainStep.state.switching = (s.phase p).state.switching →
      rails1 = ((s.updPhase p Phase.drainStep).obeyOverrides n).rails) := by
  have hspace : (s.updPhase p Phase.drainStep).respace n (s.spacing n) = s.updPhase p Phase.drainStep := by
    unfold State.respace
    dsimp only
    rw [if_pos (by rw [s.spacing_drainStep]; exact beq_self_eq_true _)]
  unfold State.movePhases
  dsimp only
  rw [hspace]
  split
  next h =>
    refine ⟨_, rfl, fun hsw => absurd h ?_⟩
    have hcount := s.phasesIn_updPhase n p Phase.drainStep (fun x => x.state.switching) hsw
    rw [State.phasesIn_obeyOverrides _ n PhaseState.switching (by simpa using h128), hcount]
    simp
  next h => exact ⟨_, rfl, fun _ => rfl⟩

/-- What a rail gives its phases at a period start. -/
def Rail.drive (r : Rail) : Int × RailCore × Int × Bool × Bool × Bool × Bool :=
  (r.bs.applied, r.core, r.pol.periodCorr, r.pol.fastStop, r.pol.tristate, r.pol.clamp, r.pol.burst)

/-- A state that differs in rails and phases alone, and gives the phases of rail `n` the same. -/
structure SamePeriod (n : Nat) (s t : State) : Prop where
  frame : t = { s with rails := t.rails, phases := t.phases }
  drive : (t.rail n).drive = (s.rail n).drive

theorem SamePeriod.offsetStep {n : Nat} {s t : State} (h : SamePeriod n s t) (x : Phase) : t.offsetStep n x = s.offsetStep n x := by
  rw [h.frame]; rfl

theorem SamePeriod.takeDuty {n : Nat} {s t : State} (h : SamePeriod n s t) (x : Phase) : t.takeDuty n x = s.takeDuty n x := by
  have hclamp (d : Int) : t.clampDuty n d = s.clampDuty n d := by rw [h.frame]; rfl
  have hgrid (a : Int) (b : Nat) : t.onGrid a b = s.onGrid a b := by rw [h.frame]; rfl
  have hfsw : t.fsw n = s.fsw n := by rw [h.frame]; rfl
  have htick : t.clock.tick = s.clock.tick := by rw [h.frame]
  obtain ⟨happ, hcore, hcorr, -⟩ := by simpa only [Rail.drive, Prod.mk.injEq] using h.drive
  unfold State.takeDuty
  simp only [hclamp, hgrid, hfsw, htick, hcorr, happ, hcore]

theorem SamePeriod.lanesFree {n : Nat} {s t : State} (h : SamePeriod n s t) : t.lanesFree n = s.lanesFree n := by
  have hclock : t.clock = s.clock := by rw [h.frame]
  obtain ⟨-, hcore, -, hfast, htri, hclamp, -⟩ := by simpa only [Rail.drive, Prod.mk.injEq] using h.drive
  unfold State.lanesFree
  simp only [hclock, hfast, htri, hclamp, hcore]

theorem SamePeriod.burst {n : Nat} {s t : State} (h : SamePeriod n s t) : (t.rail n).pol.burst = (s.rail n).pol.burst :=
  congrArg (·.2.2.2.2.2.2) h.drive

/-- A phase after the step of its offset. -/
def State.stepped (s : State) (n : Nat) (x : Phase) : Phase := { s.offsetStep n x with fresh := false }

/-- A phase that may take its duty has taken it. -/
def State.driven (s : State) (n : Nat) (x : Phase) : Phase :=
  if x.state.switching && s.lanesFree n && !x.held then
    (if (s.rail n).pol.burst then { s.takeDuty n x with lane := x.lane } else s.takeDuty n x)
  else x

/-- A phase's own period after the drain step: its offset takes its step, and then it takes its duty; no other phase changes. -/
theorem State.runPeriod_phase (s : State) (n : Nat) {p : Nat} (hp : p < s.phases.length) :
    ((s.runPeriod n p).phase p) = s.driven n (s.stepped n (s.phase p)) ∧
    ∀ q, p ≠ q → (s.runPeriod n p).phase q = s.phase q := by
  let u := s.updPol n fun q => { q with stepped := q.stepped || (s.phase p).stepsLeft != 0 }
  let v := u.updPhase p (u.stepped n)
  have hsame : SamePeriod n s v := ⟨rfl, State.view_of_views (φ := Rail.drive) (s.updRail_views n
    (fun r => { r with pol := { r.pol with stepped := r.pol.stepped || (s.phase p).stepsLeft != 0 } }) fun _ => rfl) n⟩
  have hv : v.phase p = s.stepped n (s.phase p) := u.updPhase_phase p _ hp
  have hne (q : Nat) (hq : p ≠ q) : v.phase q = s.phase q := u.updPhase_phase_ne p q _ hq
  have hdef : s.runPeriod n p = if (v.phase p).state.switching && v.lanesFree n && !(v.phase p).held then
      (if (v.rail n).pol.burst then v.updPhase p fun x => { v.takeDuty n x with lane := x.lane }
      else (if ((v.updPhase p (v.takeDuty n)).phase p).lane == .pwm then (v.updPhase p (v.takeDuty n)).openWindow n .edge
        else v.updPhase p (v.takeDuty n))) else v := rfl
  have hlen : p < v.phases.length := by simpa [v, u] using hp
  rw [hdef, hsame.lanesFree, hsame.burst, hv]
  unfold State.driven
  split
  · split
    · refine ⟨(v.updPhase_phase p _ hlen).trans ?_, fun q hq => (v.updPhase_phase_ne p q _ hq).trans (hne q hq)⟩
      rw [hsame.takeDuty, hv]
    · have hopen (c : Bool) (k : Nat) : (if c then (v.updPhase p (v.takeDuty n)).openWindow n .edge
        else v.updPhase p (v.takeDuty n)).phase k = (v.updPhase p (v.takeDuty n)).phase k := by split <;> rfl
      refine ⟨(hopen _ p).trans ((v.updPhase_phase p _ hlen).trans ?_),
        fun q hq => (hopen _ q).trans ((v.updPhase_phase_ne p q _ hq).trans (hne q hq))⟩
      rw [hsame.takeDuty, hv]
  · exact ⟨hv, hne⟩

/-! ### What a phase's period leaves of it -/

/-- What a duty leaves of the phase that takes it. -/
theorem State.takeDuty_kept (s : State) (n : Nat) (x : Phase) : (s.takeDuty n x).state = x.state ∧
    (s.takeDuty n x).drain = x.drain ∧ (s.takeDuty n x).trim = x.trim ∧ (s.takeDuty n x).offset = x.offset ∧
    (s.takeDuty n x).stepsLeft = x.stepsLeft ∧ (s.takeDuty n x).fresh = x.fresh := by
  unfold State.takeDuty
  dsimp only
  split <;> exact ⟨rfl, rfl, rfl, rfl, rfl, rfl⟩

theorem State.driven_kept (s : State) (n : Nat) (x : Phase) : (s.driven n x).state = x.state ∧ (s.driven n x).drain = x.drain ∧
    (s.driven n x).trim = x.trim ∧ (s.driven n x).offset = x.offset ∧ (s.driven n x).stepsLeft = x.stepsLeft := by
  obtain ⟨hstate, hdrain, htrim, hoff, hsteps, -⟩ := s.takeDuty_kept n x
  unfold State.driven
  split
  · split <;> exact ⟨hstate, hdrain, htrim, hoff, hsteps⟩
  · exact ⟨rfl, rfl, rfl, rfl, rfl⟩

theorem State.offsetStep_kept (s : State) (n : Nat) (x : Phase) : (s.offsetStep n x).state = x.state ∧
    (s.offsetStep n x).drain = x.drain ∧ (s.offsetStep n x).trim = x.trim ∧ (s.offsetStep n x).lane = x.lane ∧
    (s.offsetStep n x).held = x.held ∧ (s.offsetStep n x).stepsLeft = x.stepsLeft - 1 ∧
    (x.stepsLeft = 1 → (s.offsetStep n x).offset = x.targetOff) := by
  unfold State.offsetStep
  split
  next h => exact ⟨rfl, rfl, rfl, rfl, rfl, by simp [h], fun h1 => by simp [h] at h1⟩
  next h =>
    dsimp only
    split
    next h1 => exact ⟨rfl, rfl, rfl, rfl, rfl, by simp [h1], fun _ => rfl⟩
    next h1 => exact ⟨rfl, rfl, rfl, rfl, rfl, rfl, fun h' => absurd h' h1⟩

theorem State.stepped_kept (s : State) (n : Nat) (x : Phase) : (s.stepped n x).state = x.state ∧ (s.stepped n x).drain = x.drain ∧
    (s.stepped n x).trim = x.trim ∧ (s.stepped n x).lane = x.lane ∧ (s.stepped n x).held = x.held ∧
    (s.stepped n x).stepsLeft = x.stepsLeft - 1 ∧ (x.stepsLeft = 1 → (s.stepped n x).offset = x.targetOff) :=
  s.offsetStep_kept n x

section Period
variable {n : Nat} {s : State} {p : Nat} (h128 : s.phases.length = 128) (hp : p < 128)
include h128 hp

/-- The phase that the period finds after the drain step: the overrides have had its lane alone. -/
theorem State.movePhases_drain_phase : ((s.movePhases n fun s => s.updPhase p Phase.drainStep).phase p) =
    (s.updPhase p Phase.drainStep).obeyed n p (s.phase p).drainStep := by
  obtain ⟨r, hmove, -⟩ := s.movePhases_drain n p h128
  rw [hmove]
  refine ((s.updPhase p Phase.drainStep).obeyOverrides_phase n p (by simpa [h128] using hp)).trans ?_
  rw [s.updPhase_phase p _ (by rw [h128]; exact hp)]

omit hp in
theorem State.movePhases_drain_length : (s.movePhases n fun s => s.updPhase p Phase.drainStep).phases.length = 128 := by
  obtain ⟨r, hmove, -⟩ := s.movePhases_drain n p h128
  obtain ⟨c, hover⟩ := (s.updPhase p Phase.drainStep).obeyOverrides_eq n
  rw [hmove, hover]
  simpa using h128

/-- A switching phase after its own period start, in all but its lane and its duty. -/
theorem State.phasePeriod_kept (hsw : (s.phase p).state.switching = true) :
    ((s.phasePeriod n p).phase p).state = (s.phase p).drainStep.state ∧
    ((s.phasePeriod n p).phase p).drain = (s.phase p).drainStep.drain ∧
    ((s.phasePeriod n p).phase p).trim = (s.phase p).drainStep.trim ∧
    ((s.phasePeriod n p).phase p).stepsLeft = (s.phase p).drainStep.stepsLeft - 1 ∧
    ((s.phase p).drainStep.stepsLeft = 1 → ((s.phasePeriod n p).phase p).offset = (s.phase p).drainStep.targetOff) := by
  let u := s.movePhases n fun s => s.updPhase p Phase.drainStep
  have hun : (u.phase p).unlaned = (s.phase p).drainStep.unlaned := by
    rw [State.movePhases_drain_phase h128 hp]; exact State.obeyed_unlaned _ n p _
  obtain ⟨hrun, -⟩ := u.runPeriod_phase n (p := p) (by rw [State.movePhases_drain_length h128]; exact hp)
  obtain ⟨dstate, ddrain, dtrim, doff, dsteps⟩ := u.driven_kept n (u.stepped n (u.phase p))
  obtain ⟨ostate, odrain, otrim, -, -, osteps, ooff⟩ := u.stepped_kept n (u.phase p)
  obtain ⟨hstate, hdrain, htrim, hsteps, htarget⟩ := Phase.unlaned_facts hun
  rw [State.phasePeriod_eq n hsw, hrun]
  refine ⟨dstate.trans (ostate.trans hstate), ddrain.trans (odrain.trans hdrain), dtrim.trans (otrim.trans htrim),
    dsteps.trans (osteps.trans (by rw [hsteps])), fun h1 => doff.trans ((ooff (hsteps.trans h1)).trans htarget)⟩

/-- A phase whose drain ends idles its lane. -/
theorem State.phasePeriod_ends (hstate : (s.phase p).state = .draining) (hdrain : 4 ≤ (s.phase p).drain) :
    ((s.phasePeriod n p).phase p).state = .tristated ∧ ((s.phasePeriod n p).phase p).lane = .idle := by
  have hstep := Phase.drainStep_ended hstate hdrain
  have hsw : (s.phase p).state.switching = true := by rw [hstate]; rfl
  obtain ⟨hkept, -⟩ := State.phasePeriod_kept (n := n) h128 hp hsw
  rw [hstep] at hkept
  refine ⟨hkept, ?_⟩
  let u := s.movePhases n fun s => s.updPhase p Phase.drainStep
  obtain ⟨hrun, -⟩ := u.runPeriod_phase n (p := p) (by rw [State.movePhases_drain_length h128]; exact hp)
  have hu : u.phase p = (s.updPhase p Phase.drainStep).obeyed n p (s.phase p).drainStep := State.movePhases_drain_phase h128 hp
  have hlane : (u.phase p).lane = .idle := by
    rw [hu]; exact State.obeyed_idle _ n p (by rw [hstep]) (by rw [hstep]; rfl)
  have hustate : (u.phase p).state = .tristated := by
    obtain ⟨h, -⟩ := Phase.unlaned_facts ((s.updPhase p Phase.drainStep).obeyed_unlaned n p (s.phase p).drainStep)
    rw [hu, h, hstep]
  obtain ⟨ostate, -, -, olane, -⟩ := u.stepped_kept n (u.phase p)
  have hdriven : u.driven n (u.stepped n (u.phase p)) = u.stepped n (u.phase p) := by
    unfold State.driven
    rw [if_neg]
    rw [show (u.stepped n (u.phase p)).state = .tristated from ostate.trans hustate]
    simp [PhaseState.switching]
  rw [State.phasePeriod_eq n hsw, hrun, hdriven]
  exact olane.trans hlane

end Period

theorem SamePeriod.driven {n : Nat} {s t : State} (h : SamePeriod n s t) (x : Phase) : t.driven n x = s.driven n x := by
  unfold State.driven
  rw [h.lanesFree, h.burst, h.takeDuty]

/-- With no override on the rail, the period is that of the phase alone. -/
theorem State.phasePeriod_free {n : Nat} {s : State} {p : Nat} (h128 : s.phases.length = 128) (hp : p < 128)
    (hsw : (s.phase p).state.switching = true) (hstill : (s.phase p).drainStep.state.switching = true)
    (hfree : s.burstOverridden n = false) :
    (s.phasePeriod n p).phase p = s.driven n (s.stepped n (s.phase p).drainStep) ∧
    ∀ q, p ≠ q → (s.phasePeriod n p).phase q = s.phase q := by
  let v := s.updPhase p Phase.drainStep
  have hover : v.obeyOverrides n = v := State.obeyOverrides_free hfree
  have hmove : (s.movePhases n fun s => s.updPhase p Phase.drainStep) = v := by
    obtain ⟨r, hmove, hr⟩ := s.movePhases_drain n p h128
    rw [hmove, hr (hstill.trans hsw.symm), hover]
  have hsame : SamePeriod n s v := ⟨rfl, rfl⟩
  have hlen : p < s.phases.length := by rw [h128]; exact hp
  obtain ⟨hrun, hne⟩ := v.runPeriod_phase n (p := p) (by simpa [v] using hlen)
  rw [State.phasePeriod_eq n hsw, hmove, hrun]
  refine ⟨?_, fun q hq => (hne q hq).trans (s.updPhase_phase_ne p q _ hq)⟩
  rw [hsame.driven, State.stepped, hsame.offsetStep, s.updPhase_phase p _ hlen]
  rfl

/-! ### SYNC_IN -/

/-- A rail that follows the ball, after an edge (R200). -/
def State.pulled (s : State) (n periodNs : Nat) (r : Rail) : Rail :=
  let off : Int := (s.fsw n * periodNs : Nat) - (1000000 : Int)
  if off.natAbs * 20 ≤ s.fsw n * periodNs then
    let corr := clampInt (r.pol.periodCorr - 100) (r.pol.periodCorr + 100) (quot off 100)
    { r with pol := { r.pol with syncEdges := r.pol.syncEdges + 1, periodCorr := corr, syncLocked := corr == quot off 100 } }
  else r

/-- An edge at one rail changes that rail alone. -/
theorem State.syncEdge_eq (s : State) (periodNs n : Nat) : ∃ rails1, State.syncEdge periodNs s n = { s with rails := rails1 } ∧
    rails1.length = s.rails.length ∧ (n < s.rails.length → rails1.getD n Rail.reset = s.pulled n periodNs (s.rail n)) ∧
    ∀ k, n ≠ k → rails1.getD k Rail.reset = s.rail k := by
  unfold State.syncEdge State.pulled
  dsimp only
  split
  · refine ⟨_, rfl, List.length_modify .., fun hn => ?_, fun k hk => ?_⟩
    · exact getD_modify_self _ _ _ _ hn
    · exact getD_modify_ne _ _ _ _ _ hk
  · exact ⟨s.rails, rfl, rfl, fun _ => rfl, fun _ _ => rfl⟩

/-- An edge at each rail of a list without repeats: each is pulled once, and no other rail changes. -/
theorem State.syncEdges_eq (periodNs : Nat) (l : List Nat) (hl : l.Nodup) (s : State) : ∃ rails1,
    s.forEach l (State.syncEdge periodNs) = { s with rails := rails1 } ∧
    (∀ k ∈ l, k < s.rails.length → rails1.getD k Rail.reset = s.pulled k periodNs (s.rail k)) ∧
    ∀ k, k ∉ l → rails1.getD k Rail.reset = s.rail k := by
  induction l generalizing s with
  | nil => exact ⟨s.rails, rfl, fun k hk => absurd hk List.not_mem_nil, fun _ _ => rfl⟩
  | cons n l ih =>
    obtain ⟨hn, hl⟩ := List.nodup_cons.1 hl
    obtain ⟨r, hr, hlen, hself, hne⟩ := s.syncEdge_eq periodNs n
    obtain ⟨q, hq, hin, hout⟩ := ih hl (State.syncEdge periodNs s n)
    have hdef : s.forEach (n :: l) (State.syncEdge periodNs) = (State.syncEdge periodNs s n).forEach l (State.syncEdge periodNs) := rfl
    rw [hr] at hin hout hq
    refine ⟨q, by rw [hdef, hr, hq], fun k hk hlt => ?_, fun k hk => ?_⟩
    · obtain rfl | hk := List.mem_cons.1 hk
      · exact (hout _ hn).trans (hself hlt)
      · refine (hin k hk (by simpa [hlen] using hlt)).trans ?_
        rw [show (State.rail { s with rails := r } k) = s.rail k from hne k (fun h => hn (h ▸ hk))]
        rfl
    · rw [List.mem_cons, not_or] at hk
      exact (hout k hk.2).trans (hne k (Ne.symm hk.1))

/-- The pull of an edge: 1 % at most, and the edge period where that suffices. -/
theorem State.pulled_facts {s : State} {n periodNs : Nat} {r : Rail} {off : Int}
    (hoff : off = (s.fsw n * periodNs : Nat) - (1000000 : Int)) :
    (off.natAbs * 20 ≤ s.fsw n * periodNs →
      (s.pulled n periodNs r).pol.syncEdges = r.pol.syncEdges + 1 ∧
      ((s.pulled n periodNs r).pol.periodCorr - r.pol.periodCorr).natAbs ≤ 100 ∧
      ((quot off 100 - r.pol.periodCorr).natAbs ≤ 100 →
        (s.pulled n periodNs r).pol.periodCorr = quot off 100 ∧ (s.pulled n periodNs r).pol.syncLocked = true)) ∧
    (s.fsw n * periodNs < off.natAbs * 20 → s.pulled n periodNs r = r) := by
  subst hoff
  unfold State.pulled
  dsimp only
  refine ⟨fun h => ?_, fun h => if_neg (Nat.not_le.2 h)⟩
  rw [if_pos h]
  generalize quot _ 100 = want
  refine ⟨rfl, by simp only [clampInt]; omega, fun hnear => ?_⟩
  have hcorr : clampInt (r.pol.periodCorr - 100) (r.pol.periodCorr + 100) want = want := by simp only [clampInt]; omega
  dsimp only
  rw [hcorr]
  exact ⟨rfl, beq_self_eq_true _⟩

/-! ### The commands -/

theorem exec_periodStart_stopped {s : State} (n : Fin 16) (p : Option (Fin 128)) (h : s.clock.loopPresent = false) :
    exec (.periodStart n p) s = complete s := by
  change execPeriodStart n p s = _
  unfold execPeriodStart
  exact if_neg (by simp [h])

theorem exec_periodStart_rail {s : State} (n : Fin 16) (h : s.clock.loopPresent = true) :
    exec (.periodStart n none) s = .next (s.railPeriod n).judge := by
  change execPeriodStart n none s = _
  unfold execPeriodStart
  exact if_pos h

theorem exec_periodStart_phase {s : State} {n : Fin 16} {p : Fin 128} (h : s.clock.loopPresent = true)
    (hp : s.phaseRail p = some n.val) : exec (.periodStart n (some p)) s = .next (s.phasePeriod n p).judge := by
  change execPeriodStart n (some p) s = _
  unfold execPeriodStart
  rw [if_pos h]
  exact if_pos (by rw [hp]; exact beq_self_eq_true _)

theorem exec_syncInEdge {s : State} (ball : Bool) (ns : Nat) (h : s.clock.loopPresent = true) (hp : s.boot.stage = 8) :
    exec (.syncInEdge ball ns) s = .next (s.forEach (s.enabledRails.filter fun n => s.syncSrc n == (if ball then 2 else 1))
      (State.syncEdge ns)).judge := by
  change execSyncInEdge ball ns s = _
  unfold execSyncInEdge
  exact if_pos (by simp [h, State.primed, hp])

/-- The lanes are free only where no override has them. -/
theorem State.burstOverridden_of_lanesFree {s : State} {n : Nat} (h : s.lanesFree n = true) : s.burstOverridden n = false := by
  simp only [State.lanesFree, Bool.and_eq_true, Bool.not_eq_true'] at h
  obtain ⟨⟨⟨⟨⟨⟨hl, hf⟩, ht⟩, hc⟩, -⟩, -⟩, -⟩ := h
  simp [State.burstOverridden, hl, hf, ht, hc]

/-- The duty taken: nothing under 5 ns, and otherwise the interval on the grid. -/
theorem State.takeDuty_facts (s : State) (n : Nat) (x : Phase) :
    ((s.takeDuty n x).highTime = 0 → (s.takeDuty n x).fallAt = none ∧
      (s.takeDuty n x).lane = if (s.rail n).core.lowSideIdle then .idle else .low) ∧
    ((s.takeDuty n x).highTime ≠ 0 → 256 ≤ (s.takeDuty n x).highTime ∧ (s.takeDuty n x).lane = .pwm ∧
      (s.takeDuty n x).fallAt = some (s.clock.tick + ceilQuot (s.takeDuty n x).highTime 64)) ∧
    ((s.takeDuty n x).highTime = 0 ∨ ((s.takeDuty n x).highTime : Int) =
      s.onGrid (s.clampDuty n (quot ((s.rail n).bs.applied * (65536 + x.trim)) 65536) * 51200000 *
        (10000 + (s.rail n).pol.periodCorr)) (s.fsw n * 2 ^ 31 * 10000)) := by
  unfold State.takeDuty
  dsimp only
  generalize s.onGrid _ _ = h
  split
  next => exact ⟨fun _ => ⟨rfl, rfl⟩, fun hne => absurd rfl hne, .inl rfl⟩
  next hge =>
    dsimp only
    exact ⟨fun h0 => absurd h0 (by omega), fun _ => ⟨by omega, rfl, rfl⟩, .inr (by omega)⟩

/-- The step of its offset and the mark of a fresh phase have no part in the duty. -/
theorem State.takeDuty_stepped (s : State) (n : Nat) (x : Phase) :
    s.takeDuty n (s.stepped n x) = { s.takeDuty n (s.offsetStep n x) with fresh := false } := by
  unfold State.takeDuty State.stepped
  dsimp only
  split <;> rfl

/-- While it switches the drain step leaves the lane and the hold of a phase. -/
theorem Phase.drainStep_kept {x : Phase} (h : x.drainStep.state.switching = true) :
    x.drainStep.lane = x.lane ∧ x.drainStep.held = x.held := by
  unfold Phase.drainStep at h ⊢
  split
  · exact ⟨rfl, rfl⟩
  next hd =>
    rw [hd] at h
    split
    · exact ⟨rfl, rfl⟩
    next hge => simp [hge, PhaseState.switching] at h
  · exact ⟨rfl, rfl⟩

/-- Where it switched before, a phase that is neither shed nor draining is left alone by the drain step. -/
theorem Phase.drainStep_active {x : Phase} (h : x.state = .active ∨ x.state = .blind) : x.drainStep = x := by
  unfold Phase.drainStep
  obtain h | h := h <;> rw [h]

/-- A phase whose lane is free takes its duty. -/
theorem State.driven_free {s : State} {n : Nat} {x : Phase} (hsw : x.drainStep.state.switching = true)
    (hfree : s.lanesFree n = true) (hheld : x.held = false) : s.driven n (s.stepped n x.drainStep) =
      { s.takeDuty n (s.offsetStep n x.drainStep) with
        fresh := false
        lane := if (s.rail n).pol.burst then x.lane else (s.takeDuty n (s.offsetStep n x.drainStep)).lane } := by
  obtain ⟨hlane, hheld'⟩ := Phase.drainStep_kept hsw
  obtain ⟨hstate, -, -, hslane, hsheld, -⟩ := s.stepped_kept n x.drainStep
  have hcond : ((s.stepped n x.drainStep).state.switching && s.lanesFree n && !(s.stepped n x.drainStep).held) = true := by
    rw [hstate, hsheld, hheld', hsw, hfree, hheld]; rfl
  unfold State.driven
  rw [if_pos hcond, s.takeDuty_stepped, hslane, hlane]
  split <;> rfl

/-- What a switching phase does where the drain step leaves it switching and no override has its lane: no other phase moves. -/
theorem State.phasePeriod_other {n : Nat} {s : State} {p : Fin 128} (h128 : s.phases.length = 128)
    (hsw : (s.phase p).state.switching = true) (hstill : (s.phase p).drainStep.state.switching = true)
    (hfree : s.burstOverridden n = false) (q : Fin 128) (hq : q ≠ p) : (s.phasePeriod n p).phase q = s.phase q :=
  (State.phasePeriod_free h128 p.isLt hsw hstill hfree).2 q fun h => hq (Fin.ext h.symm)

/-- The comparator after the rail counter's period start. -/
theorem State.railPeriod_comp {s : State} {n m : Nat} (h : ∀ k < 8, s.gtTrig k ≠ 0xC0 + n) (hm : m < s.comps.length) :
    (s.railPeriod n).comp m = s.periodLatch n m (s.comp m) := by
  rw [State.railPeriod_eq h]
  exact State.mapComps_comp _ m _ hm

@[simp] theorem State.judge_phase (s : State) (p : Nat) : s.judge.phase p = s.phase p := by simp [State.phase]
@[simp] theorem State.judge_comp (s : State) (m : Nat) : s.judge.comp m = s.comp m := by simp [State.comp]

/-- Settles O40: a phase's period start is its drain step, which re-spaces nothing, then the step of its offset and its duty. -/
theorem periodStartsAndSynchronisation : Obligations.PeriodStartsAndSynchronisation := by
  unfold Obligations.PeriodStartsAndSynchronisation
  refine ⟨fun n s hsized => ?_, fun s hsized => ?_⟩
  · obtain ⟨-, h16, h128, -, -, h76, -⟩ := hsized
    refine ⟨fun hstop p => ?_, fun hloop htrig => ?_, fun p hloop hrail => ⟨fun hstate => ?_, fun hstate hdrain => ?_,
      fun hstate hdrain => ?_, fun hstate => ?_, fun hsw hfree hheld => ?_, fun hsw => ?_⟩⟩
    case refine_1 =>
      rw [exec_periodStart_stopped n p hstop]
      exact complete_onlyNoted s
    case refine_2 =>
      obtain ⟨r, b, hj⟩ := (s.railPeriod n).judge_eq
      have hrail := s.updRail_rail n (fun r => { r with pol := { r.pol with periodAt := some s.clock.tick } }) (by rw [h16]; exact n.isLt)
      refine ⟨_, exec_periodStart_rail n hloop, fun m => ?_, ?_, fun k hk => ?_, ?_⟩
      · rw [State.judge_comp, State.railPeriod_comp htrig (by rw [h76]; exact m.isLt)]
        exact s.periodLatch_eq n m (s.comp m)
      · rw [State.judge_rail, State.railPeriod_eq htrig]
        exact hrail
      · rw [State.judge_rail, State.railPeriod_eq htrig]
        exact s.updRail_rail_ne n k _ fun h => hk (Fin.ext h.symm)
      · rw [hj, State.railPeriod_eq htrig]
        rfl
    case refine_3 =>
      have hstep := Phase.drainStep_shed hstate
      obtain ⟨h1, h2, h3, -⟩ := State.phasePeriod_kept (n := n) h128 p.isLt (by rw [hstate]; rfl)
      refine ⟨_, exec_periodStart_phase hloop hrail, ?_⟩
      rw [State.judge_phase, h1, h2, h3, hstep]
      exact ⟨rfl, rfl, rfl⟩
    case refine_4 =>
      have hstep := Phase.drainStep_draining hstate hdrain
      obtain ⟨h1, h2, h3, -⟩ := State.phasePeriod_kept (n := n) h128 p.isLt (by rw [hstate]; rfl)
      refine ⟨_, exec_periodStart_phase hloop hrail, ?_⟩
      rw [State.judge_phase, h1, h2, h3, hstep]
      exact ⟨hstate, rfl, rfl⟩
    case refine_5 =>
      refine ⟨_, exec_periodStart_phase hloop hrail, ?_⟩
      rw [State.judge_phase]
      exact State.phasePeriod_ends h128 p.isLt hstate hdrain
    case refine_6 =>
      have hstep := Phase.drainStep_active hstate
      have hsw : (s.phase p).state.switching = true := by obtain h | h := hstate <;> rw [h] <;> rfl
      have hstill : (s.phase p).drainStep.state.switching = true := by rw [hstep]; exact hsw
      obtain ⟨h1, -, -, h4, h5⟩ := State.phasePeriod_kept (n := n) h128 p.isLt hsw
      rw [hstep] at h1 h4 h5
      refine ⟨_, exec_periodStart_phase hloop hrail, ?_⟩
      simp only [State.judge_phase]
      refine ⟨h1, h5, h4, fun hbusy hover => ?_, fun hover => State.phasePeriod_other h128 hsw hstill hover⟩
      have hidle (x : Phase) : s.driven n x = x := by
        unfold State.driven; rw [hbusy, Bool.and_false]; exact if_neg Bool.false_ne_true
      rw [(State.phasePeriod_free h128 p.isLt hsw hstill hover).1, hidle, hstep]
      exact (s.stepped_kept n (s.phase p)).2.2.2.1
    case refine_7 =>
      have hphase := (State.phasePeriod_free h128 p.isLt (Phase.switching_of_drainStep hsw) hsw (State.burstOverridden_of_lanesFree hfree)).1
      rw [State.driven_free hsw hfree hheld] at hphase
      obtain ⟨hzero, hsome, hgrid⟩ := s.takeDuty_facts n (s.offsetStep n (s.phase p).drainStep)
      obtain ⟨-, -, htrim, -⟩ := s.offsetStep_kept n (s.phase p).drainStep
      rw [htrim] at hgrid
      refine ⟨_, exec_periodStart_phase hloop hrail, ?_⟩
      rw [State.judge_phase, hphase]
      exact ⟨rfl, rfl, rfl, hzero, hsome, hgrid⟩
    case refine_8 =>
      have hdef : s.phasePeriod n p = s := by unfold State.phasePeriod; rw [hsw]; rfl
      rw [exec_periodStart_phase hloop hrail, hdef]
      exact complete_onlyNoted s
  · obtain ⟨-, h16, -⟩ := hsized
    refine ⟨fun ball ns hloop hprimed => ?_, fun n => ?_⟩
    · obtain ⟨r, hr, hin, hout⟩ := State.syncEdges_eq ns (s.enabledRails.filter fun n => s.syncSrc n == (if ball then 2 else 1))
        (List.Nodup.filter _ (List.Nodup.filter _ List.nodup_range)) s
      obtain ⟨ro, b, hj⟩ := ({ s with rails := r } : State).judge_eq
      have hmem (k : Fin 16) : k.val ∈ (s.enabledRails.filter fun n => s.syncSrc n == (if ball then 2 else 1)) ↔
          s.railEn k = true ∧ s.syncSrc k = (if ball then 2 else 1) := by
        simp [State.enabledRails, indices, and_comm]
      refine ⟨_, exec_syncInEdge ball ns hloop hprimed, by rw [hr, hj], fun k hk => ?_, fun k hen hsrc => ?_⟩
      · rw [State.judge_rail, hr]
        refine hout k fun h => ?_
        obtain ⟨hen, hsrc⟩ := (hmem k).1 h
        obtain h | h := hk
        · exact absurd (h.symm.trans hen) Bool.false_ne_true
        · exact h hsrc
      · have hk : (State.rail { s with rails := r } k) = s.pulled k ns (s.rail k) :=
          hin k ((hmem k).2 ⟨hen, hsrc⟩) (by rw [h16]; exact k.isLt)
        rw [State.judge_rail, hr, hk]
        exact State.pulled_facts rfl
    · obtain ⟨r, b, hj⟩ := (s.updPol n fun p => { p with syncLocked := false, syncEdges := 0, periodCorr := 0 }).judge_eq
      refine ⟨_, rfl, ?_, fun k hk => ?_, by rw [hj]; rfl⟩
      · rw [State.judge_rail]
        exact s.updRail_rail n _ (by rw [h16]; exact n.isLt)
      · rw [State.judge_rail]
        exact s.updRail_rail_ne n k _ fun h => hk (Fin.ext h.symm)

end Sys2Proof.Machine
end

/-! SUPPORT. Upstream frames: what a good frame, a bad one and the checks after them leave of a cell and of its link. -/

section
namespace Sys2Proof.Machine

/-! ### What the operations on a link leave of its cells -/

/-- What the checks of R232 look at of a link. -/
def Link.checks (k : Link) : Nat × Nat × Option Nat × Bool := (k.frames, k.frameTime, k.fault, k.fdHeld)

/-- A view `φ` of every cell and a view `κ` of every link stay, and so does the clock. -/
structure CellsKept {α β : Type} (φ : Cell → α) (κ : Link → β) (s t : State) : Prop where
  cell : ∀ k, φ (t.cell k) = φ (s.cell k)
  length : t.cells.length = s.cells.length
  link : ∀ l, κ (t.link l) = κ (s.link l)
  clock : t.clock = s.clock

section Kept
variable {α β : Type} {φ : Cell → α} {κ : Link → β} {s t u : State}

theorem CellsKept.of_eq (hcells : t.cells = s.cells) (hlinks : t.links = s.links) (hclock : t.clock = s.clock) : CellsKept φ κ s t :=
  ⟨fun k => by rw [State.cell, hcells]; rfl, by rw [hcells], fun l => by rw [State.link, hlinks]; rfl, hclock⟩

theorem CellsKept.refl (s : State) : CellsKept φ κ s s := .of_eq rfl rfl rfl

theorem CellsKept.trans (h : CellsKept φ κ s t) (h' : CellsKept φ κ t u) : CellsKept φ κ s u :=
  ⟨fun k => (h'.cell k).trans (h.cell k), h'.length.trans h.length, fun l => (h'.link l).trans (h.link l), h'.clock.trans h.clock⟩

theorem CellsKept.map {γ : Type} {ψ : Cell → γ} (h : CellsKept φ κ s t) (g : α → γ) (hg : ∀ x, ψ x = g (φ x)) : CellsKept ψ κ s t :=
  ⟨fun k => by rw [hg, hg, h.cell], h.length, h.link, h.clock⟩

theorem State.updCell_cell_or (s : State) (c k : Nat) (f : Cell → Cell) :
    (s.updCell c f).cell k = s.cell k ∨ (s.updCell c f).cell k = f (s.cell k) := by
  by_cases hk : c = k
  · subst hk
    by_cases hl : c < s.cells.length
    · exact .inr (s.updCell_cell c f hl)
    · exact .inl (by simp [State.cell, List.getD, List.getElem?_eq_none (Nat.not_lt.1 hl)])
  · exact .inl (s.updCell_cell_ne c k f hk)

theorem State.updLink_link_or (s : State) (l k : Nat) (f : Link → Link) :
    (s.updLink l f).link k = s.link k ∨ (s.updLink l f).link k = f (s.link k) := by
  by_cases hk : l = k
  · subst hk
    by_cases hl : l < s.links.length
    · exact .inr (s.updLink_link l f hl)
    · exact .inl (by simp [State.link, List.getD, List.getElem?_eq_none (Nat.not_lt.1 hl)])
  · exact .inl (s.updLink_link_ne l k f hk)

theorem CellsKept.updCell (s : State) (c : Nat) {f : Cell → Cell} (hf : ∀ x, φ (f x) = φ x) : CellsKept φ κ s (s.updCell c f) := by
  refine ⟨fun k => ?_, List.length_modify .., fun _ => rfl, rfl⟩
  obtain h | h := s.updCell_cell_or c k f
  · rw [h]
  · rw [h, hf]

theorem CellsKept.updLink (s : State) (l : Nat) {f : Link → Link} (hf : ∀ k, κ (f k) = κ k) :
    CellsKept φ κ s (s.updLink l f) := by
  refine ⟨fun _ => rfl, rfl, fun k => ?_, rfl⟩
  obtain h | h := s.updLink_link_or l k f
  · rw [h]
  · rw [h, hf]

theorem CellsKept.when (s : State) (c : Bool) {f : State → State} (hf : CellsKept φ κ s (f s)) : CellsKept φ κ s (s.when c f) := by
  unfold State.when
  split
  · exact hf
  · exact .refl s

theorem CellsKept.record (s : State) (code src p0 p1 : Nat) : CellsKept φ κ s (s.record code src p0 p1) := by
  rw [State.record_sketch_only]
  exact .of_eq rfl rfl rfl

theorem CellsKept.faultOn (s : State) (k : FaultKind) (i : Nat) (lasting : Bool) : CellsKept φ κ s (s.faultOn k i lasting) := by
  rw [s.faultOn_eq]
  exact .of_eq rfl rfl rfl

/-- What the console waits for has no part in cells and links. -/
theorem State.conIdFail_eq (s : State) (c : Nat) : ∃ con1, s.conIdFail c = { s with con := con1 } := by
  unfold State.conIdFail
  split
  · split <;> exact ⟨_, rfl⟩
  · exact ⟨_, rfl⟩

theorem State.conIdGap_eq (s : State) (c : Nat) : ∃ con1, s.conIdGap c = { s with con := con1 } := by
  unfold State.conIdGap
  split
  · split
    · exact s.conIdFail_eq c
    · exact ⟨_, rfl⟩
  · exact ⟨_, rfl⟩

theorem State.conLoopback_eq (s : State) (c : Nat) (ok : Bool) : ∃ con1, s.conLoopback c ok = { s with con := con1 } := by
  unfold State.conLoopback
  split
  · split
    · dsimp only
      split <;> exact ⟨_, rfl⟩
    · exact ⟨_, rfl⟩
  · exact ⟨_, rfl⟩

theorem State.conPart_eq (s : State) (c part : Nat) (d : BitVec 24) : ∃ con1, s.conPart c part d = { s with con := con1 } := by
  unfold State.conPart
  split
  · split
    · split <;> exact ⟨_, rfl⟩
    · exact ⟨_, rfl⟩
  · exact ⟨_, rfl⟩

/-- A cell but for the marks of its episodes and of a frame that is left out of its control. -/
def Cell.settled (x : Cell) : Cell := { x with skipped := false, ocpEpisode := false, otEpisode := false, warned := false }

/-- What a check looks at of a cell. -/
def Cell.command (x : Cell) : CellState × Option DownFrame × Option Nat × Nat × Option (BitVec 2) :=
  (x.state, x.outstanding, x.sentAt, x.attempt, x.senseCheck)

theorem CellsKept.command (h : CellsKept Cell.settled κ s t) : CellsKept Cell.command κ s t :=
  h.map Cell.command fun _ => rfl

section Command
variable {s t : State} (h : CellsKept Cell.command Link.checks s t)
include h

theorem CellsKept.state (k : Nat) : (t.cell k).state = (s.cell k).state := congrArg Prod.fst (h.cell k)
theorem CellsKept.outstanding (k : Nat) : (t.cell k).outstanding = (s.cell k).outstanding := congrArg (·.2.1) (h.cell k)
theorem CellsKept.sentAt (k : Nat) : (t.cell k).sentAt = (s.cell k).sentAt := congrArg (·.2.2.1) (h.cell k)
theorem CellsKept.attempt (k : Nat) : (t.cell k).attempt = (s.cell k).attempt := congrArg (·.2.2.2.1) (h.cell k)
theorem CellsKept.senseCheck (k : Nat) : (t.cell k).senseCheck = (s.cell k).senseCheck := congrArg (·.2.2.2.2) (h.cell k)
theorem CellsKept.linkFault (l : Nat) : t.linkFault l = s.linkFault l := congrArg (·.2.2.1.isSome) (h.link l)
theorem CellsKept.fdHeld (l : Nat) : (t.link l).fdHeld = (s.link l).fdHeld := congrArg (·.2.2.2) (h.link l)

theorem CellsKept.healthy (k : Nat) : (t.cell k).healthy = (s.cell k).healthy := by rw [Cell.healthy, h.state, Cell.healthy]

theorem CellsKept.silentCount (l : Nat) : t.silentCount l = s.silentCount l := by simp only [State.silentCount, h.state]

/-- Whether a command may be checked depends on what the check looks at only. -/
theorem CellsKept.checkable (c : Nat) : t.checkable c = s.checkable c := by
  have hf : (t.link (cellLink c)).frames = (s.link (cellLink c)).frames := congrArg Prod.fst (h.link _)
  have ht : (t.link (cellLink c)).frameTime = (s.link (cellLink c)).frameTime := congrArg (·.2.1) (h.link _)
  have hslot : (t.link (cellLink c)).slotTime (cellSlot c) = (s.link (cellLink c)).slotTime (cellSlot c) := by
    rw [Link.slotTime, Link.slotTime, hf, ht]
  rw [State.checkable, State.checkable, h.outstanding, h.sentAt, hslot]

end Command

/-! ### A good frame -/

/-- The cell that a good frame finds, once its values are taken (Table 8.3). -/
def State.valued (s : State) (c : Nat) (f : BitVec 56) : State :=
  let s := (s.updCell c fun x => { x with goodNow := true }).keepPart c f
  if bit (upByte f 1) 6 then
    s.updCell c fun x => { (x.rebuilt (upByte f 2 / 16) (upByte f 2 % 16) (upData f)) with
      age := 0, skipped := true, flags := if upByte f 2 / 16 == 7 then BitVec.ofNat 8 (upByte f 5) else x.flags }
  else s.updCell c fun x => x.telemetry f

/-- What else follows from the values of a good frame: episodes, warnings, the current of its rail, the console. -/
def State.marked (s : State) (c : Nat) (f : BitVec 56) : State :=
  let reply := bit (upByte f 1) 6
  let rcode := upByte f 2 / 16
  let s := s.when (s.clock.suspendLinks || (s.link (cellLink c)).fdHeld) fun s => s.updCell c fun x => { x with skipped := true }
  let s := s.when ((!reply || rcode == 7) && (s.cell c).state != .silent && (s.cell c).flags.getLsbD 0) fun s =>
    s.updLink (cellLink c) fun k => { k with ffltClean := false }
  let s := ((s.episodes c).warnCell c).refreshIrail (cellPhase c)
  s.when (reply && rcode == 6) fun s => s.conPart c (upByte f 2 % 16) (upData f)

/-- A good frame gives its values, and then ends the command that it may check. -/
theorem State.goodFrame_eq (s : State) (c : Nat) (f : BitVec 56) : s.goodFrame c f =
    match ((s.valued c f).marked c f).checkable c with
    | none => (s.valued c f).marked c f
    | some cmd =>
      if bit (upByte f 1) 7 == cmd.seq && replyOk cmd f then
        State.passCheck (if cmd.code == 7 && (((s.valued c f).marked c f).cell c).senseCheck.isSome then
          ((s.valued c f).marked c f).resolveSense c (!(((s.valued c f).marked c f).cell c).flags.getLsbD 5)
        else (s.valued c f).marked c f) c cmd
      else ((s.valued c f).marked c f).failCheck c false := rfl

theorem State.keepPart_kept (s : State) (c : Nat) (f : BitVec 56) : CellsKept Cell.command κ s (s.keepPart c f) := by
  unfold State.keepPart
  split
  · exact .updCell s c fun _ => rfl
  · exact .refl s

theorem Cell.rebuilt_command (x : Cell) (rcode part : Nat) (d : BitVec 24) : (x.rebuilt rcode part d).command = x.command := by
  unfold Cell.rebuilt
  split
  · dsimp only
    split <;> rfl
  · split <;> rfl

theorem Cell.telemetry_command (x : Cell) (f : BitVec 56) : (x.telemetry f).command = x.command := by
  unfold Cell.telemetry
  dsimp only
  split <;> rfl

theorem State.valued_kept (s : State) (c : Nat) (f : BitVec 56) : CellsKept Cell.command κ s (s.valued c f) := by
  have hpart := (CellsKept.updCell (φ := Cell.command) (κ := κ) s c (f := fun x => { x with goodNow := true }) fun _ => rfl).trans
    (State.keepPart_kept _ c f)
  unfold State.valued
  dsimp only
  split
  · exact hpart.trans (.updCell _ c fun x => x.rebuilt_command _ _ _)
  · exact hpart.trans (.updCell _ c fun x => x.telemetry_command f)

/-- Without a reply the values are those of the telemetry. -/
theorem State.valued_cell {s : State} {c : Nat} {f : BitVec 56} (hc : c < s.cells.length) (hreply : bit (upByte f 1) 6 = false) :
    (s.valued c f).cell c = ({ s.cell c with goodNow := true } : Cell).telemetry f := by
  unfold State.valued State.keepPart
  simp only [hreply, Bool.and_false, Bool.false_and, Bool.false_eq_true, if_false]
  rw [State.updCell_cell _ c _ (by simpa using hc), State.updCell_cell s c _ hc]

theorem State.episodes_kept (s : State) (c : Nat) : CellsKept Cell.settled κ s (s.episodes c) :=
  ((CellsKept.when s _ (.record ..)).trans (.when _ _ (.record ..))).trans (.updCell _ c fun _ => rfl)

theorem State.warnCell_kept (s : State) (c : Nat) : CellsKept Cell.settled κ s (s.warnCell c) := by
  unfold State.warnCell
  dsimp only
  split
  · split
    · refine .trans ?_ (.record ..)
      exact .updCell s c fun _ => rfl
    · split
      · exact .updCell s c fun _ => rfl
      · exact .refl s
  · exact .refl s

theorem State.refreshIrail_kept (s : State) (p : Nat) : CellsKept φ κ s (s.refreshIrail p) := by
  unfold State.refreshIrail
  split
  · exact .refl s
  · exact .of_eq rfl rfl rfl

theorem State.conPart_kept (s : State) (c part : Nat) (d : BitVec 24) : CellsKept φ κ s (s.conPart c part d) := by
  obtain ⟨con1, h⟩ := s.conPart_eq c part d
  rw [h]
  exact .of_eq rfl rfl rfl

theorem State.marked_kept {κ : Link → β} (s : State) (c : Nat) (f : BitVec 56)
    (hκ : ∀ k, κ { k with ffltClean := false } = κ k) : CellsKept Cell.settled κ s (s.marked c f) := by
  unfold State.marked
  refine .trans ?_ (.when _ _ (State.conPart_kept ..))
  refine .trans ?_ (State.refreshIrail_kept _ _)
  refine .trans ?_ (State.warnCell_kept _ c)
  refine .trans ?_ (State.episodes_kept _ c)
  refine .trans ?_ (.when _ _ (.updLink _ _ hκ))
  exact .when s _ (.updCell s c fun _ => rfl)

theorem CellsKept.commandCell (s : State) (cls c : Nat) (f : DownFrame)
    (hφ : ∀ (x : Cell) (g : DownFrame), φ { x with seq := g.seq, outstanding := some g, attempt := 0, sentAt := none } = φ x)
    (hκ : ∀ (k : Link) (q : List (Nat × DownFrame)), κ { k with queue := q } = κ k) : CellsKept φ κ s (s.commandCell cls c f) := by
  unfold State.commandCell State.queueFrame
  refine .trans ?_ (.updLink _ _ fun k => hκ k _)
  exact .updCell s c fun x => hφ x _

end Kept

section Frame
variable {s : State} {c : Nat} {f : BitVec 56}

/-- A good frame with no command to check leaves the values that it gave. -/
theorem State.goodFrame_unchecked (h : s.checkable c = none) : s.goodFrame c f = (s.valued c f).marked c f := by
  have hkept := (State.valued_kept (κ := Link.checks) s c f).trans (State.marked_kept _ c f fun _ => rfl).command
  rw [State.goodFrame_eq, hkept.checkable, h]

/-- What a telemetry frame brings: by its flag 7 the temperature or the peak (Table 8.3). -/
def CarriesTelemetry (f : BitVec 56) (state : CellState) (x : Cell) : Prop :=
  x.iavg = signed 12 (upByte f 2 * 16 + upByte f 3 / 16) ∧ x.flags = BitVec.ofNat 8 (upByte f 5) ∧ x.age = 0 ∧
    x.goodNow = true ∧ x.state = state ∧
    (bit (upByte f 5) 7 = false → x.ipeak = upByte f 3 % 16 * 256 + upByte f 4) ∧
    (bit (upByte f 5) 7 = true → x.temp = BitVec.ofNat 10 (upByte f 3 % 16 * 256 + upByte f 4))

theorem Cell.carries_telemetry (x : Cell) (f : BitVec 56) (h : x.goodNow = true) : CarriesTelemetry f x.state (x.telemetry f) := by
  unfold CarriesTelemetry Cell.telemetry
  dsimp only
  cases h7 : bit (upByte f 5) 7 <;> simp [h]

theorem CarriesTelemetry.settled {state : CellState} {x y : Cell} (h : CarriesTelemetry f state y) (hxy : x.settled = y.settled) :
    CarriesTelemetry f state x := by
  obtain ⟨hiavg, hflags, hage, hgood, hstate, hpeak, htemp⟩ := h
  exact ⟨(congrArg Cell.iavg hxy).trans hiavg, (congrArg Cell.flags hxy).trans hflags, (congrArg Cell.age hxy).trans hage,
    (congrArg Cell.goodNow hxy).trans hgood, (congrArg Cell.state hxy).trans hstate,
    fun h7 => (congrArg Cell.ipeak hxy).trans (hpeak h7), fun h7 => (congrArg Cell.temp hxy).trans (htemp h7)⟩

/-- What a telemetry frame brings stands in the cell after the frame. -/
theorem State.goodFrame_values (hc : c < s.cells.length) (hreply : bit (upByte f 1) 6 = false) (h : s.checkable c = none) :
    CarriesTelemetry f (s.cell c).state ((s.goodFrame c f).cell c) := by
  have htel : ((s.goodFrame c f).cell c).settled = (({ s.cell c with goodNow := true } : Cell).telemetry f).settled := by
    rw [State.goodFrame_unchecked h, (State.marked_kept (κ := Link.checks) _ c f fun _ => rfl).cell c, State.valued_cell hc hreply]
  exact (Cell.carries_telemetry { s.cell c with goodNow := true } f rfl).settled htel

/-- The state and the mode of a cell. -/
def Cell.stateMode (x : Cell) : CellState × BitVec 2 := (x.state, x.mode)

theorem State.nextCommand_kept (s : State) (c : Nat) : CellsKept Cell.stateMode Link.checks s (s.nextCommand c) := by
  have hend := CellsKept.updCell (φ := Cell.stateMode) (κ := Link.checks) s c
    (f := fun x => { x with outstanding := none, attempt := 0, queue := (s.cell c).queue.drop 1 }) fun _ => rfl
  unfold State.nextCommand
  dsimp only
  split
  · exact hend
  · exact hend.trans (.commandCell _ _ c _ (fun _ _ => rfl) fun _ _ => rfl)

/-- A cell that runs still runs once it is configured. -/
theorem State.configured_running (hc : c < s.cells.length) (hrun : (s.cell c).state = .running) :
    ((s.configured c).cell c).stateMode = (.running, (s.cell c).mode) := by
  unfold State.configured
  dsimp only
  rw [(CellsKept.when (φ := Cell.stateMode) (κ := Link.checks) _ _ (.record ..)).cell c, State.updCell_cell s c _ hc, hrun]
  rfl

/-- The acknowledgement of SET_MODE RUN at the first attempt makes a CONFIGURED cell RUNNING (Table 8.8). -/
theorem State.passCheck_run {cmd : DownFrame} (hc : c < s.cells.length) (hcode : cmd.code = 4)
    (hmode : cmd.data.toNat / 65536 % 4 = 0) (hfirst : (s.cell c).attempt = 0) (hconf : (s.cell c).state = .configured) :
    ((s.passCheck c cmd).cell c).stateMode = (.running, 0) := by
  have hchk : (s.cell c).checked cmd = { s.cell c with mode := 0, state := .running } := by
    simp [Cell.checked, hcode, hmode, hconf]
  have hx : (s.updCell c fun x => x.checked cmd).cell c = { s.cell c with mode := 0, state := .running } := by
    rw [State.updCell_cell s c _ hc, hchk]
  have hnext := State.nextCommand_kept (s.updCell c fun x => x.checked cmd) c
  have hstate : (((s.updCell c fun x => x.checked cmd).nextCommand c).cell c).stateMode = (.running, 0) := by
    rw [hnext.cell c, hx]; rfl
  have hrun : (((s.updCell c fun x => x.checked cmd).nextCommand c).cell c).state = .running := congrArg Prod.fst hstate
  have hlen : c < ((s.updCell c fun x => x.checked cmd).nextCommand c).cells.length := by
    rw [hnext.length]; simpa using hc
  unfold State.passCheck
  simp only [hfirst, hcode, State.when, bne_self_eq_false, Bool.false_eq_true, if_false, hx,
    show ((4 : BitVec 5) == 9) = false from rfl, show (CellState.running == CellState.silent) = false from rfl, Bool.false_and]
  split
  · rw [State.configured_running hlen hrun]
    exact congrArg (CellState.running, ·) (congrArg Prod.snd hstate)
  · exact hstate

theorem State.goodFrame_run {cmd : DownFrame} (hc : c < s.cells.length) (hcmd : s.checkable c = some cmd) (hcode : cmd.code = 4)
    (hmode : cmd.data.toNat / 65536 % 4 = 0) (hfirst : (s.cell c).attempt = 0) (hconf : (s.cell c).state = .configured)
    (hecho : bit (upByte f 1) 7 = cmd.seq) :
    ((s.goodFrame c f).cell c).stateMode = (.running, 0) := by
  have hkept := (State.valued_kept (κ := Link.checks) s c f).trans (State.marked_kept _ c f fun _ => rfl).command
  have hgood : s.goodFrame c f = ((s.valued c f).marked c f).passCheck c cmd := by
    rw [State.goodFrame_eq, hkept.checkable, hcmd]
    simp [hecho, replyOk, hcode]
  rw [hgood]
  exact State.passCheck_run (by rw [hkept.length]; exact hc) hcode hmode ((hkept.attempt c).trans hfirst) ((hkept.state c).trans hconf)

end Frame

/-! ### A bad or absent frame -/

section Bad
variable {s : State} {c : Nat}

/-- The state in which a bad or absent frame is checked: the frame is counted, and the cell is marked. -/
def State.badNoted (s : State) (c : Nat) : State :=
  ((s.conIdGap c).updCell c fun x => { x with badNow := true, skipped := true }).updLink (cellLink c)
    fun k => { k with badCells := k.badCells + 1, badLive := k.badLive + b2n ((s.cell c).state != .silent) }

theorem State.badNoted_kept (s : State) (c : Nat) : CellsKept Cell.command Link.checks s (s.badNoted c) := by
  obtain ⟨con1, h⟩ := s.conIdGap_eq c
  have hcon : CellsKept Cell.command Link.checks s (s.conIdGap c) := by rw [h]; exact .of_eq rfl rfl rfl
  unfold State.badNoted
  refine .trans ?_ (.updLink _ _ fun _ => rfl)
  refine .trans hcon ?_
  exact .updCell _ c fun _ => rfl

theorem State.badNoted_cell (hc : c < s.cells.length) :
    (s.badNoted c).cell c = { s.cell c with badNow := true, skipped := true } := by
  obtain ⟨con1, h⟩ := s.conIdGap_eq c
  have hlen : c < (s.conIdGap c).cells.length := by rw [h]; exact hc
  exact (State.updCell_cell (s.conIdGap c) c _ hlen).trans (by rw [h]; rfl)

theorem State.badNoted_link (hl : cellLink c < s.links.length) :
    ((s.badNoted c).link (cellLink c)).badCells = (s.link (cellLink c)).badCells + 1 := by
  obtain ⟨con1, h⟩ := s.conIdGap_eq c
  have hlen : cellLink c < ((s.conIdGap c).updCell c fun x => { x with badNow := true, skipped := true }).links.length := by
    rw [h]; exact hl
  rw [State.badNoted, State.updLink_link _ _ _ hlen, h]
  rfl

/-- What a second attempt leaves of a cell. -/
def Cell.badMarks (x : Cell) : CellState × Bool × Bool := (x.state, x.badNow, x.skipped)

theorem State.unsend_kept (s : State) (c : Nat) : CellsKept Cell.badMarks Link.badCells s (s.unsend c) := by
  unfold State.unsend
  split
  · refine .trans ?_ (.updCell _ c fun _ => rfl)
    exact .updLink s _ fun _ => rfl
  · exact .refl s

/-- A second attempt repeats the command or asks for the status; the cell keeps its state (R232). -/
theorem State.secondAttempt_attempt (hc : c < s.cells.length) (frame : Bool) :
    ((s.secondAttempt c frame).cell c).attempt ≠ 0 ∧ CellsKept Cell.badMarks Link.badCells s (s.secondAttempt c frame) := by
  have hfault := (CellsKept.faultOn (φ := Cell.badMarks) (κ := Link.badCells) s .cellFrame c false).trans
    (.updCell _ c (f := fun x => { x with retryFrame := frame }) fun _ => rfl)
  unfold State.secondAttempt
  dsimp only
  split
  case h_1 =>
    have hsent := hfault.trans (.updCell _ c (f := fun x => { x with attempt := 1, sentAt := none }) fun _ => rfl)
    have hcell := State.updCell_cell ((s.faultOn .cellFrame c false).updCell c fun x => { x with retryFrame := frame }) c
      (fun x => { x with attempt := 1, sentAt := none }) (by rw [hfault.length]; exact hc)
    exact ⟨ne_of_eq_of_ne (congrArg Cell.attempt hcell) Nat.one_ne_zero, hsent.trans (.updLink _ _ fun _ => rfl)⟩
  case h_2 =>
    have hask := (hfault.trans (State.unsend_kept _ c)).trans
      (CellsKept.commandCell _ 2 c (statusFrame c) (fun _ _ => rfl) fun _ _ => rfl)
    refine ⟨?_, hask.trans (.updCell _ c fun _ => rfl)⟩
    rw [State.updCell_cell _ c _ (by rw [hask.length]; exact hc)]
    exact Nat.succ_ne_zero _

/-- A list of distinct elements has at most one more that satisfies a predicate which changed at one element. -/
theorem length_filter_le_succ {l : List Nat} (hl : l.Nodup) (p q : Nat → Bool) (h : ∀ k, k ≠ c → q k = p k) :
    (l.filter q).length ≤ (l.filter p).length + 1 := by
  have hcount : ∀ l : List Nat, (l.filter q).length ≤ (l.filter p).length + l.count c := by
    intro l
    induction l with
    | nil => simp
    | cons k l ih =>
      by_cases hk : k = c
      · subst hk
        have hp : (l.filter p).length ≤ ((k :: l).filter p).length := (List.sublist_cons_self k l).filter p |>.length_le
        have hq : ((k :: l).filter q).length ≤ (l.filter q).length + 1 := by
          rw [List.filter_cons]; split <;> simp
        rw [List.count_cons_self]
        omega
      · rw [List.filter_cons, List.filter_cons, h k hk, List.count_cons_of_ne hk]
        split
        · simpa using Nat.add_le_add_right ih 1 |>.trans_eq (by omega)
        · exact ih
  exact (hcount l).trans (Nat.add_le_add_left (List.nodup_iff_count_le_one.1 hl c) _)

theorem linkCells_nodup (l : Nat) : (linkCells l).Nodup :=
  List.nodup_range.map fun _ _ h => Nat.add_left_cancel h

/-- A SILENT cell loses its commands, also the one that was sent; the cells else stay. -/
theorem State.dropCommands_silent (hs : (s.cell c).state = .silent) : ∃ con1 links1, s.dropCommands c =
    { s.updCell c (fun x => { x with
      seq := if x.outstanding.isSome && !x.wasSent then !x.seq else x.seq,
      outstanding := none, attempt := 0, queue := [], senseCheck := none }) with con := con1, links := links1 } := by
  obtain ⟨con1, h1⟩ := s.conLoopback_eq c false
  obtain ⟨con2, h2⟩ := (s.conLoopback c false).conIdFail_eq c
  have hcon : (s.conLoopback c false).conIdFail c = { s with con := con2 } := by rw [h2, h1]
  have hkeep : ((({ s with con := con2 } : State).cell c).wasSent && (({ s with con := con2 } : State).cell c).state != .silent) = false := by
    rw [show (({ s with con := con2 } : State).cell c).state = .silent from hs, show (CellState.silent != .silent) = false from rfl,
      Bool.and_false]
  unfold State.dropCommands
  rw [hcon]
  dsimp only
  rw [hkeep]
  exact ⟨_, _, rfl⟩

/-- The cell that is SILENT from now on, without its commands. -/
def State.muted (s : State) (c : Nat) : State :=
  (s.updCell c fun x => { x with state := .silent, prior := x.state, silentAt := s.clock.tick, configuring := false }).dropCommands c

/-- The state in which the silence of a cell is declared (R230, R231). -/
def State.silenced (s : State) (c : Nat) : State :=
  let s := ((s.muted c).faultOn .cellFrame c true).record 0x3020 c 3 (cellPhase c)
  match s.cellRail c with
  | some n => s.setOther n
  | none => s

/-- A working cell falls SILENT with a lasting fault; its link stays unless four cells are SILENT (R244). -/
theorem State.silence_eq (hl : s.linkFault (cellLink c) = false) (hh : (s.cell c).healthy = true)
    (hcount : (s.silenced c).silentCount (cellLink c) < 4) : s.silence c = s.silenced c := by
  unfold State.silence
  simp only [hl, hh, Bool.false_eq_true, if_false, Bool.true_or, if_true]
  exact if_neg (Nat.not_le.2 hcount)

theorem State.muted_cell (hc : c < s.cells.length) :
    ((s.muted c).cell c).state = .silent ∧ ((s.muted c).cell c).outstanding = none ∧
      ∀ k, k ≠ c → (s.muted c).cell k = s.cell k := by
  have hcell := State.updCell_cell s c (fun x => { x with state := .silent, prior := x.state, silentAt := s.clock.tick, configuring := false }) hc
  obtain ⟨con1, links1, h⟩ := State.dropCommands_silent (congrArg Cell.state hcell)
  have hlen : c < (s.updCell c fun x => { x with state := .silent, prior := x.state, silentAt := s.clock.tick, configuring := false }).cells.length := by
    simpa using hc
  rw [State.muted, h]
  refine ⟨?_, ?_, fun k hk => ?_⟩
  · exact (congrArg Cell.state (State.updCell_cell _ c _ hlen)).trans (congrArg Cell.state hcell)
  · exact congrArg Cell.outstanding (State.updCell_cell _ c _ hlen)
  · exact (State.updCell_cell_ne _ c k _ (Ne.symm hk)).trans (State.updCell_cell_ne s c k _ (Ne.symm hk))

theorem State.silenced_kept (s : State) (c : Nat) : CellsKept φ κ (s.muted c) (s.silenced c) := by
  have hrec := (CellsKept.faultOn (φ := φ) (κ := κ) (s.muted c) .cellFrame c true).trans (.record _ 0x3020 c 3 (cellPhase c))
  unfold State.silenced
  dsimp only
  split
  · exact hrec.trans (.of_eq rfl rfl rfl)
  · exact hrec

/-- The declaration of silence adds at most one to the SILENT cells of a link. -/
theorem State.silenced_count (hc : c < s.cells.length) (l : Nat) : (s.silenced c).silentCount l ≤ s.silentCount l + 1 := by
  refine length_filter_le_succ (c := c) (linkCells_nodup l) _ _ fun k hk => ?_
  have hcell := (State.silenced_kept (φ := Cell.state) (κ := Link.checks) s c).cell k
  rw [hcell, (State.muted_cell hc).2.2 k hk]

theorem State.silenced_fault (s : State) (c : Nat) :
    ∃ e ∈ (s.silenced c).input.faults, e.kind = .cellFrame ∧ e.idx = c ∧ e.lasting = true := by
  have hfaults : (s.silenced c).input.faults = (s.muted c).faultsWith .cellFrame c true := by
    unfold State.silenced
    rw [State.record_sketch_only, State.faultOn_eq]
    dsimp only
    split <;> rfl
  rw [hfaults]
  exact ⟨_, List.mem_append_right _ (List.mem_singleton_self _), rfl, rfl, rfl⟩

/-! ### A failed check -/

section Fails
variable (hlink : s.linkFault (cellLink c) = false) (hsus : s.clock.suspendLinks = false) (hheld : (s.link (cellLink c)).fdHeld = false)
include hlink hsus hheld

theorem State.failCheck_first (hh : (s.cell c).healthy = true) (h0 : (s.cell c).attempt = 0) (frame : Bool) :
    s.failCheck c frame = s.secondAttempt c frame := by
  simp [State.failCheck, hlink, hsus, hheld, h0, hh]

theorem State.failCheck_unchecked (h0 : (s.cell c).attempt ≠ 0) (h : s.checkable c = none) (frame : Bool) : s.failCheck c frame = s := by
  simp [State.failCheck, hlink, hsus, hheld, h0, h]

theorem State.failCheck_second (hh : (s.cell c).healthy = true) (h0 : (s.cell c).attempt ≠ 0) (h : (s.checkable c).isSome = true)
    (hsense : (s.cell c).senseCheck = none) (hc : c < s.cells.length) (hcount : s.silentCount (cellLink c) < 3) (frame : Bool) :
    s.failCheck c frame = s.silenced c := by
  have hnone : (s.checkable c).isNone = false := by
    rw [Option.isNone_eq_false_iff]; exact h
  rw [← State.silence_eq hlink hh ((State.silenced_count hc _).trans_lt (Nat.succ_lt_succ hcount))]
  simp [State.failCheck, State.when, hlink, hsus, hheld, h0, hnone, hsense]

end Fails
end Bad

/-! ### A frame in its slot -/

section Slot
variable {s : State} {c : Nat} {r : SlotFrame}

theorem State.takeSlot_good {f : BitVec 56} (hpresent : (s.cell c).state ≠ .absent) : s.takeSlot c (.good f) = s.goodFrame c f := by
  simp [State.takeSlot, State.when, hpresent]

/-- An ABSENT cell number is not heard outside a discovery (R227). -/
theorem State.takeSlot_absent (hno : s.takesReplies c = false) (habsent : (s.cell c).state = .absent) : s.takeSlot c r = s := by
  simp only [State.takeSlot, State.when, hno, Bool.and_false, Bool.false_eq_true, if_false, habsent, beq_self_eq_true, if_true]
  split
  · simp [State.keepPart, hno]
  · rfl

/-- The state in which a frame that is not good is counted: a collision is kept during a discovery (R238). -/
def State.clashed (s : State) (c : Nat) (r : SlotFrame) : State :=
  s.when (r == .bad && s.takesReplies c) fun s => s.updCell c fun x => { x with collided := true }

theorem State.clashed_kept (s : State) (c : Nat) (r : SlotFrame) : CellsKept Cell.command κ s (s.clashed c r) :=
  .when s _ (.updCell s c fun _ => rfl)

theorem State.takeSlot_notGood (hpresent : (s.cell c).state ≠ .absent) (hbad : ∀ f, r ≠ .good f) :
    s.takeSlot c r = ((s.clashed c r).badNoted c).failCheck c true := by
  have hstate : ((s.clashed c r).cell c).state ≠ .absent := by
    rw [(State.clashed_kept (κ := Link.checks) s c r).state]; exact hpresent
  cases r with
  | good f => exact absurd rfl (hbad f)
  | absent | bad => exact if_neg fun h => hstate (beq_iff_eq.1 h)

/-- The cell and the link once a frame that is not good is counted. -/
theorem State.clashed_badNoted (hc : c < s.cells.length) (hl : cellLink c < s.links.length) :
    CellsKept Cell.command Link.checks s ((s.clashed c r).badNoted c) ∧
      (((s.clashed c r).badNoted c).cell c).badMarks = ((s.cell c).state, true, true) ∧
      (((s.clashed c r).badNoted c).link (cellLink c)).badCells = (s.link (cellLink c)).badCells + 1 := by
  have hkept := State.clashed_kept (κ := id) s c r
  have hlinks : (s.clashed c r).links = s.links := by
    unfold State.clashed State.when
    split <;> rfl
  refine ⟨(State.clashed_kept s c r).trans (State.badNoted_kept _ c), ?_, ?_⟩
  · rw [State.badNoted_cell (by rw [hkept.length]; exact hc)]
    exact congrArg (·, true, true) (State.clashed_kept (κ := Link.checks) s c r |>.state c)
  · rw [State.badNoted_link (by rw [hlinks]; exact hl)]
    exact congrArg (·.badCells + 1) (hkept.link _)

section NotGood
variable (hc : c < s.cells.length) (hl : cellLink c < s.links.length) (hpresent : (s.cell c).state ≠ .absent) (hbad : ∀ f, r ≠ .good f)
  (hlink : s.linkFault (cellLink c) = false) (hheld : (s.link (cellLink c)).fdHeld = false) (hsus : s.clock.suspendLinks = false)
include hc hl hpresent hbad hlink hheld hsus

/-- A bad or absent frame is followed by a second attempt (R232). -/
theorem State.takeSlot_firstBad (hh : (s.cell c).healthy = true) (h0 : (s.cell c).attempt = 0) :
    ((s.takeSlot c r).cell c).attempt ≠ 0 ∧ ((s.takeSlot c r).cell c).badMarks = ((s.cell c).state, true, true) ∧
      ((s.takeSlot c r).link (cellLink c)).badCells = (s.link (cellLink c)).badCells + 1 := by
  obtain ⟨hkept, hmarks, hcount⟩ := State.clashed_badNoted (r := r) hc hl
  obtain ⟨hattempt, hsecond⟩ := State.secondAttempt_attempt (s := (s.clashed c r).badNoted c) (by rw [hkept.length]; exact hc) true
  rw [State.takeSlot_notGood hpresent hbad, State.failCheck_first ((hkept.linkFault _).trans hlink)
    ((congrArg Clock.suspendLinks hkept.clock).trans hsus) ((hkept.fdHeld _).trans hheld) ((hkept.healthy c).trans hh)
    ((hkept.attempt c).trans h0)]
  exact ⟨hattempt, (hsecond.cell c).trans hmarks, (hsecond.link _).trans hcount⟩

/-- While the second attempt may not be checked, a bad frame leaves its command as it is. -/
theorem State.takeSlot_uncheckedBad (h0 : (s.cell c).attempt ≠ 0) (hno : s.checkable c = none) :
    ((s.takeSlot c r).cell c).command = (s.cell c).command := by
  obtain ⟨hkept, -, -⟩ := State.clashed_badNoted (r := r) hc hl
  rw [State.takeSlot_notGood hpresent hbad, State.failCheck_unchecked ((hkept.linkFault _).trans hlink)
    ((congrArg Clock.suspendLinks hkept.clock).trans hsus) ((hkept.fdHeld _).trans hheld) (by rw [hkept.attempt c]; exact h0)
    ((hkept.checkable c).trans hno)]
  exact hkept.cell c

/-- The failure of the second attempt makes the cell SILENT with a lasting fault (R232). -/
theorem State.takeSlot_secondBad (hh : (s.cell c).healthy = true) (h0 : (s.cell c).attempt ≠ 0)
    (hcheck : (s.checkable c).isSome = true) (hsense : (s.cell c).senseCheck = none) (hcount : s.silentCount (cellLink c) < 3) :
    ((s.takeSlot c r).cell c).state = .silent ∧ ((s.takeSlot c r).cell c).outstanding = none ∧
      ∃ e ∈ (s.takeSlot c r).input.faults, e.kind = .cellFrame ∧ e.idx = c ∧ e.lasting = true := by
  obtain ⟨hkept, -, -⟩ := State.clashed_badNoted (r := r) hc hl
  have hlen : c < ((s.clashed c r).badNoted c).cells.length := by rw [hkept.length]; exact hc
  rw [State.takeSlot_notGood hpresent hbad, State.failCheck_second ((hkept.linkFault _).trans hlink)
    ((congrArg Clock.suspendLinks hkept.clock).trans hsus) ((hkept.fdHeld _).trans hheld) ((hkept.healthy c).trans hh)
    (by rw [hkept.attempt c]; exact h0) (by rw [hkept.checkable c]; exact hcheck) ((hkept.senseCheck c).trans hsense) hlen
    (by rw [hkept.silentCount]; exact hcount)]
  obtain ⟨hsilent, hnone, -⟩ := State.muted_cell hlen
  have hcell := (State.silenced_kept (φ := fun x => (x.state, x.outstanding)) (κ := Link.checks) ((s.clashed c r).badNoted c) c).cell c
  exact ⟨(congrArg Prod.fst hcell).trans hsilent, (congrArg Prod.snd hcell).trans hnone, State.silenced_fault _ c⟩

end NotGood
end Slot

section Arrives
variable {s : State}

theorem cellLink_slot (link : Fin 16) (slot : Fin 64) : cellLink (64 * link.val + slot.val) = link.val := by
  unfold cellLink; omega

/-- Without a LOOP clock a frame waits in the FIFO of its link (R16). -/
theorem exec_upstreamFrame_waits {link : Fin 16} (slot : Fin 64) (bits : List Bool) (hon : s.pins.fuOn = true)
    (hno : s.clock.loopPresent = false) : exec (.upstreamFrame link slot bits) s =
      .next (s.updLink link fun k => { k with rx := (k.rx ++ [(slot.val, bits)]).take 4 }).judge := by
  change execUpstreamFrame link slot bits s = _
  unfold execUpstreamFrame
  simp only [hon, Bool.not_true, Bool.false_eq_true, if_false, State.updLink_clock, hno]
  rfl

/-- A frame that waits alone in the FIFO leaves it as it was. -/
theorem State.updLink_drained (s : State) (l : Nat) (x : Nat × List Bool) (hrx : (s.link l).rx = []) :
    (s.updLink l fun k => { k with rx := (k.rx ++ [x]).take 4 }).updLink l (fun k => { k with rx := [] }) = s := by
  have hlinks : (s.links.modify l fun k => { k with rx := (k.rx ++ [x]).take 4 }).modify l (fun k => { k with rx := [] }) = s.links := by
    refine List.ext_getElem? fun i => ?_
    rw [List.modify_modify_eq, List.getElem?_modify]
    split
    · subst l
      cases hk : s.links[i]? with
      | none => rfl
      | some k =>
        have hrxk : k.rx = [] := by simpa [State.link, List.getD, hk] using hrx
        exact congrArg some (show { k with rx := [] } = k from hrxk ▸ rfl)
    · exact id_map _
  exact congrArg (fun links => { s with links := links }) hlinks

/-- With a LOOP clock and nothing in the FIFO, a frame is taken at once. -/
theorem exec_upstreamFrame_taken {link : Fin 16} (slot : Fin 64) (bits : List Bool) (hon : s.pins.fuOn = true)
    (hloop : s.clock.loopPresent = true) (hlen : s.links.length = 16) (hrx : (s.link link).rx = []) :
    exec (.upstreamFrame link slot bits) s = .next (s.takeSlot (64 * link.val + slot.val) (receive bits)).judge := by
  have hfifo : ((s.updLink link fun k => { k with rx := (k.rx ++ [(slot.val, bits)]).take 4 }).link link).rx = [(slot.val, bits)] := by
    rw [State.updLink_link _ _ _ (by omega), hrx]; rfl
  change execUpstreamFrame link slot bits s = _
  unfold execUpstreamFrame
  simp only [hon, Bool.not_true, Bool.false_eq_true, if_false, State.updLink_clock, hloop, if_true]
  unfold State.drainLink
  dsimp only
  rw [hfifo, s.updLink_drained link (slot.val, bits) hrx]
  rfl

end Arrives

/-- Settles O43: the frame is taken in its slot; a good frame keeps all that the check looks at, and a bad one goes through
the second attempt to silence. -/
theorem upstreamFramesUpdateTheCell : Obligations.UpstreamFramesUpdateTheCell := by
  unfold Obligations.UpstreamFramesUpdateTheCell
  intro link slot bits s hs hon hrx
  obtain ⟨-, -, -, hcells, hlinks, -⟩ := hs
  have hslot := cellLink_slot link slot
  dsimp only
  have hc : 64 * link.val + slot.val < s.cells.length := by omega
  have hl : cellLink (64 * link.val + slot.val) < s.links.length := by omega
  have htaken := exec_upstreamFrame_taken slot bits hon (link := link)
  refine ⟨fun hno => ?_, fun hloop habsent hreplies => ?_, fun hloop hpresent => ⟨?_, ?_, ?_⟩⟩
  · refine ⟨_, exec_upstreamFrame_waits slot bits hon hno, ?_, ?_⟩
    · rw [State.link, State.judge_links]
      exact (congrArg Link.rx (State.updLink_link s link _ (by omega))).trans (by rw [hrx]; rfl)
    · obtain ⟨r, b, h⟩ := (s.updLink link fun k => { k with rx := (k.rx ++ [(slot.val, bits)]).take 4 }).judge_eq
      rw [h]; rfl
  · refine ⟨_, htaken hloop hlinks hrx, ?_⟩
    rw [State.takeSlot_absent hreplies habsent]
    simp [State.link]
  · intro f hf hreply hno
    refine ⟨_, htaken hloop hlinks hrx, ?_⟩
    rw [State.judge_cell, hf, State.takeSlot_good hpresent]
    exact State.goodFrame_values hc hreply hno
  · intro f cmd hf hcmd hcode hmode hfirst hconf hecho
    refine ⟨_, htaken hloop hlinks hrx, ?_⟩
    have hrun := State.goodFrame_run hc hcmd hcode hmode hfirst hconf hecho
    rw [State.judge_cell, hf, State.takeSlot_good hpresent]
    exact ⟨congrArg Prod.fst hrun, congrArg Prod.snd hrun⟩
  · intro hbad hlink hheld hsus hh hsense
    rw [← hslot] at hlink hheld
    refine ⟨fun h0 => ⟨_, htaken hloop hlinks hrx, ?_⟩, fun h0 hno => ⟨_, htaken hloop hlinks hrx, ?_⟩,
      fun h0 hcheck hcount => ⟨_, htaken hloop hlinks hrx, ?_⟩⟩
    · obtain ⟨h1, hmarks, h2⟩ := State.takeSlot_firstBad hc hl hpresent hbad hlink hheld hsus hh h0
      rw [State.judge_cell]
      refine ⟨h1, congrArg Prod.fst hmarks, congrArg (·.2.1) hmarks, congrArg (·.2.2) hmarks, ?_⟩
      rw [State.link, State.judge_links]
      rwa [hslot] at h2
    · have hcmd := State.takeSlot_uncheckedBad hc hl hpresent hbad hlink hheld hsus h0 hno
      rw [State.judge_cell]
      exact ⟨congrArg Prod.fst hcmd, congrArg (·.2.1) hcmd, congrArg (·.2.2.2.1) hcmd⟩
    · rw [State.judge_cell, State.judge_input]
      exact State.takeSlot_secondBad hc hl hpresent hbad hlink hheld hsus hh h0 hcheck hsense (by rw [hslot]; exact hcount)

end Sys2Proof.Machine
end

/-! SUPPORT. The warm chip restart: what its beginning and its end change. -/

section
namespace Sys2Proof.Machine

/-! ### The beginning -/

/-- What a warm chip restart does to the RM: it goes down, or stays in reset where it was held there. -/
def State.warmRm (s : State) (resume : Bool) : PairState :=
  if s.rm.run != .heldReset || resume then s.rm.afterReset .restarting (s.wdTimeout .rm) else s.rm

def State.warmHm (s : State) : PairState :=
  if s.hm.run != .heldReset then s.hm.afterReset .restarting (s.wdTimeout .hm) else s.hm

theorem State.warmRm_eq (s : State) (resume : Bool) : ∃ cross1 chans1,
    (if s.rm.run != .heldReset || resume then s.downPair .rm else s.advanceEpoch .rm) = { s with
      cross := cross1, rm := s.warmRm resume
      mail := { s.mail with epRm := s.mail.epRm + 1, chans := chans1 } } := by
  unfold State.warmRm
  split <;> exact ⟨_, _, rfl⟩

theorem State.warmHm_eq (s : State) : ∃ work1 chans1,
    (if s.hm.run != .heldReset then s.downPair .hm else s.advanceEpoch .hm) = { s with
      work := work1, hm := s.warmHm
      mail := { s.mail with epHm := s.mail.epHm + 1, chans := chans1 } } := by
  unfold State.warmHm
  split <;> exact ⟨_, _, rfl⟩

/-- Both pairs go down, and both epochs advance (R399). -/
def State.warmDown (s : State) (resume : Bool) : State :=
  let s := if s.rm.run != .heldReset || resume then s.downPair .rm else s.advanceEpoch .rm
  if s.hm.run != .heldReset then s.downPair .hm else s.advanceEpoch .hm

theorem State.warmDown_eq (s : State) (resume : Bool) : ∃ cross1 work1 chans1, s.warmDown resume = { s with
    cross := cross1, work := work1, rm := s.warmRm resume, hm := s.warmHm
    mail := { s.mail with epRm := s.mail.epRm + 1, epHm := s.mail.epHm + 1, chans := chans1 } } := by
  obtain ⟨cross1, chans1, hrm⟩ := s.warmRm_eq resume
  obtain ⟨work1, chans2, hhm⟩ := State.warmHm_eq { s with
    cross := cross1, rm := s.warmRm resume, mail := { s.mail with epRm := s.mail.epRm + 1, chans := chans1 } }
  refine ⟨cross1, work1, chans2, ?_⟩
  rw [State.warmDown, hrm]
  exact hhm

/-- What a warm chip restart does once the pairs are down: of a rail it resets the LE only (Table 1.6). -/
def State.warmed (s : State) (cause : BitVec 4) (cut : Option CutXfer) : State :=
  let s := s.mapRails fun _ r => { r with le := r.le.warm }
  let s := { s with cross := { s.cross with toLoop := [] } }
  let s := { s with ret := { s.ret with
    kind := 1, cause := cause, warm := BitVec.ofNat 16 (satAdd 65535 s.ret.warm.toNat 1) } }
  ({ s with safe := { s.safe with warm := some cause } }).cutBus cut

theorem State.beginWarm_def (s : State) (cause : BitVec 4) (resume : Bool) (cut : Option CutXfer) : s.beginWarm cause resume cut =
    ((({ s with sketch := s.sketch.closeOpen } : State).cutSession.warmDown resume).warmed cause cut) := rfl

theorem State.warmed_eq (s : State) (cause : BitVec 4) (cut : Option CutXfer) : ∃ cross1 bus1, s.warmed cause cut = { s with
      cross := cross1, bus := bus1
      rails := s.rails.mapIdx fun _ r => { r with le := r.le.warm }
      ret := { s.ret with kind := 1, cause := cause, warm := BitVec.ofNat 16 (satAdd 65535 s.ret.warm.toNat 1) }
      safe := { s.safe with warm := some cause } } ∧ (cut ≠ none → bus1.cut = true) := by
  obtain ⟨bus1, h, hcut⟩ := State.cutBus_eq { s with
    cross := { s.cross with toLoop := [] }
    rails := s.rails.mapIdx fun _ r => { r with le := r.le.warm }
    ret := { s.ret with kind := 1, cause := cause, warm := BitVec.ofNat 16 (satAdd 65535 s.ret.warm.toNat 1) }
    safe := { s.safe with warm := some cause } } cut
  exact ⟨_, bus1, h, hcut⟩

/-- A warm chip restart takes the pairs down and counts itself. -/
theorem State.beginWarm_eq (s : State) (cause : BitVec 4) (resume : Bool) (cut : Option CutXfer) :
    ∃ phases1 links1 con1 epSvc1 chans1 cross1 work1 bus1, s.beginWarm cause resume cut = { s with
      sketch := s.sketch.closeOpen, phases := phases1, links := links1, con := con1, cross := cross1, work := work1, bus := bus1
      rails := s.rails.mapIdx fun _ r => { r with le := r.le.warm }
      mail := { s.mail with epSvc := epSvc1, epRm := s.mail.epRm + 1, epHm := s.mail.epHm + 1, chans := chans1 }
      rm := s.warmRm resume, hm := s.warmHm
      ret := { s.ret with kind := 1, cause := cause, warm := BitVec.ofNat 16 (satAdd 65535 s.ret.warm.toNat 1) }
      safe := { s.safe with warm := some cause } } ∧
    con1.session = false ∧ (cut ≠ none → bus1.cut = true) := by
  obtain ⟨phases1, links1, con1, epSvc1, chans1, hses, hcon⟩ := ({ s with sketch := s.sketch.closeOpen } : State).cutSession_eq
  obtain ⟨cross1, work1, chans2, hdown⟩ := State.warmDown_eq { s with
    sketch := s.sketch.closeOpen, phases := phases1, links := links1, con := con1
    mail := { s.mail with epSvc := epSvc1, chans := chans1 } } resume
  obtain ⟨cross2, bus1, hwarm, hcut⟩ := State.warmed_eq { s with
    sketch := s.sketch.closeOpen, phases := phases1, links := links1, con := con1, cross := cross1, work := work1
    rm := s.warmRm resume, hm := s.warmHm
    mail := { s.mail with epSvc := epSvc1, epRm := s.mail.epRm + 1, epHm := s.mail.epHm + 1, chans := chans2 } } cause cut
  refine ⟨phases1, links1, con1, epSvc1, chans2, cross2, work1, bus1, ?_, hcon, hcut⟩
  rw [State.beginWarm_def, hses]
  exact (congrArg (State.warmed · cause cut) hdown).trans hwarm

/-! ### The end -/

/-- Where both clocks are there again the switch back is made in the restart (R15); else nothing is. -/
theorem State.backToPll_eq (s : State) : ∃ clock1 input1, s.backToPll = { s with clock := clock1, input := input1 } ∧
    clock1.onBackup = (s.clock.onBackup && !(s.clock.refclk && s.clock.pllReady)) := by
  unfold State.backToPll
  split
  next h => exact ⟨_, _, rfl, by simp_all⟩
  next h =>
    refine ⟨_, _, rfl, ?_⟩
    rw [Bool.not_eq_true, Bool.and_assoc] at h
    cases hb : s.clock.onBackup
    · rfl
    · rw [hb, Bool.true_and] at h
      rw [h]; rfl

theorem State.copyCapture_hm_eq (s : State) : ∃ hm1 ret1, s.copyCapture .hm = { s with hm := hm1, ret := ret1 } := by
  unfold State.copyCapture
  dsimp only
  split
  · exact ⟨_, _, rfl⟩
  · split <;> exact ⟨_, _, rfl⟩

/-- A patch memory that does not match its digest is not used, and counts as a failed authentication (R366). -/
theorem State.bootPatch_hm_eq (s : State) : ∃ romOnly1 pm1 sketch1,
    s.bootPatch .hm = { s with hm := { s.hm with romOnly := romOnly1 }, pm := pm1, sketch := sketch1 } := by
  unfold State.bootPatch State.when
  dsimp only
  split
  · unfold State.authFail
    rw [State.record_sketch_only]
    exact ⟨_, _, _, rfl⟩
  · exact ⟨_, _, _, rfl⟩

/-- The session that a restart cut is recorded once the HM runs again (R477). -/
theorem State.sessionEnd_eq (s : State) : ∃ con1 sketch1, (s.when (Manager.hm == .hm && s.con.endOwed) fun s =>
    ({ s with con := { s.con with endOwed := false } }).record 0xB001 2 0 s.con.sessionNo) = { s with con := con1, sketch := sketch1 } := by
  unfold State.when
  split
  · obtain ⟨k, h⟩ := State.record_eq { s with con := { s.con with endOwed := false } } 0xB001 2 0 s.con.sessionNo
    exact ⟨_, k, h⟩
  · exact ⟨_, _, rfl⟩

/-- The watchdog of the HM starts again where its fuse makes it run from the start (R350). -/
theorem State.watched_hm_eq (s : State) : ∃ wd1 off1, (s.when (s.boot.fuseWdtHw && (s.primed || s.blank)) fun s => s.startWd .hm) =
    { s with hm := { s.hm with wd := wd1, wdOff := off1 } } := by
  unfold State.when
  split <;> exact ⟨_, _, rfl⟩

/-- The HM runs again; rails, pins, shadow and the other pair stay. -/
theorem State.upPair_hm_eq (s : State) : ∃ hm1 ret1 pm1 sketch1 con1 chans1, s.upPair .hm = { s with
    hm := hm1, ret := ret1, pm := pm1, sketch := sketch1, con := con1, mail := { s.mail with chans := chans1 } } ∧
    hm1.run = .running := by
  obtain ⟨hm1, ret1, hcap⟩ := s.copyCapture_hm_eq
  obtain ⟨romOnly1, pm1, sketch1, hpatch⟩ := State.bootPatch_hm_eq { s with
    ret := ret1, hm := { hm1 with run := .running, miscompare := false, expired := false } }
  obtain ⟨con1, sketch2, hend⟩ := State.sessionEnd_eq { s with
    ret := ret1, pm := pm1, sketch := sketch1
    hm := { hm1 with run := .running, miscompare := false, expired := false, romOnly := romOnly1 } }
  have hsends (t : State) := State.pumps_eq (indices 16 fun c => t.sends (mgrIdent .hm) c) t
  obtain ⟨chans1, hpump⟩ := hsends { s with
    ret := ret1, pm := pm1, sketch := sketch2, con := con1
    hm := { hm1 with run := .running, miscompare := false, expired := false, romOnly := romOnly1 } }
  obtain ⟨wd1, off1, hwd⟩ := State.watched_hm_eq { s with
    ret := ret1, pm := pm1, sketch := sketch2, con := con1, mail := { s.mail with chans := chans1 }
    hm := { hm1 with run := .running, miscompare := false, expired := false, romOnly := romOnly1 } }
  refine ⟨_, ret1, pm1, sketch2, con1, chans1, Eq.trans ?_ hwd, rfl⟩
  unfold State.upPair
  rw [hcap]
  dsimp only [State.updMgr]
  rw [hpatch]
  dsimp only at hend hpump ⊢
  rw [hend, hpump]
  rfl

theorem State.when_true (s : State) (f : State → State) : s.when true f = f s := rfl

/-- The end of a warm chip restart before its check: the clock, the HM and the transaction that was cut. -/
def State.revived (s : State) : State :=
  let s := ({ s with safe := { s.safe with warm := none } } : State).backToPll
  let s := s.when (s.hm.run == .restarting) fun s => s.upPair .hm
  let s := s.when s.bus.cut fun s => s.setCml 2
  { s with bus := { s.bus with cut := false } }

/-- The shadow passes the check of a warm chip restart (R81). -/
def State.passesCheck (s : State) : Bool :=
  (!s.boot.imageLoaded || s.boot.dryDigest == sha384 s.dryBytes) &&
    (!s.boot.imageLoaded || s.boot.wetCrc.toNat == crc32 s.committed.wetBytes)

theorem State.revived_eq (s : State) (hhm : s.hm.run = .restarting) :
    ∃ clock1 input1 hm1 ret1 pm1 sketch1 con1 chans1 bus1, s.revived = { s with
      clock := clock1, input := input1, hm := hm1, ret := ret1, pm := pm1, sketch := sketch1, con := con1, bus := bus1
      mail := { s.mail with chans := chans1 }, safe := { s.safe with warm := none } } ∧
    hm1.run = .running ∧ clock1.onBackup = (s.clock.onBackup && !(s.clock.refclk && s.clock.pllReady)) := by
  obtain ⟨clock1, input1, hpll, hclock⟩ := State.backToPll_eq { s with safe := { s.safe with warm := none } }
  obtain ⟨hm1, ret1, pm1, sketch1, con1, chans1, hup, hrun⟩ := State.upPair_hm_eq { s with
    safe := { s.safe with warm := none }, clock := clock1, input := input1 }
  have hcut (t : State) : ∃ pm2, t.when t.bus.cut (fun t => t.setCml 2) = { t with pm := pm2 } := by
    unfold State.when
    split <;> exact ⟨_, rfl⟩
  obtain ⟨pm2, hcml⟩ := hcut { s with
    clock := clock1, input := input1, hm := hm1, ret := ret1, pm := pm1, sketch := sketch1, con := con1
    mail := { s.mail with chans := chans1 }, safe := { s.safe with warm := none } }
  refine ⟨clock1, input1, hm1, ret1, pm2, sketch1, con1, chans1, { s.bus with cut := false }, ?_, hrun, hclock⟩
  unfold State.revived
  rw [hpll]
  dsimp only
  rw [hhm, beq_self_eq_true, State.when_true, hup]
  dsimp only at hcml ⊢
  rw [hcml]

/-- The end of a warm chip restart that passed its check: the LEs are loaded again. -/
def State.warmEnded (s : State) (resume : Bool) : State :=
  (s.forEach (indices 16 fun n => bit s.leMask n) fun s n =>
    (s.loadLe n).updLe n fun l => { l with setFirst := true, setTracked := true }).when resume fun s => { s with safe := Safe.reset }

theorem State.warmEnded_eq (s : State) (resume : Bool) : ∃ rails1, s.warmEnded resume =
    { s with rails := rails1, safe := if resume then Safe.reset else s.safe } := by
  have hfold (l : List Nat) (t : State) : ∃ rails1, (t.forEach l fun s n =>
      (s.loadLe n).updLe n fun l => { l with setFirst := true, setTracked := true }) = { t with rails := rails1 } := by
    induction l generalizing t with
    | nil => exact ⟨_, rfl⟩
    | cons n l ih =>
      obtain ⟨rails1, h⟩ := ih ((t.loadLe n).updLe n fun l => { l with setFirst := true, setTracked := true })
      exact ⟨rails1, h⟩
  obtain ⟨rails1, h⟩ := hfold (indices 16 fun n => bit s.leMask n) s
  unfold State.warmEnded
  rw [h]
  cases resume <;> exact ⟨rails1, rfl⟩

/-- The end of a warm chip restart whose check failed: the safe state, with the HM as it came up (R361). -/
def State.warmFailed (s : State) (p1 : Nat) : State :=
  (s.enterSafe 0x0F s.ret.recentRm p1 true).updMgr .hm fun p => { p with run := s.hm.run }

theorem State.warmFailed_safe (s : State) (p1 : Nat) : (s.warmFailed p1).safe.active = true ∧
    (s.warmFailed p1).safe.fromCheck = true ∧ (s.warmFailed p1).rm.run = .heldReset ∧ (s.warmFailed p1).hm.run = s.hm.run := by
  obtain ⟨sketch1, key1, cross1, h⟩ := s.enterSafe_eq 0x0F s.ret.recentRm p1 true
  unfold State.warmFailed
  rw [h]
  exact ⟨rfl, rfl, rfl, rfl⟩

theorem State.endWarm_def (s : State) : s.endWarm =
    if (!s.boot.imageLoaded || s.boot.dryDigest == sha384 s.dryBytes) &&
        (!s.revived.boot.imageLoaded || s.revived.boot.wetCrc.toNat == crc32 s.revived.committed.wetBytes) then
      s.revived.warmEnded (s.safe.warm == some 7 && s.safe.resumed)
    else s.revived.warmFailed (if !s.boot.imageLoaded || s.boot.dryDigest == sha384 s.dryBytes then 2 else 1) := rfl

/-- The wet sections depend on the shadow and on the values held for it only. -/
theorem State.committed_wetBytes {s t : State} (hshadow : t.shadow = s.shadow) (hheld : t.wetHeld = s.wetHeld) :
    t.committed.wetBytes = s.committed.wetBytes := by
  unfold State.wetBytes State.committed
  dsimp only
  rw [hshadow, hheld]

theorem State.endWarm_cases {s : State} (hhm : s.hm.run = .restarting) : s.endWarm =
    if s.passesCheck then s.revived.warmEnded (s.safe.warm == some 7 && s.safe.resumed)
    else s.revived.warmFailed (if !s.boot.imageLoaded || s.boot.dryDigest == sha384 s.dryBytes then 2 else 1) := by
  obtain ⟨clock1, input1, hm1, ret1, pm1, sketch1, con1, chans1, bus1, hrev, -, -⟩ := s.revived_eq hhm
  have hwet : s.revived.committed.wetBytes = s.committed.wetBytes :=
    State.committed_wetBytes (by rw [hrev]) (by rw [hrev])
  have hboot : s.revived.boot = s.boot := by rw [hrev]
  rw [State.endWarm_def, hwet, hboot]
  rfl

theorem State.passesCheck_iff (s : State) : s.passesCheck = true ↔
    s.boot.imageLoaded = false ∨ (s.boot.dryDigest = sha384 s.dryBytes ∧ s.boot.wetCrc.toNat = crc32 s.committed.wetBytes) := by
  unfold State.passesCheck
  cases s.boot.imageLoaded <;> simp

/-! ### The commands -/

section Warm
variable {s : State}

theorem exec_warmChipRestart_begins (hstage : s.boot.stage = 8 ∨ s.boot.stage = 0xE) (hwarm : s.safe.warm = none)
    (cause : RestartCause) (cut : Option CutXfer) : exec (.warmChipRestart (.begins cause cut)) s =
      .next (s.beginWarm (causeCode s cause) (cause == .resume && s.safe.resumed) cut).judge := by
  have hrun : ((s.primed || s.blank) && s.safe.warm.isNone) = true := by
    obtain h | h := hstage <;> simp [State.primed, State.blank, h, hwarm]
  change execWarmChipRestart (.begins cause cut) s = _
  unfold execWarmChipRestart
  dsimp only
  rw [if_pos hrun]
  rfl

theorem exec_warmChipRestart_ends (hwarm : s.safe.warm.isSome = true) (hcore : s.clock.corePresent = true) :
    exec (.warmChipRestart .ends) s = .next s.endWarm.judge := by
  change execWarmChipRestart .ends s = _
  unfold execWarmChipRestart
  dsimp only
  rw [if_pos (by rw [hwarm, hcore]; rfl)]
  rfl

/-- A request of the same kind is absorbed while a warm chip restart lasts (R23). -/
theorem warmChipRestart_absorbed (hwarm : s.safe.warm.isSome = true) (cause : RestartCause) (cut : Option CutXfer) :
    OnlyNoted (exec (.warmChipRestart (.begins cause cut)) s) s := by
  have hnone : s.safe.warm.isNone = false := by rw [Option.isNone_eq_false_iff]; exact hwarm
  change OnlyNoted (execWarmChipRestart (.begins cause cut) s) s
  unfold execWarmChipRestart
  dsimp only
  rw [if_neg (by simp [hnone])]
  exact complete_onlyNoted s

theorem pairRestartHm_absorbed (h : s.mayRestart .hm = false) (cause : RestartCause) (cut : Option CutXfer) :
    OnlyNoted (exec (.pairRestartHm (.begins cause cut)) s) s := by
  change OnlyNoted (execPairRestartHm (.begins cause cut) s) s
  unfold execPairRestartHm
  dsimp only
  rw [if_neg (by simp [h])]
  exact complete_onlyNoted s

theorem pairRestartRm_absorbed (h : s.mayRestart .rm = false) : OnlyNoted (exec .pairRestartRm s) s := by
  change OnlyNoted (execPairRestartRm s) s
  unfold execPairRestartRm
  rw [if_neg (by simp [h])]
  exact complete_onlyNoted s

theorem State.mayRestart_warm (hwarm : s.safe.warm.isSome = true) (m : Manager) : s.mayRestart m = false := by
  have hnone : s.safe.warm.isNone = false := by rw [Option.isNone_eq_false_iff]; exact hwarm
  simp [State.mayRestart, hnone]

theorem State.mayRestart_restarting {m : Manager} (hrun : (s.mgr m).run = .restarting) : s.mayRestart m = false := by
  simp [State.mayRestart, hrun]

theorem State.warmRm_run (s : State) (resume : Bool) :
    (s.warmRm resume).run = if s.rm.run != .heldReset || resume then .restarting else s.rm.run := by
  unfold State.warmRm
  split <;> rfl

theorem State.warmHm_run (hhm : s.hm.run ≠ .heldReset) : s.warmHm.run = .restarting := by
  unfold State.warmHm
  rw [if_pos (by simpa using hhm)]
  rfl

/-- The beginning of a warm chip restart (R18, R358, R399). -/
theorem warmChipRestart_begins (hstage : s.boot.stage = 8 ∨ s.boot.stage = 0xE) (hwarm : s.safe.warm = none)
    (hrm : s.rm.run ≠ .heldReset) (hhm : s.hm.run ≠ .heldReset) (cause : RestartCause) (cut : Option CutXfer) :
    ∃ t, exec (.warmChipRestart (.begins cause cut)) s = .next t ∧ (cut ≠ none → t.bus.cut = true) ∧
      t.safe.warm = some (causeCode s cause) ∧
      t.rm.run = .restarting ∧ t.hm.run = .restarting ∧ t.ret.kind = 1 ∧ t.ret.cause = causeCode s cause ∧
      t.ret.warm = BitVec.ofNat 16 (min 65535 (s.ret.warm.toNat + 1)) ∧ t.ret.recentRm = s.ret.recentRm ∧
      t.ret.recentHm = s.ret.recentHm ∧ t.mail.epRm = s.mail.epRm + 1 ∧ t.mail.epHm = s.mail.epHm + 1 ∧
      t.con.session = false ∧ t.shadow = s.shadow ∧
      (∀ n < 16, s.rails.length = 16 → (t.rail n).core = (s.rail n).core ∧ (t.rail n).le.declared = (s.rail n).le.declared) := by
  obtain ⟨phases1, links1, con1, epSvc1, chans1, cross1, work1, bus1, h, hses, hcut⟩ :=
    s.beginWarm_eq (causeCode s cause) (cause == .resume && s.safe.resumed) cut
  refine ⟨_, exec_warmChipRestart_begins hstage hwarm cause cut, ?_⟩
  rw [State.judge_bus_cut, h]
  simp only [State.judge_safe, State.judge_rm, State.judge_hm, State.judge_ret, State.judge_mail, State.judge_con, State.judge_shadow,
    State.judge_rail]
  refine ⟨hcut, trivial, ?_, State.warmHm_run hhm, trivial, trivial, rfl, trivial, trivial, trivial, trivial, hses, trivial, fun n hn hlen => ?_⟩
  · rw [State.warmRm_run, if_pos (by simp [hrm])]
  · have hrail := s.mapRails_rail n (fun _ r => { r with le := r.le.warm }) (by omega)
    exact ⟨(congrArg Rail.core hrail).trans rfl, (congrArg (·.le.declared) hrail).trans rfl⟩

/-- An RM that is held in reset comes out of it with a RESUME alone (R358). -/
theorem warmChipRestart_held (hstage : s.boot.stage = 8) (hwarm : s.safe.warm = none) (hrm : s.rm.run = .heldReset)
    (cause : RestartCause) (cut : Option CutXfer) :
    ∃ t, exec (.warmChipRestart (.begins cause cut)) s = .next t ∧
      t.rm.run = (if cause = .resume ∧ s.safe.resumed = true then .restarting else .heldReset) ∧
      t.ret.kind = 1 ∧ t.safe.warm = some (causeCode s cause) ∧ t.shadow = s.shadow := by
  obtain ⟨phases1, links1, con1, epSvc1, chans1, cross1, work1, bus1, h, -, -⟩ :=
    s.beginWarm_eq (causeCode s cause) (cause == .resume && s.safe.resumed) cut
  refine ⟨_, exec_warmChipRestart_begins (.inl hstage) hwarm cause cut, ?_⟩
  rw [h]
  simp only [State.judge_safe, State.judge_rm, State.judge_ret, State.judge_shadow, State.warmRm_run, hrm]
  simp

/-- A warm chip restart that passes its check ends with the HM running (R81, R361). -/
theorem warmChipRestart_ends (hwarm : s.safe.warm.isSome = true) (hcore : s.clock.corePresent = true) (hhm : s.hm.run = .restarting)
    (hpass : s.passesCheck = true) :
    ∃ t, exec (.warmChipRestart .ends) s = .next t ∧ t.safe.warm = none ∧ t.hm.run = .running ∧
      t.rm.run = s.rm.run ∧ t.shadow = s.shadow ∧ t.fuses = s.fuses ∧ t.boot.fixative = s.boot.fixative ∧
      t.clock.onBackup = (s.clock.onBackup && !(s.clock.refclk && s.clock.pllReady)) := by
  obtain ⟨clock1, input1, hm1, ret1, pm1, sketch1, con1, chans1, bus1, hrev, hrun, hclock⟩ := s.revived_eq hhm
  obtain ⟨rails1, hend⟩ := s.revived.warmEnded_eq (s.safe.warm == some 7 && s.safe.resumed)
  refine ⟨_, exec_warmChipRestart_ends hwarm hcore, ?_⟩
  rw [State.endWarm_cases hhm, if_pos hpass, hend, hrev]
  simp only [State.judge_safe, State.judge_hm, State.judge_rm, State.judge_shadow, State.judge_fuses, State.judge_boot, State.judge_clock]
  refine ⟨?_, hrun, trivial, trivial, trivial, trivial, hclock⟩
  split <;> rfl

/-- A failed check of the shadow is the safe state, with the HM up (R361). -/
theorem warmChipRestart_fails (hwarm : s.safe.warm.isSome = true) (hcore : s.clock.corePresent = true) (hhm : s.hm.run = .restarting)
    (hfail : s.passesCheck = false) :
    ∃ t, exec (.warmChipRestart .ends) s = .next t ∧ t.safe.active = true ∧
      t.safe.fromCheck = true ∧ t.rm.run = .heldReset ∧ t.hm.run = .running := by
  obtain ⟨clock1, input1, hm1, ret1, pm1, sketch1, con1, chans1, bus1, hrev, hrun, -⟩ := s.revived_eq hhm
  refine ⟨_, exec_warmChipRestart_ends hwarm hcore, ?_⟩
  rw [State.endWarm_cases hhm, hfail, State.judge_safe, State.judge_rm, State.judge_hm]
  obtain ⟨hactive, hcheck, hheld, hkept⟩ := s.revived.warmFailed_safe
    (if !s.boot.imageLoaded || s.boot.dryDigest == sha384 s.dryBytes then 2 else 1)
  exact ⟨hactive, hcheck, hheld, hkept.trans (by rw [hrev]; exact hrun)⟩

end Warm

/-- Settles O18: the beginning by its equation, the end by its check, and what is absorbed by its guard. -/
theorem warmRestartKeepsRetainedCounts : Obligations.WarmRestartKeepsRetainedCounts := by
  unfold Obligations.WarmRestartKeepsRetainedCounts
  intro s
  refine ⟨fun hstage hwarm hrm hhm cause cut => warmChipRestart_begins hstage hwarm hrm hhm cause cut,
    fun hstage hwarm hrm cause cut => warmChipRestart_held hstage hwarm hrm cause cut,
    fun hwarm => ⟨fun cause cut => ⟨warmChipRestart_absorbed hwarm cause cut,
      pairRestartHm_absorbed (State.mayRestart_warm hwarm .hm) cause cut⟩, pairRestartRm_absorbed (State.mayRestart_warm hwarm .rm)⟩,
    fun hrun => pairRestartRm_absorbed (State.mayRestart_restarting hrun),
    fun hrun cause cut => pairRestartHm_absorbed (State.mayRestart_restarting hrun) cause cut,
    fun hwarm hcore hhm => ⟨fun hpass => warmChipRestart_ends hwarm hcore hhm (s.passesCheck_iff.2 hpass), fun himage hbad => ?_⟩⟩
  refine warmChipRestart_fails hwarm hcore hhm (Bool.eq_false_iff.2 fun hpass => ?_)
  obtain h | ⟨hdry, hwet⟩ := s.passesCheck_iff.1 hpass
  · exact absurd himage (by rw [h]; exact Bool.false_ne_true)
  · exact hbad.elim (· hdry) (· hwet)

end Sys2Proof.Machine
end

/-! SUPPORT. Which operations leave the supervision alone: the clocks, priming, both pairs, retained memory, the safe state,
the mailboxes and the events held at their sources. `State.mgmt` is those fields; each lemma says that one operation on rails,
phases, cells or links leaves them as they were. -/

section
namespace Sys2Proof.Machine

/-- The fields of the supervision. -/
structure Mgmt where
  clock : Clock
  /-- priming, but for the rails held OFF for want of phases -/
  boot : Boot
  rm : PairState
  hm : PairState
  ret : Retained
  safe : Safe
  /-- events that wait at their sources, while CORE runs -/
  held : Option (List (BitVec 16 × BitVec 16 × Word × Word))
  mail : Mail

/-- The supervision of a state. -/
def State.mgmt (s : State) : Mgmt :=
  ⟨s.clock, { s.boot with heldOff := 0 }, s.rm, s.hm, s.ret, s.safe, if s.clock.corePresent then some s.sketch.held else none, s.mail⟩

/-- A state built with the same supervision. -/
@[simp ↓] theorem mgmt_mk (s : State) (a_pins : _) (a_varnish : _) (a_fuses : _) (a_ident : _) (a_rom : _) (a_flash : _) (a_shadow : _)
    (a_wetHeld : _) (a_palette : _) (a_ports : _) (a_rails : _) (a_phases : _) (a_cells : _) (a_links : _) (a_comps : _)
    (a_timers : _) (a_router : _) (a_input : _) (a_telem : _) (a_app : _) (a_cross : _) (a_dump : _) (a_work : _) (a_bus : _)
    (a_pm : _) (a_con : _) (a_tap : _) (a_ecc : _) (a_free : _) (a_pending : _) :
    State.mgmt (State.mk s.clock a_pins s.boot a_varnish a_fuses a_ident a_rom a_flash a_shadow a_wetHeld a_palette a_ports
      a_rails a_phases a_cells a_links a_comps a_timers a_router a_input a_telem a_app a_cross s.rm s.hm s.ret s.safe a_dump
      s.sketch a_work s.mail a_bus a_pm a_con a_tap a_ecc a_free a_pending) = s.mgmt := rfl

@[simp ↓] theorem mgmt_ite (c : Prop) [Decidable c] (a b : State) :
    (if c then a else b).mgmt = if c then a.mgmt else b.mgmt := apply_ite State.mgmt c a b

/-- A fold whose step leaves the management side alone does so too. -/
theorem foldl_mgmt {α : Type} (l : List α) (f : State → α → State) (s : State) (h : ∀ s a, (f s a).mgmt = s.mgmt) :
    (l.foldl f s).mgmt = s.mgmt := by
  induction l generalizing s with
  | nil => rfl
  | cons a l ih => simp only [List.foldl]; rw [ih, h]

@[simp ↓] theorem State.updRail_mgmt (s : State) (n : Nat) (f : Rail → Rail) :
    (State.updRail s n f).mgmt = s.mgmt := by
  simp [State.updRail]
@[simp ↓] theorem State.updPhase_mgmt (s : State) (p : Nat) (f : Phase → Phase) :
    (State.updPhase s p f).mgmt = s.mgmt := by
  simp [State.updPhase]
@[simp ↓] theorem State.mapPhases_mgmt (s : State) (f : Nat → Phase → Phase) :
    (State.mapPhases s f).mgmt = s.mgmt := by
  simp [State.mapPhases]
@[simp ↓] theorem State.updCell_mgmt (s : State) (c : Nat) (f : Cell → Cell) :
    (State.updCell s c f).mgmt = s.mgmt := by
  simp [State.updCell]
@[simp ↓] theorem State.updLink_mgmt (s : State) (l : Nat) (f : Link → Link) :
    (State.updLink s l f).mgmt = s.mgmt := by
  simp [State.updLink]
@[simp ↓] theorem State.updComp_mgmt (s : State) (m : Nat) (f : Comp → Comp) :
    (State.updComp s m f).mgmt = s.mgmt := by
  simp [State.updComp]
@[simp ↓] theorem State.mapComps_mgmt (s : State) (f : Nat → Comp → Comp) :
    (State.mapComps s f).mgmt = s.mgmt := by
  simp [State.mapComps]
@[simp ↓] theorem State.updPort_mgmt (s : State) (p : Nat) (f : Port → Port) :
    (State.updPort s p f).mgmt = s.mgmt := by
  simp [State.updPort]
@[simp ↓] theorem State.updTimer_mgmt (s : State) (k : Nat) (f : Timer → Timer) :
    (State.updTimer s k f).mgmt = s.mgmt := by
  simp [State.updTimer]
@[simp ↓] theorem State.updCore_mgmt (s : State) (n : Nat) (f : RailCore → RailCore) :
    (State.updCore s n f).mgmt = s.mgmt := by
  simp [State.updCore]
@[simp ↓] theorem State.updHosted_mgmt (s : State) (n : Nat) (f : RailHost → RailHost) :
    (State.updHosted s n f).mgmt = s.mgmt := by
  simp [State.updHosted]
@[simp ↓] theorem State.updSense_mgmt (s : State) (n : Nat) (f : RailSense → RailSense) :
    (State.updSense s n f).mgmt = s.mgmt := by
  simp [State.updSense]
@[simp ↓] theorem State.updModel_mgmt (s : State) (n : Nat) (f : RailModel → RailModel) :
    (State.updModel s n f).mgmt = s.mgmt := by
  simp [State.updModel]
@[simp ↓] theorem State.updLe_mgmt (s : State) (n : Nat) (f : LoopEngine → LoopEngine) :
    (State.updLe s n f).mgmt = s.mgmt := by
  simp [State.updLe]
@[simp ↓] theorem State.updBs_mgmt (s : State) (n : Nat) (f : Backstop → Backstop) :
    (State.updBs s n f).mgmt = s.mgmt := by
  simp [State.updBs]
@[simp ↓] theorem State.updProt_mgmt (s : State) (n : Nat) (f : RailProt → RailProt) :
    (State.updProt s n f).mgmt = s.mgmt := by
  simp [State.updProt]
@[simp ↓] theorem State.updPol_mgmt (s : State) (n : Nat) (f : RailPolicy → RailPolicy) :
    (State.updPol s n f).mgmt = s.mgmt := by
  simp [State.updPol]
@[simp ↓] theorem State.freeNat_mgmt (s : State) :
    (State.freeNat s).2.mgmt = s.mgmt := by
  simp [State.freeNat]
@[simp ↓] theorem State.forEach_mgmt (s : State) (l : List Nat) (f : State → Nat → State) (h : ∀ s a, (f s a).mgmt = s.mgmt) :
    (State.forEach s l f).mgmt = s.mgmt := foldl_mgmt l f s h
@[simp ↓] theorem State.when_mgmt (s : State) (c : Bool) (f : State → State) (h : ∀ s, (f s).mgmt = s.mgmt) :
    (State.when s c f).mgmt = s.mgmt := by
  unfold State.when; split <;> simp [h]
/-- The staging port leaves what waits at the sources alone. -/
theorem Recorder.closeOpen_held (r : Recorder) : r.closeOpen.held = r.held := by unfold Recorder.closeOpen; split <;> rfl

theorem Recorder.stageNew_held (r : Recorder) (depth time : Nat) (code src : BitVec 16) (p0 p1 : Word) (rep : Nat)
    (flags : BitVec 16) : (r.stageNew depth time code src p0 p1 rep flags).held = r.held := by
  unfold Recorder.stageNew
  dsimp only
  split
  · rfl
  · split
    · rw [Recorder.closeOpen_held]; split <;> rfl
    · rfl

theorem Recorder.event_held (r : Recorder) (depth time : Nat) (code src : BitVec 16) (p0 p1 : Word) :
    (r.event depth time code src p0 p1).held = r.held := by
  unfold Recorder.event
  split
  · split
    · rfl
    · exact r.stageNew_held ..
  · exact r.stageNew_held ..

@[simp ↓] theorem State.record_mgmt (s : State) (code src p0 p1 : Nat) : (s.record code src p0 p1).mgmt = s.mgmt := by
  unfold State.record
  dsimp only
  split
  next h => simp [State.mgmt, h, Recorder.event_held]
  next h => simp [State.mgmt, h]
@[simp ↓] theorem State.print_mgmt (s : State) (l : List ConLine) :
    (State.print s l).mgmt = s.mgmt := by
  simp [State.print]
@[simp ↓] theorem State.conEnd_mgmt (s : State) (l : List ConLine) :
    (State.conEnd s l).mgmt = s.mgmt := by
  simp [State.conEnd]
@[simp ↓] theorem State.conWait_mgmt (s : State) (w : ConWait) :
    (State.conWait s w).mgmt = s.mgmt := by
  simp [State.conWait]
@[simp ↓] theorem State.setVout_mgmt (s : State) (n : Nat) (b : BitVec 8) :
    (State.setVout s n b).mgmt = s.mgmt := by
  simp [State.setVout]
@[simp ↓] theorem State.setInput_mgmt (s : State) (b : BitVec 8) :
    (State.setInput s b).mgmt = s.mgmt := by
  simp [State.setInput]
@[simp ↓] theorem State.setOther_mgmt (s : State) (n : Nat) :
    (State.setOther s n).mgmt = s.mgmt := by
  simp [State.setOther]
@[simp ↓] theorem State.openWindow_mgmt (s : State) (n : Nat) (src : MaskSrc) :
    (State.openWindow s n src).mgmt = s.mgmt := by
  simp [State.openWindow]
@[simp ↓] theorem State.disturb_mgmt (s : State) (n : Nat) :
    (State.disturb s n).mgmt = s.mgmt := by
  simp [State.disturb]
@[simp ↓] theorem State.abortChar_mgmt (s : State) (n : Nat) :
    (State.abortChar s n).mgmt = s.mgmt := by
  simp [State.abortChar]
@[simp ↓] theorem State.setLanes_mgmt (s : State) (n : Nat) (g : Phase → LaneCmd) :
    (State.setLanes s n g).mgmt = s.mgmt := by
  unfold State.setLanes; dsimp only
  exact (State.when_mgmt _ _ _ (by simp)).trans (by simp)
@[simp ↓] theorem State.obeyOverrides_mgmt (s : State) (n : Nat) :
    (State.obeyOverrides s n).mgmt = s.mgmt := by
  simp [State.obeyOverrides]
@[simp ↓] theorem State.idleLanes_mgmt (s : State) (n : Nat) :
    (State.idleLanes s n).mgmt = s.mgmt := by
  simp [State.idleLanes]
@[simp ↓] theorem State.respace_mgmt (s : State) (n : Nat) (old : List Nat) :
    (State.respace s n old).mgmt = s.mgmt := by
  simp [State.respace]
@[simp ↓] theorem State.movePhases_mgmt (s : State) (n : Nat) (f : State → State) (h : ∀ s, (f s).mgmt = s.mgmt) : (State.movePhases s n f).mgmt = s.mgmt := by
  unfold State.movePhases; simp [h]
@[simp ↓] theorem State.addTo_mgmt (s : State) (n : Nat) (f : Nat) :
    (State.addTo s n f).mgmt = s.mgmt := by
  simp [State.addTo]
@[simp ↓] theorem State.conLoopback_mgmt (s : State) (c : Nat) (ok : Bool) :
    (State.conLoopback s c ok).mgmt = s.mgmt := by
  obtain ⟨con1, h⟩ := s.conLoopback_eq c ok
  rw [h]; rfl
@[simp ↓] theorem State.conIdFail_mgmt (s : State) (c : Nat) :
    (State.conIdFail s c).mgmt = s.mgmt := by
  obtain ⟨con1, h⟩ := s.conIdFail_eq c
  rw [h]; rfl
@[simp ↓] theorem State.conIdGap_mgmt (s : State) (c : Nat) :
    (State.conIdGap s c).mgmt = s.mgmt := by
  obtain ⟨con1, h⟩ := s.conIdGap_eq c
  rw [h]; rfl
@[simp ↓] theorem State.conPart_mgmt (s : State) (c part : Nat) (d : BitVec 24) :
    (State.conPart s c part d).mgmt = s.mgmt := by
  obtain ⟨con1, h⟩ := s.conPart_eq c part d
  rw [h]; rfl
@[simp ↓] theorem State.conLinkLost_mgmt (s : State) (l : Nat) :
    (State.conLinkLost s l).mgmt = s.mgmt := by
  unfold State.conLinkLost
  split
  · split
    · simp
    · rfl
  · rfl
@[simp ↓] theorem State.queueFrame_mgmt (s : State) (l : Nat) (cls : Nat) (f : DownFrame) :
    (State.queueFrame s l cls f).mgmt = s.mgmt := by
  simp [State.queueFrame]
@[simp ↓] theorem State.commandCell_mgmt (s : State) (cls c : Nat) (f : DownFrame) :
    (State.commandCell s cls c f).mgmt = s.mgmt := by
  simp [State.commandCell]
@[simp ↓] theorem State.unsend_mgmt (s : State) (c : Nat) :
    (State.unsend s c).mgmt = s.mgmt := by
  unfold State.unsend
  split
  · simp
  · rfl
@[simp ↓] theorem State.sendCell_mgmt (s : State) (cls : Nat) (c : Nat) (f : DownFrame) :
    (State.sendCell s cls c f).mgmt = s.mgmt := by
  unfold State.sendCell
  dsimp only
  split
  · simp
  · split
    · simp
    · split
      · split <;> simp
      · simp
@[simp ↓] theorem State.dropCommands_mgmt (s : State) (c : Nat) :
    (State.dropCommands s c).mgmt = s.mgmt := by
  simp [State.dropCommands]
@[simp ↓] theorem State.quarantineSilent_mgmt (s : State) (c : Nat) :
    (State.quarantineSilent s c).mgmt = s.mgmt := by
  simp [State.quarantineSilent]
@[simp ↓] theorem State.setMode_mgmt (s : State) (p : Nat) (mode : Nat) :
    (State.setMode s p mode).mgmt = s.mgmt := by
  simp [State.setMode]
@[simp ↓] theorem State.faultOn_mgmt (s : State) (k : FaultKind) (i : Nat) (lasting : Bool) :
    (State.faultOn s k i lasting).mgmt = s.mgmt := by
  simp [State.faultOn]
@[simp ↓] theorem State.faultOff_mgmt (s : State) (k : FaultKind) (i : Nat) :
    (State.faultOff s k i).mgmt = s.mgmt := by
  simp [State.faultOff]
@[simp ↓] theorem State.retargetWith_mgmt (s : State) (n : Nat) (hostMove : Bool) (slide : Bool) :
    (State.retargetWith s n hostMove slide).mgmt = s.mgmt := by
  simp [State.retargetWith]
@[simp ↓] theorem State.retarget_mgmt (s : State) (n : Nat) :
    (State.retarget s n).mgmt = s.mgmt := by
  simp [State.retarget]
@[simp ↓] theorem State.yieldRecord_mgmt (s : State) (n : Nat) (level : Nat) (cause : Nat) (fin : Bool) :
    (State.yieldRecord s n level cause fin).mgmt = s.mgmt := by
  simp [State.yieldRecord]
@[simp ↓] theorem State.endYields_mgmt (s : State) (n : Nat) (log : Bool) :
    (State.endYields s n log).mgmt = s.mgmt := by
  simp [State.endYields]
@[simp ↓] theorem State.dropPg_mgmt (s : State) (n : Nat) :
    (State.dropPg s n).mgmt = s.mgmt := by
  simp [State.dropPg]
@[simp ↓] theorem State.dropSamples_mgmt (s : State) (n : Nat) :
    (State.dropSamples s n).mgmt = s.mgmt := by
  simp [State.dropSamples]
@[simp ↓] theorem State.endBurst_mgmt (s : State) (n : Nat) (tb4 : Nat) (hit : Bool) :
    (State.endBurst s n tb4 hit).mgmt = s.mgmt := by
  simp [State.endBurst]
@[simp ↓] theorem State.tristatePhases_mgmt (s : State) (n : Nat) :
    (State.tristatePhases s n).mgmt = s.mgmt := by
  simp [State.tristatePhases]
@[simp ↓] theorem State.latchRail_mgmt (s : State) (n : Nat) (cause : LatchCause) :
    (State.latchRail s n cause).mgmt = s.mgmt := by
  simp [State.latchRail]
@[simp ↓] theorem State.clampOff_mgmt (s : State) (n : Nat) :
    (State.clampOff s n).mgmt = s.mgmt := by
  simp [State.clampOff]
@[simp ↓] theorem State.setTristate_mgmt (s : State) (n : Nat) (on : Bool) :
    (State.setTristate s n on).mgmt = s.mgmt := by
  simp [State.setTristate]
@[simp ↓] theorem State.fastStop_mgmt (s : State) (n : Nat) (src : Nat) :
    (State.fastStop s n src).mgmt = s.mgmt := by
  simp [State.fastStop]
@[simp ↓] theorem State.triggerTimer_mgmt (s : State) (k : Nat) :
    (State.triggerTimer s k).mgmt = s.mgmt := by
  simp [State.triggerTimer]
@[simp ↓] theorem State.triggerCodes_mgmt (s : State) (codes : List Nat) :
    (State.triggerCodes s codes).mgmt = s.mgmt := by
  simp [State.triggerCodes]
@[simp ↓] theorem State.fireBurst_mgmt (s : State) (n : Nat) : (s.fireBurst n).mgmt = s.mgmt := by
  simp [State.fireBurst]
@[simp ↓] theorem State.clampOn_mgmt (s : State) (n : Nat) : (s.clampOn n).mgmt = s.mgmt := by
  simp [State.clampOn]
@[simp ↓] theorem State.routeRail_mgmt (old s : State) (rose : List Nat) (n : Nat) :
    (State.routeRail old rose s n).mgmt = s.mgmt := by
  simp [State.routeRail]
@[simp ↓] theorem State.settleHard_mgmt (k : Nat) (old s : State) : (State.settleHard k old s).mgmt = s.mgmt := by
  induction k generalizing old s with
  | zero => rfl
  | succ k ih =>
    unfold State.settleHard
    dsimp only
    split
    · rfl
    · rw [ih]; simp
@[simp ↓] theorem State.hardFrom_mgmt (old s : State) : (State.hardFrom old s).mgmt = s.mgmt :=
  State.settleHard_mgmt 9 old s
@[simp ↓] theorem State.compStatus_mgmt (s : State) (m : Nat) :
    (State.compStatus s m).mgmt = s.mgmt := by
  simp [State.compStatus]
@[simp ↓] theorem State.seeComp_mgmt (s : State) (m : Nat) :
    (State.seeComp s m).mgmt = s.mgmt := by
  simp [State.seeComp]
@[simp ↓] theorem State.seeComps_mgmt (s : State) :
    (State.seeComps s).mgmt = s.mgmt := by
  simp [State.seeComps]
@[simp ↓] theorem State.assertThrot_mgmt (s : State) (p : Nat) (n : Nat) :
    (State.assertThrot s p n).mgmt = s.mgmt := by
  unfold State.assertThrot
  split
  · rfl
  · dsimp only
    split <;> simp
@[simp ↓] theorem State.releaseThrot_mgmt (s : State) (p : Nat) :
    (State.releaseThrot s p).mgmt = s.mgmt := by
  simp [State.releaseThrot]
@[simp ↓] theorem State.followSoft_mgmt (s : State) (src : Nat) (rose : Bool) :
    (State.followSoft s src rose).mgmt = s.mgmt := by
  simp [State.followSoft]
@[simp ↓] theorem State.setAlert_mgmt (s : State) : s.setAlert.mgmt = s.mgmt := by
  simp [State.setAlert]
@[simp ↓] theorem State.takeLevel_mgmt (s : State) (src : Nat) (replay : Bool) :
    (State.takeLevel s src replay).mgmt = s.mgmt := by
  simp [State.takeLevel]
@[simp ↓] theorem State.recordDeferred_mgmt (s : State) (code src p0 p1 rep : Nat) :
    (s.recordDeferred code src p0 p1 rep).mgmt = s.mgmt := by
  simp [State.mgmt, State.recordDeferred, Recorder.stageNew_held]
@[simp ↓] theorem State.seedStop_mgmt (s : State) (n : Nat) :
    (State.seedStop s n).mgmt = s.mgmt := by
  simp [State.seedStop]
@[simp ↓] theorem State.replaySoft_mgmt (s : State) :
    (State.replaySoft s).mgmt = s.mgmt := by
  unfold State.replaySoft
  refine State.forEach_mgmt _ _ _ fun s src => ?_
  dsimp only
  rw [State.followSoft_mgmt]
  split
  · split <;> simp
  · simp
@[simp ↓] theorem State.loadLe_mgmt (s : State) (n : Nat) :
    (State.loadLe s n).mgmt = s.mgmt := by
  simp [State.loadLe]
@[simp ↓] theorem State.unsettle_mgmt (s : State) (n : Nat) :
    (State.unsettle s n).mgmt = s.mgmt := by
  simp [State.unsettle]
@[simp ↓] theorem State.swapPort_mgmt (s : State) (p : Nat) (forced : Bool) :
    (State.swapPort s p forced).mgmt = s.mgmt := by
  simp [State.swapPort]
@[simp ↓] theorem State.forceSwaps_mgmt (s : State) :
    (State.forceSwaps s).mgmt = s.mgmt := by
  simp [State.forceSwaps]
@[simp ↓] theorem State.hostMoved_mgmt (s : State) (n : Nat) :
    (State.hostMoved s n).mgmt = s.mgmt := by
  simp [State.hostMoved]
@[simp ↓] theorem State.applyHost_mgmt (s : State) (n : Nat) (h : RailHost) :
    (State.applyHost s n h).mgmt = s.mgmt := by
  simp [State.applyHost]
@[simp ↓] theorem State.refreshIrail_mgmt (s : State) (p : Nat) :
    (State.refreshIrail s p).mgmt = s.mgmt := by
  unfold State.refreshIrail
  split
  · rfl
  · simp
@[simp ↓] theorem State.configureCell_mgmt (s : State) (c : Nat) (w : Nat) (mode : Nat) :
    (State.configureCell s c w mode).mgmt = s.mgmt := by
  unfold State.configureCell; exact foldl_mgmt _ _ _ (fun s a => by simp)
@[simp ↓] theorem State.nextCommand_mgmt (s : State) (c : Nat) :
    (State.nextCommand s c).mgmt = s.mgmt := by
  unfold State.nextCommand
  dsimp only
  split <;> simp
@[simp ↓] theorem State.secondAttempt_mgmt (s : State) (c : Nat) (frame : Bool) :
    (State.secondAttempt s c frame).mgmt = s.mgmt := by
  unfold State.secondAttempt
  dsimp only
  split <;> simp
@[simp ↓] theorem State.declareLink_mgmt (s : State) (l : Nat) (cause : Nat) :
    (State.declareLink s l cause).mgmt = s.mgmt := by
  simp [State.declareLink]
@[simp ↓] theorem State.silence_mgmt (s : State) (c : Nat) :
    (State.silence s c).mgmt = s.mgmt := by
  unfold State.silence
  dsimp only
  split
  · rfl
  · split
    · split <;> split <;> simp
    · split <;> simp
@[simp ↓] theorem State.setDisc_mgmt (s : State) (p : Nat) (d : Discovery) :
    (State.setDisc s p d).mgmt = s.mgmt := by
  simp [State.setDisc]
@[simp ↓] theorem State.beginDiscovery_mgmt (s : State) (p : Nat) :
    (State.beginDiscovery s p).mgmt = s.mgmt := by
  simp [State.beginDiscovery]
@[simp ↓] theorem State.episodes_mgmt (s : State) (c : Nat) :
    (State.episodes s c).mgmt = s.mgmt := by
  simp [State.episodes]
@[simp ↓] theorem State.warnCell_mgmt (s : State) (c : Nat) :
    (State.warnCell s c).mgmt = s.mgmt := by
  unfold State.warnCell
  dsimp only
  split
  · split
    · simp
    · split
      · simp
      · rfl
  · rfl
@[simp ↓] theorem State.resolveSense_mgmt (s : State) (c : Nat) (clean : Bool) :
    (State.resolveSense s c clean).mgmt = s.mgmt := by
  unfold State.resolveSense
  split
  · dsimp only
    split <;> simp
  · rfl
@[simp ↓] theorem State.configured_mgmt (s : State) (c : Nat) :
    (State.configured s c).mgmt = s.mgmt := by
  simp [State.configured]
@[simp ↓] theorem State.passCheck_mgmt (s : State) (c : Nat) (f : DownFrame) :
    (State.passCheck s c f).mgmt = s.mgmt := by
  simp [State.passCheck]
@[simp ↓] theorem State.failCheck_mgmt (s : State) (c : Nat) (frame : Bool) :
    (State.failCheck s c frame).mgmt = s.mgmt := by
  simp [State.failCheck]
@[simp ↓] theorem State.badFrame_mgmt (s : State) (c : Nat) :
    (State.badFrame s c).mgmt = s.mgmt := by
  simp [State.badFrame]
@[simp ↓] theorem State.keepPart_mgmt (s : State) (c : Nat) (f : BitVec 56) :
    (State.keepPart s c f).mgmt = s.mgmt := by
  simp [State.keepPart]
@[simp ↓] theorem State.goodFrame_mgmt (s : State) (c : Nat) (f : BitVec 56) :
    (State.goodFrame s c f).mgmt = s.mgmt := by
  have hvalued : ((s.valued c f).marked c f).mgmt = s.mgmt := by
    unfold State.marked State.valued
    dsimp only
    split <;> simp
  rw [State.goodFrame_eq]
  split
  · exact hvalued
  · split
    · rw [State.passCheck_mgmt]
      split
      · rw [State.resolveSense_mgmt, hvalued]
      · exact hvalued
    · rw [State.failCheck_mgmt, hvalued]
@[simp ↓] theorem State.takeSlot_mgmt (s : State) (c : Nat) (r : SlotFrame) :
    (State.takeSlot s c r).mgmt = s.mgmt := by
  unfold State.takeSlot
  dsimp only
  split
  · split <;> simp
  · split <;> simp
@[simp ↓] theorem State.rearmLe_mgmt (s : State) (n : Nat) :
    (State.rearmLe s n).mgmt = s.mgmt := by
  simp [State.rearmLe]
@[simp ↓] theorem State.freeRail_mgmt (s : State) (n : Nat) : (s.freeRail n).mgmt = s.mgmt := by
  unfold State.freeRail
  split
  · rw [State.seedStop_mgmt, State.updCore_mgmt]; rfl
  · rfl
@[simp ↓] theorem State.restorePhase_mgmt (s : State) (p : Nat) :
    (State.restorePhase s p).mgmt = s.mgmt := by
  unfold State.restorePhase
  split
  · rfl
  · simp
@[simp ↓] theorem State.dropOrder_mgmt (s : State) (n : Nat) (p : Nat) :
    (State.dropOrder s n p).mgmt = s.mgmt := by
  simp [State.dropOrder]
@[simp ↓] theorem State.shedArrives_mgmt (s : State) (p : Nat) :
    (State.shedArrives s p).mgmt = s.mgmt := by
  unfold State.shedArrives
  split
  · rfl
  · dsimp only
    split <;> simp
@[simp ↓] theorem State.deepParkArrives_mgmt (s : State) (p : Nat) :
    (State.deepParkArrives s p).mgmt = s.mgmt := by
  unfold State.deepParkArrives
  split
  · rfl
  · split
    · simp
    · rfl
end Sys2Proof.Machine
end

/-! SUPPORT. Clocks: what a loss of LOOP does to the lanes, and what the return of a clock leaves alone. -/

section
namespace Sys2Proof.Machine

/-! ### The lanes of a rail stop -/

/-- Rails and comparators aside, only the phases of rail `n` change. -/
structure TouchesRail (n : Nat) (s t : State) : Prop where
  eq : t = { s with rails := t.rails, phases := t.phases, comps := t.comps }
  length : t.phases.length = s.phases.length
  phase : ∀ p, p < s.phases.length → s.phaseRail p ≠ some n → t.phase p = s.phase p

section Touches
variable {n : Nat} {s t u : State}

theorem TouchesRail.refl (n : Nat) (s : State) : TouchesRail n s s := ⟨rfl, rfl, fun _ _ _ => rfl⟩

theorem TouchesRail.phaseRail (h : TouchesRail n s t) (p : Nat) : t.phaseRail p = s.phaseRail p := by
  rw [h.eq]; rfl

theorem TouchesRail.trans (h : TouchesRail n s t) (h' : TouchesRail n t u) : TouchesRail n s u := by
  refine ⟨?_, h'.length.trans h.length, fun p hp hn => ?_⟩
  · have h2 := h'.eq
    rw [h.eq] at h2
    exact h2
  · rw [h'.phase p (by rw [h.length]; exact hp) (by rw [h.phaseRail]; exact hn), h.phase p hp hn]

theorem TouchesRail.of_phases (h : t = { s with rails := t.rails, phases := t.phases, comps := t.comps }) (hp : t.phases = s.phases) :
    TouchesRail n s t :=
  ⟨h, by rw [hp], fun p _ _ => by rw [State.phase, hp]; rfl⟩

theorem TouchesRail.mapPhases (s : State) (g : Nat → Phase → Phase) (hg : ∀ p x, s.phaseRail p ≠ some n → g p x = x) :
    TouchesRail n s (s.mapPhases g) :=
  ⟨rfl, List.length_mapIdx, fun p hp hn => (s.mapPhases_phase p g hp).trans (hg p _ hn)⟩

theorem TouchesRail.when (s : State) (c : Bool) {f : State → State} (h : TouchesRail n s (f s)) : TouchesRail n s (s.when c f) := by
  unfold State.when
  split
  · exact h
  · exact .refl n s

theorem State.updRail_touches (s : State) (m : Nat) (f : Rail → Rail) : TouchesRail n s (s.updRail m f) := .of_phases rfl rfl

theorem State.updComp_touches (s : State) (m : Nat) (f : Comp → Comp) : TouchesRail n s (s.updComp m f) := .of_phases rfl rfl

theorem State.openWindow_touches (s : State) (m : Nat) (src : MaskSrc) : TouchesRail n s (s.openWindow m src) := .of_phases rfl rfl

theorem State.setLanes_touches (s : State) (n : Nat) (g : Phase → LaneCmd) : TouchesRail n s (s.setLanes n g) := by
  unfold State.setLanes
  dsimp only
  refine .trans (.mapPhases s _ fun p x hn => if_neg ?_) (.when _ _ (State.openWindow_touches _ n .edge))
  simpa using hn

theorem State.obeyOverrides_touches (s : State) (n : Nat) : TouchesRail n s (s.obeyOverrides n) := by
  unfold State.obeyOverrides
  dsimp only
  split
  · exact s.setLanes_touches n _
  · split
    · exact s.setLanes_touches n _
    · exact .refl n s

theorem State.endBurst_touches (s : State) (n tb4 : Nat) (hit : Bool) : TouchesRail n s (s.endBurst n tb4 hit) := by
  unfold State.endBurst
  dsimp only
  split
  · refine .trans ?_ (State.updRail_touches _ n _)
    refine .trans ?_ (State.updComp_touches _ _ _)
    refine .trans ?_ (State.openWindow_touches _ n .add)
    refine .trans ?_ (.when _ _ (State.openWindow_touches _ n .edge))
    refine .trans ?_ (State.updRail_touches _ n _)
    refine .trans ?_ (State.obeyOverrides_touches _ n)
    refine .trans ?_ (.mapPhases _ _ fun p x hn => if_neg ?_)
    · exact ((State.updRail_touches s n _).trans (State.updRail_touches _ n _)).trans (State.updRail_touches _ n _)
    · simp only [Bool.and_eq_true, beq_iff_eq, not_and]
      exact fun h => absurd h hn
  · exact .refl n s

/-- The burst of a rail ends and its lanes are idle, as a loss of LOOP has it (R14, R270). -/
def State.stopLanes (s : State) (n : Nat) : State := ((s.endBurst n (s.burstSpan n) false).idleLanes n).abortChar n

theorem State.stopLanes_touches (s : State) (n : Nat) : TouchesRail n s (s.stopLanes n) := by
  unfold State.stopLanes State.idleLanes
  refine .trans ?_ (State.updRail_touches _ n _)
  refine .trans ?_ (State.updRail_touches _ n _)
  exact .trans (s.endBurst_touches n _ _) (State.setLanes_touches _ n _)

theorem State.setLanes_lane {p : Nat} (g : Phase → LaneCmd) (hp : p < s.phases.length) (hn : s.phaseRail p = some n) :
    ((s.setLanes n g).phase p).lane = g (s.phase p) := by
  obtain ⟨c, h⟩ := s.setLanes_eq n g
  rw [h]
  refine (congrArg Phase.lane (getD_mapIdx _ _ _ _ hp)).trans ?_
  rw [State.ordered, if_pos (by rw [hn]; exact beq_self_eq_true _)]
  rfl

theorem State.stopLanes_idle {p : Nat} (hp : p < s.phases.length) (hn : s.phaseRail p = some n) :
    ((s.stopLanes n).phase p).lane = .idle := by
  have hburst := s.endBurst_touches n (s.burstSpan n) false
  exact State.setLanes_lane (fun _ => .idle) (by rw [hburst.length]; exact hp) (by rw [hburst.phaseRail]; exact hn)

/-- The lanes of several rails stop: nothing but rails, phases and comparators changes. -/
theorem State.stopAll_eq (l : List Nat) (s : State) : ∃ rails1 phases1 comps1, s.forEach l State.stopLanes =
    { s with rails := rails1, phases := phases1, comps := comps1 } := by
  induction l generalizing s with
  | nil => exact ⟨_, _, _, rfl⟩
  | cons n l ih =>
    obtain ⟨r, ph, co, h⟩ := ih (s.stopLanes n)
    exact ⟨r, ph, co, h.trans (by rw [(s.stopLanes_touches n).eq])⟩

/-- A phase of a rail whose lanes stop is idle, and stays so while those of the other rails stop. -/
theorem State.stopAll_idle {p : Nat} (l : List Nat) (s : State) (hp : p < s.phases.length)
    (h : (s.phase p).lane = .idle ∨ ∃ n ∈ l, s.phaseRail p = some n) : ((s.forEach l State.stopLanes).phase p).lane = .idle := by
  induction l generalizing s with
  | nil => simpa [State.forEach] using h
  | cons n l ih =>
    have ht := s.stopLanes_touches n
    refine ih (s.stopLanes n) (by rw [ht.length]; exact hp) ?_
    by_cases hn : s.phaseRail p = some n
    · exact .inl (State.stopLanes_idle hp hn)
    · rw [ht.phase p hp hn, ht.phaseRail]
      obtain h | ⟨m, hm, hpm⟩ := h
      · exact .inl h
      · obtain rfl | hm := List.mem_cons.1 hm
        · exact absurd hpm hn
        · exact .inr ⟨m, hm, hpm⟩

end Touches

/-! ### A loss of a clock -/

section Loss
variable {s : State}

/-- LOOP is gone: the lanes of the enabled rails stop. -/
def State.loseLoop (s : State) : State :=
  let s := { s with clock := { s.clock with loopPresent := false, suspendLinks := true, suspendRounds := 2, pllReady := false } }
  s.forEach s.enabledRails State.stopLanes

/-- The clocks after a loss. -/
def Clock.afterLoss (c : Clock) (core refclk : Bool) : Clock :=
  let c := if core then { c with corePresent := false, coreLossAt := c.tick } else c
  { c with refclk := !refclk, clockLossSource := true }

theorem Clock.afterLoss_facts (c : Clock) (core refclk : Bool) : (c.afterLoss core refclk).corePresent = (c.corePresent && !core) ∧
    (c.afterLoss core refclk).loopPresent = c.loopPresent ∧ (c.afterLoss core refclk).suspendLinks = c.suspendLinks ∧
    (c.afterLoss core refclk).suspendRounds = c.suspendRounds ∧ (core = true → (c.afterLoss core refclk).coreLossAt = c.tick) := by
  cases core
  · simp [Clock.afterLoss]
  · simp [Clock.afterLoss]

theorem State.loseLoop_eq (s : State) : ∃ rails1 phases1 comps1, s.loseLoop = { s with
    clock := { s.clock with loopPresent := false, suspendLinks := true, suspendRounds := 2, pllReady := false }
    rails := rails1, phases := phases1, comps := comps1 } := State.stopAll_eq _ _

/-- Where LOOP is gone the lanes of the enabled rails are idle (R14). -/
theorem State.loseLoop_idle {p n : Nat} (hp : p < s.phases.length) (hn : s.phaseRail p = some n) (h16 : n < 16)
    (hen : s.railEn n = true) : (s.loseLoop.phase p).lane = .idle :=
  State.stopAll_idle _ _ hp (.inr ⟨n, List.mem_filter.2 ⟨List.mem_range.2 h16, hen⟩, hn⟩)

/-- What a loss leaves once the lanes have stopped: the clocks, CLK_CAUSE, the outstanding fault and the record (R349). -/
def State.noteLoss (s : State) (core loop refclk again : Bool) : State :=
  let s := s.when core fun s => { s with clock := { s.clock with corePresent := false, coreLossAt := s.clock.tick } }
  let s := { s with clock := { s.clock with refclk := !refclk, clockLossSource := true } }
  let bits : Nat := 4 * b2n refclk + 2 * b2n core + b2n loop
  let s := { s with ret := { s.ret with clkCause := BitVec.ofNat 3 bits } }
  let s := s.faultOn .clock 0 again
  if core then { s with ret := { s.ret with lossOwed := some 0 } } else s.record 0x8006 0 bits 0

theorem State.noteLoss_facts (s : State) (core loop refclk again : Bool) :
    (s.noteLoss core loop refclk again).clock = s.clock.afterLoss core refclk ∧
    (s.noteLoss core loop refclk again).phases = s.phases ∧
    (s.noteLoss core loop refclk again).ret = { s.ret with
      clkCause := BitVec.ofNat 3 (4 * b2n refclk + 2 * b2n core + b2n loop)
      lossOwed := if core then some 0 else s.ret.lossOwed } := by
  unfold State.noteLoss
  dsimp only
  rw [State.faultOn_eq]
  cases core
  · simp only [Bool.false_eq_true, if_false, State.record_clock, State.record_phases, State.record_ret]
    exact ⟨rfl, rfl, rfl⟩
  · exact ⟨rfl, rfl, rfl⟩

theorem exec_clockLoss {core loop : Bool} (refclk : Bool) (hheld : s.boot.held = false) (hloss : (core || loop) = true)
    (hcore : s.clock.corePresent = true) (happ : s.clock.appPresent = true) : exec (.clockLoss core loop refclk) s =
      .next ((s.when loop State.loseLoop).noteLoss core loop refclk (s.within s.input.lossAt (msTicks 1000))).judge := by
  have hguard : (s.boot.held || !(core || loop) || !s.clock.appPresent) = false := by rw [hheld, hloss, happ]; rfl
  change execClockLoss core loop refclk s = _
  unfold execClockLoss
  rw [hguard, hcore, Bool.and_true, if_neg Bool.false_ne_true]
  cases core <;> rfl

/-- A loss of CORE or of LOOP (R14, R349). -/
theorem clockLoss_noted {core loop : Bool} (refclk : Bool) (hheld : s.boot.held = false) (hloss : (core || loop) = true)
    (hcore : s.clock.corePresent = true) (happ : s.clock.appPresent = true) :
    ∃ t, exec (.clockLoss core loop refclk) s = .next t ∧ t.clock.clockLossSource = true ∧ t.clock.corePresent = !core ∧
      t.clock.refclk = !refclk ∧
      t.ret.clkCause = BitVec.ofNat 3 (4 * b2n refclk + 2 * b2n core + b2n loop) ∧
      (loop = true → t.clock.loopPresent = false ∧ t.clock.suspendLinks = true ∧ t.clock.suspendRounds = 2 ∧
        ∀ p n, p < 128 → s.phases.length = 128 → s.phaseRail p = some n → n < 16 → s.railEn n = true →
          (t.phase p).lane = .idle) ∧
      (loop = false → t.phases = s.phases ∧ t.clock.loopPresent = s.clock.loopPresent) ∧
      (core = true → t.clock.coreLossAt = s.clock.tick ∧ t.ret.lossOwed = some 0) := by
  obtain ⟨hclock, hphases, hret⟩ :=
    (s.when loop State.loseLoop).noteLoss_facts core loop refclk (s.within s.input.lossAt (msTicks 1000))
  refine ⟨_, exec_clockLoss refclk hheld hloss hcore happ, ?_⟩
  have hlane (p : Nat) : (State.noteLoss (s.when loop State.loseLoop) core loop refclk (s.within s.input.lossAt (msTicks 1000))).judge.phase p =
      (s.when loop State.loseLoop).phase p := by rw [State.judge_phase, State.phase, hphases]; rfl
  simp only [State.judge_clock, State.judge_ret, State.judge_phases, hlane, hclock, hret, hphases]
  obtain ⟨hpresent, hloop, hsus, hrounds, hat⟩ := (s.when loop State.loseLoop).clock.afterLoss_facts core refclk
  rw [hpresent, hloop, hsus, hrounds]
  have hkeep : (s.when loop State.loseLoop).clock.corePresent = true ∧ (s.when loop State.loseLoop).clock.tick = s.clock.tick := by
    cases loop
    · exact ⟨hcore, rfl⟩
    · obtain ⟨rails1, phases1, comps1, h⟩ := s.loseLoop_eq
      rw [State.when_true, h]
      exact ⟨hcore, rfl⟩
  refine ⟨rfl, by rw [hkeep.1, Bool.true_and], rfl, trivial, fun h => ?_, fun h => ?_, fun h => ⟨(hat h).trans hkeep.2, by rw [h]; rfl⟩⟩
  · subst h
    rw [State.when_true]
    obtain ⟨rails1, phases1, comps1, heq⟩ := s.loseLoop_eq
    have hc := congrArg State.clock heq
    exact ⟨congrArg Clock.loopPresent hc, congrArg Clock.suspendLinks hc, congrArg Clock.suspendRounds hc,
      fun p n hp h128 hn h16 hen => State.loseLoop_idle (by omega) hn h16 hen⟩
  · subst h
    exact ⟨rfl, rfl⟩

theorem clockLoss_noApp (happ : s.clock.appPresent = false) (core loop refclk : Bool) :
    OnlyNoted (exec (.clockLoss core loop refclk) s) s := by
  change OnlyNoted (execClockLoss core loop refclk s) s
  unfold execClockLoss
  rw [if_pos (by simp [happ])]
  exact complete_onlyNoted s

theorem pllBackupLock_noApp (happ : s.clock.appPresent = false) : OnlyNoted (exec .pllBackupLock s) s := by
  change OnlyNoted (execPllBackupLock s) s
  unfold execPllBackupLock
  rw [if_pos (by simp [happ])]
  exact complete_onlyNoted s

end Loss

/-! ### The returns -/

section Returns
variable {s : State}

/-- The return to PLL_LOOP is a warm chip restart with CAUSE 8, in which the switch happens (R15). -/
theorem returnToPllLoop_begins (hheld : s.boot.held = false) (hback : s.clock.onBackup = true) (hstage : s.boot.stage = 8)
    (hwarm : s.safe.warm = none) (hcore : s.clock.corePresent = true) (cut : Option CutXfer) :
    ∃ t, exec (.returnToPllLoop cut) s = .next t ∧ (cut ≠ none → t.bus.cut = true) ∧ t.safe.warm = some 8 ∧ t.ret.cause = 8 ∧
      t.ret.kind = 1 ∧ t.clock.refclk = true ∧ t.clock.pllReady = true ∧ t.clock.onBackup = true := by
  obtain ⟨phases1, links1, con1, epSvc1, chans1, cross1, work1, bus1, h, -, hcut⟩ :=
    State.beginWarm_eq { s with clock := { s.clock with refclk := true, pllReady := true } } 8 false cut
  have hexec : exec (.returnToPllLoop cut) s =
      .next (State.beginWarm { s with clock := { s.clock with refclk := true, pllReady := true } } 8 false cut).judge := by
    change execReturnToPllLoop cut s = _
    unfold execReturnToPllLoop
    rw [if_neg (by simp [hheld, hback])]
    dsimp only
    rw [if_pos (by simp [State.primed, hstage, hwarm, hcore])]
    rfl
  refine ⟨_, hexec, ?_⟩
  rw [State.judge_bus_cut, State.judge_safe, State.judge_ret, State.judge_clock, h]
  exact ⟨hcut, rfl, rfl, rfl, rfl, rfl, hback⟩

theorem State.drainLink_mgmt (s : State) (l : Nat) : (s.drainLink l).mgmt = s.mgmt := by
  unfold State.drainLink
  dsimp only
  exact (foldl_mgmt _ _ _ fun s x => s.takeSlot_mgmt _ _).trans (s.updLink_mgmt l _)

theorem State.resumeLanes_mgmt (s : State) (n : Nat) : (s.resumeLanes n).mgmt = s.mgmt := by
  simp [State.resumeLanes]

theorem State.applyPost_mgmt (s : State) (p : RmPost) : (s.applyPost p).mgmt = s.mgmt := by
  cases p <;> simp [State.applyPost]

theorem State.carryPosts_mgmt (s : State) : s.carryPosts.mgmt = s.mgmt := by
  unfold State.carryPosts
  dsimp only
  split
  · exact (foldl_mgmt _ _ _ State.applyPost_mgmt).trans rfl
  · rfl

theorem facts_of_mgmt {s t : State} (h : t.mgmt = s.mgmt) :
    t.clock = s.clock ∧ t.rm = s.rm ∧ t.hm = s.hm ∧ t.ret = s.ret ∧ t.safe = s.safe ∧ t.mail = s.mail :=
  ⟨congrArg Mgmt.clock h, congrArg Mgmt.rm h, congrArg Mgmt.hm h, congrArg Mgmt.ret h, congrArg Mgmt.safe h, congrArg Mgmt.mail h⟩

theorem boot_of_mgmt {s t : State} (h : t.mgmt = s.mgmt) : t.boot.held = s.boot.held ∧ t.boot.stage = s.boot.stage :=
  ⟨congrArg (·.boot.held) h, congrArg (·.boot.stage) h⟩

theorem held_of_mgmt {s t : State} (hcore : t.clock.corePresent = true) (h : t.mgmt = s.mgmt) : t.sketch.held = s.sketch.held := by
  have hclock : s.clock = t.clock := congrArg Mgmt.clock h.symm
  have hheld := congrArg Mgmt.held h
  simpa [State.mgmt, hclock, hcore] using hheld

/-- The clocks once PLL_BACKUP has locked. -/
def Clock.afterLock (c : Clock) (rounds : Nat) : Clock :=
  { c with loopPresent := true, onBackup := true, interpCal := c.interpCal + 1, suspendRounds := rounds }

/-- What the lock of PLL_BACKUP has LOOP take up again (R11, R247). -/
def State.resumed (s : State) : State :=
  let s := s.mapPhases fun _ x => { x with offset := s.onGrid x.offset 1, targetOff := s.onGrid x.targetOff 1 }
  let s := (State.hardFrom s { s with links := s.links.map fun k => k.seeFflt }).seeComps
  ((s.forEach (List.range 16) State.resumeLanes).forEach (List.range 16) State.drainLink).carryPosts

theorem State.resumed_mgmt (s : State) : s.resumed.mgmt = s.mgmt := by
  unfold State.resumed
  dsimp only
  rw [State.carryPosts_mgmt, State.forEach_mgmt _ _ _ State.drainLink_mgmt, State.forEach_mgmt _ _ _ State.resumeLanes_mgmt]
  simp

theorem shadow_of_cold {s t : State} (h : t.cold = s.cold) : t.shadow = s.shadow := congrArg Cold.shadow h

theorem State.resumed_shadow (s : State) : s.resumed.shadow = s.shadow := by
  have h : s.resumed.cold = s.cold := by simp [State.resumed]
  exact shadow_of_cold h

theorem exec_pllBackupLock (hheld : s.boot.held = false) (hloop : s.clock.loopPresent = false) (happ : s.clock.appPresent = true) :
    exec .pllBackupLock s = .next (State.resumed { s with
      clock := s.clock.afterLock (if (s.link 0).frameTime == 0 then 2 else 3) }).judge := by
  change execPllBackupLock s = _
  unfold execPllBackupLock
  rw [if_neg (by simp [hheld, hloop, happ])]
  rfl

/-- LOOP runs again from PLL_BACKUP; pairs, mailboxes and shadow stay (R11, R14). -/
theorem pllBackupLock_resumes (hheld : s.boot.held = false) (hloop : s.clock.loopPresent = false) (happ : s.clock.appPresent = true) :
    ∃ t, exec .pllBackupLock s = .next t ∧ t.clock = { s.clock with
        loopPresent := true, onBackup := true, interpCal := t.clock.interpCal, suspendRounds := t.clock.suspendRounds } ∧
      2 ≤ t.clock.suspendRounds ∧ t.rm = s.rm ∧ t.hm = s.hm ∧ t.mail = s.mail ∧ t.shadow = s.shadow ∧ t.ret = s.ret := by
  obtain ⟨hclock, hrm, hhm, hret, -, hmail⟩ :=
    facts_of_mgmt (State.resumed_mgmt { s with clock := s.clock.afterLock (if (s.link 0).frameTime == 0 then 2 else 3) })
  refine ⟨_, exec_pllBackupLock hheld hloop happ, ?_⟩
  rw [State.judge_clock, State.judge_rm, State.judge_hm, State.judge_mail, State.judge_shadow, State.judge_ret, hclock]
  refine ⟨rfl, ?_, hrm, hhm, hmail, State.resumed_shadow _, hret⟩
  change 2 ≤ if _ then 2 else 3
  split <;> decide

/-! ### CORE runs again -/

/-- What the sources held enters, and nothing waits there while CORE runs (R374). -/
theorem State.takeHeld_mgmt (s : State) (deferred : Bool) :
    (s.takeHeld deferred).mgmt = { s with sketch := { s.sketch with held := [] } }.mgmt := by
  have hclose (t : State) : { t with sketch := t.sketch.closeOpen }.mgmt = t.mgmt := by
    simp [State.mgmt, Recorder.closeOpen_held]
  unfold State.takeHeld
  refine foldl_mgmt _ _ _ fun s x => ?_
  dsimp only
  split
  · rw [hclose]
    split
    · exact State.recordDeferred_mgmt ..
    · exact State.record_mgmt ..
  · split
    · exact State.recordDeferred_mgmt ..
    · exact State.record_mgmt ..

/-- CORE runs again with nothing held at its sources; pairs and mailboxes stay (R374). -/
theorem State.coreBack_mgmt (s : State) : s.coreBack.mgmt =
    { s with clock := { s.clock with corePresent := true }, sketch := { s.sketch with held := [] } }.mgmt :=
  (State.replaySoft_mgmt _).trans (State.takeHeld_mgmt _ true)

/-- Both pairs restart, each where it may (R349). -/
def State.beginBoth (s : State) (cut : Option CutXfer) : State :=
  let s := s.when (s.mayRestart .rm) fun s => s.beginPair .rm 4
  s.when (s.mayRestart .hm) fun s => (s.beginPair .hm 4).cutBus cut

theorem State.beginBoth_eq (hheld : s.boot.held = false) (hstage : s.boot.stage = 8) (hwarm : s.safe.warm = none)
    (hrm : s.rm.run = .running) (hhm : s.hm.run = .running) (cut : Option CutXfer) :
    ∃ cross1 phases1 links1 con1 mail1 work1 bus1, s.beginBoth cut = { s with
      cross := cross1, phases := phases1, links := links1, con := con1, mail := mail1, work := work1, bus := bus1
      sketch := s.sketch.closeOpen, ret := { s.ret with kind := 3, cause := 4 }
      rm := s.rm.afterReset .restarting (s.wdTimeout .rm), hm := s.hm.afterReset .restarting (s.wdTimeout .hm) } ∧
    (cut ≠ none → bus1.cut = true) := by
  obtain ⟨cross1, mail1, hr⟩ := s.beginPair_rm_eq 4
  obtain ⟨phases1, links1, con1, mail2, work1, hh⟩ := State.beginPair_hm_eq { s with
    cross := cross1, mail := mail1, rm := s.rm.afterReset .restarting (s.wdTimeout .rm), ret := { s.ret with kind := 2, cause := 4 } } 4
  obtain ⟨bus1, hbus, hcut⟩ := State.cutBus_eq { s with
    cross := cross1, phases := phases1, links := links1, con := con1, mail := mail2, work := work1
    sketch := s.sketch.closeOpen, ret := { s.ret with kind := 3, cause := 4 }
    rm := s.rm.afterReset .restarting (s.wdTimeout .rm), hm := s.hm.afterReset .restarting (s.wdTimeout .hm) } cut
  have hmay : State.mayRestart { s with
      cross := cross1, mail := mail1, rm := s.rm.afterReset .restarting (s.wdTimeout .rm), ret := { s.ret with kind := 2, cause := 4 } }
      .hm = true := State.mayRestart_of_running hheld hstage hwarm hhm
  refine ⟨cross1, phases1, links1, con1, mail2, work1, bus1, ?_, hcut⟩
  unfold State.beginBoth
  rw [State.mayRestart_of_running (m := .rm) hheld hstage hwarm hrm, State.when_true, hr]
  dsimp only at hmay hh hbus ⊢
  rw [hmay, State.when_true, hh]
  exact hbus

/-- The state in which the return of CORE restarts the pairs: the length of the loss is known, and the sources are taken in (R349). -/
def State.coreIn (s : State) : State :=
  State.coreBack { s with
    ret := { s.ret with lossOwed := s.ret.lossOwed.map fun _ => s.since s.clock.coreLossAt / 800 }
    clock := { s.clock with clockLossSource := s.clock.onBackup || !s.clock.loopPresent } }

theorem State.coreIn_mgmt (s : State) : s.coreIn.mgmt = { s with
    ret := { s.ret with lossOwed := s.ret.lossOwed.map fun _ => s.since s.clock.coreLossAt / 800 }
    clock := { s.clock with corePresent := true, clockLossSource := s.clock.onBackup || !s.clock.loopPresent }
    sketch := { s.sketch with held := [] } }.mgmt := State.coreBack_mgmt _

/-- The outstanding fault of the clocks ends where LOOP runs from PLL_LOOP (R310). -/
def State.clocksWell (s : State) : State :=
  if s.clock.onBackup || !s.clock.loopPresent then s
  else ({ s with input := { s.input with lossAt := some s.clock.tick } }).faultOff .clock 0

theorem State.clocksWell_eq (s : State) : ∃ input1, s.clocksWell = { s with input := input1 } := by
  unfold State.clocksWell
  split <;> exact ⟨_, rfl⟩

/-- The restart of both pairs leaves the clocks and what is held at the sources. -/
theorem State.beginBoth_restarts (hheld : s.boot.held = false) (hstage : s.boot.stage = 8) (hwarm : s.safe.warm = none)
    (hrm : s.rm.run = .running) (hhm : s.hm.run = .running) (cut : Option CutXfer) {t : State}
    (ht : t = (s.beginBoth cut).clocksWell.judge) :
    t.clock = s.clock ∧ t.rm.run = .restarting ∧ t.hm.run = .restarting ∧ t.ret.cause = 4 ∧ t.sketch.held = s.sketch.held ∧
      (cut ≠ none → t.bus.cut = true) := by
  obtain ⟨cross1, phases1, links1, con1, mail1, work1, bus1, hboth, hcut⟩ := s.beginBoth_eq hheld hstage hwarm hrm hhm cut
  obtain ⟨input1, hwell⟩ := (s.beginBoth cut).clocksWell_eq
  rw [ht, State.judge_clock, State.judge_rm, State.judge_hm, State.judge_ret, State.judge_sketch, State.judge_bus_cut, hwell, hboth]
  exact ⟨rfl, rfl, rfl, rfl, Recorder.closeOpen_held _, hcut⟩

theorem exec_coreReturned (hheld : s.boot.held = false) (hcore : s.clock.corePresent = false) (hstandby : s.clock.standby = false)
    (cut : Option CutXfer) : exec (.coreReturned cut) s = .next ((s.coreIn.beginBoth cut).clocksWell).judge := by
  change execCoreReturned cut s = _
  unfold execCoreReturned
  rw [if_neg (by simp [hheld, hcore, hstandby])]
  unfold State.coreIn
  dsimp only
  generalize State.coreBack _ = u
  unfold State.clocksWell State.beginBoth
  exact (apply_ite complete _ _ _).symm

/-- The return of CORE restarts both pairs with CAUSE 4 (R349). -/
theorem coreReturned_restarts (hheld : s.boot.held = false) (hcore : s.clock.corePresent = false) (hstandby : s.clock.standby = false)
    (hstage : s.boot.stage = 8) (hwarm : s.safe.warm = none) (hrm : s.rm.run = .running) (hhm : s.hm.run = .running)
    (cut : Option CutXfer) :
    ∃ t, exec (.coreReturned cut) s = .next t ∧ t.clock.corePresent = true ∧ t.rm.run = .restarting ∧ t.hm.run = .restarting ∧
      t.ret.cause = 4 ∧ t.sketch.held = [] ∧ (cut ≠ none → t.bus.cut = true) ∧
      t.clock.clockLossSource = (s.clock.onBackup || !s.clock.loopPresent) := by
  have hmgmt := s.coreIn_mgmt
  obtain ⟨hclock, hrm1, hhm1, -, hsafe, -⟩ := facts_of_mgmt hmgmt
  obtain ⟨hheld1, hstage1⟩ := boot_of_mgmt hmgmt
  have hempty : s.coreIn.sketch.held = [] := held_of_mgmt (by rw [hclock]) hmgmt
  obtain ⟨hclock2, hrm2, hhm2, hcause, hheld2, hcut⟩ :=
    s.coreIn.beginBoth_restarts (hheld1.trans hheld) (hstage1.trans hstage) (by rw [hsafe]; exact hwarm)
      (by rw [hrm1]; exact hrm) (by rw [hhm1]; exact hhm) cut rfl
  refine ⟨_, exec_coreReturned hheld hcore hstandby cut, ?_⟩
  rw [hclock2, hclock]
  exact ⟨rfl, hrm2, hhm2, hcause, hheld2.trans hempty, hcut, rfl⟩

end Returns

/-- Settles O19: the lanes by induction over the enabled rails, the returns by what leaves the supervision alone. -/
theorem clockLossAndReturn : Obligations.ClockLossAndReturn := by
  unfold Obligations.ClockLossAndReturn
  exact ⟨fun s core loop refclk hheld hloss hcore happ => clockLoss_noted refclk hheld hloss hcore happ,
    fun s happ => ⟨fun core loop refclk => clockLoss_noApp happ core loop refclk, pllBackupLock_noApp happ⟩,
    fun s hheld hloop happ => pllBackupLock_resumes hheld hloop happ,
    fun s hheld hcore hstandby hstage hwarm hrm hhm cut => coreReturned_restarts hheld hcore hstandby hstage hwarm hrm hhm cut,
    fun s hheld hback hstage hwarm hcore cut => returnToPllLoop_begins hheld hback hstage hwarm hcore cut⟩

end Sys2Proof.Machine
end

/-! SUPPORT. The restart of the HM and the alert judgement: the busy bit of STATUS_BYTE. -/

section
namespace Sys2Proof.Machine

/-- PRIMED with the HM running and everything else as after reset. -/
def hmRunning : State := { State.reset with
  boot := { Boot.reset with held := false, stage := 8 }
  clock := { Clock.reset with corePresent := true }
  hm := { PairState.reset with run := .running } }

/-- The judgement that ends the restart of the HM sees the busy bit (bit 7, Table 16.2) in STATUS_BYTE; before it the bit is 0. -/
theorem hmRunning_restart_seen : ∃ t, exec (.pairRestartHm (.begins .ladder none)) hmRunning = .next t ∧
    t.bus.seen.getD 0 0 = 192 ∧ hmRunning.judge.bus.seen.getD 0 0 = 64 :=
  ⟨_, rfl, by decide +kernel⟩

/-- Refutes O17: its clause that an HM restart with no transaction cut leaves the bus as the judgement of the state before
leaves it. From PRIMED with the HM running, the restart makes the device busy (Table 15.5), so that bit 7 of every STATUS_BYTE
rises, and the alert judgement of R427 keeps what it has seen of STATUS_BYTE in the bus: 192 on page 0, where the state before
gives 64. -/
theorem not_pairRestartsAndReturns : ¬ Obligations.PairRestartsAndReturns := by
  unfold Obligations.PairRestartsAndReturns
  rintro ⟨hbegins, -⟩
  obtain ⟨-, hhm, -⟩ := hbegins hmRunning rfl (.inl rfl) rfl
  obtain ⟨t, ht, -, -, -, -, -, -, -, -, -, hbus, -⟩ := hhm (.inl rfl) .ladder none
  obtain ⟨u, hu, hafter, hbefore⟩ := hmRunning_restart_seen
  obtain rfl : t = u := Host.Outcome.next.inj (ht.symm.trans hu)
  rw [hbus rfl, hbefore] at hafter
  exact absurd hafter (by decide)

end Sys2Proof.Machine
end

/-! SUPPORT. The release of APP_TAKEOVER where no hold was started: the RM, which has waited for it, takes the rails. -/

section
namespace Sys2Proof.Machine

/-- PRIMED with the RM running, no hold, cause 7 of Table 12.1 recorded for an Apprentice that APP_MISMATCH has stopped; every rail is OFF. -/
def takeoverRecorded : State := { State.reset with
  boot := { Boot.reset with held := false, stage := 8 }
  clock := { Clock.reset with corePresent := true }
  rm := { PairState.reset with run := .running }
  app := { Apprentice.reset with causes := 0x80, mismatch := true } }

/-- No source of the destination APP_TAKEOVER is present there. -/
theorem takeoverRecorded_released : takeoverRecorded.dest 75 = false := by decide +kernel

/-- The release of cause 7 lets the RM, where it is ready and no hold was started, take the rails. -/
theorem exec_appTakeoverRelease_takes {s : State} (h75 : s.dest 75 = false)
    (hrec : (s.app.causes.getLsbD 7 && !s.app.holding && s.rmReady) = true) : exec .appTakeoverRelease s =
      .next ({ s with app := { s.app with causes := s.app.causes &&& 0x7F } } : State).takeRails.judge := by
  change execAppTakeoverRelease s = _
  unfold execAppTakeoverRelease
  dsimp only
  rw [h75, if_neg (by decide), if_pos hrec]
  rfl

/-- With no rail running the RM is done at once, and disables the stopped Apprentice (R348). -/
theorem takeoverRecorded_disables : ({ takeoverRecorded with
    app := { takeoverRecorded.app with causes := takeoverRecorded.app.causes &&& 0x7F } } : State).takeRails.judge.app.disabled
      = true := by
  decide +kernel

/-- Refutes O27: its clause that the release of APP_TAKEOVER changes the recorded causes alone. Where no hold was started and the
RM is ready, the release of cause 7 lets the RM take the rails; with no rail running it is done at once and disables the Apprentice
that APP_MISMATCH has stopped (R348). -/
theorem not_handbackAndSelfCheck : ¬ Obligations.HandbackAndSelfCheck := by
  unfold Obligations.HandbackAndSelfCheck
  rintro ⟨-, -, -, -, -, hrelease⟩
  obtain ⟨t, ht, heq⟩ := hrelease takeoverRecorded takeoverRecorded_released
  have ht' := ht.symm.trans (exec_appTakeoverRelease_takes takeoverRecorded_released (by decide +kernel))
  have hkept : t.app.disabled = false := congrArg (·.app.disabled) heq
  rw [Host.Outcome.next.inj ht', takeoverRecorded_disables] at hkept
  exact absurd hkept (by decide)

end Sys2Proof.Machine
end

/-! SUPPORT. Power-on reset's values, its release and the stages P0 to P2 and P4: the addresses of the strap's bands, what the
opening of the event store leaves alone, and the blank canvas that ends a failed stage. -/

section
namespace Sys2Proof.Machine

/-! ### What reset leaves -/

theorem reset_rail (n : Nat) : State.reset.rail n = Rail.reset :=
  List.getElem?_getD_replicate_default_eq (d := Rail.reset) 16 _
theorem reset_phase (p : Nat) : State.reset.phase p = Phase.reset :=
  List.getElem?_getD_replicate_default_eq (d := Phase.reset) 128 _
theorem reset_cell (c : Nat) : State.reset.cell c = Cell.reset :=
  List.getElem?_getD_replicate_default_eq (d := Cell.reset) 1024 _
theorem reset_port (p : Nat) : State.reset.port p = Port.reset :=
  List.getElem?_getD_replicate_default_eq (d := Port.reset) 8 _
theorem reset_chan (c : Nat) : State.reset.chan c = Channel.reset :=
  List.getElem?_getD_replicate_default_eq (d := Channel.reset) 16 _

/-- The under-voltage comparators are asserted at reset, and so are both twins of the input's (Table 9.1). -/
theorem reset_comp_out {m : Nat} (hm : m < 76) :
    (State.reset.comp m).out = ((m < 64 && m % 4 == 3) || m == 64 || m == 65) := by
  change (Comp.resetAll.getD m Comp.reset).out = _
  simp [Comp.resetAll, List.getD, hm]

/-- Settles O3, group by group: the lists of reset hold one value each, and the comparators are those of Table 9.1. -/
theorem resetValuesOfTheSpec : Obligations.ResetValuesOfTheSpec := by
  unfold Obligations.ResetValuesOfTheSpec
  simp only [reset_rail, reset_port, reset_chan, reset_phase, reset_cell]
  refine ⟨rfl, rfl, rfl, rfl, rfl, rfl, rfl, rfl, rfl, rfl, rfl, fun _ _ => ⟨rfl, rfl, rfl⟩, fun _ _ => ⟨rfl, rfl⟩, fun m hm => ?_,
    reset_comp_out (by decide), reset_comp_out (by decide), reset_comp_out (by decide), reset_comp_out (by decide),
    fun _ _ => ⟨rfl, rfl, rfl⟩, rfl, rfl, rfl, rfl, rfl, rfl, rfl, rfl, rfl, rfl, rfl, rfl, fun _ _ => rfl, fun _ _ => rfl, rfl, rfl⟩
  rw [reset_comp_out (by omega)]
  have h64 : m ≠ 64 := by omega
  have h65 : m ≠ 65 := by omega
  simp [hm, h64, h65, Bool.beq_eq_decide_eq]

/-! ### The strap's address (R41, R43, R44) -/

/-- The bands of Table 2.6: the lowest resistance, the first above the band, and the address. -/
def addrBands : List (Nat × Nat × Nat) :=
  [(4430, 5620, 0x40), (5620, 7150, 0x41), (7150, 9070, 0x42), (9070, 11520, 0x43), (11520, 14650, 0x44),
   (14650, 18610, 0x45), (18610, 23680, 0x46), (23680, 30130, 0x47), (30130, 38330, 0x48), (38330, 48700, 0x49),
   (48700, 61900, 0x4A), (61900, 78680, 0x4B), (78680, 100100, 0x4C), (100100, 127100, 0x4D), (127100, 161300, 0x4E),
   (161300, 205101, 0x4F)]

/-- Band `a - 0x40` has as many edges at or below it, and the rest of the edges at or above its end. -/
theorem addrBands_edges : ∀ x ∈ addrBands, 0x40 ≤ x.2.2 ∧ x.2.2 ≤ 0x4F ∧ 4430 ≤ x.1 ∧ x.2.1 ≤ 205101 ∧
    (∀ e ∈ addrEdges.take (x.2.2 - 0x40), e ≤ x.1) ∧ ∀ e ∈ addrEdges.drop (x.2.2 - 0x40), x.2.1 ≤ e := by
  decide

theorem countEdges {k ohms : Nat} (hk : k ≤ addrEdges.length) (hbelow : ∀ e ∈ addrEdges.take k, e ≤ ohms)
    (habove : ∀ e ∈ addrEdges.drop k, ohms < e) : (addrEdges.filter (· ≤ ohms)).length = k := by
  rw [← List.take_append_drop k addrEdges, List.filter_append, List.filter_eq_self.2 fun e he => decide_eq_true (hbelow e he),
    List.filter_eq_nil_iff.2 fun e he => by simpa using habove e he, List.append_nil, List.length_take_of_le hk]

theorem strapAddress_band {x : Nat × Nat × Nat} (hx : x ∈ addrBands) {ohms : Nat} (hlo : x.1 ≤ ohms) (hhi : ohms < x.2.1) :
    strapAddress ohms = some (BitVec.ofNat 7 x.2.2) := by
  obtain ⟨hfirst, hlast, hmin, hmax, hbelow, habove⟩ := addrBands_edges x hx
  have hcount : (addrEdges.filter (· ≤ ohms)).length = x.2.2 - 0x40 :=
    countEdges (show _ ≤ 15 by omega) (fun e he => (hbelow e he).trans hlo) fun e he => hhi.trans_le (habove e he)
  have hvalid : ¬(ohms < 4430 ∨ 205100 < ohms) := by omega
  simp only [strapAddress, Bool.or_eq_true, decide_eq_true_eq, hvalid, if_false, hcount]
  congr 2
  omega

theorem strapAddress_outside {ohms : Nat} (h : ohms < 4430 ∨ 205100 < ohms) : strapAddress ohms = none := by
  simp [strapAddress, h]

theorem strapAddress_inside {ohms : Nat} (hmin : 4430 ≤ ohms) (hmax : ohms ≤ 205100) : (strapAddress ohms).isNone = false := by
  have hvalid : ¬(ohms < 4430 ∨ 205100 < ohms) := by omega
  simp [strapAddress, hvalid]

/-! ### Release and P1 -/

/-- The judgement leaves what P1 sampled of the strap as it is. -/
theorem State.judge_bus_strap (s : State) : s.judge.bus.address = s.bus.address ∧ s.judge.bus.addrKnown = s.bus.addrKnown := by
  obtain ⟨r, h⟩ := s.noteSources_eq
  unfold State.judge State.judgeAlert State.setAlert
  rw [h]
  dsimp only
  split
  · split <;> exact ⟨rfl, rfl⟩
  · exact ⟨rfl, rfl⟩
@[simp] theorem State.judge_bus_address (s : State) : s.judge.bus.address = s.bus.address := s.judge_bus_strap.1
@[simp] theorem State.judge_bus_addrKnown (s : State) : s.judge.bus.addrKnown = s.bus.addrKnown := s.judge_bus_strap.2

/-- A fold whose step changes the recorder only does so too. -/
theorem State.foldl_sketch_eq {α : Type} {f : State → α → State} (h : ∀ s a, ∃ sketch1, f s a = { s with sketch := sketch1 })
    (l : List α) (s : State) : ∃ sketch1, l.foldl f s = { s with sketch := sketch1 } := by
  induction l generalizing s with
  | nil => exact ⟨_, rfl⟩
  | cons a l ih =>
    obtain ⟨sketch1, ha⟩ := h s a
    rw [List.foldl_cons, ha]
    exact ih _

/-- What the sources held enters the recorder, and nothing else changes (R374). -/
theorem State.takeHeld_eq (s : State) (deferred : Bool) : ∃ sketch1, s.takeHeld deferred = { s with sketch := sketch1 } := by
  refine State.foldl_sketch_eq (fun s x => ?_) _ { s with sketch := { s.sketch with held := [] } }
  dsimp only
  split
  · split
    · exact ⟨_, rfl⟩
    · rw [State.record_sketch_only]
      exact ⟨_, rfl⟩
  · split
    · exact ⟨_, rfl⟩
    · exact State.record_eq ..

theorem State.inStage_of {s : State} {k : BitVec 4} (hheld : s.boot.held = false) (hsafe : s.safe.active = false)
    (hstage : s.boot.stage = k) : s.inStage k = true := by
  simp [State.inStage, hheld, hsafe, hstage]

theorem exec_powerOnResetRelease {s : State} (byPorst : Bool) (hheld : s.boot.held = true) :
    ∃ t, exec (.powerOnResetRelease byPorst) s = .next t ∧ t.pins.supplies = List.replicate 5 true ∧
      t.pins.porstN = (s.pins.porstN || byPorst) ∧ t.boot.held = !(s.pins.porstN || byPorst) ∧
      ((s.pins.porstN || byPorst) = true → t.boot.stage = 0 ∧ t.clock.time = 0) := by
  change ∃ t, execPowerOnResetRelease byPorst s = .next t ∧ _
  unfold execPowerOnResetRelease
  dsimp only
  rw [hheld, Bool.true_and]
  split
  · next hhigh => refine ⟨_, rfl, ?_⟩; simp [hhigh]
  · next hlow => refine ⟨_, rfl, ?_⟩; simp [hheld, hlow]

/-- The end of P1 as the next state: the fuse bank and the straps are read, and two clocks run (R43, R351, R452). -/
theorem exec_primeP1 {s : State} (ohms : Nat) (svcRxLow : Bool) (hheld : s.boot.held = false) (hsafe : s.safe.active = false)
    (hstage : s.boot.stage = 1) : ∃ sketch1, exec (.primeP1 ohms svcRxLow) s = .next ({ s with
      fuses := s.varnish.read
      boot := { s.boot with
        strapInvalid := (strapAddress ohms).isNone, svcStrap := svcRxLow, fuseWdtHw := s.varnish.read.wdtHw, stage := 2 }
      bus := { s.bus with address := (strapAddress ohms).getD 0x4F, addrKnown := true }
      pins := { s.pins with svcTx := true }
      clock := { s.clock with corePresent := true, loopPresent := true }
      sketch := sketch1 } : State).judge := by
  change ∃ sketch1, execPrimeP1 ohms svcRxLow s = _
  unfold execPrimeP1
  rw [if_pos (State.inStage_of hheld hsafe hstage)]
  dsimp only
  obtain ⟨sketch1, h⟩ := State.takeHeld_eq { s with
    fuses := s.varnish.read
    boot := { s.boot with strapInvalid := (strapAddress ohms).isNone, svcStrap := svcRxLow, fuseWdtHw := s.varnish.read.wdtHw }
    bus := { s.bus with address := (strapAddress ohms).getD 0x4F, addrKnown := true }
    pins := { s.pins with svcTx := true }
    clock := { s.clock with corePresent := true, loopPresent := true } } false
  exact ⟨sketch1, by rw [h]; rfl⟩

/-- Settles O10: the release, then P1 with the band of Table 2.6 that the measured resistance lies in. -/
theorem releaseAndStrap : Obligations.ReleaseAndStrap := by
  unfold Obligations.ReleaseAndStrap
  refine ⟨fun s byPorst hheld => exec_powerOnResetRelease byPorst hheld, fun s hheld hsafe hstage ohms svcRxLow => ?_⟩
  obtain ⟨sketch1, hexec⟩ := exec_primeP1 ohms svcRxLow hheld hsafe hstage
  refine ⟨_, hexec, ?_⟩
  simp only [State.judge_boot, State.judge_bus_address, State.judge_bus_addrKnown, State.judge_clock, State.judge_pins,
    State.judge_varnish, State.judge_fuses, true_and]
  refine ⟨fun hout => ?_, fun hmin hmax => strapAddress_inside hmin hmax, fun x hx hlo hhi => ?_⟩
  · rw [strapAddress_outside hout]
    exact ⟨rfl, rfl⟩
  · rw [strapAddress_band hx hlo hhi]
    rfl

/-- The edges between the bands, each with the address of the band that begins there. -/
theorem addrBands_begin : ∀ x ∈ [(5620, 0x41), (7150, 0x42), (9070, 0x43), (11520, 0x44), (14650, 0x45), (18610, 0x46),
    (23680, 0x47), (30130, 0x48), (38330, 0x49), (48700, 0x4A), (61900, 0x4B), (78680, 0x4C), (100100, 0x4D), (127100, 0x4E),
    (161300, 0x4F)], ∃ y ∈ addrBands, y.1 = x.1 ∧ x.1 < y.2.1 ∧ y.2.2 = x.2 := by
  decide

/-- Settles O16: the edge is the first resistance of the band above it. -/
theorem bandEdgeSelectsTheHigherBand : Obligations.BandEdgeSelectsTheHigherBand := by
  unfold Obligations.BandEdgeSelectsTheHigherBand
  intro s hheld hsafe hstage svcRxLow x hx
  obtain ⟨y, hy, hfirst, hlast, haddr⟩ := addrBands_begin x hx
  obtain ⟨-, -, hmin, hmax, -⟩ := addrBands_edges y hy
  obtain ⟨sketch1, hexec⟩ := exec_primeP1 x.1 svcRxLow hheld hsafe hstage
  refine ⟨_, hexec, ?_, ?_⟩
  · rw [State.judge_bus_address, strapAddress_band hy hfirst.le hlast, haddr]
    rfl
  · rw [State.judge_boot]
    exact strapAddress_inside (by omega) (by omega)

/-! ### The event store and the identity key at P2 -/

/-- The store opens and the staged records are committed: CURSOR and the recorder change only. -/
theorem State.openStore_commitAll_eq (s : State) : ∃ ret1 sketch1,
    s.openStore.commitAll = { s with ret := ret1, sketch := sketch1 } := by
  unfold State.openStore
  dsimp only
  rw [State.record_sketch_only]
  exact ⟨_, _, rfl⟩

/-- P2 up to its checks: the HM runs, the store is open and its records committed, and the identity key exists. -/
def State.bootedHm (s : State) (keysOk : Bool) : State :=
  (s.updMgr .hm fun p => { p with run := .running }).openStore.commitAll.identityKey keysOk

theorem State.bootedHm_kept {s : State} {keysOk : Bool} (hgen : s.fuses.idGen = true) : ∃ ret1 sketch1, s.bootedHm keysOk = { s with
    hm := { s.hm with run := .running }, ret := ret1, sketch := sketch1, ident := { s.ident with checked := keysOk } } := by
  obtain ⟨ret1, sketch1, h⟩ := State.openStore_commitAll_eq (s.updMgr .hm fun p => { p with run := .running })
  refine ⟨ret1, sketch1, ?_⟩
  rw [State.bootedHm, h, State.identityKey, if_pos (by exact hgen)]
  rfl

theorem State.bootedHm_generated {s : State} {keysOk : Bool} (hgen : s.fuses.idGen = false) : ∃ ret1 sketch1 ident1 free1,
    s.bootedHm keysOk = { s with
      hm := { s.hm with run := .running }, ret := ret1, sketch := sketch1, ident := ident1
      varnish := s.varnish.burn [1606] 3, fuses := { s.fuses with idGen := true }, free := free1 } ∧ ident1.checked = true := by
  obtain ⟨ret1, sketch1, h⟩ := State.openStore_commitAll_eq (s.updMgr .hm fun p => { p with run := .running })
  rw [State.bootedHm, h, State.identityKey, if_neg (by exact fun hyes => Bool.false_ne_true (hgen.symm.trans hyes))]
  exact ⟨ret1, sketch1, _, _, rfl, rfl⟩

theorem exec_primeP2 {s : State} (romOk keysOk memOk : Bool) (hheld : s.boot.held = false) (hsafe : s.safe.active = false)
    (hstage : s.boot.stage = 2) : exec (.primeP2 romOk keysOk memOk) s =
      if romOk && memOk && (keysOk || !s.fuses.idGen) then
        .next (({ s.bootedHm keysOk with pins := { (s.bootedHm keysOk).pins with qcs := true } }.toStage 3).print [stageLine ['2']]).judge
      else .next (((s.bootedHm keysOk).rejectStage 0xD 0).preface [stageLine ['2']]).judge := by
  change execPrimeP2 romOk keysOk memOk s = _
  unfold execPrimeP2
  rw [if_pos (State.inStage_of hheld hsafe hstage)]
  rfl

theorem primeP2_good {s : State} (keysOk : Bool) (hheld : s.boot.held = false) (hsafe : s.safe.active = false)
    (hstage : s.boot.stage = 2) (hkeys : s.fuses.idGen = true → keysOk = true) :
    ∃ t, exec (.primeP2 true keysOk true) s = .next t ∧ t.boot.stage = 3 ∧ t.hm.run = .running ∧ t.ident.checked = true ∧
      t.pins.qcs = true ∧ t.fuses = { s.fuses with idGen := true } ∧
      t.varnish = (if s.fuses.idGen then s.varnish else s.varnish.burn [1606] 3) ∧
      (s.fuses.idGen = true → t.ident.scalar = s.ident.scalar ∧ t.ident.publicKey = s.ident.publicKey) := by
  have hpass : (true && true && (keysOk || !s.fuses.idGen)) = true := by
    cases hgen : s.fuses.idGen
    · simp
    · simp [hkeys hgen]
  refine ⟨_, (exec_primeP2 true keysOk true hheld hsafe hstage).trans (if_pos hpass), ?_⟩
  rw [State.judge_boot, State.judge_hm, State.judge_ident, State.judge_pins, State.judge_fuses, State.judge_varnish]
  cases hgen : s.fuses.idGen
  · obtain ⟨ret1, sketch1, ident1, free1, h, hchecked⟩ := State.bootedHm_generated (keysOk := keysOk) hgen
    rw [h]
    exact ⟨rfl, rfl, hchecked, rfl, rfl, rfl, nofun⟩
  · obtain ⟨ret1, sketch1, h⟩ := State.bootedHm_kept (keysOk := keysOk) hgen
    rw [h, hkeys hgen]
    refine ⟨rfl, rfl, rfl, rfl, ?_, rfl, fun _ => ⟨rfl, rfl⟩⟩
    change s.fuses = _
    rw [← hgen]

/-! ### The blank canvas -/

/-- The boot record of the blank canvas, with its CAUSE and DETAIL (Table 3.10). -/
def Boot.blanked (b : Boot) (cause detail : Nat) : Boot := { b with
  stage := 0xE, slot := 0, fixative := true, cause := BitVec.ofNat 4 cause, detail := BitVec.ofNat 8 detail,
  imageLoaded := false, ovNodes := 0, ovReads := [], heldOff := 0, burnClaim := false, claimHash := 0, imageDigest := 0, patchId := 0,
  patchRm := [], patchHm := [], dryDigest := 0, wetCrc := 0, imageVersion := 0, rollback := 0 }

/-- REMAIN of the watchdogs that do not run is loaded: the two pairs change only. -/
theorem State.loadTimeouts_eq (s : State) : ∃ rm1 hm1, s.loadTimeouts = { s with rm := rm1, hm := hm1 } := ⟨_, _, rfl⟩

/-- A start of a pair's watchdog changes that pair only. -/
theorem State.startWd_eq (s : State) (m : Manager) : ∃ p, s.startWd m = s.updMgr m fun _ => p := by
  cases m <;> exact ⟨_, rfl⟩

theorem State.autoWatchdogs_eq (s : State) : ∃ rm1 hm1, s.autoWatchdogs = { s with rm := rm1, hm := hm1 } := by
  unfold State.autoWatchdogs State.when
  split
  · obtain ⟨p, hrm⟩ := s.startWd_eq .rm
    obtain ⟨q, hhm⟩ := (s.startWd .rm).startWd_eq .hm
    exact ⟨p, q, hhm.trans (by rw [hrm]; rfl)⟩
  · exact ⟨s.rm, s.hm, rfl⟩

theorem State.restartLockout_eq (s : State) : ∃ con1, s.restartLockout = { s with con := con1 } := by
  unfold State.restartLockout State.when
  split
  · exact ⟨_, rfl⟩
  · exact ⟨s.con, rfl⟩

/-- The blank canvas has its boot record, its drivers off and an empty shadow. -/
theorem State.enterBlank_facts (s : State) (cause detail : Nat) : (s.enterBlank cause detail).boot = s.boot.blanked cause detail ∧
    (s.enterBlank cause detail).pins.lanesEnabled = false ∧ (s.enterBlank cause detail).shadow = [] := by
  unfold State.enterBlank
  extract_lets b pins cleared loaded running ready
  obtain ⟨rm1, hm1, hload⟩ := cleared.loadTimeouts_eq
  obtain ⟨rm2, hm2, hwd⟩ := running.autoWatchdogs_eq
  obtain ⟨con1, hlock⟩ := running.autoWatchdogs.restartLockout_eq
  have hready : ready = { cleared with rm := rm2, hm := hm2, con := con1 } := by
    rw [show ready = _ from hlock, hwd]
    change { loaded with rm := rm2, hm := hm2, con := con1 } = _
    rw [show loaded = _ from hload]
  change ready.boot = _ ∧ ready.pins.lanesEnabled = _ ∧ ready.shadow = _
  rw [hready]
  exact ⟨rfl, rfl, rfl⟩

@[simp] theorem State.preface_boot (s : State) (l : List ConLine) : (s.preface l).boot = s.boot := rfl
@[simp] theorem State.preface_pins (s : State) (l : List ConLine) : (s.preface l).pins = s.pins := rfl
@[simp] theorem State.preface_shadow (s : State) (l : List ConLine) : (s.preface l).shadow = s.shadow := rfl

/-- A rejection is recorded and ends in the blank canvas. -/
theorem State.rejectStage_facts (s : State) (cause detail : Nat) :
    (s.rejectStage cause detail).boot = s.boot.blanked cause detail ∧
    (s.rejectStage cause detail).pins.lanesEnabled = false ∧ (s.rejectStage cause detail).shadow = [] := by
  obtain ⟨sketch1, h⟩ := State.record_eq s 0x0003 2 cause detail
  rw [State.rejectStage, h]
  exact State.enterBlank_facts _ cause detail

theorem primeP2_bad {s : State} {romOk keysOk memOk : Bool} (hheld : s.boot.held = false) (hsafe : s.safe.active = false)
    (hstage : s.boot.stage = 2) (hbad : romOk = false ∨ memOk = false ∨ (s.fuses.idGen = true ∧ keysOk = false)) :
    ∃ t, exec (.primeP2 romOk keysOk memOk) s = .next t ∧ t.boot.stage = 0xE ∧ t.boot.cause = 0xD ∧ t.boot.detail = 0 ∧
      t.pins.lanesEnabled = false ∧ t.boot.fixative = true := by
  have hfail : ¬(romOk && memOk && (keysOk || !s.fuses.idGen)) = true := by
    rcases hbad with h | h | ⟨h, h'⟩
    · simp [h]
    · simp [h]
    · simp [h, h']
  obtain ⟨hboot, hlanes, -⟩ := (s.bootedHm keysOk).rejectStage_facts 0xD 0
  refine ⟨_, (exec_primeP2 romOk keysOk memOk hheld hsafe hstage).trans (if_neg hfail), ?_⟩
  rw [State.judge_boot, State.judge_pins, State.preface_boot, State.preface_pins, hboot]
  exact ⟨rfl, rfl, rfl, hlanes, rfl⟩

/-! ### P4 -/

theorem exec_primeP4_refused {s : State} {d : Nat} (hheld : s.boot.held = false) (hsafe : s.safe.active = false)
    (hstage : s.boot.stage = 4) (hclaims : s.claimsFail = some d) :
    exec .primeP4 s = .next ((s.rejectStage 9 d).preface [stageLine ['4']]).judge := by
  change execPrimeP4 s = _
  unfold execPrimeP4
  rw [if_pos (State.inStage_of hheld hsafe hstage), hclaims]
  rfl

theorem exec_primeP4_accepted {s : State} (hheld : s.boot.held = false) (hsafe : s.safe.active = false)
    (hstage : s.boot.stage = 4) (hclaims : s.claimsFail = none) : exec .primeP4 s =
      .next (({ s with pins := { s.pins with fuOn := true } }.patchRestart.toStage 5).print [stageLine ['4']]).judge := by
  change execPrimeP4 s = _
  unfold execPrimeP4
  rw [if_pos (State.inStage_of hheld hsafe hstage), hclaims]
  rfl

/-- The HM takes its patch, where the image has one, through one restart: its epoch advances once (R462). -/
theorem State.patchRestart_eq (s : State) : ∃ ret1 hm1 pm1 sketch1 mail1, s.patchRestart = { s with
    ret := ret1, hm := hm1, pm := pm1, sketch := sketch1, mail := mail1 } ∧
    mail1.epHm = if s.boot.patchHm.isEmpty then s.mail.epHm else s.mail.epHm + 1 := by
  unfold State.patchRestart
  split
  · next hnone => exact ⟨_, _, _, _, _, rfl, rfl⟩
  · obtain ⟨romOnly1, pm1, sketch1, h⟩ := State.bootPatch_hm_eq { s.advanceEpoch .hm with
      ret := { (s.advanceEpoch .hm).ret with kind := 3 }, sketch := (s.advanceEpoch .hm).sketch.closeOpen }
    dsimp only
    rw [h]
    exact ⟨_, _, _, _, _, rfl, rfl⟩

/-- Settles O11, stage by stage: P0, P2 with its checks passed or failed, and P4 with its claims passed or refused. -/
theorem earlyPrimingStages : Obligations.EarlyPrimingStages := by
  unfold Obligations.EarlyPrimingStages
  refine ⟨fun s hheld hsafe hstage => ?_, fun s keysOk hheld hsafe hstage hkeys => primeP2_good keysOk hheld hsafe hstage hkeys,
    fun s romOk keysOk memOk hheld hsafe hstage hbad => primeP2_bad hheld hsafe hstage hbad,
    fun s hheld hsafe hstage hclaims => ?_, fun s d hheld hsafe hstage hclaims => ?_⟩
  · have hexec : exec .primeP0 s = complete (s.toStage 1) := if_pos (State.inStage_of hheld hsafe hstage)
    rw [hexec]
    exact complete_onlyNoted _
  · refine ⟨_, exec_primeP4_accepted hheld hsafe hstage hclaims, ?_⟩
    obtain ⟨ret1, hm1, pm1, sketch1, mail1, h, hep⟩ := State.patchRestart_eq { s with pins := { s.pins with fuOn := true } }
    rw [State.judge_boot, State.judge_pins, State.judge_rails, State.judge_shadow, State.judge_mail, h]
    exact ⟨rfl, rfl, rfl, rfl, hep⟩
  · refine ⟨_, exec_primeP4_refused hheld hsafe hstage hclaims, ?_⟩
    obtain ⟨hboot, -, hshadow⟩ := s.rejectStage_facts 9 d
    rw [State.judge_boot, State.judge_shadow, State.preface_boot, State.preface_shadow, hboot]
    exact ⟨rfl, rfl, rfl, rfl, hshadow⟩

end Sys2Proof.Machine
end

/-! SUPPORT. The enable evaluation: the evaluation of one rail changes no other rail and nothing that their evaluations look at, and
what it makes of the rail's own state. -/

section
namespace Sys2Proof.Machine

/-! ### What an evaluation leaves alone -/

/-- Nothing has changed that decides whether a rail may start: rails, lanes, windows, records and outstanding faults only, and no
phase is held or freed. -/
structure SameGates (s t : State) : Prop where
  eq : t = { s with rails := t.rails, phases := t.phases, comps := t.comps, sketch := t.sketch
                    input := { s.input with faults := t.input.faults } }
  held : t.phases.any (·.held) = s.phases.any (·.held)
  length : t.rails.length = s.rails.length

/-- So it is, and of the rails `n` has changed only. -/
structure EvaluatesRail (n : Nat) (s t : State) : Prop extends SameGates s t where
  rail : ∀ k, n ≠ k → t.rail k = s.rail k

section Evaluates
variable {n : Nat} {s t u : State}

theorem SameGates.refl (s : State) : SameGates s s := ⟨rfl, rfl, rfl⟩

theorem SameGates.trans (h : SameGates s t) (h' : SameGates t u) : SameGates s u := by
  refine ⟨?_, h'.held.trans h.held, h'.length.trans h.length⟩
  have heq := h'.eq
  rw [h.eq] at heq
  exact heq

theorem SameGates.startFree (h : SameGates s t) (k : Nat) : t.startFree k = s.startFree k := by
  have hlevel : t.levelHeld = s.levelHeld := by
    rw [State.levelHeld, h.held, h.eq]
    rfl
  rw [State.startFree, hlevel, h.eq]
  rfl

theorem SameGates.railKept (h : SameGates s t) (k : Nat) : t.railKept k = s.railKept k := by
  rw [h.eq]
  rfl

theorem SameGates.enableRequest (h : SameGates s t) {k : Nat} (hk : t.rail k = s.rail k) :
    t.enableRequest k = s.enableRequest k := by
  rw [State.enableRequest, hk, h.eq]
  rfl

theorem EvaluatesRail.refl (n : Nat) (s : State) : EvaluatesRail n s s := ⟨.refl s, fun _ _ => rfl⟩

theorem EvaluatesRail.trans (h : EvaluatesRail n s t) (h' : EvaluatesRail n t u) : EvaluatesRail n s u :=
  ⟨h.toSameGates.trans h'.toSameGates, fun k hk => (h'.rail k hk).trans (h.rail k hk)⟩

theorem EvaluatesRail.updRail (s : State) (n : Nat) (f : Rail → Rail) : EvaluatesRail n s (s.updRail n f) :=
  ⟨⟨rfl, rfl, List.length_modify ..⟩, fun k hk => s.updRail_rail_ne n k f hk⟩

theorem EvaluatesRail.mapPhases (s : State) {g : Nat → Phase → Phase} (hg : ∀ p x, (g p x).held = x.held) :
    EvaluatesRail n s (s.mapPhases g) := by
  refine ⟨⟨rfl, ?_, rfl⟩, fun _ _ => rfl⟩
  have hmap : (s.phases.mapIdx g).map (·.held) = s.phases.map (·.held) :=
    List.ext_getElem (by simp) fun i _ _ => by simp [hg]
  simpa [List.any_map, Function.comp_def] using congrArg (List.any · id) hmap

theorem EvaluatesRail.openWindow (s : State) (m : Nat) (src : MaskSrc) : EvaluatesRail n s (s.openWindow m src) :=
  ⟨⟨rfl, rfl, rfl⟩, fun _ _ => rfl⟩

theorem EvaluatesRail.record (s : State) (code src p0 p1 : Nat) : EvaluatesRail n s (s.record code src p0 p1) := by
  rw [State.record_sketch_only]
  exact ⟨⟨rfl, rfl, rfl⟩, fun _ _ => rfl⟩

theorem EvaluatesRail.when (s : State) (c : Bool) {f : State → State} (h : EvaluatesRail n s (f s)) :
    EvaluatesRail n s (s.when c f) := by
  unfold State.when
  split
  · exact h
  · exact .refl n s

theorem EvaluatesRail.ite (c : Prop) [Decidable c] (h : EvaluatesRail n s t) (h' : EvaluatesRail n s u) :
    EvaluatesRail n s (if c then t else u) := by
  split
  · exact h
  · exact h'

end Evaluates

section Operations
variable (s : State) (n : Nat)

theorem State.setLanes_evaluates (g : Phase → LaneCmd) : EvaluatesRail n s (s.setLanes n g) := by
  unfold State.setLanes
  exact .trans (.mapPhases s fun p x => by split <;> rfl) (.when _ _ (.openWindow _ n .edge))

theorem State.obeyOverrides_evaluates : EvaluatesRail n s (s.obeyOverrides n) := by
  unfold State.obeyOverrides
  exact .ite _ (s.setLanes_evaluates n _) (.ite _ (s.setLanes_evaluates n _) (.refl n s))

theorem State.respace_evaluates (old : List Nat) : EvaluatesRail n s (s.respace n old) := by
  unfold State.respace
  dsimp only
  split
  · exact .refl n s
  · refine .trans ?_ (.ite _ (.openWindow _ n .add) (.refl n _))
    refine .trans (.mapPhases s fun p x => ?_) (.updRail _ n _)
    split
    · rfl
    · split
      · split <;> rfl
      · rfl

theorem State.movePhases_evaluates {f : State → State} (h : EvaluatesRail n s (f s)) : EvaluatesRail n s (s.movePhases n f) := by
  unfold State.movePhases
  have hmoved := h.trans (((f s).respace_evaluates n (s.spacing n)).trans (State.obeyOverrides_evaluates _ n))
  exact .ite _ (.trans hmoved (.trans (.updRail _ n _) (.updRail _ n _))) hmoved

theorem Phase.take_held (x : Phase) : x.take.held = x.held := by
  unfold Phase.take
  split <;> rfl

theorem State.addTo_evaluates (f : Nat) : EvaluatesRail n s (s.addTo n f) := by
  unfold State.addTo
  refine .ite _ (.refl n s) (s.movePhases_evaluates n (.mapPhases s fun p x => ?_))
  split
  · exact x.take_held
  · rfl

theorem State.retargetWith_evaluates (hostMove slide : Bool) : EvaluatesRail n s (s.retargetWith n hostMove slide) := by
  unfold State.retargetWith
  exact .ite _ (.updRail s n _) (.trans (.updRail s n _) (.trans (.updRail _ n _) (.openWindow _ n .setpt)))

theorem State.endYields_evaluates (log : Bool) : EvaluatesRail n s (s.endYields n log) := by
  unfold State.endYields
  exact .trans (.when s _ (.record ..)) (.trans (.when _ _ (.record ..)) (.trans (.when _ _ (.record ..))
    (.trans (.when _ _ (.record ..)) (.updRail _ n _))))

theorem State.dropPg_evaluates : EvaluatesRail n s (s.dropPg n) := by
  unfold State.dropPg
  exact .trans (.when s _ (.record ..)) (.updRail _ n _)

theorem State.preloadStart_evaluates : EvaluatesRail n s (s.preloadStart n) := by
  unfold State.preloadStart
  exact .trans (.updRail s n _) (.trans (.updRail _ n _) (.updRail _ n _))

theorem State.beginRamp_evaluates : EvaluatesRail n s (s.beginRamp n) := by
  unfold State.beginRamp
  exact .trans (s.preloadStart_evaluates n) (.trans (.updRail _ n _) (.trans (.updRail _ n _) (.trans (.updRail _ n _)
    (.when _ _ (.record ..)))))

theorem State.tryRamp_evaluates : EvaluatesRail n s (s.tryRamp n) := by
  unfold State.tryRamp
  exact .ite _ (s.beginRamp_evaluates n) (.refl n s)

theorem State.freshCounts_evaluates : EvaluatesRail n s (s.freshCounts n) := by
  unfold State.freshCounts
  exact .trans (.updRail s n _) (.updRail _ n _)

theorem State.startRail_evaluates (fromPrimed : Bool) : EvaluatesRail n s (s.startRail n fromPrimed) := by
  unfold State.startRail
  exact .trans (.updRail s n _) (.trans (State.freshCounts_evaluates _ n) (.trans (.updRail _ n _)
    (.trans (State.preloadStart_evaluates _ n) (.trans (State.retargetWith_evaluates _ n _ _)
    (.trans (State.addTo_evaluates _ n _) (State.tryRamp_evaluates _ n))))))

theorem State.softStop_evaluates (byApp : Bool) : EvaluatesRail n s (s.softStop n byApp) := by
  unfold State.softStop
  exact .trans (.updRail s n _) (.trans (State.endYields_evaluates _ n _) (.trans (State.dropPg_evaluates _ n)
    (State.retargetWith_evaluates _ n _ _)))

/-- The test of R129 touches the fault of the rail's own sense. -/
theorem State.faultOn_sense_evaluates (isB lasting : Bool) : EvaluatesRail n s (s.faultOn .sense (2 * n + b2n isB) lasting) := by
  have hbit : b2n isB < 2 := by cases isB <;> decide
  have hrail : (2 * n + b2n isB) / 2 = n := by omega
  have hfault : s.faultOn .sense (2 * n + b2n isB) lasting = { s with
      input := { s.input with faults := s.faultsWith .sense (2 * n + b2n isB) lasting } }.abortChar n := by
    unfold State.faultOn State.faultRails
    rw [hrail]
    rfl
  rw [hfault]
  exact .trans (t := { s with input := { s.input with faults := s.faultsWith .sense (2 * n + b2n isB) lasting } })
    ⟨⟨rfl, rfl, rfl⟩, fun _ _ => rfl⟩ (.updRail _ n _)

theorem State.retestSenses_evaluates (tests : List SenseTest) : EvaluatesRail n s (s.retestSenses n tests) := by
  have hone (s : State) (isB : Bool) : EvaluatesRail n s
      (if !(if isB then (s.rail n).sense.bFailed else (s.rail n).sense.aFailed) then s
      else if sensePasses tests n isB then
        (s.updSense n fun x => if isB then { x with bFailed := false } else { x with aFailed := false }).faultMended .sense (2 * n + b2n isB)
      else s.faultOn .sense (2 * n + b2n isB) true) :=
    .ite _ (.refl n s) (.ite _ (.trans (.updRail s n _) ⟨⟨rfl, rfl, rfl⟩, fun _ _ => rfl⟩) (s.faultOn_sense_evaluates n isB true))
  exact .trans (hone s false) (hone _ true)

theorem State.enableRail_evaluates (req fresh : Bool) (tests : List SenseTest) : EvaluatesRail n s (s.enableRail n req fresh tests) := by
  unfold State.enableRail
  dsimp only
  split
  · exact .ite _ (.trans (s.retestSenses_evaluates n tests) (State.startRail_evaluates _ n true)) (.refl n s)
  · exact .ite _ (.refl n s) (s.softStop_evaluates n false)
  · exact .ite _ (.refl n s) (s.softStop_evaluates n false)
  · exact .ite _ (.refl n s) (s.softStop_evaluates n false)
  · exact .ite _ (.trans (s.freshCounts_evaluates n) (.trans (.updRail _ n _) (State.addTo_evaluates _ n _))) (.refl n s)
  · exact .ite _ (s.startRail_evaluates n false) (.refl n s)
  · exact .ite _ (.trans (.updRail s n _) (.trans (.updRail _ n _) (.updRail _ n _))) (.refl n s)
  · exact .ite _ (.refl n s) (.updRail s n _)
  · exact .ite _ (.refl n s) (s.softStop_evaluates n true)
  · exact .refl n s

theorem State.evaluateRail_evaluates (tests : List SenseTest) : EvaluatesRail n s (State.evaluateRail tests s n) := by
  unfold State.evaluateRail
  dsimp only
  split
  · exact .updRail s n _
  · refine .trans ?_ (State.enableRail_evaluates _ n _ _ _)
    refine .trans ?_ (.when _ _ (State.retargetWith_evaluates _ n _ _))
    exact .trans (.updRail s n _) (.trans (.updRail _ n _) (.updRail _ n _))

end Operations

/-! ### What an evaluation makes of the rail -/

/-- A new target sets a REGULATING rail SLEWING; apart from that it moves no rail's state. -/
def RailState.retargeted : RailState → RailState
  | .regulating => .slewing
  | x => x

/-- What the enable request acts on of a rail: its state, up to a new target, the request, and whose stop it is in. -/
def Rail.enable (r : Rail) : RailState × Bool × Bool := (r.core.state.retargeted, r.core.enReq, r.core.appStop)

theorem blind_enable : Blind Rail.enable :=
  ⟨fun _ _ => rfl, fun _ _ => rfl, fun _ _ => rfl, fun _ _ => rfl, fun _ _ _ _ _ _ => rfl, fun _ _ _ => rfl⟩

section Enable
variable (s : State) (n : Nat)

theorem State.updCore_enable {f : RailCore → RailCore} (hstate : ∀ c, (f c).state.retargeted = c.state.retargeted)
    (hreq : ∀ c, (f c).enReq = c.enReq) (hstop : ∀ c, (f c).appStop = c.appStop) :
    (s.updCore n f).views Rail.enable = s.views Rail.enable :=
  s.updRail_views n _ fun r => by simp [Rail.enable, hstate, hreq, hstop]

theorem State.retargetWith_enable (hostMove slide : Bool) :
    (s.retargetWith n hostMove slide).views Rail.enable = s.views Rail.enable := by
  have hset (c : RailCore) : (if c.state = .regulating then RailState.slewing else c.state).retargeted = c.state.retargeted := by
    cases c.state <;> rfl
  simp [State.retargetWith, State.updCore_enable, hset]

theorem State.addTo_enable (f : Nat) : (s.addTo n f).views Rail.enable = s.views Rail.enable := by
  simp [State.addTo, blind_enable]

theorem State.freshCounts_enable : (s.freshCounts n).views Rail.enable = s.views Rail.enable := by
  simp [State.freshCounts, blind_enable]

theorem State.faultMended_enable (k : FaultKind) (i : Nat) : (s.faultMended k i).views Rail.enable = s.views Rail.enable := rfl

theorem State.retestSenses_enable (tests : List SenseTest) : (s.retestSenses n tests).views Rail.enable = s.views Rail.enable := by
  simp [State.retestSenses, State.faultMended_enable, blind_enable]

theorem State.updModel_enable (f : RailModel → RailModel) : (s.updModel n f).views Rail.enable = s.views Rail.enable :=
  s.updRail_views n _ fun _ => rfl

theorem State.updProt_enable (f : RailProt → RailProt) : (s.updProt n f).views Rail.enable = s.views Rail.enable :=
  s.updRail_views n _ fun _ => rfl

theorem State.updHosted_enable (f : RailHost → RailHost) : (s.updHosted n f).views Rail.enable = s.views Rail.enable :=
  s.updRail_views n _ fun _ => rfl

theorem State.preloadStart_enable : (s.preloadStart n).views Rail.enable = s.views Rail.enable := by
  simp [State.preloadStart, State.updCore_enable, State.updModel_enable, blind_enable]

theorem State.tryRamp_enable : (s.tryRamp n).views Rail.enable = s.views Rail.enable := by
  simp [State.tryRamp, State.beginRamp, State.preloadStart_enable, State.updCore_enable, blind_enable]

/-- Two changes of a rail's core that agree on what the request acts on. -/
theorem State.updCore_enable_congr {f g : RailCore → RailCore} (hstate : ∀ c, (f c).state = (g c).state)
    (hreq : ∀ c, (f c).enReq = (g c).enReq) (hstop : ∀ c, (f c).appStop = (g c).appStop) :
    (s.updCore n f).views Rail.enable = (s.updCore n g).views Rail.enable := by
  refine List.ext_getElem (by simp [State.views, State.updCore]) fun i _ _ => ?_
  simp only [State.views, State.updCore, State.updRail_rails, List.getElem_map, List.getElem_modify]
  split
  · simp [Rail.enable, hstate, hreq, hstop]
  · rfl

/-- A start enters SOFT_START, and nothing in it changes that. -/
theorem State.startRail_enable (fromPrimed : Bool) : (s.startRail n fromPrimed).views Rail.enable =
    (s.updCore n fun c => { c with state := .softStart }).views Rail.enable := by
  unfold State.startRail State.addStart State.retarget
  dsimp only
  rw [State.tryRamp_enable, State.addTo_enable, State.retargetWith_enable, State.preloadStart_enable, State.updProt_enable,
    State.freshCounts_enable]
  exact s.updCore_enable_congr n (by exact fun _ => rfl) (by exact fun _ => rfl) (by exact fun _ => rfl)

/-- A stop enters SOFT_STOP, the Apprentice's or not. -/
theorem State.softStop_enable (byApp : Bool) : (s.softStop n byApp).views Rail.enable =
    (s.updCore n fun c => { c with state := .softStop, appStop := byApp }).views Rail.enable := by
  unfold State.softStop State.retarget
  dsimp only
  rw [State.retargetWith_enable, State.dropPg_views blind_enable, State.endYields_views blind_enable]
  exact s.updCore_enable_congr n (by exact fun _ => rfl) (by exact fun _ => rfl) (by exact fun _ => rfl)

end Enable

section Request
variable {s : State} {n : Nat}

theorem State.updCore_core (f : RailCore → RailCore) (hn : n < s.rails.length) : ((s.updCore n f).rail n).core = f (s.rail n).core :=
  congrArg Rail.core (s.updRail_rail n _ hn)

/-- A state that a new target cannot change is known from the view. -/
theorem RailState.eq_of_retargeted {x y : RailState} (h : x.retargeted = y.retargeted) (hy : y ≠ .regulating ∧ y ≠ .slewing) :
    x = y := by
  cases x <;> cases y <;> simp_all [RailState.retargeted]

/-- A rail that moves toward a target still does after a new one. -/
theorem RailState.moving_of_retargeted {x : RailState} (h : x.retargeted = .slewing) : x = .regulating ∨ x = .slewing := by
  cases x <;> simp_all [RailState.retargeted]

theorem State.enable_of_views {t : State} (h : t.views Rail.enable = s.views Rail.enable) :
    (t.rail n).core.state.retargeted = (s.rail n).core.state.retargeted ∧ (t.rail n).core.enReq = (s.rail n).core.enReq ∧
    (t.rail n).core.appStop = (s.rail n).core.appStop := by
  have hview := State.view_of_views h n
  exact ⟨congrArg Prod.fst hview, congrArg (·.2.1) hview, congrArg (·.2.2) hview⟩

/-- From `s` to `t` rail `n` has entered a state, with the request that it had. -/
def Enters (n : Nat) (s t : State) (x : RailState) : Prop :=
  (t.rail n).core.state = x ∧ (t.rail n).core.enReq = (s.rail n).core.enReq

theorem State.updCore_enters {f : RailCore → RailCore} {x : RailState} (hn : n < s.rails.length)
    (h : (f (s.rail n).core).state = x ∧ (f (s.rail n).core).enReq = (s.rail n).core.enReq) : Enters n s (s.updCore n f) x := by
  rw [Enters, State.updCore_core f hn]
  exact h

theorem Enters.after {t u : State} {x : RailState} (h : Enters n s t x) (hx : x ≠ .regulating ∧ x ≠ .slewing)
    (hv : u.views Rail.enable = t.views Rail.enable) : Enters n s u x := by
  obtain ⟨hstate, hreq, -⟩ := State.enable_of_views (n := n) hv
  rw [h.1] at hstate
  exact ⟨RailState.eq_of_retargeted hstate hx, hreq.trans h.2⟩

theorem Enters.before {t u : State} {x : RailState} (h : Enters n t u x) (hv : t.views Rail.enable = s.views Rail.enable) :
    Enters n s u x := ⟨h.1, h.2.trans (State.enable_of_views hv).2.1⟩

theorem State.startRail_enters (hn : n < s.rails.length) (fromPrimed : Bool) : Enters n s (s.startRail n fromPrimed) .softStart :=
  (State.updCore_enters (x := .softStart) hn ⟨rfl, rfl⟩).after (by decide) (s.startRail_enable n fromPrimed)

theorem State.softStop_enters (hn : n < s.rails.length) (byApp : Bool) : Enters n s (s.softStop n byApp) .softStop :=
  (State.updCore_enters (x := .softStop) hn ⟨rfl, rfl⟩).after (by decide) (s.softStop_enable n byApp)

variable {req fresh : Bool} {tests : List SenseTest}

theorem State.enableRail_starts (hn : n < s.rails.length) (hstate : (s.rail n).core.state = .primed)
    (hfree : (req && s.startFree n) = true) : Enters n s (s.enableRail n req fresh tests) .softStart := by
  have hviews := s.retestSenses_enable n tests
  have hlen : n < (s.retestSenses n tests).rails.length := by rw [State.length_of_views hviews]; exact hn
  rw [State.enableRail, hstate]
  dsimp only
  rw [if_pos hfree]
  exact (State.startRail_enters hlen true).before hviews

theorem State.enableRail_waits (hstate : (s.rail n).core.state = .primed) (hfree : (req && s.startFree n) = false) :
    s.enableRail n req fresh tests = s := by
  rw [State.enableRail, hstate]
  dsimp only
  rw [if_neg (by rw [hfree]; exact Bool.false_ne_true)]

theorem State.enableRail_stops (hn : n < s.rails.length)
    (hstate : (s.rail n).core.state = .softStart ∨ (s.rail n).core.state = .regulating ∨ (s.rail n).core.state = .slewing) :
    Enters n s (s.enableRail n false fresh tests) .softStop := by
  rw [State.enableRail]
  obtain h | h | h := hstate <;> rw [h] <;> exact State.softStop_enters hn false

theorem State.enableRail_reverses (hn : n < s.rails.length) (hstate : (s.rail n).core.state = .softStop)
    (hreq : (req && !(s.rail n).core.appStop) = true) : Enters n s (s.enableRail n req fresh tests) .softStart := by
  rw [State.enableRail, hstate]
  dsimp only
  rw [if_pos hreq]
  have hviews := s.freshCounts_enable n
  have hlen : n < (s.freshCounts n).rails.length := by rw [State.length_of_views hviews]; exact hn
  exact ((State.updCore_enters (x := .softStart) hlen ⟨rfl, rfl⟩).after (by decide) (State.addTo_enable _ n _)).before hviews

theorem State.enableRail_givesUp (hn : n < s.rails.length) (hstate : (s.rail n).core.state = .reenablePending) :
    Enters n s (s.enableRail n false fresh tests) .faultLatched := by
  rw [State.enableRail, hstate]
  dsimp only
  rw [if_neg Bool.false_ne_true]
  exact State.updCore_enters (x := .faultLatched) hn ⟨rfl, rfl⟩

/-- No transition changes the request. -/
theorem State.enableRail_enReq (hn : n < s.rails.length) :
    ((s.enableRail n req fresh tests).rail n).core.enReq = (s.rail n).core.enReq := by
  have hstop (b : Bool) : ((if req then s else s.softStop n b).rail n).core.enReq = (s.rail n).core.enReq := by
    split
    · rfl
    · exact (State.softStop_enters hn b).2
  cases hstate : (s.rail n).core.state with
  | off => rw [State.enableRail, hstate]
  | primed =>
    cases hfree : req && s.startFree n
    · rw [State.enableRail_waits hstate hfree]
    · exact (State.enableRail_starts hn hstate hfree).2
  | softStart | regulating | slewing => rw [State.enableRail, hstate]; exact hstop false
  | apprenticeHold => rw [State.enableRail, hstate]; exact hstop true
  | softStop =>
    cases hreq : req && !(s.rail n).core.appStop
    · rw [State.enableRail, hstate]
      dsimp only
      rw [if_neg (by rw [hreq]; exact Bool.false_ne_true)]
    · exact (State.enableRail_reverses hn hstate hreq).2
  | discharge =>
    rw [State.enableRail, hstate]
    dsimp only
    split
    · exact (State.startRail_enters hn false).2
    · rfl
  | faultLatched =>
    rw [State.enableRail, hstate]
    dsimp only
    split
    · have hleave : (s.leaveLatch n).views Rail.enable = s.views Rail.enable := by
        simp [State.leaveLatch, blind_enable]
      have hlen : n < (s.leaveLatch n).rails.length := by rw [State.length_of_views hleave]; exact hn
      exact ((State.updCore_enters (x := .reenablePending) hlen ⟨rfl, rfl⟩).before hleave).2
    · rfl
  | reenablePending =>
    rw [State.enableRail, hstate]
    dsimp only
    split
    · rfl
    · exact (State.updCore_enters (x := .faultLatched) hn ⟨rfl, rfl⟩).2

end Request

/-! ### One rail, and all of them -/

section Rails
variable {s : State} {n : Nat} {tests : List SenseTest}

theorem State.evaluateRail_kept (h : s.railKept n = true) : State.evaluateRail tests s n = s.moveRll n := if_pos h

/-- The rail as its transition begins: the new request is taken, and a margin with it (R439). -/
def State.asked (s : State) (n : Nat) : State :=
  let req := s.enableRequest n
  let t := ((s.moveRll n).updCore n fun c => { c with enReq := req }).updHosted n fun h => { h with newEnable := false }
  t.when (req != (s.rail n).core.enReq && (t.rail n).core.state != .apprenticeHold) fun s => s.retargetWith n (s.margin n).isSome false

theorem State.asked_evaluates (s : State) (n : Nat) : EvaluatesRail n s (s.asked n) := by
  unfold State.asked
  refine .trans ?_ (.when _ _ (State.retargetWith_evaluates _ n _ _))
  exact .trans (.updRail s n _) (.trans (.updRail _ n _) (.updRail _ n _))

theorem State.moveRll_rail (hn : n < s.rails.length) : ∃ rll1,
    (s.moveRll n).rail n = { s.rail n with core := { (s.rail n).core with rll := rll1 } } := ⟨_, s.updRail_rail n _ hn⟩

theorem State.moveRll_length (s : State) (n : Nat) : (s.moveRll n).rails.length = s.rails.length := List.length_modify ..

theorem State.moveRll_enableRequest (hn : n < s.rails.length) : (s.moveRll n).enableRequest n = s.enableRequest n := by
  obtain ⟨rll1, h⟩ := State.moveRll_rail hn
  rw [State.enableRequest, h]
  rfl

theorem State.asked_enable (hn : n < s.rails.length) : ((s.asked n).rail n).core.enReq = s.enableRequest n ∧
    ((s.asked n).rail n).core.appStop = (s.rail n).core.appStop ∧
    ((s.asked n).rail n).core.state.retargeted = (s.rail n).core.state.retargeted := by
  have hviews : (s.asked n).views Rail.enable =
      ((s.moveRll n).updCore n fun c => { c with enReq := s.enableRequest n }).views Rail.enable :=
    (State.when_views _ _ _ fun t => t.retargetWith_enable n _ _).trans (State.updHosted_enable _ n _)
  obtain ⟨hstate, hreq, hstop⟩ := State.enable_of_views (n := n) hviews
  obtain ⟨rll1, hrail⟩ := State.moveRll_rail hn
  rw [State.updCore_core _ (by rw [State.moveRll_length]; exact hn), hrail] at hstate hreq hstop
  exact ⟨hreq, hstop, hstate⟩

theorem State.evaluateRail_free (hn : n < s.rails.length) (h : s.railKept n = false) : ∃ fresh,
    State.evaluateRail tests s n = (s.asked n).enableRail n (s.enableRequest n) fresh tests := by
  obtain ⟨rll1, hrail⟩ := State.moveRll_rail hn
  have hold : ((s.moveRll n).rail n).core.enReq = (s.rail n).core.enReq := by rw [hrail]
  unfold State.evaluateRail
  dsimp only
  rw [if_neg (by exact fun hkept => Bool.false_ne_true (h.symm.trans hkept)), State.moveRll_enableRequest hn, hold]
  exact ⟨_, rfl⟩

/-- What the evaluation makes of rail `n`, in the words of O36. -/
def Evaluated (n : Nat) (s t : State) : Prop :=
  (t.rail n).core.enReq = s.enableRequest n ∧
  ((s.rail n).core.state = .primed → s.enableRequest n = true → s.startFree n = true → (t.rail n).core.state = .softStart) ∧
  ((s.rail n).core.state = .primed → s.enableRequest n = false ∨ s.startFree n = false → (t.rail n).core.state = .primed) ∧
  ((s.rail n).core.state = .softStart ∨ (s.rail n).core.state = .regulating ∨ (s.rail n).core.state = .slewing →
    s.enableRequest n = false → (t.rail n).core.state = .softStop) ∧
  ((s.rail n).core.state = .softStop → (s.rail n).core.appStop = false → s.enableRequest n = true →
    (t.rail n).core.state = .softStart) ∧
  ((s.rail n).core.state = .reenablePending → s.enableRequest n = false → (t.rail n).core.state = .faultLatched)

theorem State.evaluateRail_evaluated (hn : n < s.rails.length) (h : s.railKept n = false) :
    Evaluated n s (State.evaluateRail tests s n) := by
  obtain ⟨fresh, heq⟩ := State.evaluateRail_free (tests := tests) hn h
  have hasked := s.asked_evaluates n
  obtain ⟨hreq, hstop, hstate⟩ := State.asked_enable hn
  have hlen : n < (s.asked n).rails.length := by rw [hasked.length]; exact hn
  have hsame {x : RailState} (hx : x ≠ .regulating ∧ x ≠ .slewing) (hs : (s.rail n).core.state = x) :
      ((s.asked n).rail n).core.state = x := RailState.eq_of_retargeted (by rw [hstate, hs]) hx
  rw [heq]
  refine ⟨(State.enableRail_enReq hlen).trans hreq, fun hs hr hf => ?_, fun hs hwait => ?_, fun hs hr => ?_, fun hs ha hr => ?_,
    fun hs hr => ?_⟩
  · refine (State.enableRail_starts hlen (hsame (by decide) hs) ?_).1
    rw [hr, hasked.startFree, hf]
    rfl
  · rw [State.enableRail_waits (hsame (by decide) hs)]
    · exact hsame (by decide) hs
    · rw [hasked.startFree]
      obtain hr | hf := hwait
      · rw [hr, Bool.false_and]
      · rw [hf, Bool.and_false]
  · rw [hr]
    refine (State.enableRail_stops hlen ?_).1
    obtain hs | hs | hs := hs
    · exact .inl (hsame (by decide) hs)
    · exact .inr (RailState.moving_of_retargeted (by rw [hstate, hs]; rfl))
    · exact .inr (RailState.moving_of_retargeted (by rw [hstate, hs]; rfl))
  · refine (State.enableRail_reverses hlen (hsame (by decide) hs) ?_).1
    rw [hr, hstop, ha]
    rfl
  · rw [hr]
    exact (State.enableRail_givesUp hlen (hsame (by decide) hs)).1

/-- The evaluation of other rails leaves a rail and its gates alone; its own finds both as they were. -/
theorem State.evaluateRails_rail (l : List Nat) (hl : l.Nodup) (s : State) :
    SameGates s (s.forEach l (State.evaluateRail tests)) ∧
    (∀ n, n ∉ l → (s.forEach l (State.evaluateRail tests)).rail n = s.rail n) ∧
    ∀ n ∈ l, ∃ u, SameGates s u ∧ u.rail n = s.rail n ∧
      (s.forEach l (State.evaluateRail tests)).rail n = (State.evaluateRail tests u n).rail n := by
  induction l generalizing s with
  | nil => exact ⟨.refl s, fun _ _ => rfl, nofun⟩
  | cons k l ih =>
    obtain ⟨hk, hl⟩ := List.nodup_cons.1 hl
    have hone := s.evaluateRail_evaluates k tests
    obtain ⟨hgates, hout, hin⟩ := ih hl (State.evaluateRail tests s k)
    refine ⟨hone.toSameGates.trans hgates, fun n hn => ?_, fun n hn => ?_⟩
    · obtain ⟨hnk, hn⟩ := not_or.1 (mt List.mem_cons.2 hn)
      exact (hout n hn).trans (hone.rail n fun h => hnk h.symm)
    · obtain rfl | hn := List.mem_cons.1 hn
      · exact ⟨s, .refl s, rfl, hout n hk⟩
      · obtain ⟨u, hu, hrail, hres⟩ := hin n hn
        exact ⟨u, hone.toSameGates.trans hu, hrail.trans (hone.rail n fun h => hk (h ▸ hn)), hres⟩

/-- Where every rail evaluated keeps its state no phase moves. -/
theorem State.evaluateRails_phases (l : List Nat) (s : State) (h : ∀ n ∈ l, s.railKept n = true) :
    (s.forEach l (State.evaluateRail tests)).phases = s.phases := by
  induction l generalizing s with
  | nil => rfl
  | cons k l ih =>
    have hone : State.evaluateRail tests s k = s.moveRll k := State.evaluateRail_kept (h k List.mem_cons_self)
    change ((State.evaluateRail tests s k).forEach l _).phases = _
    rw [hone]
    exact ih _ fun n hn => h n (List.mem_cons_of_mem k hn)

end Rails

/-- The EN balls are sampled (R35); the TAP may hold every one off (R473). -/
def State.enSampled (s : State) (high : BitVec 16) : State :=
  { s with pins := { s.pins with enOn := if s.tap.enHeld then 0 else high } }

theorem exec_enableEvaluation {s : State} (high : BitVec 16) (tests : List SenseTest) (hstage : s.boot.stage = 8) :
    exec (.enableEvaluation high tests) s =
      .next ((s.enSampled high).forEach s.enabledRails (State.evaluateRail tests)).judge :=
  if_pos (by rw [State.primed, hstage]; rfl)

/-- Settles O36: each enabled rail is evaluated once, from the gates and the rail as they were. -/
theorem enableRequestMovesTheRail : Obligations.EnableRequestMovesTheRail := by
  unfold Obligations.EnableRequestMovesTheRail
  intro high tests s hstage h16
  obtain ⟨hgates, hout, hin⟩ := State.evaluateRails_rail (tests := tests) s.enabledRails (List.nodup_range.filter _) (s.enSampled high)
  have hmem (n : Fin 16) : n.val ∈ s.enabledRails ↔ s.railEn n = true := by
    rw [State.enabledRails, indices, List.mem_filter, List.mem_range]
    exact and_iff_right n.isLt
  have hpins : ((s.enSampled high).forEach s.enabledRails (State.evaluateRail tests)).pins = (s.enSampled high).pins := by
    rw [hgates.eq]
  refine ⟨_, exec_enableEvaluation high tests hstage, ?_⟩
  simp only [State.judge_pins, State.judge_rail, State.judge_phases, hpins]
  refine ⟨rfl, fun n hen hkept => ?_, fun hkept => ?_, fun n hen hfree => ?_, fun n hen => ?_⟩
  · obtain ⟨v, hv, hrail, hres⟩ := hin n ((hmem n).2 hen)
    have hlen : n.val < v.rails.length := n.isLt.trans_eq (h16.symm.trans hv.length.symm)
    obtain ⟨rll1, hmoved⟩ := State.moveRll_rail hlen
    rw [hres, State.evaluateRail_kept ((hv.railKept n).trans hkept), hmoved, hrail]
    exact ⟨rfl, rfl, rfl⟩
  · refine State.evaluateRails_phases _ (s.enSampled high) fun n hn => ?_
    obtain ⟨hlt, hen⟩ := List.mem_filter.1 hn
    exact hkept ⟨n, List.mem_range.1 hlt⟩ hen
  · obtain ⟨v, hv, hrail, hres⟩ := hin n ((hmem n).2 hen)
    have hlen : n.val < v.rails.length := n.isLt.trans_eq (h16.symm.trans hv.length.symm)
    obtain ⟨hreq, hstart, hwait, hstop, hback, hlatch⟩ :=
      State.evaluateRail_evaluated (tests := tests) hlen ((hv.railKept n).trans hfree)
    rw [hv.enableRequest hrail, hrail, hv.startFree] at hstart
    rw [hv.enableRequest hrail, hrail, hv.startFree] at hwait
    rw [hv.enableRequest hrail, hrail] at hstop hback hlatch
    rw [hv.enableRequest hrail] at hreq
    rw [hres]
    refine ⟨hreq, fun hs hr htap happ hclass hstandby hlevel => hstart hs hr ?_, fun hs hno => hwait hs ?_, hstop, hback, hlatch⟩
    · change (!s.app.holding && !s.classStopped n && !s.clock.standby && !s.levelHeld && !s.tap.enHeld) = true
      rw [happ, hclass, hstandby, hlevel, htap]
      rfl
    · refine hno.imp_right fun h => ?_
      change (!s.app.holding && !s.classStopped n && !s.clock.standby && !s.levelHeld && !s.tap.enHeld) = false
      obtain h | h := h <;> simp [h]
  · exact hout n fun hn => Bool.false_ne_true (hen.symm.trans ((hmem n).1 hn))

end Sys2Proof.Machine
end

/-! SUPPORT. FFLTn_N: a level that LOOP has not seen yet is a change for the router, though the line stands. -/

section
namespace Sys2Proof.Machine

/-- PRIMED with LOOP's clock and the FU receivers on. FFLT0_N has been low since before P1 gave LOOP its clock (R16), so that LOOP has
not seen it; the image routes it to FASTSTOP 0 over the hard path, and rail 0 regulates. -/
def ffltUnseen : State := { State.reset with
  boot := { Boot.reset with held := false, stage := 8, imageLoaded := true }
  clock := { Clock.reset with corePresent := true, loopPresent := true }
  pins := { Pins.reset with fuOn := true }
  links := State.reset.links.modify 0 fun k => { k with ffltLow := true }
  rails := State.reset.rails.modify 0 fun r => { r with core := { r.core with state := .regulating } }
  shadow := [(shadowKey 8 (0x800 + 64 * 48 + 76 / 4), 2)] }

theorem ffltUnseen_sized : ffltUnseen.Sized := by
  unfold State.Sized
  decide +kernel

theorem ffltUnseen_standing : (ffltUnseen.link 0).ffltLow = true ∧ (ffltUnseen.link 0).ffltSeen = false ∧
    (ffltUnseen.rail 0).core.state = .regulating := by
  decide +kernel

/-- With LOOP's clock the report of a line's level is carried to the hard path as LOOP now sees it (R16, R248). -/
theorem exec_ffltAssert_seen {s : State} (link : Fin 16) (low : Bool) (hloop : s.clock.loopPresent = true) :
    exec (.ffltAssert link low) s = .next (State.hardFrom s
      ((s.updLink link fun k => { k with ffltLow := low }).updLink link Link.seeFflt)).judge := by
  change execFfltAssert link low s = _
  rw [execFfltAssert, hloop, if_pos rfl]
  rfl

/-- LOOP sees the line, and FASTSTOP 0 latches the rail (R276). -/
theorem ffltUnseen_stops : ((State.hardFrom ffltUnseen
    ((ffltUnseen.updLink (0 : Fin 16) fun k => { k with ffltLow := true }).updLink (0 : Fin 16) Link.seeFflt)).rail 0).core.state = .faultLatched := by
  decide +kernel

/-- Refutes O41: its clause that a report of the level that FFLTn_N has already moves no rail. What counts for the router is the level
that LOOP has seen. A line that fell while LOOP had no clock (before P1, say) is seen at the next report of the same level; routed to
FASTSTOP n over the hard path, it then latches the rail. -/
theorem not_linkFramesAndFaults : ¬ Obligations.LinkFramesAndFaults := by
  unfold Obligations.LinkFramesAndFaults
  rintro ⟨-, hlines⟩
  obtain ⟨-, -, hreport⟩ := hlines 0 ffltUnseen ffltUnseen_sized
  obtain ⟨t, ht, -, -, -, -, hstands⟩ := hreport true
  obtain ⟨hlow, -, hregulating⟩ := ffltUnseen_standing
  obtain ⟨hrails, -⟩ := hstands hlow
  have hkept : (t.rail 0).core.state = .regulating := by rw [State.rail, hrails]; exact hregulating
  have ht' := ht.symm.trans (exec_ffltAssert_seen 0 true rfl)
  rw [Host.Outcome.next.inj ht', State.judge_rail] at hkept
  exact absurd (hkept.symm.trans ffltUnseen_stops) (by decide)

end Sys2Proof.Machine
end

/-! SUPPORT. The sizes of the groups, the Pentimento slot and the identity key store: what every operation of the model but their few writers leaves
alone, in the order of the layer of `Cold`. -/

section
namespace Sys2Proof.Machine

/-- The sizes of the groups of a state, its Pentimento slot and its identity key store. -/
structure Steady where
  /-- ports, rails, phases, cells, links, comparators, timers, checking pairs and channels -/
  sizes : List Nat
  dump : Dump
  ident : IdStore

def State.steady (s : State) : Steady :=
  ⟨[s.ports.length, s.rails.length, s.phases.length, s.cells.length, s.links.length, s.comps.length, s.timers.length,
    s.telem.pairs.length, s.mail.chans.length], s.dump, s.ident⟩

/-- New values of other fields, and groups of the same length, leave these alone. -/
@[simp ↓] theorem steady_mk (s : State)
    (clock' : _) (pins' : _) (boot' : _) (varnish' : _) (fuses' : _) (rom' : _) (flash' : _) (shadow' : _)
    (wetHeld' : _) (palette' : _) (ports' : _) (rails' : _) (phases' : _) (cells' : _) (links' : _) (comps' : _)
    (timers' : _) (router' : _) (input' : _) (telem' : _) (app' : _) (cross' : _) (rm' : _) (hm' : _) (ret' : _)
    (safe' : _) (sketch' : _) (work' : _) (mail' : _) (bus' : _) (pm' : _) (con' : _) (tap' : _) (ecc' : _) (free' : _)
    (pending' : _)
    (hports : List.length ports' = s.ports.length) (hrails : List.length rails' = s.rails.length)
    (hphases : List.length phases' = s.phases.length) (hcells : List.length cells' = s.cells.length)
    (hlinks : List.length links' = s.links.length) (hcomps : List.length comps' = s.comps.length)
    (htimers : List.length timers' = s.timers.length) (hpairs : (Telem.pairs telem').length = s.telem.pairs.length)
    (hchans : (Mail.chans mail').length = s.mail.chans.length) :
    State.steady (State.mk
      clock' pins' boot' varnish' fuses' s.ident rom' flash' shadow' wetHeld' palette' ports' rails' phases' cells'
      links' comps' timers' router' input' telem' app' cross' rm' hm' ret' safe' s.dump sketch' work' mail' bus' pm'
      con' tap' ecc' free' pending') =
      s.steady := by
  simp [State.steady, hports, hrails, hphases, hcells, hlinks, hcomps, htimers, hpairs, hchans]

@[simp ↓] theorem steady_ite (c : Prop) [Decidable c] (a b : State) :
    (if c then a else b).steady = if c then a.steady else b.steady := apply_ite State.steady c a b

/-- A fold whose step leaves these alone does so too. -/
theorem foldl_steady {α : Type} (l : List α) (f : State → α → State) (s : State) (h : ∀ s a, (f s a).steady = s.steady) :
    (l.foldl f s).steady = s.steady := by
  induction l generalizing s with
  | nil => rfl
  | cons a l ih => rw [List.foldl_cons, ih, h]

@[simp ↓] theorem State.updRail_steady (s : State) (n : Nat) (f : Rail → Rail) :
    (s.updRail n f).steady = s.steady := by
  simp [State.updRail]
@[simp ↓] theorem State.mapRails_steady (s : State) (f : Nat → Rail → Rail) :
    (s.mapRails f).steady = s.steady := by
  simp [State.mapRails]
@[simp ↓] theorem State.updPhase_steady (s : State) (p : Nat) (f : Phase → Phase) : (s.updPhase p f).steady = s.steady := by
  simp [State.updPhase]
@[simp ↓] theorem State.mapPhases_steady (s : State) (f : Nat → Phase → Phase) :
    (s.mapPhases f).steady = s.steady := by
  simp [State.mapPhases]
@[simp ↓] theorem State.updCell_steady (s : State) (c : Nat) (f : Cell → Cell) :
    (s.updCell c f).steady = s.steady := by
  simp [State.updCell]
@[simp ↓] theorem State.mapCells_steady (s : State) (f : Nat → Cell → Cell) :
    (s.mapCells f).steady = s.steady := by
  simp [State.mapCells]
@[simp ↓] theorem State.updLink_steady (s : State) (l : Nat) (f : Link → Link) :
    (s.updLink l f).steady = s.steady := by
  simp [State.updLink]
@[simp ↓] theorem State.updComp_steady (s : State) (m : Nat) (f : Comp → Comp) :
    (s.updComp m f).steady = s.steady := by
  simp [State.updComp]
@[simp ↓] theorem State.mapComps_steady (s : State) (f : Nat → Comp → Comp) :
    (s.mapComps f).steady = s.steady := by
  simp [State.mapComps]
@[simp ↓] theorem State.updPort_steady (s : State) (p : Nat) (f : Port → Port) :
    (s.updPort p f).steady = s.steady := by
  simp [State.updPort]
@[simp ↓] theorem State.updPair_steady (s : State) (i : Nat) (f : Pair → Pair) :
    (s.updPair i f).steady = s.steady := by
  simp [State.updPair]
@[simp ↓] theorem State.updChan_steady (s : State) (c : Nat) (f : Channel → Channel) : (s.updChan c f).steady = s.steady := by
  simp [State.updChan]
@[simp ↓] theorem State.updTimer_steady (s : State) (k : Nat) (f : Timer → Timer) : (s.updTimer k f).steady = s.steady := by
  simp [State.updTimer]
@[simp ↓] theorem State.updMgr_steady (s : State) (m : Manager) (f : PairState → PairState) :
    (s.updMgr m f).steady = s.steady := by
  unfold State.updMgr
  split <;> simp
@[simp ↓] theorem State.updCore_steady (s : State) (n : Nat) (f : RailCore → RailCore) : (s.updCore n f).steady = s.steady := by
  simp [State.updCore]
@[simp ↓] theorem State.updHost_steady (s : State) (n : Nat) (f : RailHost → RailHost) : (s.updHost n f).steady = s.steady := by
  simp [State.updHost]
@[simp ↓] theorem State.updHosted_steady (s : State) (n : Nat) (f : RailHost → RailHost) :
    (s.updHosted n f).steady = s.steady := by
  simp [State.updHosted]
@[simp ↓] theorem State.updSense_steady (s : State) (n : Nat) (f : RailSense → RailSense) :
    (s.updSense n f).steady = s.steady := by
  simp [State.updSense]
@[simp ↓] theorem State.updModel_steady (s : State) (n : Nat) (f : RailModel → RailModel) :
    (s.updModel n f).steady = s.steady := by
  simp [State.updModel]
@[simp ↓] theorem State.updLe_steady (s : State) (n : Nat) (f : LoopEngine → LoopEngine) : (s.updLe n f).steady = s.steady := by
  simp [State.updLe]
@[simp ↓] theorem State.updBs_steady (s : State) (n : Nat) (f : Backstop → Backstop) :
    (s.updBs n f).steady = s.steady := by
  simp [State.updBs]
@[simp ↓] theorem State.updProt_steady (s : State) (n : Nat) (f : RailProt → RailProt) : (s.updProt n f).steady = s.steady := by
  simp [State.updProt]
@[simp ↓] theorem State.updPol_steady (s : State) (n : Nat) (f : RailPolicy → RailPolicy) : (s.updPol n f).steady = s.steady := by
  simp [State.updPol]
@[simp ↓] theorem State.freeNat_steady (s : State) : (State.freeNat s).2.steady = s.steady := by simp [State.freeNat]
@[simp ↓] theorem State.random_steady (s : State) : (State.random s).2.steady = s.steady := by simp [State.random]
@[simp ↓] theorem State.forEach_steady (s : State) (l : List Nat) (f : State → Nat → State)
    (h : ∀ s a, (f s a).steady = s.steady) :
    (s.forEach l f).steady = s.steady := foldl_steady l f s h
@[simp ↓] theorem State.when_steady (s : State) (c : Bool) (f : State → State) (h : ∀ s, (f s).steady = s.steady) :
    (s.when c f).steady = s.steady := by
  unfold State.when; split <;> simp [h]
@[simp ↓] theorem State.record_steady (s : State) (code : Nat) (src : Nat) (p0 : Nat) (p1 : Nat) :
    (s.record code src p0 p1).steady = s.steady := by
  simp [State.record]
@[simp ↓] theorem State.countSingle_steady (s : State) (m : MemName) :
    (s.countSingle m).steady = s.steady := by
  simp [State.countSingle]
@[simp ↓] theorem State.print_steady (s : State) (l : List ConLine) : (s.print l).steady = s.steady := by simp [State.print]
@[simp ↓] theorem State.conEnd_steady (s : State) (l : List ConLine) : (s.conEnd l).steady = s.steady := by simp [State.conEnd]
@[simp ↓] theorem State.conWait_steady (s : State) (w : ConWait) : (s.conWait w).steady = s.steady := by simp [State.conWait]
@[simp ↓] theorem State.setVout_steady (s : State) (n : Nat) (b : BitVec 8) :
    (s.setVout n b).steady = s.steady := by
  simp [State.setVout]
@[simp ↓] theorem State.setIout_steady (s : State) (n : Nat) (b : BitVec 8) :
    (s.setIout n b).steady = s.steady := by
  simp [State.setIout]
@[simp ↓] theorem State.setTemp_steady (s : State) (n : Nat) (b : BitVec 8) :
    (s.setTemp n b).steady = s.steady := by
  simp [State.setTemp]
@[simp ↓] theorem State.setInput_steady (s : State) (b : BitVec 8) : (s.setInput b).steady = s.steady := by simp [State.setInput]
@[simp ↓] theorem State.setCml_steady (s : State) (b : BitVec 8) : (s.setCml b).steady = s.steady := by simp [State.setCml]
@[simp ↓] theorem State.setOther_steady (s : State) (n : Nat) : (s.setOther n).steady = s.steady := by simp [State.setOther]
@[simp ↓] theorem State.setAlert_steady (s : State) : s.setAlert.steady = s.steady := by simp [State.setAlert]
@[simp ↓] theorem State.judgeAlert_steady (s : State) : s.judgeAlert.steady = s.steady := by simp [State.judgeAlert]
@[simp ↓] theorem State.noteSources_steady (s : State) : s.noteSources.steady = s.steady := by simp [State.noteSources]
@[simp ↓] theorem State.judge_steady (s : State) : s.judge.steady = s.steady := by simp [State.judge]
@[simp ↓] theorem State.openWindow_steady (s : State) (n : Nat) (src : MaskSrc) : (s.openWindow n src).steady = s.steady := by
  simp [State.openWindow]
@[simp ↓] theorem State.disturb_steady (s : State) (n : Nat) : (s.disturb n).steady = s.steady := by simp [State.disturb]
@[simp ↓] theorem State.abortChar_steady (s : State) (n : Nat) : (s.abortChar n).steady = s.steady := by simp [State.abortChar]
@[simp ↓] theorem State.setLanes_steady (s : State) (n : Nat) (g : Phase → LaneCmd) : (s.setLanes n g).steady = s.steady := by
  simp [State.setLanes]
@[simp ↓] theorem State.idleLane_steady (s : State) (n p : Nat) : (s.idleLane n p).steady = s.steady := by simp [State.idleLane]
@[simp ↓] theorem State.obeyOverrides_steady (s : State) (n : Nat) :
    (s.obeyOverrides n).steady = s.steady := by
  simp [State.obeyOverrides]
@[simp ↓] theorem State.idleLanes_steady (s : State) (n : Nat) : (s.idleLanes n).steady = s.steady := by simp [State.idleLanes]
@[simp ↓] theorem State.respace_steady (s : State) (n : Nat) (old : List Nat) :
    (s.respace n old).steady = s.steady := by
  simp [State.respace]
@[simp ↓] theorem State.movePhases_steady (s : State) (n : Nat) (f : State → State) (h : ∀ s, (f s).steady = s.steady) :
    (s.movePhases n f).steady = s.steady := by
  simp [State.movePhases, h]
@[simp ↓] theorem State.addTo_steady (s : State) (n : Nat) (f : Nat) : (s.addTo n f).steady = s.steady := by simp [State.addTo]
@[simp ↓] theorem State.conLoopback_steady (s : State) (c : Nat) (ok : Bool) : (s.conLoopback c ok).steady = s.steady := by
  unfold State.conLoopback
  split <;> simp
@[simp ↓] theorem State.conIdFail_steady (s : State) (c : Nat) : (s.conIdFail c).steady = s.steady := by
  unfold State.conIdFail
  split <;> simp
@[simp ↓] theorem State.conIdGap_steady (s : State) (c : Nat) : (s.conIdGap c).steady = s.steady := by
  unfold State.conIdGap
  split <;> simp
@[simp ↓] theorem State.conPart_steady (s : State) (c part : Nat) (d : BitVec 24) : (s.conPart c part d).steady = s.steady := by
  unfold State.conPart
  repeat' split
  all_goals simp
@[simp ↓] theorem State.conLinkLost_steady (s : State) (l : Nat) : (s.conLinkLost l).steady = s.steady := by
  unfold State.conLinkLost
  split <;> simp
@[simp ↓] theorem State.queueFrame_steady (s : State) (l : Nat) (cls : Nat) (f : DownFrame) :
    (s.queueFrame l cls f).steady = s.steady := by
  simp [State.queueFrame]
@[simp ↓] theorem State.commandCell_steady (s : State) (cls c : Nat) (f : DownFrame) :
    (s.commandCell cls c f).steady = s.steady := by
  simp [State.commandCell]
@[simp ↓] theorem State.unsend_steady (s : State) (c : Nat) : (s.unsend c).steady = s.steady := by
  unfold State.unsend
  split <;> simp
@[simp ↓] theorem State.sendCell_steady (s : State) (cls : Nat) (c : Nat) (f : DownFrame) :
    (s.sendCell cls c f).steady = s.steady := by
  unfold State.sendCell
  dsimp only
  repeat' split
  all_goals simp
@[simp ↓] theorem State.dropCommands_steady (s : State) (c : Nat) :
    (s.dropCommands c).steady = s.steady := by
  simp [State.dropCommands]
@[simp ↓] theorem State.quarantineSilent_steady (s : State) (c : Nat) : (s.quarantineSilent c).steady = s.steady := by
  simp [State.quarantineSilent]
@[simp ↓] theorem State.setMode_steady (s : State) (p : Nat) (mode : Nat) :
    (s.setMode p mode).steady = s.steady := by
  simp [State.setMode]
@[simp ↓] theorem State.faultOn_steady (s : State) (k : FaultKind) (i : Nat) (lasting : Bool) :
    (s.faultOn k i lasting).steady = s.steady := by
  simp [State.faultOn]
@[simp ↓] theorem State.faultOff_steady (s : State) (k : FaultKind) (i : Nat) :
    (s.faultOff k i).steady = s.steady := by
  simp [State.faultOff]
@[simp ↓] theorem State.faultMended_steady (s : State) (k : FaultKind) (i : Nat) : (s.faultMended k i).steady = s.steady := by
  simp [State.faultMended]
@[simp ↓] theorem State.phaseEvent_steady (s : State) (n : Nat) : (s.phaseEvent n).steady = s.steady := by simp [State.phaseEvent]
@[simp ↓] theorem State.retire_steady (s : State) (p : Nat) (cause : Nat) : (s.retire p cause).steady = s.steady := by
  unfold State.retire
  split <;> simp
@[simp ↓] theorem State.retargetWith_steady (s : State) (n : Nat) (hostMove : Bool) (slide : Bool) :
    (s.retargetWith n hostMove slide).steady = s.steady := by
  simp [State.retargetWith]
@[simp ↓] theorem State.retarget_steady (s : State) (n : Nat) : (s.retarget n).steady = s.steady := by simp [State.retarget]
@[simp ↓] theorem State.yieldRecord_steady (s : State) (n : Nat) (level : Nat) (cause : Nat) (fin : Bool) :
    (s.yieldRecord n level cause fin).steady = s.steady := by
  simp [State.yieldRecord]
@[simp ↓] theorem State.endYields_steady (s : State) (n : Nat) (log : Bool) :
    (s.endYields n log).steady = s.steady := by
  simp [State.endYields]
@[simp ↓] theorem State.dropPg_steady (s : State) (n : Nat) : (s.dropPg n).steady = s.steady := by simp [State.dropPg]
@[simp ↓] theorem State.dropSamples_steady (s : State) (n : Nat) :
    (s.dropSamples n).steady = s.steady := by
  simp [State.dropSamples]
@[simp ↓] theorem State.endBurst_steady (s : State) (n : Nat) (tb4 : Nat) (hit : Bool) :
    (s.endBurst n tb4 hit).steady = s.steady := by
  simp [State.endBurst]
@[simp ↓] theorem State.tristatePhases_steady (s : State) (n : Nat) :
    (s.tristatePhases n).steady = s.steady := by
  simp [State.tristatePhases]
@[simp ↓] theorem State.latchRail_steady (s : State) (n : Nat) (cause : LatchCause) :
    (s.latchRail n cause).steady = s.steady := by
  simp [State.latchRail]
@[simp ↓] theorem State.preloadStart_steady (s : State) (n : Nat) :
    (s.preloadStart n).steady = s.steady := by
  simp [State.preloadStart]
@[simp ↓] theorem State.beginRamp_steady (s : State) (n : Nat) : (s.beginRamp n).steady = s.steady := by simp [State.beginRamp]
@[simp ↓] theorem State.tryRamp_steady (s : State) (n : Nat) : (s.tryRamp n).steady = s.steady := by simp [State.tryRamp]
@[simp ↓] theorem State.freshCounts_steady (s : State) (n : Nat) :
    (s.freshCounts n).steady = s.steady := by
  simp [State.freshCounts]
@[simp ↓] theorem State.addStart_steady (s : State) (n : Nat) : (s.addStart n).steady = s.steady := by simp [State.addStart]
@[simp ↓] theorem State.startRail_steady (s : State) (n : Nat) (fromPrimed : Bool) :
    (s.startRail n fromPrimed).steady = s.steady := by
  simp [State.startRail]
@[simp ↓] theorem State.softStop_steady (s : State) (n : Nat) (byApp : Bool) : (s.softStop n byApp).steady = s.steady := by
  simp [State.softStop]
@[simp ↓] theorem State.enterDischarge_steady (s : State) (n : Nat) :
    (s.enterDischarge n).steady = s.steady := by
  simp [State.enterDischarge]
@[simp ↓] theorem State.leaveDischarge_steady (s : State) (n : Nat) :
    (s.leaveDischarge n).steady = s.steady := by
  simp [State.leaveDischarge]
@[simp ↓] theorem State.leaveLatch_steady (s : State) (n : Nat) : (s.leaveLatch n).steady = s.steady := by simp [State.leaveLatch]
@[simp ↓] theorem State.releaseLatch_steady (s : State) (n : Nat) :
    (s.releaseLatch n).steady = s.steady := by
  simp [State.releaseLatch]
@[simp ↓] theorem State.clearCause_steady (s : State) (n : Nat) (cause : LatchCause) :
    (s.clearCause n cause).steady = s.steady := by
  simp [State.clearCause]
@[simp ↓] theorem State.fireBurst_steady (s : State) (n : Nat) : (s.fireBurst n).steady = s.steady := by simp [State.fireBurst]
@[simp ↓] theorem State.rearmBurst_steady (s : State) (n : Nat) : (s.rearmBurst n).steady = s.steady := by simp [State.rearmBurst]
@[simp ↓] theorem State.clampOn_steady (s : State) (n : Nat) : (s.clampOn n).steady = s.steady := by simp [State.clampOn]
@[simp ↓] theorem State.clampOff_steady (s : State) (n : Nat) : (s.clampOff n).steady = s.steady := by simp [State.clampOff]
@[simp ↓] theorem State.setTristate_steady (s : State) (n : Nat) (on : Bool) : (s.setTristate n on).steady = s.steady := by
  simp [State.setTristate]
@[simp ↓] theorem State.fastStop_steady (s : State) (n : Nat) (src : Nat) :
    (s.fastStop n src).steady = s.steady := by
  simp [State.fastStop]
@[simp ↓] theorem State.triggerTimer_steady (s : State) (k : Nat) :
    (s.triggerTimer k).steady = s.steady := by
  simp [State.triggerTimer]
@[simp ↓] theorem State.triggerCodes_steady (s : State) (codes : List Nat) : (s.triggerCodes codes).steady = s.steady := by
  simp [State.triggerCodes]
@[simp ↓] theorem State.routeRail_steady (old s : State) (rose : List Nat) (n : Nat) :
    (State.routeRail old rose s n).steady = s.steady := by
  simp [State.routeRail]
@[simp ↓] theorem State.settleHard_steady (k : Nat) (old s : State) : (State.settleHard k old s).steady = s.steady := by
  induction k generalizing old s with
  | zero => rfl
  | succ k ih =>
    unfold State.settleHard
    dsimp only
    split
    · rfl
    · rw [ih]; simp
@[simp ↓] theorem State.hardFrom_steady (old s : State) : (State.hardFrom old s).steady = s.steady :=
  State.settleHard_steady 9 old s
@[simp ↓] theorem State.compStatus_steady (s : State) (m : Nat) : (s.compStatus m).steady = s.steady := by simp [State.compStatus]
@[simp ↓] theorem State.seeComp_steady (s : State) (m : Nat) : (s.seeComp m).steady = s.steady := by simp [State.seeComp]
@[simp ↓] theorem State.driveOut_steady (s : State) (m : Nat) (v : Bool) :
    (s.driveOut m v).steady = s.steady := by
  simp [State.driveOut]
@[simp ↓] theorem State.seeComps_steady (s : State) : s.seeComps.steady = s.steady := by simp [State.seeComps]
@[simp ↓] theorem State.driveLive_steady (s : State) (m : Nat) (v : Bool) :
    (s.driveLive m v).steady = s.steady := by
  simp [State.driveLive]
@[simp ↓] theorem State.closeWindow_steady (s : State) (m : Nat) (i : Nat) : (s.closeWindow m i).steady = s.steady := by
  simp [State.closeWindow]
@[simp ↓] theorem State.assertThrot_steady (s : State) (p : Nat) (n : Nat) : (s.assertThrot p n).steady = s.steady := by
  unfold State.assertThrot
  repeat' split
  all_goals simp
@[simp ↓] theorem State.releaseThrot_steady (s : State) (p : Nat) :
    (s.releaseThrot p).steady = s.steady := by
  simp [State.releaseThrot]
@[simp ↓] theorem State.followSoft_steady (s : State) (src : Nat) (rose : Bool) : (s.followSoft src rose).steady = s.steady := by
  simp [State.followSoft]
@[simp ↓] theorem State.takeLevel_steady (s : State) (src : Nat) (replay : Bool) :
    (s.takeLevel src replay).steady = s.steady := by
  simp [State.takeLevel]
@[simp ↓] theorem State.deliver_steady (s : State) (src : Nat) : (s.deliver src).steady = s.steady := by
  unfold State.deliver
  dsimp only
  split <;> simp
@[simp ↓] theorem State.recordDeferred_steady (s : State) (code : Nat) (src : Nat) (p0 : Nat) (p1 : Nat) (rep : Nat) :
    (s.recordDeferred code src p0 p1 rep).steady = s.steady := by
  simp [State.recordDeferred]
@[simp ↓] theorem State.takeHeld_steady (s : State) (deferred : Bool) : (s.takeHeld deferred).steady = s.steady := by
  unfold State.takeHeld
  refine (foldl_steady _ _ _ ?_).trans (by simp)
  rintro s ⟨x, _ | k⟩ <;> simp
@[simp ↓] theorem State.seedStop_steady (s : State) (n : Nat) : (s.seedStop n).steady = s.steady := by simp [State.seedStop]
@[simp ↓] theorem State.seedSoft_steady (s : State) : s.seedSoft.steady = s.steady := by
  unfold State.seedSoft; dsimp only
  rw [State.forEach_steady _ _ _ (by intro s p; split <;> simp)]
  exact State.forEach_steady _ _ _ (by simp)
@[simp ↓] theorem State.replaySoft_steady (s : State) : s.replaySoft.steady = s.steady := by
  unfold State.replaySoft
  dsimp only
  refine State.forEach_steady _ _ _ fun s a => ?_
  split <;> simp
@[simp ↓] theorem State.applyDuty_steady (s : State) (n : Nat) (clamped : Int) : (s.applyDuty n clamped).steady = s.steady := by
  simp [State.applyDuty]
@[simp ↓] theorem State.refuseLe_steady (s : State) (n : Nat) : (s.refuseLe n).steady = s.steady := by simp [State.refuseLe]
@[simp ↓] theorem State.declareLe_steady (s : State) (n : Nat) (cause : Nat) (p1 : Nat) :
    (s.declareLe n cause p1).steady = s.steady := by
  simp [State.declareLe]
@[simp ↓] theorem State.driveBackstop_steady (s : State) (n : Nat) (t : BackstopTerms) (e : Int) :
    (s.driveBackstop n t e).steady = s.steady := by
  simp [State.driveBackstop]
@[simp ↓] theorem State.driveLe_steady (s : State) (n : Nat) (t : BackstopTerms) (e : Int) (duty : Int) :
    (s.driveLe n t e duty).steady = s.steady := by
  simp [State.driveLe]
@[simp ↓] theorem State.consumeUpdate_steady (s : State) (n : Nat) :
    (s.consumeUpdate n).steady = s.steady := by
  simp [State.consumeUpdate]
@[simp ↓] theorem State.judgeRuns_steady (s : State) (n : Nat) (i : LeInputs) (u : Int) (d : Int) :
    (s.judgeRuns n i u d).steady = s.steady := by
  simp [State.judgeRuns]
@[simp ↓] theorem State.finishUpdate_steady (s : State) (n : Nat) (i : LeInputs) (t : BackstopTerms) (c : Nat) (addr : Nat)
    (r : LeRegs) :
    (s.finishUpdate n i t c addr r).steady = s.steady := by
  simp [State.finishUpdate]
@[simp ↓] theorem State.leaveUpdate_steady (s : State) (n : Nat) (i : LeInputs) (r : LeRegs) :
    (s.leaveUpdate n i r).steady = s.steady := by
  simp [State.leaveUpdate]
@[simp ↓] theorem State.loadLe_steady (s : State) (n : Nat) : (s.loadLe n).steady = s.steady := by simp [State.loadLe]
@[simp ↓] theorem State.runTest_steady (s : State) (m : Nat) (passed : BitVec 4) : (s.runTest m passed).steady = s.steady := by
  simp [State.runTest]
@[simp ↓] theorem State.tellTest_steady (s : State) (m : Nat) (passed : BitVec 4) : (s.tellTest m passed).steady = s.steady := by
  simp [State.tellTest]
@[simp ↓] theorem State.failComp_steady (s : State) (m : Nat) : (s.failComp m).steady = s.steady := by simp [State.failComp]
@[simp ↓] theorem State.closeTimerWindows_steady (s : State) (k : Nat) : (s.closeTimerWindows k).steady = s.steady := by
  simp [State.closeTimerWindows]
@[simp ↓] theorem State.sselLatch_steady (s : State) (before : BitVec 6) (after : BitVec 6) :
    (s.sselLatch before after).2.steady = s.steady := by
  unfold State.sselLatch
  split <;> simp
@[simp ↓] theorem State.unsettle_steady (s : State) (n : Nat) : (s.unsettle n).steady = s.steady := by simp [State.unsettle]
@[simp ↓] theorem State.wakeDeep_steady (s : State) (n : Nat) : (s.wakeDeep n).steady = s.steady := by simp [State.wakeDeep]
@[simp ↓] theorem State.hardwareAdd_steady (s : State) (n f : Nat) :
    (s.hardwareAdd n f).steady = s.steady := by
  simp [State.hardwareAdd]
@[simp ↓] theorem State.anticipate_steady (s : State) (n : Nat) : (s.anticipate n).steady = s.steady := by simp [State.anticipate]
@[simp ↓] theorem State.edgeRail_steady (s : State) (n : Nat) : (s.edgeRail n).steady = s.steady := by simp [State.edgeRail]
@[simp ↓] theorem State.swapPort_steady (s : State) (p : Nat) (forced : Bool) : (s.swapPort p forced).steady = s.steady := by
  simp [State.swapPort]
@[simp ↓] theorem State.forceSwaps_steady (s : State) : s.forceSwaps.steady = s.steady := by simp [State.forceSwaps]
@[simp ↓] theorem State.hostMoved_steady (s : State) (n : Nat) : (s.hostMoved n).steady = s.steady := by simp [State.hostMoved]
@[simp ↓] theorem State.applyHost_steady (s : State) (n : Nat) (h : RailHost) :
    (s.applyHost n h).steady = s.steady := by
  simp [State.applyHost]
@[simp ↓] theorem State.firstLit_steady (s : State) (n : Nat) : (s.firstLit n).steady = s.steady := by simp [State.firstLit]
@[simp ↓] theorem State.atTarget_steady (s : State) (n : Nat) : (s.atTarget n).steady = s.steady := by simp [State.atTarget]
@[simp ↓] theorem State.slewRail_steady (s : State) (n : Nat) : (s.slewRail n).steady = s.steady := by simp [State.slewRail]
@[simp ↓] theorem State.judgeChar_steady (s : State) (n : Nat) : (s.judgeChar n).steady = s.steady := by simp [State.judgeChar]
@[simp ↓] theorem State.failSense_steady (s : State) (n : Nat) (isB : Bool) :
    (s.failSense n isB).steady = s.steady := by
  simp [State.failSense]
@[simp ↓] theorem State.decideVote_steady (s : State) (n : Nat) : (s.decideVote n).steady = s.steady := by simp [State.decideVote]
@[simp ↓] theorem State.singleSense_steady (s : State) (n : Nat) :
    (s.singleSense n).steady = s.steady := by
  simp [State.singleSense]
@[simp ↓] theorem State.tickLatches_steady (s : State) : s.tickLatches.steady = s.steady := by simp [State.tickLatches]
@[simp ↓] theorem State.substitutePg_steady (s : State) (n : Nat) :
    (s.substitutePg n).steady = s.steady := by
  simp [State.substitutePg]
@[simp ↓] theorem State.charVisit_steady (s : State) (n : Nat) : (s.charVisit n).steady = s.steady := by simp [State.charVisit]
@[simp ↓] theorem State.beginChar_steady (s : State) (n : Nat) : (s.beginChar n).steady = s.steady := by simp [State.beginChar]
@[simp ↓] theorem State.retestSenses_steady (s : State) (n : Nat) (tests : List SenseTest) :
    (s.retestSenses n tests).steady = s.steady := by
  simp [State.retestSenses]
@[simp ↓] theorem State.enableRail_steady (s : State) (n : Nat) (req fresh : Bool) (tests : List SenseTest) :
    (s.enableRail n req fresh tests).steady = s.steady := by
  unfold State.enableRail
  dsimp only
  split <;> simp
@[simp ↓] theorem State.moveRll_steady (s : State) (n : Nat) : (s.moveRll n).steady = s.steady := by simp [State.moveRll]
@[simp ↓] theorem State.evaluateRail_steady (tests : List SenseTest) (s : State) (n : Nat) :
    (State.evaluateRail tests s n).steady = s.steady := by
  simp [State.evaluateRail]
@[simp ↓] theorem State.refreshIrail_steady (s : State) (p : Nat) : (s.refreshIrail p).steady = s.steady := by
  unfold State.refreshIrail
  split <;> simp
@[simp ↓] theorem State.configureCell_steady (s : State) (c : Nat) (w : Nat) (mode : Nat) :
    (s.configureCell c w mode).steady = s.steady := by
  exact (foldl_steady _ _ _ fun s a => by simp).trans (by simp)
@[simp ↓] theorem State.reconfigure_steady (s : State) (c w : Nat) :
    (s.reconfigure c w).steady = s.steady := by
  simp [State.reconfigure]
@[simp ↓] theorem State.nextCommand_steady (s : State) (c : Nat) : (s.nextCommand c).steady = s.steady := by
  unfold State.nextCommand
  dsimp only
  split <;> simp
@[simp ↓] theorem State.secondAttempt_steady (s : State) (c : Nat) (frame : Bool) :
    (s.secondAttempt c frame).steady = s.steady := by
  unfold State.secondAttempt
  dsimp only
  split <;> simp
@[simp ↓] theorem State.declareLink_steady (s : State) (l : Nat) (cause : Nat) : (s.declareLink l cause).steady = s.steady := by
  simp [State.declareLink]
@[simp ↓] theorem State.silence_steady (s : State) (c : Nat) : (s.silence c).steady = s.steady := by
  unfold State.silence
  dsimp only
  repeat' split
  all_goals simp
@[simp ↓] theorem State.clearLink_steady (s : State) (l : Nat) : (s.clearLink l).steady = s.steady := by simp [State.clearLink]
@[simp ↓] theorem State.endRound_steady (s : State) (l : Nat) : (s.endRound l).steady = s.steady := by simp [State.endRound]
@[simp ↓] theorem State.foundCell_steady (s : State) (c : Nat) : (s.foundCell c).steady = s.steady := by
  unfold State.foundCell
  dsimp only
  split <;> simp
@[simp ↓] theorem State.clearReplies_steady (s : State) (p : Nat) :
    (s.clearReplies p).steady = s.steady := by
  simp [State.clearReplies]
@[simp ↓] theorem State.setDisc_steady (s : State) (p : Nat) (d : Discovery) :
    (s.setDisc p d).steady = s.steady := by
  simp [State.setDisc]
@[simp ↓] theorem State.judgeReplies_steady (s : State) (p : Nat) (second : Bool) :
    (s.judgeReplies p second).steady = s.steady := by
  simp [State.judgeReplies]
@[simp ↓] theorem State.discoverStep_steady (s : State) (n p : Nat) : (s.discoverStep n p).steady = s.steady := by
  unfold State.discoverStep
  split <;> simp
@[simp ↓] theorem State.retryStep_steady (s : State) (n p : Nat) :
    (s.retryStep n p).steady = s.steady := by
  simp [State.retryStep]
@[simp ↓] theorem State.recoverStep_steady (s : State) (p : Nat) : (s.recoverStep p).steady = s.steady := by
  unfold State.recoverStep
  split <;> simp
@[simp ↓] theorem State.beginDiscovery_steady (s : State) (p : Nat) :
    (s.beginDiscovery p).steady = s.steady := by
  simp [State.beginDiscovery]
@[simp ↓] theorem State.beginRetry_steady (s : State) (n p : Nat) :
    (s.beginRetry n p).steady = s.steady := by
  simp [State.beginRetry]
@[simp ↓] theorem State.emitFrame_steady (s : State) (l : Nat) (f : DownFrame) : (s.emitFrame l f).steady = s.steady := by
  simp [State.emitFrame]
@[simp ↓] theorem State.sendFrame_steady (s : State) (l : Nat) : (s.sendFrame l).steady = s.steady := by
  unfold State.sendFrame
  dsimp only
  repeat' split
  all_goals simp
@[simp ↓] theorem State.confirmWake_steady (s : State) (p : Nat) :
    (s.confirmWake p).steady = s.steady := by
  simp [State.confirmWake]
@[simp ↓] theorem State.episodes_steady (s : State) (c : Nat) : (s.episodes c).steady = s.steady := by simp [State.episodes]
@[simp ↓] theorem State.warnCell_steady (s : State) (c : Nat) : (s.warnCell c).steady = s.steady := by
  unfold State.warnCell
  dsimp only
  split <;> simp
@[simp ↓] theorem State.resolveSense_steady (s : State) (c : Nat) (clean : Bool) :
    (s.resolveSense c clean).steady = s.steady := by
  unfold State.resolveSense
  split <;> simp
@[simp ↓] theorem State.configured_steady (s : State) (c : Nat) : (s.configured c).steady = s.steady := by simp [State.configured]
@[simp ↓] theorem State.passCheck_steady (s : State) (c : Nat) (f : DownFrame) : (s.passCheck c f).steady = s.steady := by
  simp [State.passCheck]
@[simp ↓] theorem State.failCheck_steady (s : State) (c : Nat) (frame : Bool) : (s.failCheck c frame).steady = s.steady := by
  simp [State.failCheck]
@[simp ↓] theorem State.badFrame_steady (s : State) (c : Nat) : (s.badFrame c).steady = s.steady := by simp [State.badFrame]
@[simp ↓] theorem State.keepPart_steady (s : State) (c : Nat) (f : BitVec 56) :
    (s.keepPart c f).steady = s.steady := by
  simp [State.keepPart]
@[simp ↓] theorem State.goodFrame_steady (s : State) (c : Nat) (f : BitVec 56) : (s.goodFrame c f).steady = s.steady := by
  unfold State.goodFrame
  dsimp only
  split <;> simp
@[simp ↓] theorem State.takeSlot_steady (s : State) (c : Nat) (r : SlotFrame) : (s.takeSlot c r).steady = s.steady := by
  unfold State.takeSlot
  split <;> simp
@[simp ↓] theorem State.drainLink_steady (s : State) (l : Nat) : (s.drainLink l).steady = s.steady := by
  unfold State.drainLink
  refine (foldl_steady _ _ _ ?_).trans (by simp)
  intro s a; simp
@[simp ↓] theorem State.rearmLe_steady (s : State) (n : Nat) : (s.rearmLe n).steady = s.steady := by simp [State.rearmLe]
@[simp ↓] theorem State.freeRail_steady (s : State) (n : Nat) : (s.freeRail n).steady = s.steady := by simp [State.freeRail]
@[simp ↓] theorem State.restorePhase_steady (s : State) (p : Nat) : (s.restorePhase p).steady = s.steady := by
  unfold State.restorePhase
  split <;> simp
@[simp ↓] theorem State.dropOrder_steady (s : State) (n : Nat) (p : Nat) :
    (s.dropOrder n p).steady = s.steady := by
  simp [State.dropOrder]
@[simp ↓] theorem State.shedArrives_steady (s : State) (p : Nat) : (s.shedArrives p).steady = s.steady := by
  unfold State.shedArrives
  split <;> simp
@[simp ↓] theorem State.deepParkArrives_steady (s : State) (p : Nat) : (s.deepParkArrives p).steady = s.steady := by
  unfold State.deepParkArrives
  split <;> simp
theorem State.applyPost_steady (s : State) (p : RmPost) : (s.applyPost p).steady = s.steady := by
  cases p <;> simp [State.applyPost]

@[simp ↓] theorem State.carryPosts_steady (s : State) : s.carryPosts.steady = s.steady := by
  unfold State.carryPosts
  dsimp only
  split
  · exact (foldl_steady _ _ _ State.applyPost_steady).trans (by simp)
  · simp
@[simp ↓] theorem State.sendRm_steady (s : State) (p : RmPost) : (s.sendRm p).steady = s.steady := by simp [State.sendRm]
@[simp ↓] theorem State.reapplyHost_steady (s : State) (n : Nat) :
    (s.reapplyHost n).steady = s.steady := by
  simp [State.reapplyHost]
@[simp ↓] theorem State.reapplyHosts_steady (s : State) : s.reapplyHosts.steady = s.steady := by simp [State.reapplyHosts]
@[simp ↓] theorem State.phasePeriod_steady (s : State) (n : Nat) (p : Nat) : (s.phasePeriod n p).steady = s.steady := by
  simp [State.phasePeriod]
@[simp ↓] theorem State.laneFalls_steady (s : State) : s.laneFalls.steady = s.steady := by
  unfold State.laneFalls
  apply State.forEach_steady; intro s p; dsimp only; split <;> simp
@[simp ↓] theorem State.railPeriod_steady (s : State) (n : Nat) : (s.railPeriod n).steady = s.steady := by simp [State.railPeriod]
@[simp ↓] theorem State.syncEdge_steady (periodNs : Nat) (s : State) (n : Nat) :
    (State.syncEdge periodNs s n).steady = s.steady := by
  simp [State.syncEdge]
@[simp ↓] theorem State.openRuns_steady (s : State) (n : Nat) (p : Nat) :
    (s.openRuns n p).steady = s.steady := by
  simp [State.openRuns]
@[simp ↓] theorem State.openPhase_steady (s : State) (n : Nat) (p : Nat) :
    (s.openPhase n p).steady = s.steady := by
  simp [State.openPhase]
@[simp ↓] theorem State.probationRound_steady (s : State) (p : Nat) :
    (s.probationRound p).steady = s.steady := by
  simp [State.probationRound]
@[simp ↓] theorem State.openRound_steady (s : State) (n : Nat) : (s.openRound n).steady = s.steady := by simp [State.openRound]
@[simp ↓] theorem State.senseRound_steady (n : Nat) (p : Nat) (s : State) (c : Nat) :
    (State.senseRound n p s c).steady = s.steady := by
  unfold State.senseRound
  dsimp only
  repeat' split
  all_goals simp
@[simp ↓] theorem State.senseRounds_steady (s : State) (n : Nat) :
    (s.senseRounds n).steady = s.steady := by
  simp [State.senseRounds]
@[simp ↓] theorem State.blindRound_steady (s : State) (n : Nat) : (s.blindRound n).steady = s.steady := by simp [State.blindRound]
@[simp ↓] theorem State.holdTrims_steady (s : State) (n : Nat) : (s.holdTrims n).steady = s.steady := by simp [State.holdTrims]
@[simp ↓] theorem State.faultRound_steady (s : State) (n : Nat) : (s.faultRound n).steady = s.steady := by simp [State.faultRound]
@[simp ↓] theorem State.setCauses_steady (s : State) (n : Nat) (new : BitVec 7) : (s.setCauses n new).steady = s.steady := by
  simp [State.setCauses]
@[simp ↓] theorem State.loadRound_steady (s : State) (n : Nat) : (s.loadRound n).steady = s.steady := by simp [State.loadRound]
@[simp ↓] theorem State.ocpTrips_steady (s : State) (n : Nat) (sum : Int) :
    (s.ocpTrips n sum).steady = s.steady := by
  simp [State.ocpTrips]
@[simp ↓] theorem State.ocpRound_steady (s : State) (n : Nat) : (s.ocpRound n).steady = s.steady := by simp [State.ocpRound]
@[simp ↓] theorem State.followYield_steady (s : State) (n : Nat) :
    (s.followYield n).steady = s.steady := by
  simp [State.followYield]
@[simp ↓] theorem State.overloadRound_steady (s : State) (n : Nat) :
    (s.overloadRound n).steady = s.steady := by
  simp [State.overloadRound]
@[simp ↓] theorem State.warmRound_steady (s : State) (n : Nat) : (s.warmRound n).steady = s.steady := by simp [State.warmRound]
@[simp ↓] theorem State.setClassY_steady (s : State) (c : Nat) (y : Nat) :
    (s.setClassY c y).steady = s.steady := by
  simp [State.setClassY]
@[simp ↓] theorem State.setStage_steady (s : State) (k : BitVec 2) : (s.setStage k).steady = s.steady := by simp [State.setStage]
@[simp ↓] theorem State.floorYields_steady (s : State) : s.floorYields.steady = s.steady := by simp [State.floorYields]
@[simp ↓] theorem State.stageRecord_steady (s : State) (fin : Bool) :
    (s.stageRecord fin).steady = s.steady := by
  simp [State.stageRecord]
@[simp ↓] theorem State.capStops_steady (s : State) : s.capStops.steady = s.steady := by
  unfold State.capStops
  dsimp only
  split <;> simp
@[simp ↓] theorem State.endCap_steady (s : State) : s.endCap.steady = s.steady := by simp [State.endCap]
@[simp ↓] theorem State.capRelaxes_steady (s : State) : s.capRelaxes.steady = s.steady := by
  unfold State.capRelaxes
  dsimp only
  split <;> simp
@[simp ↓] theorem State.capAdvances_steady (s : State) : s.capAdvances.steady = s.steady := by
  unfold State.capAdvances
  dsimp only
  repeat' split
  all_goals simp
@[simp ↓] theorem State.capRound_steady (s : State) : s.capRound.steady = s.steady := by simp [State.capRound]
@[simp ↓] theorem State.trimRound_steady (s : State) (n : Nat) : (s.trimRound n).steady = s.steady := by
  unfold State.trimRound
  split
  · refine State.forEach_steady _ _ _ fun s p => ?_
    split <;> simp
  · rfl
@[simp ↓] theorem State.bandRound_steady (s : State) (n : Nat) : (s.bandRound n).steady = s.steady := by simp [State.bandRound]
@[simp ↓] theorem State.widthRound_steady (s : State) (l : Nat) : (s.widthRound l).steady = s.steady := by simp [State.widthRound]
@[simp ↓] theorem State.countRound_steady (s : State) (n : Nat) : (s.countRound n).steady = s.steady := by simp [State.countRound]
@[simp ↓] theorem State.policyRound_steady (s : State) : s.policyRound.steady = s.steady := by simp [State.policyRound]
@[simp ↓] theorem State.ageFault_steady (s : State) (e : FaultEntry) : (s.ageFault e).steady = s.steady := by
  unfold State.ageFault
  split <;> simp
@[simp ↓] theorem State.takeOut_steady (s : State) (m : Nat) : (s.takeOut m).steady = s.steady := by simp [State.takeOut]
@[simp ↓] theorem State.failTwin_steady (s : State) (isB : Bool) : (s.failTwin isB).steady = s.steady := by simp [State.failTwin]
@[simp ↓] theorem State.feed_steady (s : State) (ch : Nat) (code : Int) :
    (s.feed ch code).steady = s.steady := by
  simp [State.feed]
@[simp ↓] theorem State.takeInput_steady (s : State) (isB : Bool) (code : Int) : (s.takeInput isB code).steady = s.steady := by
  simp [State.takeInput]
@[simp ↓] theorem State.takeDie_steady (s : State) (i : Nat) (code : Int) :
    (s.takeDie i code).steady = s.steady := by
  simp [State.takeDie]
@[simp ↓] theorem State.takeTsns_steady (s : State) (t : Nat) (x : Int) :
    (s.takeTsns t x).steady = s.steady := by
  simp [State.takeTsns]
@[simp ↓] theorem State.takeVout_steady (s : State) (n : Nat) (x : Int) :
    (s.takeVout n x).steady = s.steady := by
  simp [State.takeVout]
@[simp ↓] theorem State.sample_steady (s : State) (ch : Nat) (gain : Nat) (code : Int) :
    (s.sample ch gain code).steady = s.steady := by
  simp [State.sample]
@[simp ↓] theorem State.useConverter_steady (s : State) (i : Nat) (isB : Bool) : (s.useConverter i isB).steady = s.steady := by
  simp [State.useConverter]
@[simp ↓] theorem State.tellOutcome_steady (s : State) (i : Nat) (outcome : Nat) :
    (s.tellOutcome i outcome).steady = s.steady := by
  simp [State.tellOutcome]
@[simp ↓] theorem State.arbitrate_steady (s : State) (i : Nat) : (s.arbitrate i).steady = s.steady := by simp [State.arbitrate]
@[simp ↓] theorem State.checkSlot_steady (s : State) (i : Nat) (a : Int) (b : Int) : (s.checkSlot i a b).steady = s.steady := by
  simp [State.checkSlot]
@[simp ↓] theorem State.clearPorts_steady (s : State) : s.clearPorts.steady = s.steady := by simp [State.clearPorts]
@[simp ↓] theorem State.clearLoop_steady (s : State) (n : Nat) : (s.clearLoop n).steady = s.steady := by simp [State.clearLoop]
@[simp ↓] theorem State.clearCell_steady (s : State) (c : Nat) : (s.clearCell c).steady = s.steady := by simp [State.clearCell]
@[simp ↓] theorem State.clearVout_steady (s : State) (n : Nat) (m : BitVec 8) :
    (s.clearVout n m).steady = s.steady := by
  simp [State.clearVout]
@[simp ↓] theorem State.clearIout_steady (s : State) (n : Nat) (m : BitVec 8) :
    (s.clearIout n m).steady = s.steady := by
  simp [State.clearIout]
@[simp ↓] theorem State.clearTemp_steady (s : State) (n : Nat) (m : BitVec 8) :
    (s.clearTemp n m).steady = s.steady := by
  simp [State.clearTemp]
@[simp ↓] theorem State.clearInput_steady (s : State) (m : BitVec 8) :
    (s.clearInput m).steady = s.steady := by
  simp [State.clearInput]
@[simp ↓] theorem State.clearCml_steady (s : State) (m : BitVec 8) : (s.clearCml m).steady = s.steady := by simp [State.clearCml]
@[simp ↓] theorem State.clearOther_steady (s : State) (n : Nat) : (s.clearOther n).steady = s.steady := by simp [State.clearOther]
@[simp ↓] theorem State.clearLatches_steady (s : State) (n : Nat) :
    (s.clearLatches n).steady = s.steady := by
  simp [State.clearLatches]
@[simp ↓] theorem State.clearRail_steady (s : State) (n : Nat) : (s.clearRail n).steady = s.steady := by
  have hcauses (s : State) :
      (latchCauses.foldl (fun s c => if s.mayClear n c then s.clearCause n c else s) s).steady = s.steady :=
    foldl_steady _ _ s fun s a => by split <;> simp
  unfold State.clearRail
  dsimp only
  split <;> simp [hcauses]
@[simp ↓] theorem State.clearFaults_steady (s : State) (page : BitVec 8) :
    (s.clearFaults page).steady = s.steady := by
  simp [State.clearFaults]
@[simp ↓] theorem State.takeClears_steady (s : State) : s.takeClears.steady = s.steady := by
  unfold State.takeClears
  exact foldl_steady _ _ _ fun s a => State.clearFaults_steady s a
@[simp ↓] theorem State.post_steady (s : State) (c : Nat) : (s.post c).steady = s.steady := by simp [State.post]
@[simp ↓] theorem State.pump_steady (s : State) (c : Nat) : (s.pump c).steady = s.steady := by
  unfold State.pump
  split <;> simp
@[simp ↓] theorem State.release_steady (s : State) (c : Nat) : (s.release c).steady = s.steady := by simp [State.release]
@[simp ↓] theorem State.takeFrom_steady (s : State) (c : Nat) : (s.takeFrom c).steady = s.steady := by simp [State.takeFrom]
@[simp ↓] theorem State.orphanRecord_steady (s : State) (c : Nat) :
    (s.orphanRecord c).steady = s.steady := by
  simp [State.orphanRecord]
@[simp ↓] theorem State.sendOn_steady (s : State) (c : Nat) (code : Nat) (tag : Nat) (orphan : Bool) (payload : List Word) :
    (s.sendOn c code tag orphan payload).steady = s.steady := by
  simp [State.sendOn]
@[simp ↓] theorem State.reply_steady (s : State) (c : Nat) (code : Nat) (m : Message) (status : Nat) (rest : List Word) :
    (s.reply c code m status rest).steady = s.steady := by
  simp [State.reply]
@[simp ↓] theorem State.advanceEpoch_steady (s : State) (who : Identity) : (s.advanceEpoch who).steady = s.steady := by
  unfold State.advanceEpoch
  cases who <;> simp
@[simp ↓] theorem State.freeze_steady (s : State) (m : Manager) (trigger : Nat) (regs : Frozen) :
    (s.freeze m trigger regs).steady = s.steady := by
  simp [State.freeze]
@[simp ↓] theorem State.recordFreeze_steady (s : State) (m : Manager) (code : Nat) (src : Nat) (p0 : Nat) (p1 : Nat) :
    (s.recordFreeze m code src p0 p1).steady = s.steady := by
  simp [State.recordFreeze]
@[simp ↓] theorem State.copyCapture_steady (s : State) (m : Manager) : (s.copyCapture m).steady = s.steady := by
  unfold State.copyCapture
  dsimp only
  split <;> simp
@[simp ↓] theorem State.setReset_steady (s : State) (kind : Nat) (cause : Nat) : (s.setReset kind cause).steady = s.steady := by
  simp [State.setReset]
@[simp ↓] theorem State.resetPair_steady (s : State) (m : Manager) (run : PairRun) : (s.resetPair m run).steady = s.steady := by
  simp [State.resetPair]
@[simp ↓] theorem State.enterSafe_steady (s : State) (src : Nat) (recent : Nat) (p1 : Nat) (fromCheck : Bool) :
    (s.enterSafe src recent p1 fromCheck).steady = s.steady := by
  simp [State.enterSafe]
@[simp ↓] theorem State.askReset_steady (s : State) (m : Manager) (kind cause : Nat) :
    (s.askReset m kind cause).steady = s.steady := by
  simp [State.askReset]
@[simp ↓] theorem State.escalate_steady (s : State) (m : Manager) (cause : Nat) : (s.escalate m cause).steady = s.steady := by
  simp [State.escalate]
@[simp ↓] theorem State.updWd_steady (s : State) (m : Manager) (f : Watchdog → Watchdog) : (s.updWd m f).steady = s.steady := by
  simp [State.updWd]
@[simp ↓] theorem State.startWd_steady (s : State) (m : Manager) : (s.startWd m).steady = s.steady := by simp [State.startWd]
@[simp ↓] theorem State.expire_steady (s : State) (m : Manager) (forced : Bool) (regs : Frozen) :
    (s.expire m forced regs).steady = s.steady := by
  simp [State.expire]
@[simp ↓] theorem State.stopWd_steady (s : State) (m : Manager) : (s.stopWd m).steady = s.steady := by simp [State.stopWd]
@[simp ↓] theorem State.goWd_steady (s : State) (m : Manager) : (s.goWd m).steady = s.steady := by simp [State.goWd]
@[simp ↓] theorem State.abandonRecovery_steady (s : State) (p : Nat) : (s.abandonRecovery p).steady = s.steady := by
  simp [State.abandonRecovery]
@[simp ↓] theorem State.holdRail_steady (s : State) (n : Nat) : (s.holdRail n).steady = s.steady := by simp [State.holdRail]
@[simp ↓] theorem State.takeover_steady (s : State) (c : HoldCause) : (s.takeover c).steady = s.steady := by simp [State.takeover]
@[simp ↓] theorem State.disableApp_steady (s : State) (why : Nat) :
    (s.disableApp why).steady = s.steady := by
  simp [State.disableApp]
@[simp ↓] theorem State.takingDone_steady (s : State) : s.takingDone.steady = s.steady := by simp [State.takingDone]
@[simp ↓] theorem State.takeRails_steady (s : State) : s.takeRails.steady = s.steady := by simp [State.takeRails]
@[simp ↓] theorem State.takeRail_steady (s : State) (n : Nat) : (s.takeRail n).steady = s.steady := by simp [State.takeRail]
@[simp ↓] theorem State.handRail_steady (s : State) (n : Nat) : (s.handRail n).steady = s.steady := by simp [State.handRail]
@[simp ↓] theorem State.finishCommit_steady (s : State) : s.finishCommit.steady = s.steady := by
  unfold State.finishCommit
  dsimp only
  repeat' split
  all_goals simp
@[simp ↓] theorem State.moveCursor_steady (s : State) : s.moveCursor.steady = s.steady := by simp [State.moveCursor]
@[simp ↓] theorem State.clearLog_steady (s : State) (ident : Nat) (n : Word) : (s.clearLog ident n).2.steady = s.steady := by
  unfold State.clearLog
  dsimp only
  repeat' split
  all_goals simp
@[simp ↓] theorem State.authFail_steady (s : State) (src : Nat) (p0 : Nat) (p1 : Nat) :
    (s.authFail src p0 p1).steady = s.steady := by
  simp [State.authFail]
@[simp ↓] theorem State.conflict_steady (s : State) (type : Nat) (index : Nat) (requester : Nat) (holder : Nat) :
    (s.conflict type index requester holder).steady = s.steady := by
  simp [State.conflict]
@[simp ↓] theorem State.abortUnit_steady (s : State) (u : UnitRow) (id : Nat) : (s.abortUnit u id).steady = s.steady := by
  unfold State.abortUnit
  split <;> simp
@[simp ↓] theorem State.adoptImage_steady (s : State) (rd : Reader) :
    (s.adoptImage rd).steady = s.steady := by
  simp [State.adoptImage]
@[simp ↓] theorem State.preface_steady (s : State) (l : List ConLine) : (s.preface l).steady = s.steady := by simp [State.preface]
@[simp ↓] theorem State.burnOwner_steady (s : State) : s.burnOwner.steady = s.steady := by simp [State.burnOwner]
@[simp ↓] theorem State.burnRollback_steady (s : State) : s.burnRollback.steady = s.steady := by simp [State.burnRollback]
@[simp ↓] theorem State.burnWatchdog_steady (s : State) : s.burnWatchdog.steady = s.steady := by simp [State.burnWatchdog]
@[simp ↓] theorem State.storePart_steady (s : State) (done : Nat) :
    (s.storePart done).steady = s.steady := by
  simp [State.storePart]
@[simp ↓] theorem State.toStage_steady (s : State) (k : BitVec 4) : (s.toStage k).steady = s.steady := by simp [State.toStage]
@[simp ↓] theorem State.autoWatchdogs_steady (s : State) : s.autoWatchdogs.steady = s.steady := by simp [State.autoWatchdogs]
@[simp ↓] theorem State.restartLockout_steady (s : State) : s.restartLockout.steady = s.steady := by simp [State.restartLockout]
@[simp ↓] theorem State.loadTimeouts_steady (s : State) : s.loadTimeouts.steady = s.steady := by simp [State.loadTimeouts]
@[simp ↓] theorem State.commitAll_steady (s : State) : s.commitAll.steady = s.steady := by simp [State.commitAll]
@[simp ↓] theorem State.openStore_steady (s : State) : s.openStore.steady = s.steady := by simp [State.openStore]
@[simp ↓] theorem State.failSlot_steady (s : State) (slotB : Bool) (rd : Reader) (f : Nat × Nat) :
    (s.failSlot slotB rd f).steady = s.steady := by
  simp [State.failSlot]
@[simp ↓] theorem State.bootPatch_steady (s : State) (m : Manager) :
    (s.bootPatch m).steady = s.steady := by
  simp [State.bootPatch]
@[simp ↓] theorem State.patchRestart_steady (s : State) : s.patchRestart.steady = s.steady := by simp [State.patchRestart]
@[simp ↓] theorem State.missingCell_steady (s : State) (c : Nat) (cause : Nat) : (s.missingCell c cause).steady = s.steady := by
  simp [State.missingCell]
@[simp ↓] theorem State.openLink_steady (found : List FoundCell) (s : State) (l : Nat) :
    (State.openLink found s l).steady = s.steady := by
  simp [State.openLink]
@[simp ↓] theorem State.configureFound_steady (s : State) (f : FoundCell) (id : BitVec 64) :
    (s.configureFound f id).steady = s.steady := by
  have hfold (g : State → Fin 4 × Bool → State) (h : ∀ s k, (g s k).steady = s.steady) (l : List (Fin 4 × Bool)) (s : State) :
      (l.foldl g s).steady = s.steady := foldl_steady l g s h
  unfold State.configureFound
  dsimp only
  split <;> simp <;> rw [hfold] <;> intros <;> simp
@[simp ↓] theorem State.discover_steady (found : List FoundCell) (s : State) (c : Nat) :
    (State.discover found s c).steady = s.steady := by
  unfold State.discover
  repeat' split
  all_goals simp
@[simp ↓] theorem State.bootRails_steady (s : State) : s.bootRails.steady = s.steady := by simp [State.bootRails]
@[simp ↓] theorem State.primeComp_steady (s : State) (x : Nat × BitVec 4 × BitVec 4) : (s.primeComp x).steady = s.steady := by
  unfold State.primeComp
  repeat' split
  all_goals simp
@[simp ↓] theorem State.primePair_steady (r : SelfTest) (s : State) (i : Nat) :
    (State.primePair r s i).steady = s.steady := by
  simp [State.primePair]
@[simp ↓] theorem State.primeRails_steady (s : State) : s.primeRails.steady = s.steady := by simp [State.primeRails]
@[simp ↓] theorem State.latchNode_steady (s : State) (n : Nat) : (s.latchNode n).steady = s.steady := by simp [State.latchNode]
@[simp ↓] theorem State.undoTests_steady (s : State) : s.undoTests.steady = s.steady := by simp [State.undoTests]
@[simp ↓] theorem State.closeSession_steady (s : State) : s.closeSession.steady = s.steady := by simp [State.closeSession]
@[simp ↓] theorem State.endSession_steady (s : State) (how : Nat) :
    (s.endSession how).steady = s.steady := by
  simp [State.endSession]
@[simp ↓] theorem State.cutSession_steady (s : State) : s.cutSession.steady = s.steady := by simp [State.cutSession]
@[simp ↓] theorem State.downPair_steady (s : State) (m : Manager) : (s.downPair m).steady = s.steady := by simp [State.downPair]
@[simp ↓] theorem State.beginPair_steady (s : State) (m : Manager) (cause : BitVec 4) :
    (s.beginPair m cause).steady = s.steady := by
  simp [State.beginPair]
@[simp ↓] theorem State.upPair_steady (s : State) (m : Manager) : (s.upPair m).steady = s.steady := by simp [State.upPair]
@[simp ↓] theorem State.cutBus_steady (s : State) (cut : Option CutXfer) : (s.cutBus cut).steady = s.steady := by
  unfold State.cutBus
  split <;> simp
@[simp ↓] theorem State.beginWarm_steady (s : State) (cause : BitVec 4) (resume : Bool) (cut : Option CutXfer) :
    (s.beginWarm cause resume cut).steady = s.steady := by
  simp [State.beginWarm]
@[simp ↓] theorem State.backToPll_steady (s : State) : s.backToPll.steady = s.steady := by simp [State.backToPll]
@[simp ↓] theorem State.resumeLanes_steady (s : State) (n : Nat) :
    (s.resumeLanes n).steady = s.steady := by
  simp [State.resumeLanes]
@[simp ↓] theorem State.coreBack_steady (s : State) : s.coreBack.steady = s.steady := by simp [State.coreBack]
@[simp ↓] theorem State.wakeUp_steady (s : State) : s.wakeUp.steady = s.steady := by simp [State.wakeUp]
@[simp ↓] theorem State.memoryRestart_steady (s : State) (m : Manager) (cut : Option CutXfer) :
    (s.memoryRestart m cut).steady = s.steady := by
  simp [State.memoryRestart]
@[simp ↓] theorem State.spoilPair_steady (s : State) (m : Manager) (i : Nat) : (s.spoilPair m i).steady = s.steady := by
  simp [State.spoilPair, State.spoil]
@[simp ↓] theorem State.spoilPatch_steady (s : State) (m : Manager) (i : Nat) : (s.spoilPatch m i).steady = s.steady := by
  unfold State.spoilPatch
  dsimp only
  split <;> simp
@[simp ↓] theorem State.wdMicro_steady (s : State) (m : Manager) : (s.wdMicro m).steady = s.steady := by simp [State.wdMicro]
@[simp ↓] theorem State.loopMicro_steady (s : State) : s.loopMicro.steady = s.steady := by
  unfold State.loopMicro
  split <;> simp
@[simp ↓] theorem State.loopCycle_steady (s : State) : s.loopCycle.steady = s.steady := by
  refine State.when_steady _ _ _ fun s => (State.laneFalls_steady _).trans (State.when_steady _ _ _ fun s => ?_)
  simp
@[simp ↓] theorem State.appCycle_steady (s : State) : s.appCycle.steady = s.steady :=
  State.when_steady _ _ _ fun _ => rfl
@[simp ↓] theorem State.microsecond_steady (s : State) : s.microsecond.steady = s.steady := by simp [State.microsecond]
@[simp ↓] theorem State.idleTick_steady (s : State) : s.idleTick.steady = s.steady := by simp [State.idleTick]
@[simp ↓] theorem State.acceptResume_steady (s : State) (ident : Nat) :
    (s.acceptResume ident).steady = s.steady := by
  simp [State.acceptResume]
@[simp ↓] theorem State.recallOn_steady (s : State) (c : Nat) : (s.recallOn c).steady = s.steady := by simp [State.recallOn]
@[simp ↓] theorem State.takeRecords_steady (s : State) (c : Nat) :
    (s.takeRecords c).steady = s.steady := by
  simp [State.takeRecords]
theorem State.takeMessage_steady (s : State) (c : Nat) : (s.takeMessage c).2.steady = s.steady := by simp [State.takeMessage]
@[simp ↓] theorem State.pairTake_steady (s : State) (c : Nat) : (s.pairTake c).steady = s.steady := by
  have htaken := State.takeMessage_steady s c
  unfold State.pairTake
  split
  · next heq =>
    rw [heq] at htaken
    exact (State.when_steady _ _ _ (by simp)).trans htaken
  · next heq =>
    rw [heq] at htaken
    exact htaken
@[simp ↓] theorem State.loopPost_steady (s : State) (total : Nat) (tag : Nat) (passed : Nat) (longest : Nat) :
    (s.loopPost total tag passed longest).steady = s.steady := by
  unfold State.loopPost
  split <;> simp
@[simp ↓] theorem State.conTake_steady (s : State) (ch : Nat) (d : List Word) : (s.conTake ch d).steady = s.steady := by
  unfold State.conTake
  split <;> simp
@[simp ↓] theorem State.busWake_steady (s : State) : s.busWake.steady = s.steady := by simp [State.busWake]
@[simp ↓] theorem State.busRecord_steady (s : State) (code : Option Nat) (what : Nat) (index : Nat) :
    (s.busRecord code what index).steady = s.steady := by
  simp [State.busRecord]
@[simp ↓] theorem State.invalidData_steady (s : State) : s.invalidData.steady = s.steady := by simp [State.invalidData]
@[simp ↓] theorem State.pecFail_steady (s : State) (code : Nat) (index : Nat) : (s.pecFail code index).steady = s.steady := by
  simp [State.pecFail]
@[simp ↓] theorem State.busWrite_steady (s : State) (code : Nat) (n : Nat) (b : List Byte) (f : List Byte → State → State)
    (h : ∀ d s, (f d s).steady = s.steady) :
    (s.busWrite code n b f).steady = s.steady := by
  simp [State.busWrite, h]
@[simp ↓] theorem State.busRead_steady (s : State) (code : Nat) (sent : List Byte) (data : List Byte) (clocked : Nat)
    (commit : State → State) (h : ∀ s, (commit s).steady = s.steady) :
    (s.busRead code sent data clocked commit).steady = s.steady := by
  simp [State.busRead, h]
@[simp ↓] theorem State.openRead_steady (s : State) (code : Nat) (clocked : Nat) :
    (s.openRead code clocked).steady = s.steady := by
  simp [State.openRead]
@[simp ↓] theorem State.busCut_steady (s : State) (code : Option Byte) (write : Bool) (what : Nat) (index : Nat) :
    (s.busCut code write what index).steady = s.steady := by
  simp [State.busCut]
@[simp ↓] theorem noWrite_steady (x0 : List Byte) (s : State) : (noWrite x0 s).steady = s.steady := by simp [noWrite]
@[simp ↓] theorem State.pagedWrite_steady (s : State) (ok : Nat → Bool) (f : State → Nat → State)
    (h : ∀ s n, (f s n).steady = s.steady) :
    (s.pagedWrite ok f).steady = s.steady := by
  unfold State.pagedWrite
  split <;> simp [h]
@[simp ↓] theorem State.pagedRead_steady (s : State) (code : Nat) (n : Nat) (orAll : Bool) (frame : List Byte → List Byte)
    (f : Nat → List Byte) (k : Nat) (commit : State → State) (h : ∀ s, (commit s).steady = s.steady) :
    (s.pagedRead code n orAll frame f k commit).steady = s.steady := by
  simp [State.pagedRead, h]
@[simp ↓] theorem State.changeHost_steady (s : State) (n : Nat) (f : RailHost → RailHost) :
    (s.changeHost n f).steady = s.steady := by
  simp [State.changeHost]
@[simp ↓] theorem State.setpointWrite_steady (s : State) (value : Nat → Nat) (f : State → Nat → State)
    (h : ∀ s n, (f s n).steady = s.steady) :
    (s.setpointWrite value f).steady = s.steady := by
  unfold State.setpointWrite
  split <;> simp [h]
@[simp ↓] theorem State.setLastPost_steady (s : State) (result : Nat) (c : Nat) : (s.setLastPost result c).steady = s.steady := by
  simp [State.setLastPost]
@[simp ↓] theorem State.hostPost_steady (s : State) (b : List Byte) : (s.hostPost b).steady = s.steady := by simp [State.hostPost]
@[simp ↓] theorem State.mboxAction_steady (s : State) (action : Nat) (c : Nat) : (s.mboxAction action c).steady = s.steady := by
  simp [State.mboxAction]
@[simp ↓] theorem State.clearTracker_steady (s : State) (t : Nat) :
    (s.clearTracker t).steady = s.steady := by
  simp [State.clearTracker]
@[simp ↓] theorem State.levels_steady (s : State) (x1 : Nat) (x2 : Nat) : (s.levels x1 x2).2.steady = s.steady := by
  induction x2 generalizing x1 s with
  | zero => rfl
  | succ n ih =>
    unfold State.levels
    dsimp only
    cases s.ownLevel x1 with
    | some v => exact ih _ _
    | none => exact (ih _ _).trans rfl
@[simp ↓] theorem State.done_steady (s : State) (l : List ConLine) : (s.done l).steady = s.steady := by simp [State.done]
@[simp ↓] theorem State.svcPost_steady (s : State) (code : Nat) (payload : List Word) :
    (s.svcPost code payload).steady = s.steady := by
  unfold State.svcPost
  split <;> simp

end Sys2Proof.Machine
end

/-! SUPPORT. The commands that write none of the memories. -/

section
namespace Sys2Proof.Machine

/-! ### Commands that write none of the memories -/

/-- What `Cold` and `Steady` hold of the next state. -/
def outStill : Host.Outcome State Fault Refusal → Option (Cold × Steady)
  | .next t => some (t.cold, t.steady)
  | .fault _ | .refused _ => none
@[simp] theorem outStill_next (s : State) : outStill (.next s) = some (s.cold, s.steady) := rfl
@[simp ↓] theorem outStill_ite (c : Prop) [Decidable c] (a b : Host.Outcome State Fault Refusal) :
    outStill (if c then a else b) = if c then outStill a else outStill b := apply_ite outStill c a b
@[simp] theorem State.transact_still (s : State) (code : Nat) (f : State → State) (hc : ∀ s, (f s).cold = s.cold)
    (hs : ∀ s, (f s).steady = s.steady) :
    outStill (s.transact code f) = some (s.cold, s.steady) := by
  simp [State.transact, hc, hs]
@[simp] theorem State.plain_still (s : State) (code : Nat) (x : BusXfer) (send : List Byte → State → State)
    (recv : Nat → State → State)
    (hc1 : ∀ b s, (send b s).cold = s.cold) (hs1 : ∀ b s, (send b s).steady = s.steady)
    (hc2 : ∀ k s, (recv k s).cold = s.cold) (hs2 : ∀ k s, (recv k s).steady = s.steady) :
    outStill (s.plain code x send recv) = some (s.cold, s.steady) := by
  unfold State.plain
  refine State.transact_still _ _ _ (fun s => ?_) fun s => ?_
  · split <;> simp [hc1, hc2]
  · split <;> simp [hs1, hs2]
/-- A command that takes bytes and may be read. -/
@[simp] theorem State.plainWrite_still (s : State) (code : Nat) (x : BusXfer) (n : List Byte → Nat)
    (f : List Byte → List Byte → State → State)
    (recv : Nat → State → State) (hc1 : ∀ b d s, (f b d s).cold = s.cold) (hs1 : ∀ b d s, (f b d s).steady = s.steady)
    (hc2 : ∀ k s, (recv k s).cold = s.cold) (hs2 : ∀ k s, (recv k s).steady = s.steady) :
    outStill (s.plain code x (fun b s => s.busWrite code (n b) b (f b)) recv) = some (s.cold, s.steady) :=
  State.plain_still _ _ _ _ _ (fun b s => State.busWrite_cold _ _ _ _ _ (hc1 b))
      (fun b s => State.busWrite_steady _ _ _ _ _ (hs1 b)) hc2 hs2
@[simp] theorem State.readOnly_still (s : State) (code : Nat) (x : BusXfer) (data : State → List Byte) :
    outStill (s.readOnly code x data) = some (s.cold, s.steady) := by simp [State.readOnly]
@[simp] theorem State.line_still (s : State) (f : State → State) (hc : ∀ s, (f s).cold = s.cold)
    (hs : ∀ s, (f s).steady = s.steady) :
    outStill (s.line f) = some (s.cold, s.steady) := by
  simp [State.line, hc, hs]
@[simp] theorem State.show_still (s : State) (f : State → List ConLine) :
    outStill (s.show f) = some (s.cold, s.steady) := by
  simp [State.show]
@[simp] theorem State.showBelow_still (s : State) (k bound : Nat) (f : State → List ConLine) :
    outStill (s.showBelow k bound f) = some (s.cold, s.steady) := by simp [State.showBelow]
@[simp] theorem State.showSome_still (s : State) (k : Option Nat) (bound : Nat) (f : State → Nat → ConLine) :
    outStill (s.showSome k bound f) = some (s.cold, s.steady) := by simp [State.showSome]
@[simp] theorem State.lineUnless_still (s : State) (busy : State → Bool) (f : State → State) (hc : ∀ s, (f s).cold = s.cold)
    (hs : ∀ s, (f s).steady = s.steady) :
    outStill (s.lineUnless busy f) = some (s.cold, s.steady) := by
  simp [State.lineUnless, hc, hs]
@[simp] theorem State.authedUnless_still (s : State) (busy range pre : State → Bool) (action : Nat) (arg : State → Nat)
    (f : State → State)
    (hc : ∀ s, (f s).cold = s.cold) (hs : ∀ s, (f s).steady = s.steady) : outStill
    (s.authedUnless busy range pre action arg f) = some (s.cold, s.steady) := by
  simp [State.authedUnless, hc, hs]
@[simp] theorem State.authed_still (s : State) (range pre : State → Bool) (action : Nat) (arg : State → Nat) (f : State → State)
    (hc : ∀ s, (f s).cold = s.cold) (hs : ∀ s, (f s).steady = s.steady) : outStill (s.authed range pre action arg f) = some
    (s.cold, s.steady) :=
  State.authedUnless_still _ _ _ _ _ _ _ hc hs
@[simp] theorem State.pagedWord_still (s : State) (code : Nat) (x : BusXfer) (f : State → Nat → Nat) :
    outStill (s.pagedWord code x f) = some (s.cold, s.steady) := by simp [State.pagedWord]
@[simp] theorem State.pagedStatus_still (s : State) (code : Nat) (x : BusXfer) (get : State → Nat → BitVec 8)
    (clear : State → Nat → BitVec 8 → State) (hc : ∀ s n b, (clear s n b).cold = s.cold)
    (hs : ∀ s n b, (clear s n b).steady = s.steady) :
    outStill (s.pagedStatus code x get clear) = some (s.cold, s.steady) := by
  simp [State.pagedStatus, hc, hs]
@[simp] theorem State.deviceStatus_still (s : State) (code : Nat) (x : BusXfer) (get : State → BitVec 8)
    (clear : State → BitVec 8 → State) (hc : ∀ s b, (clear s b).cold = s.cold) (hs : ∀ s b, (clear s b).steady = s.steady) :
    outStill (s.deviceStatus code x get clear) = some (s.cold, s.steady) := by
  simp [State.deviceStatus, hc, hs]
@[simp] theorem State.deviceReading_still (s : State) (code : Nat) (x : BusXfer) (f : State → Option (Int × Nat)) :
    outStill (s.deviceReading code x f) = some (s.cold, s.steady) := by simp [State.deviceReading]
@[simp] theorem State.blockRead_still (s : State) (code : Nat) (x : BusXfer) (words : State → List Word) (commit : State → State)
    (hc : ∀ s, (commit s).cold = s.cold) (hs : ∀ s, (commit s).steady = s.steady) : outStill
    (s.blockRead code x words commit) = some (s.cold, s.steady) := by
  simp [State.blockRead, hc, hs]
@[simp] theorem State.pagedBlock_still (s : State) (code n : Nat) (x : BusXfer) (words : State → Nat → List Word)
    (commit : State → Nat → State)
    (hc : ∀ s n, (commit s n).cold = s.cold) (hs : ∀ s n, (commit s n).steady = s.steady) : outStill
    (s.pagedBlock code n x words commit) = some (s.cold, s.steady) := by
  simp [State.pagedBlock, hc, hs]
@[simp] theorem execPowerOnResetRelease_still (byPorst : Bool) (s : State) :
    outStill (execPowerOnResetRelease byPorst s) = some (s.cold, s.steady) := by
  simp [execPowerOnResetRelease]
@[simp] theorem execPrimeP0_still (s : State) : outStill (execPrimeP0 s) = some (s.cold, s.steady) := by
  simp [execPrimeP0]
@[simp] theorem execPrimeP1_still (ohms : Nat) (svcRxLow : Bool) (s : State) :
    outStill (execPrimeP1 ohms svcRxLow s) = some (s.cold, s.steady) := by
  simp [execPrimeP1]
@[simp] theorem execPairRestartRm_still (s : State) : outStill (execPairRestartRm s) = some (s.cold, s.steady) := by
  simp [execPairRestartRm]
@[simp] theorem execPairRestartHm_still (e : RestartEdge) (s : State) :
    outStill (execPairRestartHm e s) = some (s.cold, s.steady) := by
  unfold execPairRestartHm
  split <;> simp
@[simp] theorem execPllBackupLock_still (s : State) : outStill (execPllBackupLock s) = some (s.cold, s.steady) := by
  simp [execPllBackupLock]
@[simp] theorem execReturnToPllLoop_still (cut : Option CutXfer) (s : State) :
    outStill (execReturnToPllLoop cut s) = some (s.cold, s.steady) := by
  simp [execReturnToPllLoop]
@[simp] theorem execSlatEdge_still (p : Fin 8) (before after : BitVec 6) (lowNs highNs : Nat) (s : State) :
    outStill (execSlatEdge p before after lowNs highNs s) = some (s.cold, s.steady) := by
  simp [execSlatEdge]
@[simp] theorem execPrebiasHoldEnd_still (n : Fin 16) (s : State) :
    outStill (execPrebiasHoldEnd n s) = some (s.cold, s.steady) := by
  simp [execPrebiasHoldEnd]
@[simp] theorem execSlewStep_still (s : State) : outStill (execSlewStep s) = some (s.cold, s.steady) := by
  simp [execSlewStep]
@[simp] theorem execSettleElapsed_still (n : Fin 16) (s : State) :
    outStill (execSettleElapsed n s) = some (s.cold, s.steady) := by
  simp [execSettleElapsed]
@[simp] theorem execThrotRelease_still (p : Fin 8) (s : State) : outStill (execThrotRelease p s) = some (s.cold, s.steady) := by
  simp [execThrotRelease]
@[simp] theorem execSenseSample_still (n : Fin 16) (vA vB : Int) (s : State) :
    outStill (execSenseSample n vA vB s) = some (s.cold, s.steady) := by
  simp [execSenseSample]
@[simp] theorem execVoteDecision_still (n : Fin 16) (s : State) : outStill (execVoteDecision n s) = some (s.cold, s.steady) := by
  simp [execVoteDecision]
@[simp] theorem execVotePendingEnd_still (n : Fin 16) (s : State) :
    outStill (execVotePendingEnd n s) = some (s.cold, s.steady) := by
  simp [execVotePendingEnd]
@[simp] theorem execPlausibilityVisit_still (n : Fin 16) (s : State) :
    outStill (execPlausibilityVisit n s) = some (s.cold, s.steady) := by
  simp [execPlausibilityVisit]
@[simp] theorem execLeUpdate_still (n : Fin 16) (upset : Option Upset) (s : State) :
    outStill (execLeUpdate n upset s) = some (s.cold, s.steady) := by
  unfold execLeUpdate
  dsimp only
  repeat' split
  all_goals simp
@[simp] theorem execUpdateDeadline_still (n : Fin 16) (s : State) :
    outStill (execUpdateDeadline n s) = some (s.cold, s.steady) := by
  unfold execUpdateDeadline
  split <;> simp
@[simp] theorem execLeRearm_still (n : Fin 16) (s : State) : outStill (execLeRearm n s) = some (s.cold, s.steady) := by
  simp [execLeRearm]
@[simp] theorem execShadowRunEnd_still (n : Fin 16) (s : State) : outStill (execShadowRunEnd n s) = some (s.cold, s.steady) := by
  simp [execShadowRunEnd]
@[simp] theorem execCharRunStart_still (n : Fin 16) (s : State) : outStill (execCharRunStart n s) = some (s.cold, s.steady) := by
  simp [execCharRunStart]
@[simp] theorem execCharRunEnd_still (n : Fin 16) (s : State) : outStill (execCharRunEnd n s) = some (s.cold, s.steady) := by
  simp [execCharRunEnd]
@[simp] theorem execCharRetry_still (n : Fin 16) (s : State) : outStill (execCharRetry n s) = some (s.cold, s.steady) := by
  simp [execCharRetry]
@[simp] theorem execEnableEvaluation_still (high : BitVec 16) (tests : List SenseTest) (s : State) :
    outStill (execEnableEvaluation high tests s) = some (s.cold, s.steady) := by
  simp [execEnableEvaluation]
@[simp] theorem execStartWaitElapsed_still (n : Fin 16) (s : State) :
    outStill (execStartWaitElapsed n s) = some (s.cold, s.steady) := by
  simp [execStartWaitElapsed]
@[simp] theorem execDischargeTimeout_still (n : Fin 16) (s : State) :
    outStill (execDischargeTimeout n s) = some (s.cold, s.steady) := by
  simp [execDischargeTimeout]
@[simp] theorem execShedCommand_still (p : Fin 128) (s : State) : outStill (execShedCommand p s) = some (s.cold, s.steady) := by
  simp [execShedCommand]
@[simp] theorem execRetryDue_still (p : Fin 128) (s : State) : outStill (execRetryDue p s) = some (s.cold, s.steady) := by
  unfold execRetryDue
  dsimp only
  repeat' split
  all_goals simp
@[simp] theorem execWakeEnd_still (p : Fin 128) (s : State) : outStill (execWakeEnd p s) = some (s.cold, s.steady) := by
  unfold execWakeEnd
  split <;> simp
@[simp] theorem execTristateIdleElapsed_still (p : Fin 128) (s : State) :
    outStill (execTristateIdleElapsed p s) = some (s.cold, s.steady) := by
  simp [execTristateIdleElapsed]
@[simp] theorem execDeepParkTimeElapsed_still (p : Fin 128) (s : State) :
    outStill (execDeepParkTimeElapsed p s) = some (s.cold, s.steady) := by
  simp [execDeepParkTimeElapsed]
@[simp] theorem execSyncInEdge_still (ball : Bool) (periodNs : Nat) (s : State) :
    outStill (execSyncInEdge ball periodNs s) = some (s.cold, s.steady) := by
  simp [execSyncInEdge]
@[simp] theorem execSyncEdgesMissing_still (n : Fin 16) (s : State) :
    outStill (execSyncEdgesMissing n s) = some (s.cold, s.steady) := by
  simp [execSyncEdgesMissing]
@[simp] theorem execInterpolatorRecalibration_still (s : State) :
    outStill (execInterpolatorRecalibration s) = some (s.cold, s.steady) := by
  simp [execInterpolatorRecalibration]
@[simp] theorem execUpstreamFrame_still (link : Fin 16) (slot : Fin 64) (bits : List Bool) (s : State) :
    outStill (execUpstreamFrame link slot bits s) = some (s.cold, s.steady) := by
  unfold execUpstreamFrame
  split <;> simp
@[simp] theorem execLinkSilenceTimeout_still (link : Fin 16) (s : State) :
    outStill (execLinkSilenceTimeout link s) = some (s.cold, s.steady) := by
  simp [execLinkSilenceTimeout]
@[simp] theorem execFfltAssert_still (link : Fin 16) (low : Bool) (s : State) :
    outStill (execFfltAssert link low s) = some (s.cold, s.steady) := by
  simp [execFfltAssert]
@[simp] theorem execComparatorCrossing_still (m : Fin 76) (level levelB : Int) (s : State) :
    outStill (execComparatorCrossing m level levelB s) = some (s.cold, s.steady) := by
  simp [execComparatorCrossing]
@[simp] theorem execBurstLimitElapsed_still (n : Fin 16) (s : State) :
    outStill (execBurstLimitElapsed n s) = some (s.cold, s.steady) := by
  simp [execBurstLimitElapsed]
@[simp] theorem execClampLimitElapsed_still (n : Fin 16) (s : State) :
    outStill (execClampLimitElapsed n s) = some (s.cold, s.steady) := by
  simp [execClampLimitElapsed]
@[simp] theorem execMaskWindowClose_still (m : Fin 76) (src : MaskSrc) (s : State) :
    outStill (execMaskWindowClose m src s) = some (s.cold, s.steady) := by
  simp [execMaskWindowClose]
@[simp] theorem execComparatorSelftest_still (m : Fin 76) (passed : BitVec 4) (s : State) :
    outStill (execComparatorSelftest m passed s) = some (s.cold, s.steady) := by
  simp [execComparatorSelftest]
@[simp] theorem execForcedTestWindow_still (m : Fin 76) (passed : BitVec 4) (s : State) :
    outStill (execForcedTestWindow m passed s) = some (s.cold, s.steady) := by
  simp [execForcedTestWindow]
@[simp] theorem execSelftestRepeat_still (m : Fin 76) (passed : BitVec 4) (s : State) :
    outStill (execSelftestRepeat m passed s) = some (s.cold, s.steady) := by
  unfold execSelftestRepeat
  dsimp only
  repeat' split
  all_goals simp
@[simp] theorem execLatchClear_still (m : Fin 76) (s : State) : outStill (execLatchClear m s) = some (s.cold, s.steady) := by
  simp [execLatchClear]
@[simp] theorem execEdgeFlagClear_still (m : Fin 76) (rise fall : Bool) (s : State) :
    outStill (execEdgeFlagClear m rise fall s) = some (s.cold, s.steady) := by
  simp [execEdgeFlagClear]
@[simp] theorem execSoftRouteDelivery_still (src : Fin 256) (s : State) :
    outStill (execSoftRouteDelivery src s) = some (s.cold, s.steady) := by
  simp [execSoftRouteDelivery]
@[simp] theorem execGtTrigger_still (k : Fin 8) (s : State) : outStill (execGtTrigger k s) = some (s.cold, s.steady) := by
  simp [execGtTrigger]
@[simp] theorem execGtExpiry_still (k : Fin 8) (s : State) : outStill (execGtExpiry k s) = some (s.cold, s.steady) := by
  simp [execGtExpiry]
@[simp] theorem execHiccupOffElapsed_still (n : Fin 16) (s : State) :
    outStill (execHiccupOffElapsed n s) = some (s.cold, s.steady) := by
  simp [execHiccupOffElapsed]
@[simp] theorem execUvDelayElapsed_still (n : Fin 16) (s : State) :
    outStill (execUvDelayElapsed n s) = some (s.cold, s.steady) := by
  simp [execUvDelayElapsed]
@[simp] theorem execPgOnDelayElapsed_still (n : Fin 16) (s : State) :
    outStill (execPgOnDelayElapsed n s) = some (s.cold, s.steady) := by
  simp [execPgOnDelayElapsed]
@[simp] theorem execPgOffFilterElapsed_still (n : Fin 16) (s : State) :
    outStill (execPgOffFilterElapsed n s) = some (s.cold, s.steady) := by
  simp [execPgOffFilterElapsed]
@[simp] theorem execInputSenseVote_still (s : State) : outStill (execInputSenseVote s) = some (s.cold, s.steady) := by
  unfold execInputSenseVote
  dsimp only
  repeat' split
  all_goals simp
@[simp] theorem execVinAutoClear_still (s : State) : outStill (execVinAutoClear s) = some (s.cold, s.steady) := by
  simp [execVinAutoClear]
@[simp] theorem execConversionComplete_still (pair : Fin 4) (a b : Int) (s : State) :
    outStill (execConversionComplete pair a b s) = some (s.cold, s.steady) := by
  unfold execConversionComplete
  dsimp only
  repeat' split
  all_goals simp
@[simp] theorem execConverterRecheck_still (pair : Fin 4) (codes : List (Int × Int)) (s : State) :
    outStill (execConverterRecheck pair codes s) = some (s.cold, s.steady) := by
  simp [execConverterRecheck]
@[simp] theorem execTelemXcheck_still (s : State) : outStill (execTelemXcheck s) = some (s.cold, s.steady) := by
  simp [execTelemXcheck]
@[simp] theorem execLockstepMismatch_still (m : Manager) (regs : Frozen) (s : State) :
    outStill (execLockstepMismatch m regs s) = some (s.cold, s.steady) := by
  simp [execLockstepMismatch]
@[simp] theorem execApprenticeTakeover_still (cause : HoldCause) (s : State) :
    outStill (execApprenticeTakeover cause s) = some (s.cold, s.steady) := by
  simp [execApprenticeTakeover]
@[simp] theorem execAppTakeoverRelease_still (s : State) : outStill (execAppTakeoverRelease s) = some (s.cold, s.steady) := by
  simp [execAppTakeoverRelease]
@[simp] theorem execAppMismatch_still (s : State) : outStill (execAppMismatch s) = some (s.cold, s.steady) := by
  simp [execAppMismatch]
@[simp] theorem execWdCheckin_still (m : Manager) (task : Fin 16) (s : State) :
    outStill (execWdCheckin m task s) = some (s.cold, s.steady) := by
  simp [execWdCheckin]
@[simp] theorem execKeyA_still (m : Manager) (regs : Frozen) (s : State) :
    outStill (execKeyA m regs s) = some (s.cold, s.steady) := by
  simp [execKeyA]
@[simp] theorem execKeyB_still (m : Manager) (regs : Frozen) (s : State) :
    outStill (execKeyB m regs s) = some (s.cold, s.steady) := by
  simp [execKeyB]
@[simp] theorem execWdDisable_still (m : Manager) (first second : Word) (cycles : Nat) (s : State) :
    outStill (execWdDisable m first second cycles s) = some (s.cold, s.steady) := by
  simp [execWdDisable]
@[simp] theorem execGo_still (m : Manager) (s : State) : outStill (execGo m s) = some (s.cold, s.steady) := by
  simp [execGo]
@[simp] theorem execWdtExpiry_still (m : Manager) (why : ExpiryCause) (regs : Frozen) (s : State) :
    outStill (execWdtExpiry m why regs s) = some (s.cold, s.steady) := by
  unfold execWdtExpiry
  split <;> simp
@[simp] theorem execDecayPeriod_still (m : Manager) (s : State) : outStill (execDecayPeriod m s) = some (s.cold, s.steady) := by
  simp [execDecayPeriod]
@[simp] theorem execEventStage_still (code src : BitVec 16) (p0 p1 : Word) (s : State) :
    outStill (execEventStage code src p0 p1 s) = some (s.cold, s.steady) := by
  simp [execEventStage]
@[simp] theorem execOpenRecordClose_still (s : State) : outStill (execOpenRecordClose s) = some (s.cold, s.steady) := by
  simp [execOpenRecordClose]
@[simp] theorem execTokenAdd_still (code : BitVec 16) (s : State) : outStill (execTokenAdd code s) = some (s.cold, s.steady) := by
  simp [execTokenAdd]
@[simp] theorem execRecordCommit_still (e : WorkEdge) (s : State) :
    outStill (execRecordCommit e s) = some (s.cold, s.steady) := by
  unfold execRecordCommit
  split <;> simp
@[simp] theorem execClearSectorErase_still (e : WorkEdge) (s : State) :
    outStill (execClearSectorErase e s) = some (s.cold, s.steady) := by
  unfold execClearSectorErase
  dsimp only
  repeat' split
  all_goals simp
@[simp] theorem execGoPost_still (ch : Fin 16) (who : Identity) (s : State) :
    outStill (execGoPost ch who s) = some (s.cold, s.steady) := by
  simp [execGoPost]
@[simp] theorem execRecall_still (ch : Fin 16) (who : Identity) (s : State) :
    outStill (execRecall ch who s) = some (s.cold, s.steady) := by
  simp [execRecall]
@[simp] theorem execCrossWait_still (ch : Fin 16) (s : State) : outStill (execCrossWait ch s) = some (s.cold, s.steady) := by
  unfold execCrossWait
  split <;> simp
@[simp] theorem execFragmentTimeout_still (ch : Fin 16) (s : State) :
    outStill (execFragmentTimeout ch s) = some (s.cold, s.steady) := by
  unfold execFragmentTimeout
  split <;> simp
@[simp] theorem execBusError_still (code : Option Byte) (write : Bool) (index : Nat) (s : State) :
    outStill (execBusError code write index s) = some (s.cold, s.steady) := by
  simp [execBusError]
@[simp] theorem execBusTimeout_still (code : Option Byte) (write : Bool) (index : Nat) (s : State) :
    outStill (execBusTimeout code write index s) = some (s.cold, s.steady) := by
  simp [execBusTimeout]
@[simp] theorem execAlertResponse_still (won complete' pec : Bool) (s : State) :
    outStill (execAlertResponse won complete' pec s) = some (s.cold, s.steady) := by
  simp [execAlertResponse]
@[simp] theorem execHostNotify_still (failed : Option NotifyFail) (s : State) :
    outStill (execHostNotify failed s) = some (s.cold, s.steady) := by
  unfold execHostNotify
  dsimp only
  repeat' split
  all_goals simp
@[simp] theorem execStandbyEntry_still (s : State) : outStill (execStandbyEntry s) = some (s.cold, s.steady) := by
  simp [execStandbyEntry]
@[simp] theorem execStandbyWake_still (cause : WakeCause) (s : State) :
    outStill (execStandbyWake cause s) = some (s.cold, s.steady) := by
  simp [execStandbyWake]
@[simp] theorem execPage_still (x : BusXfer) (s : State) : outStill (execPage x s) = some (s.cold, s.steady) := by
  simp [execPage]
@[simp] theorem execClearFaults_still (x : BusXfer) (s : State) : outStill (execClearFaults x s) = some (s.cold, s.steady) := by
  simp [execClearFaults]
@[simp] theorem execPhase_still (x : BusXfer) (s : State) : outStill (execPhase x s) = some (s.cold, s.steady) := by
  simp [execPhase]
@[simp] theorem execWriteProtect_still (x : BusXfer) (s : State) : outStill (execWriteProtect x s) = some (s.cold, s.steady) := by
  simp [execWriteProtect]
@[simp] theorem execCapability_still (x : BusXfer) (s : State) : outStill (execCapability x s) = some (s.cold, s.steady) := by
  simp [execCapability]
@[simp] theorem execVoutMode_still (x : BusXfer) (s : State) : outStill (execVoutMode x s) = some (s.cold, s.steady) := by
  simp [execVoutMode]
@[simp] theorem execVoutMax_still (x : BusXfer) (s : State) : outStill (execVoutMax x s) = some (s.cold, s.steady) := by
  simp [execVoutMax]
@[simp] theorem execVoutMarginHigh_still (x : BusXfer) (s : State) :
    outStill (execVoutMarginHigh x s) = some (s.cold, s.steady) := by
  simp [execVoutMarginHigh]
@[simp] theorem execVoutMarginLow_still (x : BusXfer) (s : State) :
    outStill (execVoutMarginLow x s) = some (s.cold, s.steady) := by
  simp [execVoutMarginLow]
@[simp] theorem execStatusByte_still (x : BusXfer) (s : State) : outStill (execStatusByte x s) = some (s.cold, s.steady) := by
  simp [execStatusByte]
@[simp] theorem execStatusWord_still (x : BusXfer) (s : State) : outStill (execStatusWord x s) = some (s.cold, s.steady) := by
  simp [execStatusWord]
@[simp] theorem execStatusVout_still (x : BusXfer) (s : State) : outStill (execStatusVout x s) = some (s.cold, s.steady) := by
  simp [execStatusVout]
@[simp] theorem execStatusIout_still (x : BusXfer) (s : State) : outStill (execStatusIout x s) = some (s.cold, s.steady) := by
  simp [execStatusIout]
@[simp] theorem execStatusInput_still (x : BusXfer) (s : State) : outStill (execStatusInput x s) = some (s.cold, s.steady) := by
  simp [execStatusInput]
@[simp] theorem execStatusTemperature_still (x : BusXfer) (s : State) :
    outStill (execStatusTemperature x s) = some (s.cold, s.steady) := by
  simp [execStatusTemperature]
@[simp] theorem execStatusCml_still (x : BusXfer) (s : State) : outStill (execStatusCml x s) = some (s.cold, s.steady) := by
  simp [execStatusCml]
@[simp] theorem execStatusMfrSpecific_still (x : BusXfer) (s : State) :
    outStill (execStatusMfrSpecific x s) = some (s.cold, s.steady) := by
  simp [execStatusMfrSpecific]
@[simp] theorem execReadVin_still (x : BusXfer) (s : State) : outStill (execReadVin x s) = some (s.cold, s.steady) := by
  simp [execReadVin]
@[simp] theorem execReadIin_still (x : BusXfer) (s : State) : outStill (execReadIin x s) = some (s.cold, s.steady) := by
  simp [execReadIin]
@[simp] theorem execReadVout_still (x : BusXfer) (s : State) : outStill (execReadVout x s) = some (s.cold, s.steady) := by
  simp [execReadVout]
@[simp] theorem execReadIout_still (x : BusXfer) (s : State) : outStill (execReadIout x s) = some (s.cold, s.steady) := by
  simp [execReadIout]
@[simp] theorem execReadTemperature1_still (x : BusXfer) (s : State) :
    outStill (execReadTemperature1 x s) = some (s.cold, s.steady) := by
  simp [execReadTemperature1]
@[simp] theorem execReadPout_still (x : BusXfer) (s : State) : outStill (execReadPout x s) = some (s.cold, s.steady) := by
  simp [execReadPout]
@[simp] theorem execReadPin_still (x : BusXfer) (s : State) : outStill (execReadPin x s) = some (s.cold, s.steady) := by
  simp [execReadPin]
@[simp] theorem execPmbusRevision_still (x : BusXfer) (s : State) :
    outStill (execPmbusRevision x s) = some (s.cold, s.steady) := by
  simp [execPmbusRevision]
@[simp] theorem execMfrId_still (x : BusXfer) (s : State) : outStill (execMfrId x s) = some (s.cold, s.steady) := by
  simp [execMfrId]
@[simp] theorem execMfrModel_still (x : BusXfer) (s : State) : outStill (execMfrModel x s) = some (s.cold, s.steady) := by
  simp [execMfrModel]
@[simp] theorem execMfrRevision_still (x : BusXfer) (s : State) : outStill (execMfrRevision x s) = some (s.cold, s.steady) := by
  simp [execMfrRevision]
@[simp] theorem execIcDeviceId_still (x : BusXfer) (s : State) : outStill (execIcDeviceId x s) = some (s.cold, s.steady) := by
  simp [execIcDeviceId]
@[simp] theorem execIcDeviceRev_still (x : BusXfer) (s : State) : outStill (execIcDeviceRev x s) = some (s.cold, s.steady) := by
  simp [execIcDeviceRev]
@[simp] theorem execMfrMboxPost_still (x : BusXfer) (s : State) : outStill (execMfrMboxPost x s) = some (s.cold, s.steady) := by
  simp [execMfrMboxPost]
@[simp] theorem execMfrMboxStatus_still (x : BusXfer) (s : State) :
    outStill (execMfrMboxStatus x s) = some (s.cold, s.steady) := by
  simp [execMfrMboxStatus]
@[simp] theorem execMfrRailState_still (x : BusXfer) (s : State) : outStill (execMfrRailState x s) = some (s.cold, s.steady) := by
  simp [execMfrRailState]
@[simp] theorem execMfrCellSelect_still (x : BusXfer) (s : State) :
    outStill (execMfrCellSelect x s) = some (s.cold, s.steady) := by
  simp [execMfrCellSelect]
@[simp] theorem execMfrCellStatus_still (x : BusXfer) (s : State) :
    outStill (execMfrCellStatus x s) = some (s.cold, s.steady) := by
  simp [execMfrCellStatus]
@[simp] theorem execMfrEvtHead_still (x : BusXfer) (s : State) : outStill (execMfrEvtHead x s) = some (s.cold, s.steady) := by
  simp [execMfrEvtHead]
@[simp] theorem execMfrWdtCounts_still (x : BusXfer) (s : State) : outStill (execMfrWdtCounts x s) = some (s.cold, s.steady) := by
  simp [execMfrWdtCounts]
@[simp] theorem execMfrPaletteState_still (x : BusXfer) (s : State) :
    outStill (execMfrPaletteState x s) = some (s.cold, s.steady) := by
  simp [execMfrPaletteState]
@[simp] theorem execMfrGuaranteeState_still (x : BusXfer) (s : State) :
    outStill (execMfrGuaranteeState x s) = some (s.cold, s.steady) := by
  simp [execMfrGuaranteeState]
@[simp] theorem execMfrDumpInfo_still (x : BusXfer) (s : State) : outStill (execMfrDumpInfo x s) = some (s.cold, s.steady) := by
  simp [execMfrDumpInfo]
@[simp] theorem execMfrPrimingStatus_still (x : BusXfer) (s : State) :
    outStill (execMfrPrimingStatus x s) = some (s.cold, s.steady) := by
  simp [execMfrPrimingStatus]
@[simp] theorem execMfrSecurityState_still (x : BusXfer) (s : State) :
    outStill (execMfrSecurityState x s) = some (s.cold, s.steady) := by
  simp [execMfrSecurityState]
@[simp] theorem execMfrLoopState_still (x : BusXfer) (s : State) : outStill (execMfrLoopState x s) = some (s.cold, s.steady) := by
  simp [execMfrLoopState]
@[simp] theorem execMfrModelState_still (x : BusXfer) (s : State) :
    outStill (execMfrModelState x s) = some (s.cold, s.steady) := by
  simp [execMfrModelState]
@[simp] theorem execMfrThrottleState_still (x : BusXfer) (s : State) :
    outStill (execMfrThrottleState x s) = some (s.cold, s.steady) := by
  simp [execMfrThrottleState]
@[simp] theorem execSvcHelp_still (s : State) : outStill (execSvcHelp s) = some (s.cold, s.steady) := by
  simp [execSvcHelp]
@[simp] theorem execSvcVer_still (s : State) : outStill (execSvcVer s) = some (s.cold, s.steady) := by
  simp [execSvcVer]
@[simp] theorem execSvcPrime_still (s : State) : outStill (execSvcPrime s) = some (s.cold, s.steady) := by
  simp [execSvcPrime]
@[simp] theorem execSvcStatus_still (page : Option Nat) (s : State) :
    outStill (execSvcStatus page s) = some (s.cold, s.steady) := by
  simp [execSvcStatus]
@[simp] theorem execSvcRail_still (n : Nat) (s : State) : outStill (execSvcRail n s) = some (s.cold, s.steady) := by
  simp [execSvcRail]
@[simp] theorem execSvcSense_still (n : Nat) (s : State) : outStill (execSvcSense n s) = some (s.cold, s.steady) := by
  simp [execSvcSense]
@[simp] theorem execSvcLoop_still (n : Nat) (s : State) : outStill (execSvcLoop n s) = some (s.cold, s.steady) := by
  simp [execSvcLoop]
@[simp] theorem execSvcModel_still (n : Nat) (s : State) : outStill (execSvcModel n s) = some (s.cold, s.steady) := by
  simp [execSvcModel]
@[simp] theorem execSvcPalette_still (p : Nat) (s : State) : outStill (execSvcPalette p s) = some (s.cold, s.steady) := by
  simp [execSvcPalette]
@[simp] theorem execSvcPhase_still (a : Nat) (b : Option Nat) (s : State) :
    outStill (execSvcPhase a b s) = some (s.cold, s.steady) := by
  simp [execSvcPhase]
@[simp] theorem execSvcCell_still (c : Nat) (s : State) : outStill (execSvcCell c s) = some (s.cold, s.steady) := by
  simp [execSvcCell]
@[simp] theorem execSvcLink_still (n : Nat) (s : State) : outStill (execSvcLink n s) = some (s.cold, s.steady) := by
  simp [execSvcLink]
@[simp] theorem execSvcCmp_still (m : Option Nat) (s : State) : outStill (execSvcCmp m s) = some (s.cold, s.steady) := by
  simp [execSvcCmp]
@[simp] theorem execSvcBurst_still (n : Option Nat) (s : State) : outStill (execSvcBurst n s) = some (s.cold, s.steady) := by
  simp [execSvcBurst]
@[simp] theorem execSvcAdc_still (s : State) : outStill (execSvcAdc s) = some (s.cold, s.steady) := by
  simp [execSvcAdc]
@[simp] theorem execSvcTelem_still (s : State) : outStill (execSvcTelem s) = some (s.cold, s.steady) := by
  simp [execSvcTelem]
@[simp] theorem execSvcTemp_still (s : State) : outStill (execSvcTemp s) = some (s.cold, s.steady) := by
  simp [execSvcTemp]
@[simp] theorem execSvcWdt_still (s : State) : outStill (execSvcWdt s) = some (s.cold, s.steady) := by
  simp [execSvcWdt]
@[simp] theorem execSvcDump_still (s : State) : outStill (execSvcDump s) = some (s.cold, s.steady) := by
  simp [execSvcDump]
@[simp] theorem execSvcDumpWords_still (a n : Nat) (s : State) : outStill (execSvcDumpWords a n s) = some (s.cold, s.steady) := by
  simp [execSvcDumpWords]
@[simp] theorem execSvcEvt_still (s : State) : outStill (execSvcEvt s) = some (s.cold, s.steady) := by
  simp [execSvcEvt]
@[simp] theorem execSvcEvtRange_still (a : Nat) (b : Option Nat) (s : State) :
    outStill (execSvcEvtRange a b s) = some (s.cold, s.steady) := by
  simp [execSvcEvtRange]
@[simp] theorem execSvcBus_still (s : State) : outStill (execSvcBus s) = some (s.cold, s.steady) := by
  simp [execSvcBus]
@[simp] theorem execSvcSec_still (s : State) : outStill (execSvcSec s) = some (s.cold, s.steady) := by
  simp [execSvcSec]
@[simp] theorem execSvcClaims_still (s : State) : outStill (execSvcClaims s) = some (s.cold, s.steady) := by
  simp [execSvcClaims]
@[simp] theorem execSvcEcc_still (s : State) : outStill (execSvcEcc s) = some (s.cold, s.steady) := by
  simp [execSvcEcc]
@[simp] theorem execSvcFlash_still (slot a n : Nat) (s : State) :
    outStill (execSvcFlash slot a n s) = some (s.cold, s.steady) := by
  simp [execSvcFlash]
@[simp] theorem execSvcMbxLoop_still (k : Option Nat) (s : State) : outStill (execSvcMbxLoop k s) = some (s.cold, s.steady) := by
  simp [execSvcMbxLoop]
@[simp] theorem execSvcBye_still (s : State) : outStill (execSvcBye s) = some (s.cold, s.steady) := by
  simp [execSvcBye]
@[simp] theorem execSessionTimeout_still (s : State) : outStill (execSessionTimeout s) = some (s.cold, s.steady) := by
  simp [execSessionTimeout]
@[simp] theorem execSvcAbort_still (s : State) : outStill (execSvcAbort s) = some (s.cold, s.steady) := by
  simp [execSvcAbort]
@[simp] theorem execSvcAtb_still (sel : AtbSel) (s : State) : outStill (execSvcAtb sel s) = some (s.cold, s.steady) := by
  simp [execSvcAtb]
@[simp] theorem execSvcLane_still (p : Nat) (lvl : LaneLevel) (s : State) :
    outStill (execSvcLane p lvl s) = some (s.cold, s.steady) := by
  simp [execSvcLane]
@[simp] theorem execSvcLinkFd_still (n : Nat) (lvl : LaneLevel) (s : State) :
    outStill (execSvcLinkFd n lvl s) = some (s.cold, s.steady) := by
  simp [execSvcLinkFd]
@[simp] theorem execStaticLevelAbort_still (s : State) : outStill (execStaticLevelAbort s) = some (s.cold, s.steady) := by
  simp [execStaticLevelAbort]
@[simp] theorem execSvcLinkLoop_still (n : Nat) (pat : Option (BitVec 24)) (s : State) :
    outStill (execSvcLinkLoop n pat s) = some (s.cold, s.steady) := by
  simp [execSvcLinkLoop]
@[simp] theorem execSvcCellId_still (c : Nat) (s : State) : outStill (execSvcCellId c s) = some (s.cold, s.steady) := by
  simp [execSvcCellId]
@[simp] theorem execSvcAdcCheck_still (c : Nat) (s : State) : outStill (execSvcAdcCheck c s) = some (s.cold, s.steady) := by
  simp [execSvcAdcCheck]
@[simp] theorem execSvcCmpTest_still (m : Nat) (s : State) : outStill (execSvcCmpTest m s) = some (s.cold, s.steady) := by
  simp [execSvcCmpTest]
@[simp] theorem execSvcWdtOff_still (m : Manager) (s : State) : outStill (execSvcWdtOff m s) = some (s.cold, s.steady) := by
  simp [execSvcWdtOff]
@[simp] theorem execSvcWdtOn_still (m : Manager) (s : State) : outStill (execSvcWdtOn m s) = some (s.cold, s.steady) := by
  simp [execSvcWdtOn]
@[simp] theorem execSvcWdtForce_still (m : Manager) (regs : Frozen) (s : State) :
    outStill (execSvcWdtForce m regs s) = some (s.cold, s.steady) := by
  simp [execSvcWdtForce]
@[simp] theorem execSvcResume_still (s : State) : outStill (execSvcResume s) = some (s.cold, s.steady) := by
  simp [execSvcResume]
@[simp] theorem execSvcRestore_still (p : Nat) (s : State) : outStill (execSvcRestore p s) = some (s.cold, s.steady) := by
  simp [execSvcRestore]
@[simp] theorem execSvcWet_still (id v : Word) (s : State) : outStill (execSvcWet id v s) = some (s.cold, s.steady) := by
  simp [execSvcWet]
@[simp] theorem execUnsupportedCommandCode_still (code : Option Byte) (x : BusXfer) (s : State) :
    outStill (execUnsupportedCommandCode code x s) = some (s.cold, s.steady) := by
  simp [execUnsupportedCommandCode]

end Sys2Proof.Machine
end

/-! SUPPORT. Commands without a short form: none of them writes a memory. -/

section
namespace Sys2Proof.Machine

@[simp ↓] theorem State.valueWrite_cold (s : State) (ok : Bool) (f : State → Nat → State) (h : ∀ s n, (f s n).cold = s.cold) :
    (s.valueWrite ok f).cold = s.cold := by
  simp [State.valueWrite, h]
@[simp ↓] theorem State.valueWrite_steady (s : State) (ok : Bool) (f : State → Nat → State)
    (h : ∀ s n, (f s n).steady = s.steady) :
    (s.valueWrite ok f).steady = s.steady := by
  simp [State.valueWrite, h]

/-- A process call whose answer to the bytes leaves these fields alone, and so does what its completion does. -/
theorem State.processCall_still (s : State) (code : Nat) (x : BusXfer)
    (serve : List Byte → State → Option (List Byte × State × (State → State)))
    (h : ∀ b s d t commit, serve b s = some (d, t, commit) → (t.cold = s.cold ∧ t.steady = s.steady) ∧
      ∀ u, (commit u).cold = u.cold ∧ (commit u).steady = u.steady) :
    outStill (s.processCall code x serve) = some (s.cold, s.steady) := by
  have hgo (b : List Byte) (k : Nat) (s : State) : ∀ v : State, v = (match serve b s with
      | some (data, s, commit) => s.busRead code b data k commit
      | none => s.invalidData.busRead code b [0] k id) → v.cold = s.cold ∧ v.steady = s.steady := by
    rintro v rfl
    split
    · next d t commit hserve =>
      obtain ⟨ht, hcommit⟩ := h b s d t commit hserve
      simp [ht.1, ht.2, fun u => (hcommit u).1, fun u => (hcommit u).2]
    · simp
  unfold State.processCall
  refine State.transact_still _ _ _ (fun s => ?_) fun s => ?_
  · cases x
    · simp
    · exact (hgo _ _ _ _ rfl).1
    · exact (hgo _ _ _ _ rfl).1
  · cases x
    · simp
    · exact (hgo _ _ _ _ rfl).2
    · exact (hgo _ _ _ _ rfl).2

@[simp] theorem execMfrMboxTake_still (x : BusXfer) (s : State) : outStill (execMfrMboxTake x s) = some (s.cold, s.steady) := by
  refine State.processCall_still _ _ _ _ fun b s d t commit hserve => ?_
  dsimp only at hserve
  split at hserve
  · exact nomatch hserve
  · split at hserve
    · obtain ⟨-, rfl, rfl⟩ := hserve
      simp
    · obtain ⟨-, rfl, rfl⟩ := hserve
      simp
@[simp] theorem execMfrEvtRead_still (x : BusXfer) (s : State) : outStill (execMfrEvtRead x s) = some (s.cold, s.steady) := by
  refine State.processCall_still _ _ _ _ fun b s d t commit hserve => ?_
  dsimp only at hserve
  split at hserve
  · exact nomatch hserve
  · split at hserve <;> obtain ⟨-, rfl, rfl⟩ := hserve <;> simp
@[simp] theorem execMfrTelemMinmax_still (x : BusXfer) (s : State) : outStill (execMfrTelemMinmax x s) = some
    (s.cold, s.steady) := by
  refine State.processCall_still _ _ _ _ fun b s d t commit hserve => ?_
  dsimp only at hserve
  split at hserve
  · exact nomatch hserve
  · repeat' split at hserve
    all_goals
      obtain ⟨-, rfl, rfl⟩ := hserve
      simp
@[simp] theorem execMfrResourceClaims_still (x : BusXfer) (s : State) : outStill (execMfrResourceClaims x s) = some
    (s.cold, s.steady) := by
  refine State.processCall_still _ _ _ _ fun b s d t commit hserve => ?_
  dsimp only at hserve
  split at hserve
  · exact nomatch hserve
  · obtain ⟨-, rfl, rfl⟩ := hserve
    simp

@[simp] theorem State.mboxControl_still (s : State) (x : BusXfer) : outStill (s.mboxControl x) = some (s.cold, s.steady) := by
  simp [State.mboxControl]
@[simp] theorem execEpochBump_still (x : BusXfer) (s : State) : outStill (execEpochBump x s) = some
    (s.cold, s.steady) := s.mboxControl_still x
@[simp] theorem execMboxControlRecall_still (x : BusXfer) (s : State) : outStill (execMboxControlRecall x s) = some
    (s.cold, s.steady) := s.mboxControl_still x
@[simp] theorem execSelect_still (x : BusXfer) (s : State) : outStill (execSelect x s) = some
    (s.cold, s.steady) := s.mboxControl_still x
@[simp] theorem execMfrMboxControlRead_still (x : BusXfer) (s : State) : outStill (execMfrMboxControlRead x s) = some
    (s.cold, s.steady) := s.mboxControl_still x
@[simp] theorem execMfrPhaseState_still (x : BusXfer) (s : State) : outStill (execMfrPhaseState x s) = some
    (s.cold, s.steady) := by
  unfold execMfrPhaseState
  refine State.plain_still _ _ _ _ _ (by simp) (by simp) (fun k s => ?_) fun k s => ?_ <;> split <;> simp
@[simp] theorem execMfrGpio_still (x : BusXfer) (s : State) : outStill (execMfrGpio x s) = some (s.cold, s.steady) := by
  unfold execMfrGpio
  refine State.plainWrite_still _ _ _ _ _ _ (fun b d s => ?_) (fun b d s => ?_) (by simp) (by simp)
  · dsimp only
    repeat' split
    all_goals simp
  · dsimp only
    repeat' split
    all_goals simp
@[simp] theorem execOperation_still (x : BusXfer) (s : State) : outStill (execOperation x s) = some (s.cold, s.steady) := by
  unfold execOperation
  exact State.plainWrite_still _ _ _ _ _ _ (fun b d s => by simp) (fun b d s => by simp) (by simp) (by simp)
@[simp] theorem execOnOffConfig_still (x : BusXfer) (s : State) : outStill (execOnOffConfig x s) = some (s.cold, s.steady) := by
  simp [execOnOffConfig]
@[simp] theorem execVoutCommand_still (x : BusXfer) (s : State) : outStill (execVoutCommand x s) = some (s.cold, s.steady) := by
  unfold execVoutCommand
  exact State.plainWrite_still _ _ _ _ _ _ (fun b d s => by simp) (fun b d s => by simp) (by simp) (by simp)
@[simp] theorem execSvcAuth_still (s : State) : outStill (execSvcAuth s) = some (s.cold, s.steady) := by
  unfold execSvcAuth
  refine State.line_still _ _ (fun s => ?_) fun s => ?_ <;> split <;> simp
@[simp] theorem execSvcEvtClear_still (n : Nat) (s : State) : outStill (execSvcEvtClear n s) = some (s.cold, s.steady) := by
  unfold execSvcEvtClear
  refine State.line_still _ _ (fun s => ?_) fun s => ?_
  · repeat' split
    all_goals simp
  · repeat' split
    all_goals simp
@[simp] theorem execTapInstructionLoad_still (i : TapInstr) (s : State) : outStill (execTapInstructionLoad i s) = some
    (s.cold, s.steady) := by
  unfold execTapInstructionLoad
  split
  · simp
  · simp [State.when]
@[simp] theorem execPeriodStart_still (n : Fin 16) (p : Option (Fin 128)) (s : State) : outStill
    (execPeriodStart n p s) = some (s.cold, s.steady) := by
  unfold execPeriodStart
  cases p <;> simp
@[simp] theorem execInputUv_still (s : State) : outStill (execInputUv s) = some (s.cold, s.steady) := by
  simp [execInputUv, State.when]
@[simp] theorem execHeartbeatCheck_still (appLost : Bool) (s : State) : outStill (execHeartbeatCheck appLost s) = some
    (s.cold, s.steady) := by
  unfold execHeartbeatCheck
  simp [State.when]
theorem outStill_completes {s t : State} (hc : t.cold = s.cold) (hs : t.steady = s.steady) :
    outStill (complete t) = some (s.cold, s.steady) := by
  simp [hc, hs]
@[simp] theorem execTelemetryRound_still (s : State) : outStill (execTelemetryRound s) = some (s.cold, s.steady) := by
  unfold execTelemetryRound
  split
  · exact outStill_completes ((foldl_cold _ _ _ State.ageFault_cold).trans (by simp))
      ((foldl_steady _ _ _ State.ageFault_steady).trans (by simp))
  · simp
@[simp] theorem execFrameTime_still (s : State) : outStill (execFrameTime s) = some (s.cold, s.steady) := by
  unfold execFrameTime
  split
  · dsimp only
    split <;> simp [State.when]
  · simp
@[simp] theorem execClockLoss_still (core loop refclk : Bool) (s : State) : outStill
    (execClockLoss core loop refclk s) = some (s.cold, s.steady) := by
  unfold execClockLoss
  split
  · simp
  · simp [State.when]
theorem State.coreIn_cold (s : State) : s.coreIn.cold = s.cold := State.coreBack_cold _
theorem State.coreIn_steady (s : State) : s.coreIn.steady = s.steady := State.coreBack_steady _
theorem State.beginBoth_cold (s : State) (cut : Option CutXfer) : (s.beginBoth cut).cold = s.cold := by simp [State.beginBoth]
theorem State.beginBoth_steady (s : State) (cut : Option CutXfer) : (s.beginBoth cut).steady = s.steady := by simp
    [State.beginBoth]
theorem State.clocksWell_cold (s : State) : s.clocksWell.cold = s.cold := by simp [State.clocksWell]
theorem State.clocksWell_steady (s : State) : s.clocksWell.steady = s.steady := by simp [State.clocksWell]
@[simp] theorem execCoreReturned_still (cut : Option CutXfer) (s : State) : outStill (execCoreReturned cut s) = some
    (s.cold, s.steady) := by
  by_cases h : s.boot.held || s.clock.corePresent || s.clock.standby
  · rw [execCoreReturned, if_pos h]
    simp
  · simp only [Bool.or_eq_true, not_or, Bool.not_eq_true] at h
    obtain ⟨⟨hheld, hcore⟩, hstandby⟩ := h
    rw [show execCoreReturned cut s = _ from exec_coreReturned hheld hcore hstandby cut]
    simp [State.coreIn_cold, State.coreIn_steady, State.beginBoth_cold, State.beginBoth_steady, State.clocksWell_cold,
      State.clocksWell_steady]
end Sys2Proof.Machine
end

/-! SUPPORT. What an operation may write, and the rules for the writes of the sparse memories. -/

section
namespace Sys2Proof.Machine

/-! ### What an operation may write -/

/-- Memories that an operation may write. -/
structure MemSet where
  flash : Bool
  shadow : Bool
  palette : Bool
  dump : Bool
  ident : Bool

/-- From `s` to `t` the queue stands and no memory outside the set changed; the memories stay canonical and the groups keep
the device's sizes. -/
structure State.Within (w : MemSet) (s t : State) : Prop where
  pending : t.pending = s.pending
  flash : w.flash = false → t.flash = s.flash
  shadow : w.shadow = false → t.shadow = s.shadow
  palette : w.palette = false → t.palette = s.palette
  dump : w.dump = false → t.dump = s.dump
  ident : w.ident = false → t.ident = s.ident
  canonical : s.Canonical → t.Canonical
  sized : s.Sized → t.Sized

/-- The sizes of the device, in the order of `Steady.sizes`. -/
theorem State.sized_iff (s : State) : s.Sized ↔ s.steady.sizes = [8, 16, 128, 1024, 16, 76, 8, 4, 16] := by
  simp [State.Sized, State.steady]

section Within
variable {w : MemSet} {s t u : State}

theorem State.Within.of_same (hc : t.cold = s.cold) (hs : t.steady = s.steady) : s.Within w t where
  pending := congrArg Cold.pending hc
  flash _ := congrArg Cold.flash hc
  shadow _ := congrArg Cold.shadow hc
  palette _ := congrArg Cold.palette hc
  dump _ := congrArg Steady.dump hs
  ident _ := congrArg Steady.ident hs
  canonical h := by
    have hf : t.flash = s.flash := congrArg Cold.flash hc
    have hsh : t.shadow = s.shadow := congrArg Cold.shadow hc
    have hp : t.palette = s.palette := congrArg Cold.palette hc
    rw [State.Canonical, hf, hsh, hp]
    exact h
  sized h := by rw [State.sized_iff, hs, ← State.sized_iff]; exact h

theorem State.Within.refl (s : State) : s.Within w s := .of_same rfl rfl

theorem State.Within.trans (h : s.Within w t) (h' : t.Within w u) : s.Within w u where
  pending := h'.pending.trans h.pending
  flash hw := (h'.flash hw).trans (h.flash hw)
  shadow hw := (h'.shadow hw).trans (h.shadow hw)
  palette hw := (h'.palette hw).trans (h.palette hw)
  dump hw := (h'.dump hw).trans (h.dump hw)
  ident hw := (h'.ident hw).trans (h.ident hw)
  canonical hs := h'.canonical (h.canonical hs)
  sized hs := h'.sized (h.sized hs)

/-- What follows leaves all of it alone. -/
theorem State.Within.andThen (h : s.Within w t) (hc : u.cold = t.cold) (hs : u.steady = t.steady) : s.Within w u :=
  h.trans (.of_same hc hs)

theorem State.Within.foldl {α : Type} {f : State → α → State} (h : ∀ (s : State) a, s.Within w (f s a)) (l : List α) (s : State) :
    s.Within w (l.foldl f s) := by
  induction l generalizing s with
  | nil => exact .refl s
  | cons a l ih => exact (h s a).trans (ih _)

theorem State.Within.when {f : State → State} (h : s.Within w (f s)) (c : Bool) : s.Within w (s.when c f) := by
  unfold State.when
  split
  · exact h
  · exact .refl s

/-- A new flash that is canonical where the old one is. -/
theorem State.Within.of_flash (hw : w.flash = true) {m : Memory} (hm : Memory.wf 0xFF s.flash → Memory.wf 0xFF m) :
    s.Within w { s with flash := m } where
  pending := rfl
  flash h := absurd h (by simp [hw])
  shadow _ := rfl
  palette _ := rfl
  dump _ := rfl
  ident _ := rfl
  canonical h := h.imp_left hm
  sized := id

/-- The same of the shadow. -/
theorem State.Within.of_shadow (hw : w.shadow = true) {m : Memory} (hm : Memory.wf 0 s.shadow → Memory.wf 0 m) :
    s.Within w { s with shadow := m } where
  pending := rfl
  flash _ := rfl
  shadow h := absurd h (by simp [hw])
  palette _ := rfl
  dump _ := rfl
  ident _ := rfl
  canonical h := ⟨h.1, hm h.2.1, h.2.2⟩
  sized := id

/-- The same of the palette memory. -/
theorem State.Within.of_palette (hw : w.palette = true) {m : List (Nat × Word)}
    (hm : Sparse.wf (0 : Word) s.palette → Sparse.wf (0 : Word) m) : s.Within w { s with palette := m } where
  pending := rfl
  flash _ := rfl
  shadow _ := rfl
  palette h := absurd h (by simp [hw])
  dump _ := rfl
  ident _ := rfl
  canonical h := ⟨h.1, h.2.1, hm h.2.2⟩
  sized := id

theorem State.Within.of_dump (hw : w.dump = true) (d : Dump) : s.Within w { s with dump := d } where
  pending := rfl
  flash _ := rfl
  shadow _ := rfl
  palette _ := rfl
  dump h := absurd h (by simp [hw])
  ident _ := rfl
  canonical := id
  sized := id

theorem State.Within.of_ident (hw : w.ident = true) (k : IdStore) : s.Within w { s with ident := k } where
  pending := rfl
  flash _ := rfl
  shadow _ := rfl
  palette _ := rfl
  dump _ := rfl
  ident h := absurd h (by simp [hw])
  canonical := id
  sized := id

theorem State.Within.of_varnish (v : Varnish) : s.Within w { s with varnish := v } :=
  ⟨rfl, fun _ => rfl, fun _ => rfl, fun _ => rfl, fun _ => rfl, fun _ => rfl, id, id⟩

theorem State.Within.setBoot (h : s.Within w t) (b : Boot) : s.Within w { t with boot := b } :=
  h.andThen rfl rfl

theorem State.Within.setBus (h : s.Within w t) (b : Bus) : s.Within w { t with bus := b } :=
  h.andThen rfl rfl

theorem State.Within.setPins (h : s.Within w t) (p : Pins) : s.Within w { t with pins := p } :=
  h.andThen rfl rfl

theorem State.Within.setInput (h : s.Within w t) (i : Input) : s.Within w { t with input := i } :=
  h.andThen rfl rfl

theorem State.Within.print (h : s.Within w t) (l : List ConLine) : s.Within w (t.print l) :=
  h.andThen (t.print_cold l) (t.print_steady l)

theorem State.Within.preface (h : s.Within w t) (l : List ConLine) : s.Within w (t.preface l) :=
  h.andThen (t.preface_cold l) (t.preface_steady l)

end Within

/-! ### Writes of the sparse memories -/

/-- Writes of single keys keep the canonical form. -/
theorem foldl_sput_wf {α β : Type} [DecidableEq α] {d : α} {f : List (Nat × α) → β → List (Nat × α)}
    (hf : ∀ m b, Sparse.wf d m → Sparse.wf d (f m b)) (l : List β) (m : List (Nat × α)) (h : Sparse.wf d m) :
    Sparse.wf d (l.foldl f m) := by
  induction l generalizing m with
  | nil => exact h
  | cons b l ih => exact ih _ (hf m b h)

theorem Sparse.wf_nil {α : Type} (d : α) : Sparse.wf d [] := ⟨.nil, nofun⟩

/-- What is left of a canonical memory is canonical. -/
theorem Sparse.wf_filter {α : Type} {d : α} {m : List (Nat × α)} (p : Nat × α → Bool) (h : Sparse.wf d m) :
    Sparse.wf d (m.filter p) :=
  ⟨h.1.filter p, fun x hx => h.2 x (List.mem_filter.1 hx).1⟩

section Writers
variable {w : MemSet}

theorem State.putFlash_within (hw : w.flash = true) (s : State) (b : Bool) (off : Nat) (l : List Byte) :
    s.Within w (s.putFlash b off l) :=
  .of_flash hw (s.putFlash_wf b off l)

theorem State.eraseSectors_within (hw : w.flash = true) (s : State) (b : Bool) (off len : Nat) :
    s.Within w (s.eraseSectors b off len) :=
  .of_flash hw (Sparse.wf_filter _)

theorem State.putShadow_within (hw : w.shadow = true) (s : State) (sec off n v : Nat) : s.Within w (s.putShadow sec off n v) :=
  .of_shadow hw (s.putShadow_wf sec off n v)

theorem State.putShadowByte_within (hw : w.shadow = true) (s : State) (sec off v : Nat) :
    s.Within w (s.putShadowByte sec off v) := by
  unfold State.putShadowByte
  split
  · exact s.putShadow_within hw _ _ _ _
  · dsimp only
    split
    · exact (s.putShadow_within hw _ _ _ _).trans (State.putShadow_within hw _ _ _ _ _)
    · exact s.putShadow_within hw _ _ _ _

theorem State.loadShadow_within (hw : w.shadow = true) (s : State) (rd : Reader) (l : List Sect) : s.Within w
    (s.loadShadow rd l) := by
  refine .of_shadow hw fun _ => foldl_sput_wf (fun m x h => ?_) l [] (Sparse.wf_nil _)
  split
  · exact sputs_wf _ _ _ _ h
  · exact h

theorem State.applyWetHeld_within (hw : w.shadow = true) (s : State) : s.Within w s.applyWetHeld :=
  (State.Within.of_shadow hw (foldl_sput_wf (fun m x h => sput_wf _ _ _ _ h) s.wetHeld s.shadow)).andThen rfl rfl

theorem State.wetCommit_within (hw : w.shadow = true) (s : State) (id size v : Nat) : s.Within w (s.wetCommit id size v) := by
  unfold State.wetCommit
  split
  · exact (State.Within.of_same (s := s) (t := { s with wetHeld := s.wetHeld ++ (leBytes size v).mapIdx fun i b => (id + i, b) }) rfl rfl).setBoot _
  · exact (s.putShadow_within hw _ _ _ _).setBoot _

theorem State.wetWrite_within (hw : w.shadow = true) (s : State) (id : Nat) (size : Option Nat) (v : Nat) :
    s.Within w (s.wetWrite id size v).2 := by
  unfold State.wetWrite
  split
  · exact .refl s
  · split
    · exact .refl s
    · exact .refl s
    · repeat' split
      · exact .refl s
      · exact .refl s
      · exact .refl s
      · exact .of_same (s.conflict_cold _ _ _ _) (s.conflict_steady _ _ _ _)
      · exact (s.wetCommit_within hw _ _ _).andThen (State.abortUnit_cold _ _ _) (State.abortUnit_steady _ _ _)
      · exact .refl s

theorem State.writeEntries_within (hs : w.shadow = true) (hp : w.palette = true) (s : State) (bank : Bool) (p first : Nat)
    (l : List Word) : s.Within w (s.writeEntries bank p first l) :=
  ((State.Within.of_shadow hs fun h => sputs_wf _ _ _ _ h).trans (.of_palette hp fun h => sputs_wf _ _ _ _ h)).setBoot _

theorem State.copyBanks_within (hw : w.palette = true) (s : State) : s.Within w s.copyBanks := by
  refine .of_palette hw (foldl_sput_wf (fun m x h => ?_) (List.range 4096) s.palette)
  dsimp only
  split
  · exact sput_wf _ _ _ _ h
  · exact h

end Writers
end Sys2Proof.Machine
end

/-! SUPPORT. What priming, a handback, a capture and the console's session write. -/

section
namespace Sys2Proof.Machine

section Commands
variable {w : MemSet}

/-! ### Priming -/

theorem resetAll_length : Comp.resetAll.length = 76 := by simp [Comp.resetAll]

theorem State.powerOn_within (hs : w.shadow = true) (hp : w.palette = true) (hi : w.ident = true) (s : State) (cause : Nat) :
    s.Within w (s.powerOn cause) where
  pending := rfl
  flash _ := rfl
  shadow h := absurd h (by simp [hs])
  palette h := absurd h (by simp [hp])
  dump _ := rfl
  ident h := absurd h (by simp [hi])
  canonical h := ⟨h.1, Sparse.wf_nil _, Sparse.wf_nil _⟩
  sized _ := ⟨List.length_replicate, List.length_replicate, List.length_replicate, List.length_replicate, List.length_replicate,
    resetAll_length, List.length_replicate, List.length_replicate, List.length_replicate⟩

theorem State.burnPulses_within (s : State) (done : Nat) : s.Within w (s.burnPulses done) := .of_varnish _

theorem State.activatePart_within (hf : w.flash = true) (s : State) (done : Nat) : s.Within w (s.activatePart done) := by
  unfold State.activatePart
  split
  · exact (s.putFlash_within hf _ _ _).trans (.when (State.putFlash_within hf _ _ _ _) _)
  · exact .refl s

theorem State.interruptWork_within (hf : w.flash = true) (s : State) (done : Nat) : s.Within w (s.interruptWork done) :=
  ((State.Within.when (s.burnPulses_within done) _).andThen (State.storePart_cold _ _) (State.storePart_steady _ _)).trans
    (State.activatePart_within hf _ _)

theorem State.triggerReset_within (hf : w.flash = true) (hs : w.shadow = true) (hp : w.palette = true) (hi : w.ident = true)
    (s : State) (cause done : Nat) : s.Within w (s.triggerReset cause done) := by
  unfold State.triggerReset
  split
  · exact .refl s
  · exact (s.interruptWork_within hf done).trans (State.powerOn_within hs hp hi _ _)

/-- The groups of the blank canvas have the device's sizes. -/
theorem State.enterBlank_within (hs : w.shadow = true) (hp : w.palette = true) (s : State) (cause detail : Nat) :
    s.Within w (s.enterBlank cause detail) := by
  unfold State.enterBlank
  extract_lets b pins cleared loaded running ready
  have hcleared : s.Within w cleared := {
    pending := rfl
    flash := fun _ => rfl
    shadow := fun h => absurd h (by simp [hs])
    palette := fun h => absurd h (by simp [hp])
    dump := fun _ => rfl
    ident := fun _ => rfl
    canonical := fun h => ⟨h.1, Sparse.wf_nil _, Sparse.wf_nil _⟩
    sized := fun h => ⟨List.length_replicate, List.length_replicate, List.length_replicate, List.length_replicate,
      List.length_replicate, resetAll_length, List.length_replicate, List.length_replicate, h.2.2.2.2.2.2.2.2⟩ }
  clear_value cleared
  exact hcleared.andThen (by simp [ready, running, loaded]) (by simp [ready, running, loaded])

theorem State.rejectStage_within (hs : w.shadow = true) (hp : w.palette = true) (s : State) (cause detail : Nat) :
    s.Within w (s.rejectStage cause detail) :=
  (State.Within.of_same (s.record_cold _ _ _ _) (s.record_steady _ _ _ _)).trans (State.enterBlank_within hs hp _ _ _)

theorem State.identityKey_within (hi : w.ident = true) (s : State) (keysOk : Bool) : s.Within w (s.identityKey keysOk) := by
  unfold State.identityKey
  split
  · exact .of_ident hi _
  · exact ((State.Within.of_ident hi _).trans (.of_varnish _)).andThen rfl rfl

theorem State.loadBlocks_within (hp : w.palette = true) (s : State) : s.Within w s.loadBlocks := by
  unfold State.loadBlocks
  extract_lets filled driven loaded
  have hfilled : s.Within w filled := .of_palette hp fun _ => foldl_sput_wf (fun _ _ h => sput_wf _ _ _ _ h) _ _ (Sparse.wf_nil _)
  clear_value filled
  exact hfilled.andThen (by simp [loaded, driven]) (by simp [loaded, driven])

theorem State.checkSlotImage_within (hs : w.shadow = true) (s : State) (rd : Reader) (err : FlashRead) :
    s.Within w (s.checkSlotImage rd err).2 := by
  unfold State.checkSlotImage
  split
  · exact .refl s
  · split
    · exact .refl s
    · split
      · exact .refl s
      · dsimp only
        split
        · exact s.loadShadow_within hs _ _
        · exact s.loadShadow_within hs _ _

theorem State.trySlot_within (hs : w.shadow = true) (hp : w.palette = true) (s : State) (slotB : Bool) (err : FlashRead) :
    s.Within w (s.trySlot slotB err).2 := by
  have hcheck := s.checkSlotImage_within hs (s.slotReader slotB) err
  unfold State.trySlot
  dsimp only
  split
  · next heq =>
    rw [heq] at hcheck
    exact hcheck.andThen (State.failSlot_cold _ _ _ _) (State.failSlot_steady _ _ _ _)
  · next heq =>
    rw [heq] at hcheck
    have hloaded := (hcheck.andThen (State.adoptImage_cold _ (s.slotReader slotB)) (State.adoptImage_steady _ _)).trans
      (State.loadBlocks_within hp _)
    generalize State.loadBlocks _ = u at hloaded ⊢
    exact (hloaded.setBoot _).setBoot _

theorem State.trySlots_within (hs : w.shadow = true) (hp : w.palette = true) (readA readB : FlashRead) (marked : Bool)
    (fuel : Nat) (said : List ConLine) (s : State) : s.Within w (State.trySlots readA readB marked fuel said s) := by
  induction fuel generalizing said s with
  | zero => exact .refl s
  | succ fuel ih =>
    unfold State.trySlots
    split
    · exact (s.enterBlank_within hs hp _ _).andThen (State.preface_cold _ _) (State.preface_steady _ _)
    · next b _ =>
      have htry := s.trySlot_within hs hp b (if b then readB else readA)
      split
      next ok t heq =>
      rw [heq] at htry
      dsimp only
      split
      · exact htry.andThen (State.print_cold _ _) (State.print_steady _ _)
      · exact htry.trans (ih _ _)

/-! ### Handback and the end of a capture -/

theorem State.endHandback_within (hs : w.shadow = true) (s : State) : s.Within w s.endHandback := by
  unfold State.endHandback
  extract_lets handed recorded app freed applied hosted moved cleared
  have happlied : s.Within w applied :=
    (State.Within.of_same (t := freed) (by simp [freed, recorded]) (by simp [freed, recorded])).trans
    (State.applyWetHeld_within hs _)
  have hc : cleared.cold = applied.cold := by simp [cleared, moved, hosted]
  have hst : cleared.steady = applied.steady := by simp [cleared, moved, hosted]
  split
  · exact happlied.andThen ((State.disableApp_cold _ _).trans hc) ((State.disableApp_steady _ _).trans hst)
  · exact happlied.andThen hc hst

theorem State.handbackDone_within (hs : w.shadow = true) (s : State) : s.Within w s.handbackDone := by
  unfold State.handbackDone
  split
  · exact s.endHandback_within hs
  · exact .refl s

theorem State.commitCapture_within (hd : w.dump = true) (s : State) : s.Within w s.commitCapture := by
  unfold State.commitCapture
  split
  · extract_lets seq l ret committed
    have hcommitted : s.Within w committed := (State.Within.of_dump hd _).andThen rfl rfl
    exact hcommitted.andThen (State.record_cold _ _ _ _ _) (State.record_steady _ _ _ _ _)
  · exact .refl s

theorem State.releaseDump_within (hd : w.dump = true) (s : State) (ident : Nat) : s.Within w (s.releaseDump ident) :=
  ((State.Within.of_dump hd _).andThen (State.record_cold _ _ _ _ _) (State.record_steady _ _ _ _ _)).trans
      (State.commitCapture_within hd _)

/-! ### Sessions -/

theorem State.openSession_within (hi : w.ident = true) (s : State) : s.Within w s.openSession := by
  unfold State.openSession
  extract_lets con ident opened
  have hopened : s.Within w opened := (State.Within.of_ident hi _).andThen rfl rfl
  exact hopened.andThen (by simp) (by simp)

theorem State.failAnswer_within (hi : w.ident = true) (s : State) : s.Within w s.failAnswer := by
  unfold State.failAnswer
  extract_lets k con ident counted failed
  have hfailed : s.Within w failed :=
    ((State.Within.of_ident hi _).andThen rfl rfl : s.Within w counted).andThen (State.authFail_cold _ _ _ _)
    (State.authFail_steady _ _ _ _)
  split
  · exact (hfailed.trans (.of_ident hi _)).andThen rfl rfl
  · exact hfailed

end Commands
end Sys2Proof.Machine
end

/-! SUPPORT. What a message writes, and what the shared forms of a command write. -/

section
namespace Sys2Proof.Machine

section Messages
variable {w : MemSet}

/-! ### Requests -/

theorem State.refuseStatement_within (s : State) (c code kind : Nat) : s.Within w (s.refuseStatement c code kind).state :=
  .of_same (by simp [State.refuseStatement]) (by simp [State.refuseStatement])

theorem State.signAttest_within (s : State) (g : Signing) : s.Within w (s.signAttest g).state :=
  .of_same (by simp [State.signAttest]) (by simp [State.signAttest])

theorem State.serveAttest_within (s : State) (c : Nat) (m : Message) : s.Within w (s.serveAttest c m).state := by
  unfold State.serveAttest
  split
  · exact .refl s
  · exact s.signAttest_within _

theorem State.servePaletteWrite_within (hs : w.shadow = true) (hp : w.palette = true) (s : State) (b : List Word) :
    s.Within w (s.servePaletteWrite b).state := by
  unfold State.servePaletteWrite
  dsimp only
  repeat' split
  · exact .refl s
  · exact .refl s
  · exact .refl s
  · exact .refl s
  · exact s.writeEntries_within hs hp _ _ _ _
  · exact .refl s

theorem State.servePaletteCommit_within (s : State) : s.Within w s.servePaletteCommit.state := by
  unfold State.servePaletteCommit
  split
  · exact .refl s
  · exact .of_same (by simp) (by simp)

theorem State.servePaletteForce_within (s : State) : s.Within w s.servePaletteForce.state :=
  .of_same (by simp [State.servePaletteForce]) (by simp [State.servePaletteForce])

theorem State.serveImageChunk_within (hf : w.flash = true) (s : State) (b : List Word) : s.Within w
    (s.serveImageChunk b).state := by
  unfold State.serveImageChunk
  extract_lets off len data
  split
  · exact .refl s
  · split
    · exact .refl s
    · split
      · exact .refl s
      · split
        · exact .refl s
        · exact ((s.eraseSectors_within hf _ _ _).trans (State.putFlash_within hf _ _ _ _)).setBoot _

theorem State.serveImageActivate_within (hf : w.flash = true) (s : State) (c : Nat) : s.Within w
    (s.serveImageActivate c).state := by
  unfold State.serveImageActivate
  dsimp only
  split
  · exact .refl s
  · split
    · repeat' split
      all_goals exact .of_same (by simp) (by simp)
    · exact (((s.putFlash_within hf _ _ _).trans (.when (State.putFlash_within hf _ _ _ _) _)).setBoot _).andThen
        (State.record_cold _ _ _ _ _) (State.record_steady _ _ _ _ _)

theorem State.serveEvtClear_within (s : State) (c : Nat) (b : List Word) : s.Within w (s.serveEvtClear c b).state := by
  unfold State.serveEvtClear
  dsimp only
  split
  · exact s.refuseStatement_within _ _ _
  · exact .of_same (State.clearLog_cold _ _ _) (State.clearLog_steady _ _ _)

/-- A DUMP_READ writes the slot where its RELEASE bit is set only. -/
theorem State.serveDumpRead_within (s : State) (c : Nat) (b : List Word) (hd : bit (bodyWord b 0) 31 = true → w.dump = true) :
    s.Within w (s.serveDumpRead c b).state := by
  unfold State.serveDumpRead
  dsimp only
  split
  · exact .refl s
  · split
    · exact .refl s
    · split
      · next hrelease =>
        split
        · exact s.releaseDump_within (hd hrelease) _
        · exact s.refuseStatement_within _ _ _
      · exact .refl s

theorem State.serveCellQuery_within (s : State) (b : List Word) : s.Within w (s.serveCellQuery b).state := by
  unfold State.serveCellQuery
  dsimp only
  split
  · exact .refl s
  · exact .of_same (State.clearCell_cold _ _) (State.clearCell_steady _ _)

theorem State.serveWetWrite_within (hs : w.shadow = true) (s : State) (b : List Word) : s.Within w (s.serveWetWrite b).state := by
  unfold State.serveWetWrite
  split
  · exact .refl s
  · exact s.wetWrite_within hs _ _ _

theorem State.serveWetRead_within (s : State) (b : List Word) : s.Within w (s.serveWetRead b).state := by
  unfold State.serveWetRead
  split <;> exact .refl s

theorem State.servePhaseRestore_within (s : State) (b : List Word) : s.Within w (s.servePhaseRestore b).state := by
  unfold State.servePhaseRestore
  dsimp only
  repeat' split
  · exact .refl s
  · exact .refl s
  · exact .of_same (State.sendRm_cold _ _) (State.sendRm_steady _ _)

theorem State.serveServiceKey_within (hi : w.ident = true) (s : State) (c : Nat) (b : List Word) :
    s.Within w (s.serveServiceKey c b).state := by
  unfold State.serveServiceKey
  dsimp only
  split
  · exact s.refuseStatement_within _ _ _
  · split
    · exact .refl s
    · exact (State.Within.of_ident hi _).andThen (State.endSession_cold _ _) (State.endSession_steady _ _)

theorem State.serveResume_within (s : State) (c : Nat) (b : List Word) : s.Within w (s.serveResume c b).state := by
  unfold State.serveResume
  repeat' split
  · exact .refl s
  · exact s.refuseStatement_within _ _ _
  · exact .of_same (State.acceptResume_cold _ _) (State.acceptResume_steady _ _)

/-- The set holds what a request of a code may write. -/
def MemSet.Serves (w : MemSet) (code : Nat) (m : Message) : Prop :=
  (code = 3 → w.shadow = true ∧ w.palette = true) ∧ (code = 5 ∨ code = 6 → w.flash = true) ∧
  (code = 8 → bit (bodyWord m.body 0) 31 = true → w.dump = true) ∧ (code = 10 → w.shadow = true) ∧ (code = 12 → w.ident = true)

theorem State.carryOut_within (s : State) (c code : Nat) (m : Message) (hw : w.Serves code m) :
    s.Within w (s.carryOut c code m).state := by
  obtain ⟨h3, h56, h8, h10, h12⟩ := hw
  unfold State.carryOut
  dsimp only
  split
  · exact .refl s
  · exact s.serveAttest_within _ _
  · exact s.servePaletteWrite_within (h3 rfl).1 (h3 rfl).2 _
  · split
    · exact s.servePaletteForce_within
    · exact s.servePaletteCommit_within
  · exact s.serveImageChunk_within (h56 (.inl rfl)) _
  · exact s.serveImageActivate_within (h56 (.inr rfl)) _
  · exact s.serveEvtClear_within _ _
  · exact s.serveDumpRead_within _ _ (h8 rfl)
  · exact s.serveCellQuery_within _
  · exact s.serveWetWrite_within (h10 rfl) _
  · exact s.serveWetRead_within _
  · exact s.serveServiceKey_within (h12 rfl) _ _
  · exact s.servePhaseRestore_within _
  · exact .refl s
  · exact s.serveResume_within _ _
  · exact .refl s

theorem State.serve_within (s : State) (c code : Nat) (m : Message) (hw : w.Serves code m) : s.Within w (s.serve c code m) := by
  unfold State.serve
  dsimp only
  refine State.Within.andThen ?_ (State.reply_cold _ _ _ _ _ _) (State.reply_steady _ _ _ _ _ _)
  unfold State.answer
  split
  · exact .refl s
  · exact s.carryOut_within c code m hw

theorem State.finishSigning_within (s : State) (g : Signing) : s.Within w (s.finishSigning g) :=
  ((State.Within.of_same rfl rfl : s.Within w { s with work := { s.work with signing := none } }).trans
    (State.signAttest_within _ g)).andThen (State.reply_cold _ _ _ _ _ _) (State.reply_steady _ _ _ _ _ _)

theorem State.finishActivation_within (hf : w.flash = true) (s : State) (x : Nat × Message) : s.Within w (s.finishActivation x) :=
  (State.Within.of_same rfl rfl : s.Within w { s with work := { s.work with activating := none } }).trans
    (State.serve_within _ _ _ _ ⟨nofun, fun _ => hf, nofun, nofun, nofun⟩)

theorem State.beginRequest_within (s : State) (c code : Nat) (m : Message) (hw : w.Serves code m) :
    s.Within w (s.beginRequest c code m) := by
  unfold State.beginRequest
  repeat' split
  · exact s.serve_within c code m hw
  · exact .of_same rfl rfl
  · exact .of_same rfl rfl
  · exact s.serve_within c code m hw

/-- The take of a message may write every memory that a request may. -/
theorem State.hmTakeNext_within (hw : ∀ code m, w.Serves code m) (s : State) (c : Nat) : s.Within w (s.hmTakeNext c) := by
  unfold State.hmTakeNext
  split
  · have htake : s.Within w (s.takeMessage c).2 := .of_same (s.takeMessage_cold c) (s.takeMessage_steady c)
    unfold State.hmTake
    split
    · next heq =>
      rw [heq] at htake
      exact htake.trans (State.beginRequest_within _ _ _ _ (hw _ _))
    · next heq =>
      rw [heq] at htake
      exact htake
  · exact .of_same (State.pairTake_cold _ _) (State.pairTake_steady _ _)

/-! ### Outcomes -/

/-- A next state stays within the set. -/
def OutWithin (w : MemSet) (s : State) (o : Host.Outcome State Fault Refusal) : Prop := ∀ t, o = .next t → s.Within w t

theorem OutWithin.of_still {s : State} {o : Host.Outcome State Fault Refusal} (h : outStill o = some (s.cold, s.steady)) :
    OutWithin w s o := by
  rintro t rfl
  obtain ⟨hc, hs⟩ := Prod.mk.inj (Option.some.inj h)
  exact .of_same hc hs

theorem OutWithin.completes {s t : State} (h : s.Within w t) : OutWithin w s (complete t) := by
  intro u hu
  obtain rfl := Host.Outcome.next.inj hu
  exact h.andThen t.judge_cold t.judge_steady

theorem OutWithin.unchanged (s : State) : OutWithin w s (complete s) := .completes (.refl s)

theorem State.request_within (s : State) (ch : Fin 16) (code : Nat) (m : Message) (hw : w.Serves code m) :
    OutWithin w s (s.request ch code m) := by
  unfold State.request
  split
  · exact .completes (s.serve_within _ _ _ hw)
  · exact .unchanged s

theorem State.line_within {f : State → State} (hf : ∀ s : State, s.Within w (f s)) (s : State) : OutWithin w s (s.line f) := by
  unfold State.line
  split
  · exact .completes ((State.Within.of_same s.busWake_cold s.busWake_steady).trans (hf _))
  · exact .unchanged s

theorem State.authedUnless_within {f : State → State} (hf : ∀ s : State, s.Within w (f s)) (s : State)
    (busy range pre : State → Bool) (action : Nat) (arg : State → Nat) :
    OutWithin w s (s.authedUnless busy range pre action arg f) := by
  unfold State.authedUnless
  refine State.line_within (fun s => ?_) s
  repeat' split
  · exact .of_same (s.print_cold _) (s.print_steady _)
  · exact .of_same (s.print_cold _) (s.print_steady _)
  · exact .of_same (s.print_cold _) (s.print_steady _)
  · exact .of_same (s.print_cold _) (s.print_steady _)
  · exact (State.Within.of_same (s.record_cold _ _ _ _) (s.record_steady _ _ _ _)).trans (hf _)

theorem State.transact_within {f : State → State} (hf : ∀ s : State, s.Within w (f s)) (s : State) (code : Nat) :
    OutWithin w s (s.transact code f) := by
  unfold State.transact
  split
  · dsimp only
    split
    · exact .completes (((State.Within.of_same s.busWake_cold s.busWake_steady).setBus _).trans (hf _))
    · exact .completes ((State.Within.of_same s.busWake_cold s.busWake_steady).setBus _)
  · exact .completes (.of_same rfl rfl)

/-- A write over the bus, refused or carried out. -/
theorem State.busWrite_within {f : List Byte → State → State} (hf : ∀ d, ∀ s : State, s.Within w (f d s)) (s : State)
    (code n : Nat)
    (b : List Byte) : s.Within w (s.busWrite code n b f) := by
  unfold State.busWrite
  dsimp only
  repeat' split
  · exact .of_same (s.pecFail_cold _ _) (s.pecFail_steady _ _)
  · exact .of_same (State.pecFail_cold _ _ _) (State.pecFail_steady _ _ _)
  · exact .of_same s.invalidData_cold s.invalidData_steady
  · exact hf _ s
  · exact .of_same s.invalidData_cold s.invalidData_steady

/-- A command whose write stays within the set, and whose read leaves all alone. -/
theorem State.plain_within {send : List Byte → State → State} {recv : Nat → State → State}
    (hsend : ∀ b, ∀ s : State, s.Within w (send b s)) (hrecv : ∀ k, ∀ s : State, s.Within w (recv k s)) (s : State) (code : Nat)
    (x : BusXfer) : OutWithin w s (s.plain code x send recv) := by
  unfold State.plain
  refine State.transact_within (fun s => ?_) s code
  split
  · exact hsend _ s
  · exact hrecv _ s
  · exact hrecv _ s
  · exact (hsend _ s).andThen (State.openRead_cold _ _ _) (State.openRead_steady _ _ _)

theorem State.pagedWet_within (hs : w.shadow = true) (s : State) (id : Nat → Nat) (value : Nat → Option Nat) :
    s.Within w (s.pagedWet id value) := by
  unfold State.pagedWet State.pagedWrite
  split
  · exact .of_same s.invalidData_cold s.invalidData_steady
  · exact .foldl (fun s n => s.wetWrite_within hs _ _ _) _ _

end Messages
end Sys2Proof.Machine
end

/-! SUPPORT. What the stages of priming, a restart and a scrub write. -/

section
namespace Sys2Proof.Machine

theorem State.revived_cold (s : State) : s.revived.cold = s.cold := by simp [State.revived]
theorem State.revived_steady (s : State) : s.revived.steady = s.steady := by simp [State.revived]
theorem State.warmEnded_cold (s : State) (resume : Bool) : (s.warmEnded resume).cold = s.cold := by
  simp [State.warmEnded, State.when]
theorem State.warmEnded_steady (s : State) (resume : Bool) : (s.warmEnded resume).steady = s.steady := by
  simp [State.warmEnded, State.when]
theorem State.warmFailed_cold (s : State) (p1 : Nat) : (s.warmFailed p1).cold = s.cold := by simp [State.warmFailed]
theorem State.warmFailed_steady (s : State) (p1 : Nat) : (s.warmFailed p1).steady = s.steady := by simp [State.warmFailed]
@[simp] theorem State.endWarm_cold (s : State) : s.endWarm.cold = s.cold := by
  rw [State.endWarm_def]
  split
  · rw [State.warmEnded_cold, State.revived_cold]
  · rw [State.warmFailed_cold, State.revived_cold]
@[simp] theorem State.endWarm_steady (s : State) : s.endWarm.steady = s.steady := by
  rw [State.endWarm_def]
  split
  · rw [State.warmEnded_steady, State.revived_steady]
  · rw [State.warmFailed_steady, State.revived_steady]
@[simp] theorem execWarmChipRestart_still (e : RestartEdge) (s : State) :
    outStill (execWarmChipRestart e s) = some (s.cold, s.steady) := by
  unfold execWarmChipRestart
  split <;> simp

section Commands
variable {w : MemSet}

theorem execSupplyFall_within (hf : w.flash = true) (hs : w.shadow = true) (hp : w.palette = true) (hi : w.ident = true)
    (k : Fin 5) (done : Nat) (s : State) : OutWithin w s (execSupplyFall k done s) :=
  .completes (((State.Within.refl s).setPins _).trans (State.triggerReset_within hf hs hp hi _ _ _))

theorem execPorstNLow_within (hf : w.flash = true) (hs : w.shadow = true) (hp : w.palette = true) (hi : w.ident = true)
    (done : Nat) (s : State) : OutWithin w s (execPorstNLow done s) :=
  .completes (((State.Within.refl s).setPins _).trans (State.triggerReset_within hf hs hp hi _ _ _))

theorem execPrimeP2_within (hs : w.shadow = true) (hp : w.palette = true) (hi : w.ident = true) (romOk keysOk memOk : Bool)
    (s : State) : OutWithin w s (execPrimeP2 romOk keysOk memOk s) := by
  unfold execPrimeP2
  split
  · extract_lets running gen booted
    have hbooted : s.Within w booted :=
      (State.Within.of_same (t := running.openStore.commitAll) (by simp [running]) (by simp [running])).trans
        (State.identityKey_within hi _ _)
    clear_value booted
    split
    · exact .completes (hbooted.andThen (by simp) (by simp))
    · exact .completes ((hbooted.trans (State.rejectStage_within hs hp _ _ _)).preface _)
  · exact .unchanged s

theorem execPrimeP3_within (hs : w.shadow = true) (hp : w.palette = true) (sfdp : Option Sfdp) (readA readB : FlashRead)
    (s : State) : OutWithin w s (execPrimeP3 sfdp readA readB s) := by
  unfold execPrimeP3
  split
  · exact .completes (((State.Within.refl s).setBoot _).trans (State.trySlots_within hs hp _ _ _ _ _ _))
  · exact .unchanged s

theorem execPrimeP4_within (hs : w.shadow = true) (hp : w.palette = true) (s : State) : OutWithin w s (execPrimeP4 s) := by
  unfold execPrimeP4
  split
  · split
    · exact .completes ((s.rejectStage_within hs hp _ _).preface _)
    · exact .completes (.of_same (by simp) (by simp))
  · exact .unchanged s

/-- Discovery begins with every cell ABSENT. -/
theorem execPrimeP5_within (found : List FoundCell) (s : State) : OutWithin w s (execPrimeP5 found s) := by
  unfold execPrimeP5
  split
  · extract_lets booted loaded pins driven telem cells opened powered
    have hcells : driven.Within w cells := {
      pending := rfl, flash := fun _ => rfl, shadow := fun _ => rfl, palette := fun _ => rfl, dump := fun _ => rfl
      ident := fun _ => rfl, canonical := id
      sized := fun ⟨hports, hrails, hphases, _, hrest⟩ => ⟨hports, hrails, hphases, List.length_replicate, hrest⟩ }
    have hdriven : s.Within w driven := .of_same (by simp [driven, loaded, booted]) (by simp [driven, loaded, booted])
    clear_value cells
    refine .completes ((hdriven.trans hcells).andThen ?_ ?_)
    · rw [State.print_cold, State.toStage_cold, State.forEach_cold _ _ _ (State.discover_cold found)]
      simp [powered, opened]
    · rw [State.print_steady, State.toStage_steady, State.forEach_steady _ _ _ (State.discover_steady found)]
      simp [powered, opened]
  · exact .unchanged s

/-- The state after the tests of P6: comparators first, then the converter pairs. -/
def State.selfTested (s : State) (r : SelfTest) : State :=
  let compared := (r.comps.filter fun x => s.compUsed x.1).foldl State.primeComp s
  compared.forEach ((List.range 4).filter compared.pairPowered) (State.primePair r)

/-- The enabled rails whose output node is too high (R76). -/
def State.highNodes (s : State) (r : SelfTest) : List Nat := s.enabledRails.filter (s.nodeHigh r)

/-- The end of P6 with no failed test: the rails found too high are kept for P7, the lowest in DETAIL. -/
def State.ovMarked (s : State) (r : SelfTest) : State :=
  let kept := { s with boot := { s.boot with
    ovNodes := BitVec.ofNat 16 (maskOf 16 fun n => (s.highNodes r).contains n), ovReads := r.vout } }
  match (s.highNodes r).head? with
  | some n => { kept with boot := { kept.boot with cause := 0xC, detail := BitVec.ofNat 8 n } }
  | none => kept

theorem State.ovMarked_within (s : State) (r : SelfTest) : s.Within w (s.ovMarked r) := by
  unfold State.ovMarked
  split <;> exact (State.Within.refl s).setBoot _

/-- P6 by its outcome. -/
theorem execPrimeP6_eq (r : SelfTest) (s : State) (h : s.inStage 6 = true) :
    execPrimeP6 r s = match (s.selfTested r).selfTestFail r with
      | some d => complete (((s.selfTested r).rejectStage 0xB d).preface [stageLine ['6']])
      | none => complete ((((s.selfTested r).ovMarked r).toStage 7).print [stageLine ['6']]) := by
  unfold execPrimeP6
  rw [if_pos h]
  rfl

theorem State.selfTested_within (s : State) (r : SelfTest) : s.Within w (s.selfTested r) :=
  (State.Within.foldl (fun s x => .of_same (s.primeComp_cold x) (s.primeComp_steady x)) _ s).trans
    (.foldl (fun s i => .of_same (s.primePair_cold r i) (s.primePair_steady r i)) _ _)

theorem execPrimeP6_within (hs : w.shadow = true) (hp : w.palette = true) (r : SelfTest) (s : State) :
    OutWithin w s (execPrimeP6 r s) := by
  by_cases h : s.inStage 6 = true
  · rw [execPrimeP6_eq r s h]
    split
    · exact .completes (((s.selfTested_within r).trans (State.rejectStage_within hs hp _ _ _)).preface _)
    · exact .completes (((s.selfTested_within r).trans (State.ovMarked_within _ r)).andThen (by simp) (by simp))
  · rw [execPrimeP6, if_neg h]
    exact .unchanged s

theorem execPrimeP7_within (s : State) : OutWithin w s (execPrimeP7 s) := by
  unfold execPrimeP7
  split
  · refine .completes ((s.burnPulses_within (3 * s.burnList.length)).andThen ?_ ?_)
    · simp
    · simp
  · exact .unchanged s

theorem execStageMaximumExceeded_within (hs : w.shadow = true) (hp : w.palette = true) (hi : w.ident = true)
    (found : List FoundCell) (s : State) : OutWithin w s (execStageMaximumExceeded found s) := by
  unfold execStageMaximumExceeded
  split
  · exact .unchanged s
  · split
    · exact .completes ((s.powerOn_within hs hp hi _).setBoot _)
    · exact .completes ((s.powerOn_within hs hp hi _).setBoot _)
    · exact .completes (((State.Within.of_same s.openStore_cold s.openStore_steady).trans
        (State.rejectStage_within hs hp _ _ _)).preface _)
    · extract_lets marked boot noted
      have hnoted : s.Within w noted := (State.Within.refl s).setBoot _
      clear_value noted
      split
      · extract_lets line failed
        have hfailed : s.Within w failed := hnoted.andThen (State.failSlot_cold _ _ _ _) (State.failSlot_steady _ _ _ _)
        clear_value failed
        split
        · exact .completes ((hfailed.trans (State.enterBlank_within hs hp _ _ _)).preface _)
        · exact .completes (hfailed.print _)
      · exact .completes hnoted
    · exact .completes ((s.rejectStage_within hs hp _ _).preface _)
    · exact execPrimeP5_within found s
    · exact .completes ((s.rejectStage_within hs hp _ _).preface _)
    · exact .unchanged s

theorem execRmReadyHeartbeat_within (hp : w.palette = true) (s : State) : OutWithin w s (execRmReadyHeartbeat s) := by
  unfold execRmReadyHeartbeat
  split
  · extract_lets up copied taken
    have hcopied : s.Within w copied :=
      ((State.Within.of_same (s.upPair_cold .rm) (s.upPair_steady .rm)).trans (.when (State.copyBanks_within hp _) _)).andThen
        (State.carryPosts_cold _) (State.carryPosts_steady _)
    clear_value copied
    have htaken : s.Within w taken := hcopied.andThen (by simp [taken]) (by simp [taken])
    clear_value taken
    split
    · exact .completes (htaken.andThen (by simp) (by simp))
    · exact .completes htaken
  · exact .unchanged s

/-- The reactions write a palette word or the Pentimento slot at most. -/
theorem State.doubleBit_within (hp : w.palette = true) (hd : w.dump = true) (s : State) (m : MemName) (i : Nat)
    (cut : Option CutXfer) : s.Within w (s.doubleBit m i cut) := by
  cases m with
  | palette => exact .of_palette hp (sput_wf _ _ _ _)
  | pentimento => exact .of_dump hd _
  | shadow =>
    unfold State.doubleBit
    dsimp only
    split
    · exact .of_same (by simp) (by simp)
    · exact .refl s
  | mailbox =>
    unfold State.doubleBit
    dsimp only
    repeat' split
    all_goals exact .of_same (by simp) (by simp)
  | staging =>
    unfold State.doubleBit
    dsimp only
    repeat' split
    all_goals exact .of_same (by simp) (by simp)
  | eventStore =>
    unfold State.doubleBit
    dsimp only
    split
    · exact .of_same (by simp) (by simp)
    · exact .refl s
  | keyStore => exact .refl s
  | rom => exact .of_same (by simp [State.doubleBit, State.spoil]) (by simp [State.doubleBit, State.spoil])
  | _ => exact .of_same (by simp [State.doubleBit]) (by simp [State.doubleBit])

theorem execScrub_within (hp : w.palette = true) (hd : w.dump = true) (found : List ScrubFinding) (cut : Option CutXfer)
    (s : State) : OutWithin w s (execScrub found cut s) := by
  unfold execScrub
  split
  · exact .unchanged s
  · refine .completes (((State.Within.refl s).setInput _).trans (.foldl (fun s e => ?_) _ _))
    cases e with
    | single m _ => exact .of_same (s.countSingle_cold m) (s.countSingle_steady m)
    | double m i =>
      exact (State.Within.of_same (t := (s.faultOn _ _ _).setCml 0x10) (by simp) (by simp)).trans
        (State.doubleBit_within hp hd _ _ _ _)
    | crc n =>
      unfold State.scrubError
      dsimp only
      split
      · exact .refl s
      · exact .of_same (s.declareLe_cold _ _ _) (s.declareLe_steady _ _ _)

end Commands
end Sys2Proof.Machine
end

/-! SUPPORT. What every other command writes, and the frame over all commands: the statements about the invariant and the memories. -/

section
namespace Sys2Proof.Machine

section Commands
variable {w : MemSet}

/-! ### Register writes, handbacks, wet fields and the slot -/

theorem execRegisterWrite_within (hs : w.shadow = true) (hp : w.palette = true) (x : RegTarget) (v : Word) (s : State) :
    OutWithin w s (execRegisterWrite x v s) := by
  unfold execRegisterWrite
  split
  · exact .unchanged s
  · cases x with
    | wdMask m =>
      dsimp only
      split
      · exact .completes (.of_same (s.updWd_cold _ _) (s.updWd_steady _ _))
      · exact .unchanged s
    | mailboxData ch i who =>
      dsimp only
      split
      · exact .completes (.of_same (s.updChan_cold _ _) (s.updChan_steady _ _))
      · exact .unchanged s
    | paletteEntry i =>
      dsimp only
      split
      · exact .completes (s.writeEntries_within hs hp _ _ _ _)
      · exact .unchanged s
    | shadowByte sec off =>
      dsimp only
      split
      · exact .unchanged s
      · exact .completes (s.putShadowByte_within hs _ _ _)

theorem execApprenticeHandback_within (hs : w.shadow = true) (s : State) : OutWithin w s (execApprenticeHandback s) := by
  unfold execApprenticeHandback
  split
  · refine .completes (State.Within.trans ?_ (State.handbackDone_within hs _))
    exact .of_same rfl rfl
  · exact .unchanged s

theorem execRailHandback_within (hs : w.shadow = true) (n : Fin 16) (s : State) : OutWithin w s (execRailHandback n s) := by
  unfold execRailHandback
  split
  · split
    · exact .completes ((State.Within.of_same (s.handRail_cold _) (s.handRail_steady _)).trans (State.handbackDone_within hs _))
    · exact .completes (s.handbackDone_within hs)
  · split
    · exact .completes (.of_same (s.takeRail_cold _) (s.takeRail_steady _))
    · exact .unchanged s

theorem execVoutTransitionRate_within (hs : w.shadow = true) (x : BusXfer) (s : State) :
    OutWithin w s (execVoutTransitionRate x s) :=
  s.plain_within (fun b s => s.busWrite_within (fun _ s => s.pagedWet_within hs _ _) _ _ b)
    (fun _ s => .of_same (s.pagedRead_cold _ _ _ _ _ _ _ fun _ => rfl) (s.pagedRead_steady _ _ _ _ _ _ _ fun _ => rfl)) _ x

theorem execIoutOcFaultLimit_within (hs : w.shadow = true) (x : BusXfer) (s : State) :
    OutWithin w s (execIoutOcFaultLimit x s) :=
  s.plain_within (fun b s => s.busWrite_within (fun _ s => s.pagedWet_within hs _ _) _ _ b)
    (fun _ s => .of_same (s.pagedRead_cold _ _ _ _ _ _ _ fun _ => rfl) (s.pagedRead_steady _ _ _ _ _ _ _ fun _ => rfl)) _ x

theorem execPentimentoCommit_within (hd : w.dump = true) (e : WorkEdge) (s : State) :
    OutWithin w s (execPentimentoCommit e s) := by
  unfold execPentimentoCommit
  split
  · cases e with
    | begins =>
      dsimp only
      split
      · exact .completes ((State.Within.of_dump hd _).andThen rfl rfl)
      · exact .unchanged s
    | ends =>
      refine .completes (.when (f := fun s => ({ s with work := { s.work with dumping := false } } : State).commitCapture) ?_ _)
      refine State.Within.trans ?_ (State.commitCapture_within hd _)
      exact .of_same rfl rfl
  · exact .unchanged s

theorem execSvcDumpRelease_within (hd : w.dump = true) (s : State) : OutWithin w s (execSvcDumpRelease s) :=
  s.authedUnless_within (fun s => (s.releaseDump_within hd 2).andThen (State.done_cold _ _) (State.done_steady _ _)) _ _ _ _ _

theorem execSvcAuthAnswer_within (hi : w.ident = true) (answer : BitVec 256) (s : State) :
    OutWithin w s (execSvcAuthAnswer answer s) := by
  refine s.line_within fun s => ?_
  split
  · exact (State.Within.refl s).print _
  · split
    · exact (s.openSession_within hi).print _
    · exact (s.failAnswer_within hi).print _

theorem execLockoutEnd_within (hi : w.ident = true) (s : State) : OutWithin w s (execLockoutEnd s) := by
  unfold execLockoutEnd
  split
  · exact .completes ((State.Within.of_ident hi _).andThen rfl rfl)
  · exact .unchanged s

/-! ### Messages -/

/-- A request of a code that writes no memory. -/
theorem MemSet.serves_of_quiet {code : Nat} (h : code ∉ [3, 5, 6, 8, 10, 12]) (m : Message) : w.Serves code m := by
  simp only [List.mem_cons, List.not_mem_nil, or_false, not_or] at h
  obtain ⟨h3, h5, h6, h8, h10, h12⟩ := h
  exact ⟨fun e => absurd e h3, fun e => absurd e (by simp [h5, h6]), fun e => absurd e h8, fun e => absurd e h10,
    fun e => absurd e h12⟩

/-- A set of every memory serves every request. -/
theorem MemSet.serves_of_all (hf : w.flash = true) (hs : w.shadow = true) (hp : w.palette = true) (hd : w.dump = true)
    (hi : w.ident = true) (code : Nat) (m : Message) : w.Serves code m :=
  ⟨fun _ => ⟨hs, hp⟩, fun _ => hf, fun _ _ => hd, fun _ => hs, fun _ => hi⟩

theorem bodyWord_withRelease_false (b : List Word) : bit (bodyWord (withRelease false b) 0) 31 = false := by
  have hlt : bodyWord b 0 % 2147483648 < 2147483648 := Nat.mod_lt _ (by decide)
  have hword : bodyWord (withRelease false b) 0 = bodyWord b 0 % 2147483648 := by
    rw [withRelease, bodyWord, List.getD_cons_zero, BitVec.toNat_ofNat, Nat.mod_eq_of_lt (by simp [b2n]; omega)]
    simp [b2n]
  simp [hword, bit, Nat.div_eq_of_lt hlt]

theorem execAttest_within (ch : Fin 16) (m : Message) (s : State) : OutWithin w s (execAttest ch m s) := by
  have hrequest := s.request_within ch 2 m (MemSet.serves_of_quiet (w := w) (by decide) m)
  unfold execAttest
  split
  · split
    · exact .completes (s.finishSigning_within _)
    · exact hrequest
  · exact hrequest

theorem execImageActivate_within (hf : w.flash = true) (ch : Fin 16) (m : Message) (s : State) :
    OutWithin w s (execImageActivate ch m s) := by
  have hrequest := s.request_within ch 6 m (w := w) ⟨nofun, fun _ => hf, nofun, nofun, nofun⟩
  unfold execImageActivate
  split
  · split
    · exact .completes (s.finishActivation_within hf _)
    · exact hrequest
  · exact hrequest

theorem execHostMessageTake_within (hw : ∀ code m, w.Serves code m) (ch : Fin 16) (s : State) :
    OutWithin w s (execHostMessageTake ch s) := by
  unfold execHostMessageTake
  split
  · exact .completes (s.hmTakeNext_within hw _)
  · exact .unchanged s

theorem execMailboxTakeAck_within (hw : ∀ code m, w.Serves code m) (ch : Fin 16) (who : Identity) (s : State) :
    OutWithin w s (execMailboxTakeAck ch who s) := by
  unfold execMailboxTakeAck
  cases who with
  | hm =>
    dsimp only
    split
    · exact .completes (s.hmTakeNext_within hw _)
    · exact .unchanged s
  | rm =>
    dsimp only
    split
    · exact .completes (.of_same (s.pairTake_cold _) (s.pairTake_steady _))
    · exact .unchanged s
  | svc =>
    dsimp only
    split
    · exact .completes (.of_same (by simp) (by simp))
    · exact .unchanged s
  | host => exact .unchanged s

/-! ### The console as characters -/

/-- What a line spells, if it spells a command, stays within the set. -/
def SpellsWithin (w : MemSet) (o : Option Typed) : Prop := ∀ f ∈ o, ∀ s, OutWithin w s (f s)

theorem spellsWithin_none : SpellsWithin w none := nofun

theorem spellsWithin_some {f : Typed} (h : ∀ s, OutWithin w s (f s)) : SpellsWithin w (some f) := by
  intro g hg
  exact Option.some.inj hg ▸ h

theorem spellsWithin_some_still {f : Typed} (h : ∀ s, outStill (f s) = some (s.cold, s.steady)) : SpellsWithin w (some f) :=
  spellsWithin_some fun s => .of_still (h s)

theorem spellsWithin_ite {c : Prop} [Decidable c] {a b : Option Typed} (ha : SpellsWithin w a) (hb : SpellsWithin w b) :
    SpellsWithin w (if c then a else b) := by
  split <;> assumption

theorem spellsWithin_map {α : Type} {f : α → Typed} (h : ∀ a s, OutWithin w s (f a s)) (o : Option α) :
    SpellsWithin w (o.map f) := by
  cases o with
  | none => exact spellsWithin_none
  | some a => exact spellsWithin_some (h a)

theorem spellsWithin_map_still {α : Type} {f : α → Typed} (h : ∀ a s, outStill (f a s) = some (s.cold, s.steady)) (o : Option α) :
    SpellsWithin w (o.map f) :=
  spellsWithin_map (fun a s => .of_still (h a s)) o

theorem spellsWithin_bind {α : Type} {f : α → Option Typed} (h : ∀ a, SpellsWithin w (f a)) (o : Option α) :
    SpellsWithin w (o.bind f) := by
  cases o with
  | none => exact spellsWithin_none
  | some a => exact h a

theorem bare_within {f : Typed} (h : ∀ s, outStill (f s) = some (s.cold, s.steady)) (l : List Nat) :
    SpellsWithin w (bare l f) :=
  spellsWithin_ite (spellsWithin_some_still h) spellsWithin_none

theorem oneNumber_within {f : Nat → Typed} (h : ∀ a s, outStill (f a s) = some (s.cold, s.steady)) (l : List Nat) :
    SpellsWithin w (oneNumber l f) := by
  unfold oneNumber
  split
  · exact spellsWithin_some_still (h _)
  · exact spellsWithin_none

theorem upToOne_within {f : Option Nat → Typed} (h : ∀ a s, outStill (f a s) = some (s.cold, s.steady)) (l : List Nat) :
    SpellsWithin w (upToOne l f) := by
  unfold upToOne
  split
  · exact spellsWithin_some_still (h _)
  · exact spellsWithin_some_still (h _)
  · exact spellsWithin_none

theorem oneOrTwo_within {f : Nat → Option Nat → Typed} (h : ∀ a b s, outStill (f a b s) = some (s.cold, s.steady))
    (l : List Nat) : SpellsWithin w (oneOrTwo l f) := by
  unfold oneOrTwo
  split
  · exact spellsWithin_some_still (h _ _)
  · exact spellsWithin_some_still (h _ _)
  · exact spellsWithin_none

@[simp] theorem State.outOfRange_still (s : State) : outStill s.outOfRange = some (s.cold, s.steady) := by
  simp [State.outOfRange]

/-- A word followed by numbers alone spells no command that writes a memory. -/
theorem plainCommand_within (word : List Byte) (l : List Nat) : SpellsWithin w (plainCommand word l) := by
  unfold plainCommand
  repeat' with_reducible refine spellsWithin_ite ?_ ?_
  any_goals simp [bare_within, oneNumber_within, upToOne_within, oneOrTwo_within, spellsWithin_none]
  · split
    · exact spellsWithin_some_still (by simp)
    · exact oneOrTwo_within (by simp) l
  · split
    · exact spellsWithin_some_still (by simp)
    · exact spellsWithin_none
  · split
    · exact spellsWithin_some_still fun s => by split <;> simp
    · exact spellsWithin_none

theorem wdtCommand_within (regs : Frozen) (a b : List Byte) : SpellsWithin w (wdtCommand regs a b) := by
  refine spellsWithin_bind (fun m => ?_) _
  exact spellsWithin_ite (spellsWithin_some_still (by simp)) (spellsWithin_ite (spellsWithin_some_still (by simp))
    (spellsWithin_ite (spellsWithin_some_still (by simp)) spellsWithin_none))

theorem linkCommand_within (l : List (List Byte)) : SpellsWithin w (linkCommand l) := by
  unfold linkCommand
  split
  · exact spellsWithin_ite (spellsWithin_map_still (by simp) _) spellsWithin_none
  · refine spellsWithin_ite (spellsWithin_bind (fun n => spellsWithin_map_still (by simp) _) _)
      (spellsWithin_ite ?_ spellsWithin_none)
    exact spellsWithin_bind (fun n => spellsWithin_map_still (fun p s => by split <;> simp) _) _
  · exact spellsWithin_none

theorem wordCommand_within (hd : w.dump = true) (regs : Frozen) (word : List Byte) (l : List (List Byte)) :
    SpellsWithin w (wordCommand regs word l) := by
  unfold wordCommand
  refine spellsWithin_ite (spellsWithin_map_still (by simp) _) (spellsWithin_ite (linkCommand_within l) ?_)
  split
  · next a b =>
    refine spellsWithin_ite (spellsWithin_bind (fun k => spellsWithin_map_still (by simp) _) _) ?_
    refine spellsWithin_ite (spellsWithin_map_still (by simp) _) (spellsWithin_ite (spellsWithin_map_still (by simp) _) ?_)
    refine spellsWithin_ite (spellsWithin_map_still (by simp) _) (spellsWithin_ite (wdtCommand_within regs a b) ?_)
    exact spellsWithin_ite (spellsWithin_map_still (by simp) _)
      (spellsWithin_ite (spellsWithin_map_still (by simp) _) spellsWithin_none)
  · exact spellsWithin_ite (spellsWithin_bind (fun x => spellsWithin_map_still (by simp) _) _) spellsWithin_none
  · exact spellsWithin_ite (spellsWithin_some (execSvcDumpRelease_within hd))
      (spellsWithin_ite (spellsWithin_some_still (by simp)) spellsWithin_none)
  · exact spellsWithin_none

theorem commandOf_within (hd : w.dump = true) (hi : w.ident = true) (regs : Frozen) (word : List Byte) (l : List (List Byte)) :
    SpellsWithin w (commandOf regs word l) := by
  unfold commandOf
  refine spellsWithin_ite (spellsWithin_ite (spellsWithin_some_still (by simp))
    (spellsWithin_map (execSvcAuthAnswer_within hi) _)) ?_
  split
  · next f hf => exact fun g hg => wordCommand_within hd regs word l g (hf.trans hg)
  · exact spellsWithin_bind (plainCommand_within word) _

theorem State.typed_within {f : Typed} (h : ∀ s, OutWithin w s (f s)) (s : State) : s.Within w (s.typed f) := by
  unfold State.typed
  split
  · next t ht => exact h s t ht
  · exact .refl s
  · exact .refl s

theorem State.endLine_within (hd : w.dump = true) (hi : w.ident = true) (s : State) (regs : Frozen) :
    s.Within w (s.endLine regs) := by
  have hwrong : ∀ s : State, OutWithin w s (s.line fun s => s.print [.err 1]) := fun s => .of_still (by simp)
  unfold State.endLine
  extract_lets l con emptied wrong
  have hemptied : s.Within w emptied := .of_same rfl rfl
  split
  · exact hemptied.trans (State.typed_within hwrong _)
  · split
    · refine hemptied.trans (State.typed_within (fun s => .of_still (State.line_still _ _ (fun s => ?_) fun s => ?_)) _)
      · rfl
      · rfl
    · next word args _ =>
      refine hemptied.trans (State.typed_within ?_ _)
      cases hspelt : commandOf regs word args with
      | none => exact hwrong
      | some f => exact commandOf_within hd hi regs word args f hspelt

theorem State.receive_within (hd : w.dump = true) (hi : w.ident = true) (regs : Frozen) (s : State) (e : RxEvent) :
    s.Within w (s.receive regs e) := by
  unfold State.receive
  split
  · exact .refl s
  · cases e with
    | framing => exact .refl s
    | lowLine => exact .of_same rfl rfl
    | char b =>
      dsimp only
      split
      · split
        · exact .of_same (s.conEnd_cold _) (s.conEnd_steady _)
        · exact .refl s
      · repeat' split
        · exact .of_same rfl rfl
        · refine State.Within.trans ?_ (State.endLine_within hd hi _ regs)
          exact .of_same rfl rfl
        · exact .of_same rfl rfl
        · exact .of_same rfl rfl
        · exact .of_same rfl rfl

theorem execUnknownConsoleCommand_within (hd : w.dump = true) (hi : w.ident = true) (rx : List RxEvent) (regs : Frozen)
    (s : State) : OutWithin w s (execUnknownConsoleCommand rx regs s) := by
  refine .completes (State.Within.trans ?_ (.foldl (State.receive_within hd hi regs) rx _))
  exact .of_same rfl rfl

end Commands

/-! ### Every command -/

/-- The memories that a command may write. -/
def MemSet.of (c : Instr) : MemSet where
  flash := WritesFlash c
  shadow := WritesShadow c
  palette := WritesPalette c
  dump := WritesDump c
  ident := WritesIdentity c

/-- Every command stays within its set. -/
theorem exec_within (c : Instr) (s : State) : OutWithin (.of c) s (exec c s) := by
  cases c
  case supplyFall k done => exact execSupplyFall_within rfl rfl rfl rfl k done s
  case porstNLow done => exact execPorstNLow_within rfl rfl rfl rfl done s
  case primeP2 romOk keysOk memOk => exact execPrimeP2_within rfl rfl rfl romOk keysOk memOk s
  case primeP3 sfdp readA readB => exact execPrimeP3_within rfl rfl sfdp readA readB s
  case primeP4 => exact execPrimeP4_within rfl rfl s
  case primeP5 found => exact execPrimeP5_within found s
  case primeP6 r => exact execPrimeP6_within rfl rfl r s
  case primeP7 => exact execPrimeP7_within s
  case stageMaximumExceeded found => exact execStageMaximumExceeded_within rfl rfl rfl found s
  case rmReadyHeartbeat => exact execRmReadyHeartbeat_within rfl s
  case scrub found cut => exact execScrub_within rfl rfl found cut s
  case registerWrite x v => exact execRegisterWrite_within rfl rfl x v s
  case apprenticeHandback => exact execApprenticeHandback_within rfl s
  case railHandback n => exact execRailHandback_within rfl n s
  case voutTransitionRate x => exact execVoutTransitionRate_within rfl x s
  case ioutOcFaultLimit x => exact execIoutOcFaultLimit_within rfl x s
  case pentimentoCommit e => exact execPentimentoCommit_within rfl e s
  case svcDumpRelease => exact execSvcDumpRelease_within rfl s
  case svcAuthAnswer answer => exact execSvcAuthAnswer_within rfl answer s
  case lockoutEnd => exact execLockoutEnd_within rfl s
  case unknownConsoleCommand rx regs => exact execUnknownConsoleCommand_within rfl rfl rx regs s
  case mailboxTakeAck ch who => exact execMailboxTakeAck_within (MemSet.serves_of_all rfl rfl rfl rfl rfl) ch who s
  case hostMessageTake ch => exact execHostMessageTake_within (MemSet.serves_of_all rfl rfl rfl rfl rfl) ch s
  case ping ch m => exact s.request_within ch 1 m (MemSet.serves_of_quiet (by decide) m)
  case attest ch m => exact execAttest_within ch m s
  case paletteWrite ch m => exact s.request_within ch 3 m ⟨fun _ => ⟨rfl, rfl⟩, nofun, nofun, nofun, nofun⟩
  case paletteCommit ch m => exact s.request_within ch 4 _ (MemSet.serves_of_quiet (by decide) _)
  case paletteCommitForce ch m => exact s.request_within ch 4 _ (MemSet.serves_of_quiet (by decide) _)
  case imageChunk ch m => exact s.request_within ch 5 m ⟨nofun, fun _ => rfl, nofun, nofun, nofun⟩
  case imageActivate ch m => exact execImageActivate_within rfl ch m s
  case evtClearAuth ch m => exact s.request_within ch 7 m (MemSet.serves_of_quiet (by decide) m)
  case dumpRead ch m =>
    exact s.request_within ch 8 _
      ⟨nofun, nofun, fun _ hrelease => absurd hrelease (by simp [bodyWord_withRelease_false]), nofun, nofun⟩
  case dumpReadRelease ch m => exact s.request_within ch 8 _ ⟨nofun, nofun, fun _ _ => rfl, nofun, nofun⟩
  case cellQuery ch m => exact s.request_within ch 9 m (MemSet.serves_of_quiet (by decide) m)
  case wetWrite ch m => exact s.request_within ch 10 m ⟨nofun, nofun, nofun, fun _ => rfl, nofun⟩
  case wetRead ch m => exact s.request_within ch 11 m (MemSet.serves_of_quiet (by decide) m)
  case serviceKeySet ch m => exact s.request_within ch 12 m ⟨nofun, nofun, nofun, nofun, fun _ => rfl⟩
  case phaseRestore ch m => exact s.request_within ch 13 m (MemSet.serves_of_quiet (by decide) m)
  case guaranteeQuery ch m => exact s.request_within ch 14 m (MemSet.serves_of_quiet (by decide) m)
  case resume ch m => exact s.request_within ch 15 m (MemSet.serves_of_quiet (by decide) m)
  all_goals exact .of_still (by simp [exec])

theorem State.idleTick_within {w : MemSet} (s : State) : s.Within w s.idleTick := .of_same (by simp) (by simp)

/-- Settles O5. The sizes and the canonical form are the part of `State.Within` that holds of every command, whatever it may
write. -/
theorem everyStepKeepsTheInvariant : Obligations.EveryStepKeepsTheInvariant := by
  intro s t ⟨hcanonical, hsized⟩ hstep
  unfold step at hstep
  split at hstep
  · obtain rfl := Host.Outcome.next.inj hstep
    have h : s.Within (.of .primeP4) s.idleTick := s.idleTick_within
    exact ⟨h.canonical hcanonical, h.sized hsized⟩
  · next c rest _ =>
    have h := exec_within c { s with pending := rest } t hstep
    exact ⟨h.canonical hcanonical, h.sized hsized⟩

/-- Settles O8. -/
theorem onlyTheirCommandsWriteTheMemories : Obligations.OnlyTheirCommandsWriteTheMemories := by
  intro c s t hexec
  have h := exec_within c s t hexec
  exact ⟨h.pending, h.flash, h.shadow, h.palette, h.dump, h.ident⟩

end Sys2Proof.Machine
end

/-! SUPPORT. The fuses as read and the boot record: what the load of an image, a latch and the entry of PRIMED leave of them. -/

section
namespace Sys2Proof.Machine

/-- The fuses as read and the boot record. -/
structure Provision where
  fuses : Fuses
  boot : Boot

def State.provision (s : State) : Provision := ⟨s.fuses, s.boot⟩

/-- New values of other fields leave these alone. -/
@[simp ↓] theorem provision_mk (s : State)
    (clock' : _) (pins' : _) (varnish' : _) (ident' : _) (rom' : _) (flash' : _) (shadow' : _)
    (wetHeld' : _) (palette' : _) (ports' : _) (rails' : _) (phases' : _) (cells' : _) (links' : _) (comps' : _)
    (timers' : _) (router' : _) (input' : _) (telem' : _) (app' : _) (cross' : _) (rm' : _) (hm' : _) (ret' : _)
    (safe' : _) (dump' : _) (sketch' : _) (work' : _) (mail' : _) (bus' : _) (pm' : _) (con' : _) (tap' : _) (ecc' : _)
    (free' : _) (pending' : _) :
    State.provision (State.mk
      clock' pins' s.boot varnish' s.fuses ident' rom' flash' shadow' wetHeld' palette' ports' rails' phases' cells'
      links' comps' timers' router' input' telem' app' cross' rm' hm' ret' safe' dump' sketch' work' mail' bus' pm'
      con' tap' ecc' free' pending') =
      s.provision := rfl

@[simp ↓] theorem provision_ite (c : Prop) [Decidable c] (a b : State) :
    (if c then a else b).provision = if c then a.provision else b.provision := apply_ite State.provision c a b

/-- A fold whose step leaves these alone does so too. -/
theorem foldl_provision {α : Type} (l : List α) (f : State → α → State) (s : State)
    (h : ∀ s a, (f s a).provision = s.provision) : (l.foldl f s).provision = s.provision := by
  induction l generalizing s with
  | nil => rfl
  | cons a l ih => rw [List.foldl_cons, ih, h]

@[simp ↓] theorem State.updRail_provision (s : State) (n : Nat) (f : Rail → Rail) :
    (s.updRail n f).provision = s.provision := by
  simp [State.updRail]
@[simp ↓] theorem State.mapRails_provision (s : State) (f : Nat → Rail → Rail) :
    (s.mapRails f).provision = s.provision := by
  simp [State.mapRails]
@[simp ↓] theorem State.updPhase_provision (s : State) (p : Nat) (f : Phase → Phase) :
    (s.updPhase p f).provision = s.provision := by
  simp [State.updPhase]
@[simp ↓] theorem State.mapPhases_provision (s : State) (f : Nat → Phase → Phase) :
    (s.mapPhases f).provision = s.provision := by
  simp [State.mapPhases]
@[simp ↓] theorem State.updCell_provision (s : State) (c : Nat) (f : Cell → Cell) :
    (s.updCell c f).provision = s.provision := by
  simp [State.updCell]
@[simp ↓] theorem State.updLink_provision (s : State) (l : Nat) (f : Link → Link) :
    (s.updLink l f).provision = s.provision := by
  simp [State.updLink]
@[simp ↓] theorem State.updComp_provision (s : State) (m : Nat) (f : Comp → Comp) :
    (s.updComp m f).provision = s.provision := by
  simp [State.updComp]
@[simp ↓] theorem State.mapComps_provision (s : State) (f : Nat → Comp → Comp) :
    (s.mapComps f).provision = s.provision := by
  simp [State.mapComps]
@[simp ↓] theorem State.updPort_provision (s : State) (p : Nat) (f : Port → Port) :
    (s.updPort p f).provision = s.provision := by
  simp [State.updPort]
@[simp ↓] theorem State.updPair_provision (s : State) (i : Nat) (f : Pair → Pair) :
    (s.updPair i f).provision = s.provision := by
  simp [State.updPair]
@[simp ↓] theorem State.updTimer_provision (s : State) (k : Nat) (f : Timer → Timer) :
    (s.updTimer k f).provision = s.provision := by
  simp [State.updTimer]
@[simp ↓] theorem State.updMgr_provision (s : State) (m : Manager) (f : PairState → PairState) :
    (s.updMgr m f).provision = s.provision := by
  unfold State.updMgr
  split <;> simp
@[simp ↓] theorem State.updCore_provision (s : State) (n : Nat) (f : RailCore → RailCore) :
    (s.updCore n f).provision = s.provision := by
  simp [State.updCore]
@[simp ↓] theorem State.updHost_provision (s : State) (n : Nat) (f : RailHost → RailHost) :
    (s.updHost n f).provision = s.provision := by
  simp [State.updHost]
@[simp ↓] theorem State.updHosted_provision (s : State) (n : Nat) (f : RailHost → RailHost) :
    (s.updHosted n f).provision = s.provision := by
  simp [State.updHosted]
@[simp ↓] theorem State.updSense_provision (s : State) (n : Nat) (f : RailSense → RailSense) :
    (s.updSense n f).provision = s.provision := by
  simp [State.updSense]
@[simp ↓] theorem State.updModel_provision (s : State) (n : Nat) (f : RailModel → RailModel) :
    (s.updModel n f).provision = s.provision := by
  simp [State.updModel]
@[simp ↓] theorem State.updLe_provision (s : State) (n : Nat) (f : LoopEngine → LoopEngine) :
    (s.updLe n f).provision = s.provision := by
  simp [State.updLe]
@[simp ↓] theorem State.updBs_provision (s : State) (n : Nat) (f : Backstop → Backstop) :
    (s.updBs n f).provision = s.provision := by
  simp [State.updBs]
@[simp ↓] theorem State.updProt_provision (s : State) (n : Nat) (f : RailProt → RailProt) :
    (s.updProt n f).provision = s.provision := by
  simp [State.updProt]
@[simp ↓] theorem State.updPol_provision (s : State) (n : Nat) (f : RailPolicy → RailPolicy) :
    (s.updPol n f).provision = s.provision := by
  simp [State.updPol]
@[simp ↓] theorem State.freeNat_provision (s : State) : (State.freeNat s).2.provision = s.provision := by simp [State.freeNat]
@[simp ↓] theorem State.forEach_provision (s : State) (l : List Nat) (f : State → Nat → State)
    (h : ∀ s a, (f s a).provision = s.provision) :
    (s.forEach l f).provision = s.provision := foldl_provision l f s h
@[simp ↓] theorem State.when_provision (s : State) (c : Bool) (f : State → State) (h : ∀ s, (f s).provision = s.provision) :
    (s.when c f).provision = s.provision := by
  unfold State.when; split <;> simp [h]
@[simp ↓] theorem State.record_provision (s : State) (code : Nat) (src : Nat) (p0 : Nat) (p1 : Nat) :
    (s.record code src p0 p1).provision = s.provision := by
  simp [State.record]
@[simp ↓] theorem State.print_provision (s : State) (l : List ConLine) : (s.print l).provision = s.provision := by simp
    [State.print]
@[simp ↓] theorem State.conEnd_provision (s : State) (l : List ConLine) : (s.conEnd l).provision = s.provision := by simp
    [State.conEnd]
@[simp ↓] theorem State.conWait_provision (s : State) (w : ConWait) : (s.conWait w).provision = s.provision := by simp
    [State.conWait]
@[simp ↓] theorem State.setVout_provision (s : State) (n : Nat) (b : BitVec 8) :
    (s.setVout n b).provision = s.provision := by
  simp [State.setVout]
@[simp ↓] theorem State.setInput_provision (s : State) (b : BitVec 8) : (s.setInput b).provision = s.provision := by simp
    [State.setInput]
@[simp ↓] theorem State.setCml_provision (s : State) (b : BitVec 8) : (s.setCml b).provision = s.provision := by simp
    [State.setCml]
@[simp ↓] theorem State.setOther_provision (s : State) (n : Nat) : (s.setOther n).provision = s.provision := by simp
    [State.setOther]
@[simp ↓] theorem State.openWindow_provision (s : State) (n : Nat) (src : MaskSrc) :
    (s.openWindow n src).provision = s.provision := by
  simp [State.openWindow]
@[simp ↓] theorem State.disturb_provision (s : State) (n : Nat) : (s.disturb n).provision = s.provision := by simp [State.disturb]
@[simp ↓] theorem State.abortChar_provision (s : State) (n : Nat) : (s.abortChar n).provision = s.provision := by simp
    [State.abortChar]
@[simp ↓] theorem State.setLanes_provision (s : State) (n : Nat) (g : Phase → LaneCmd) :
    (s.setLanes n g).provision = s.provision := by
  simp [State.setLanes]
@[simp ↓] theorem State.idleLane_provision (s : State) (n p : Nat) : (s.idleLane n p).provision = s.provision := by simp
    [State.idleLane]
@[simp ↓] theorem State.obeyOverrides_provision (s : State) (n : Nat) :
    (s.obeyOverrides n).provision = s.provision := by
  simp [State.obeyOverrides]
@[simp ↓] theorem State.idleLanes_provision (s : State) (n : Nat) : (s.idleLanes n).provision = s.provision := by simp
    [State.idleLanes]
@[simp ↓] theorem State.respace_provision (s : State) (n : Nat) (old : List Nat) :
    (s.respace n old).provision = s.provision := by
  simp [State.respace]
@[simp ↓] theorem State.movePhases_provision (s : State) (n : Nat) (f : State → State) (h : ∀ s, (f s).provision = s.provision) :
    (s.movePhases n f).provision = s.provision := by
  simp [State.movePhases, h]
@[simp ↓] theorem State.conLoopback_provision (s : State) (c : Nat) (ok : Bool) :
    (s.conLoopback c ok).provision = s.provision := by
  unfold State.conLoopback
  split <;> simp
@[simp ↓] theorem State.conIdFail_provision (s : State) (c : Nat) : (s.conIdFail c).provision = s.provision := by
  unfold State.conIdFail
  split <;> simp
@[simp ↓] theorem State.queueFrame_provision (s : State) (l : Nat) (cls : Nat) (f : DownFrame) :
    (s.queueFrame l cls f).provision = s.provision := by
  simp [State.queueFrame]
@[simp ↓] theorem State.commandCell_provision (s : State) (cls c : Nat) (f : DownFrame) :
    (s.commandCell cls c f).provision = s.provision := by
  simp [State.commandCell]
@[simp ↓] theorem State.unsend_provision (s : State) (c : Nat) : (s.unsend c).provision = s.provision := by
  unfold State.unsend
  split <;> simp
@[simp ↓] theorem State.sendCell_provision (s : State) (cls : Nat) (c : Nat) (f : DownFrame) :
    (s.sendCell cls c f).provision = s.provision := by
  unfold State.sendCell
  dsimp only
  repeat' split
  all_goals simp
@[simp ↓] theorem State.dropCommands_provision (s : State) (c : Nat) :
    (s.dropCommands c).provision = s.provision := by
  simp [State.dropCommands]
@[simp ↓] theorem State.quarantineSilent_provision (s : State) (c : Nat) : (s.quarantineSilent c).provision = s.provision := by
  simp [State.quarantineSilent]
@[simp ↓] theorem State.setMode_provision (s : State) (p : Nat) (mode : Nat) :
    (s.setMode p mode).provision = s.provision := by
  simp [State.setMode]
@[simp ↓] theorem State.faultOn_provision (s : State) (k : FaultKind) (i : Nat) (lasting : Bool) :
    (s.faultOn k i lasting).provision = s.provision := by
  simp [State.faultOn]
@[simp ↓] theorem State.phaseEvent_provision (s : State) (n : Nat) : (s.phaseEvent n).provision = s.provision := by simp
    [State.phaseEvent]
@[simp ↓] theorem State.retire_provision (s : State) (p : Nat) (cause : Nat) : (s.retire p cause).provision = s.provision := by
  unfold State.retire
  split <;> simp
@[simp ↓] theorem State.yieldRecord_provision (s : State) (n : Nat) (level : Nat) (cause : Nat) (fin : Bool) :
    (s.yieldRecord n level cause fin).provision = s.provision := by
  simp [State.yieldRecord]
@[simp ↓] theorem State.endYields_provision (s : State) (n : Nat) (log : Bool) :
    (s.endYields n log).provision = s.provision := by
  simp [State.endYields]
@[simp ↓] theorem State.dropPg_provision (s : State) (n : Nat) : (s.dropPg n).provision = s.provision := by simp [State.dropPg]
@[simp ↓] theorem State.dropSamples_provision (s : State) (n : Nat) :
    (s.dropSamples n).provision = s.provision := by
  simp [State.dropSamples]
@[simp ↓] theorem State.endBurst_provision (s : State) (n : Nat) (tb4 : Nat) (hit : Bool) :
    (s.endBurst n tb4 hit).provision = s.provision := by
  simp [State.endBurst]
@[simp ↓] theorem State.tristatePhases_provision (s : State) (n : Nat) :
    (s.tristatePhases n).provision = s.provision := by
  simp [State.tristatePhases]
@[simp ↓] theorem State.latchRail_provision (s : State) (n : Nat) (cause : LatchCause) :
    (s.latchRail n cause).provision = s.provision := by
  simp [State.latchRail]
@[simp ↓] theorem State.fireBurst_provision (s : State) (n : Nat) : (s.fireBurst n).provision = s.provision := by simp
    [State.fireBurst]
@[simp ↓] theorem State.rearmBurst_provision (s : State) (n : Nat) : (s.rearmBurst n).provision = s.provision := by simp
    [State.rearmBurst]
@[simp ↓] theorem State.clampOn_provision (s : State) (n : Nat) : (s.clampOn n).provision = s.provision := by simp [State.clampOn]
@[simp ↓] theorem State.clampOff_provision (s : State) (n : Nat) : (s.clampOff n).provision = s.provision := by simp
    [State.clampOff]
@[simp ↓] theorem State.setTristate_provision (s : State) (n : Nat) (on : Bool) :
    (s.setTristate n on).provision = s.provision := by
  simp [State.setTristate]
@[simp ↓] theorem State.fastStop_provision (s : State) (n : Nat) (src : Nat) :
    (s.fastStop n src).provision = s.provision := by
  simp [State.fastStop]
@[simp ↓] theorem State.triggerTimer_provision (s : State) (k : Nat) :
    (s.triggerTimer k).provision = s.provision := by
  simp [State.triggerTimer]
@[simp ↓] theorem State.triggerCodes_provision (s : State) (codes : List Nat) :
    (s.triggerCodes codes).provision = s.provision := by
  simp [State.triggerCodes]
@[simp ↓] theorem State.routeRail_provision (old s : State) (rose : List Nat) (n : Nat) :
    (State.routeRail old rose s n).provision = s.provision := by
  simp [State.routeRail]
@[simp ↓] theorem State.settleHard_provision (k : Nat) (old s : State) : (State.settleHard k old s).provision = s.provision := by
  induction k generalizing old s with
  | zero => rfl
  | succ k ih =>
    unfold State.settleHard
    dsimp only
    split
    · rfl
    · rw [ih]; simp
@[simp ↓] theorem State.hardFrom_provision (old s : State) : (State.hardFrom old s).provision = s.provision :=
  State.settleHard_provision 9 old s
@[simp ↓] theorem State.compStatus_provision (s : State) (m : Nat) : (s.compStatus m).provision = s.provision := by simp
    [State.compStatus]
@[simp ↓] theorem State.seeComp_provision (s : State) (m : Nat) : (s.seeComp m).provision = s.provision := by simp [State.seeComp]
@[simp ↓] theorem State.driveOut_provision (s : State) (m : Nat) (v : Bool) :
    (s.driveOut m v).provision = s.provision := by
  simp [State.driveOut]
@[simp ↓] theorem State.driveLive_provision (s : State) (m : Nat) (v : Bool) :
    (s.driveLive m v).provision = s.provision := by
  simp [State.driveLive]
@[simp ↓] theorem State.assertThrot_provision (s : State) (p : Nat) (n : Nat) : (s.assertThrot p n).provision = s.provision := by
  unfold State.assertThrot
  repeat' split
  all_goals simp
@[simp ↓] theorem State.seedStop_provision (s : State) (n : Nat) : (s.seedStop n).provision = s.provision := by simp
    [State.seedStop]
@[simp ↓] theorem State.seedSoft_provision (s : State) : s.seedSoft.provision = s.provision := by
  unfold State.seedSoft; dsimp only
  rw [State.forEach_provision _ _ _ (by intro s p; split <;> simp)]
  exact State.forEach_provision _ _ _ (by simp)
@[simp ↓] theorem State.failComp_provision (s : State) (m : Nat) : (s.failComp m).provision = s.provision := by simp
    [State.failComp]
@[simp ↓] theorem State.useConverter_provision (s : State) (i : Nat) (isB : Bool) :
    (s.useConverter i isB).provision = s.provision := by
  simp [State.useConverter]
@[simp ↓] theorem State.updWd_provision (s : State) (m : Manager) (f : Watchdog → Watchdog) :
    (s.updWd m f).provision = s.provision := by
  simp [State.updWd]
@[simp ↓] theorem State.startWd_provision (s : State) (m : Manager) : (s.startWd m).provision = s.provision := by simp
    [State.startWd]
@[simp ↓] theorem State.authFail_provision (s : State) (src : Nat) (p0 : Nat) (p1 : Nat) :
    (s.authFail src p0 p1).provision = s.provision := by
  simp [State.authFail]
@[simp ↓] theorem State.autoWatchdogs_provision (s : State) : s.autoWatchdogs.provision = s.provision := by simp
    [State.autoWatchdogs]
@[simp ↓] theorem State.loadTimeouts_provision (s : State) : s.loadTimeouts.provision = s.provision := by simp
    [State.loadTimeouts]
@[simp ↓] theorem State.commitAll_provision (s : State) : s.commitAll.provision = s.provision := by simp [State.commitAll]
@[simp ↓] theorem State.bootRails_provision (s : State) : s.bootRails.provision = s.provision := by simp [State.bootRails]
@[simp ↓] theorem State.primeComp_provision (s : State) (x : Nat × BitVec 4 × BitVec 4) :
    (s.primeComp x).provision = s.provision := by
  unfold State.primeComp
  repeat' split
  all_goals simp
@[simp ↓] theorem State.primePair_provision (r : SelfTest) (s : State) (i : Nat) :
    (State.primePair r s i).provision = s.provision := by
  simp [State.primePair]
@[simp ↓] theorem State.latchNode_provision (s : State) (n : Nat) : (s.latchNode n).provision = s.provision := by simp
    [State.latchNode]

end Sys2Proof.Machine
end

/-! SUPPORT. P3: one slot that passes or fails, the slots in turn, and the order in which they are tried. -/

section
namespace Sys2Proof.Machine

/-! ### What an equal provision says -/

section
variable {s t : State} (h : t.provision = s.provision)
include h

theorem State.fuses_of_provision : t.fuses = s.fuses := congrArg Provision.fuses h

theorem State.boot_of_provision : t.boot = s.boot := congrArg Provision.boot h

end

theorem State.varnish_of_cold {s t : State} (h : t.cold = s.cold) : t.varnish = s.varnish := congrArg Cold.varnish h

/-! ### One slot -/

/-- The boot record after a slot has failed. -/
def Boot.slotFailed (b : Boot) (slotB : Bool) (f : Nat × Nat) : Boot := { b with
  aFail := b.aFail || !slotB, bFail := b.bFail || slotB, cause := BitVec.ofNat 4 f.1, detail := BitVec.ofNat 8 f.2 }

theorem State.failSlot_provision (s : State) (slotB : Bool) (rd : Reader) (f : Nat × Nat) :
    (s.failSlot slotB rd f).provision = ⟨s.fuses, s.boot.slotFailed slotB f⟩ := by
  unfold State.failSlot
  extract_lets s1 s2 s3 s4
  have h : s4.provision = s.provision := by simp [s4, s3, s2, s1]
  exact congrArg (fun p => (⟨p.fuses, p.boot.slotFailed slotB f⟩ : Provision)) h

/-- The check of a slot reads it into the shadow and changes nothing else. -/
theorem State.checkSlotImage_eq (s : State) (rd : Reader) (err : FlashRead) :
    ∃ shadow1, (s.checkSlotImage rd err).2 = { s with shadow := shadow1 } := by
  unfold State.checkSlotImage
  split
  · exact ⟨s.shadow, rfl⟩
  · split
    · exact ⟨s.shadow, rfl⟩
    · split
      · exact ⟨s.shadow, rfl⟩
      · dsimp only
        split <;> exact ⟨_, rfl⟩

/-- The load of the blocks leaves the fuses and the boot record alone. -/
theorem State.loadBlocks_kept (s : State) : s.loadBlocks.provision = s.provision ∧ s.loadBlocks.varnish = s.varnish := by
  unfold State.loadBlocks
  extract_lets filled driven loaded
  have hfuses : filled.fuses = s.fuses := rfl
  have hboot : filled.boot = s.boot := rfl
  have hvarnish : filled.varnish = s.varnish := rfl
  clear_value filled
  have hprov : filled.provision = s.provision := by rw [State.provision, hfuses, hboot]; rfl
  exact ⟨Eq.trans (by simp [loaded, driven]) hprov, (State.varnish_of_cold (by simp [loaded, driven])).trans hvarnish⟩

/-- The boot record of a loaded image: what the image gives it, and what it keeps. -/
theorem State.adoptImage_eq (s : State) (rd : Reader) : ∃ boot1, s.adoptImage rd = { s with boot := boot1 } ∧
    boot1.imageLoaded = true ∧ boot1.imageVersion = BitVec.ofNat 32 (rdNat rd 0xC 4) ∧ boot1.sfdp = s.boot.sfdp ∧
    boot1.access = s.boot.access ∧ boot1.aSuperseded = s.boot.aSuperseded ∧ boot1.aFail = s.boot.aFail := by
  unfold State.adoptImage
  extract_lets claim burn patch rm pr ph headed
  refine ⟨_, rfl, ?_, ?_, ?_, ?_, ?_, ?_⟩
  all_goals rfl

/-- A slot that fails its check. -/
theorem State.trySlot_failed {s : State} {slotB : Bool} {err : FlashRead} {f : Nat × Nat} (h : slotFails s slotB err = some f) :
    (s.trySlot slotB err).1 = false ∧
    (s.trySlot slotB err).2.provision = ⟨s.fuses, s.boot.slotFailed slotB f⟩ ∧
    (s.trySlot slotB err).2.varnish = s.varnish := by
  obtain ⟨shadow1, hread⟩ := s.checkSlotImage_eq (s.slotReader slotB) err
  have hcheck : s.checkSlotImage (s.slotReader slotB) err = (some f, { s with shadow := shadow1 }) := Prod.ext h hread
  unfold State.trySlot
  dsimp only
  rw [hcheck]
  exact ⟨rfl, State.failSlot_provision _ _ _ _, congrArg Cold.varnish (State.failSlot_cold _ _ _ _)⟩

/-- A slot that passes its check is loaded, and P4 begins. -/
theorem State.trySlot_passed {s : State} {slotB : Bool} {err : FlashRead} (h : slotFails s slotB err = none) :
    (s.trySlot slotB err).1 = true ∧ SlotLoaded (s.trySlot slotB err).2 s slotB ∧
    (s.trySlot slotB err).2.fuses = s.fuses ∧ (s.trySlot slotB err).2.varnish = s.varnish ∧
    (s.trySlot slotB err).2.boot.sfdp = s.boot.sfdp ∧ (s.trySlot slotB err).2.boot.access = s.boot.access ∧
    (s.trySlot slotB err).2.boot.aSuperseded = s.boot.aSuperseded ∧ (s.trySlot slotB err).2.boot.aFail = s.boot.aFail := by
  obtain ⟨shadow1, hread⟩ := s.checkSlotImage_eq (s.slotReader slotB) err
  have hcheck : s.checkSlotImage (s.slotReader slotB) err = (none, { s with shadow := shadow1 }) := Prod.ext h hread
  unfold State.trySlot
  dsimp only
  rw [hcheck]
  obtain ⟨boot1, hadopt, hloaded, hversion, hsfdp, haccess, hsuperseded, haFail⟩ :=
    State.adoptImage_eq { s with shadow := shadow1 } (s.slotReader slotB)
  dsimp only
  rw [hadopt]
  obtain ⟨hprov, hvarnish⟩ := State.loadBlocks_kept { s with shadow := shadow1, boot := boot1 }
  generalize State.loadBlocks _ = u at hprov hvarnish ⊢
  have hboot : u.boot = boot1 := State.boot_of_provision hprov
  exact ⟨rfl, ⟨rfl, (congrArg Boot.imageLoaded hboot).trans hloaded, rfl, (congrArg Boot.imageVersion hboot).trans hversion⟩,
    congrArg Provision.fuses hprov, hvarnish, (congrArg Boot.sfdp hboot).trans hsfdp, (congrArg Boot.access hboot).trans haccess,
    (congrArg Boot.aSuperseded hboot).trans hsuperseded, (congrArg Boot.aFail hboot).trans haFail⟩

/-- An erased flash holds no image. -/
theorem slotFails_erased {s : State} (herased : s.flash = []) (slotB : Bool) (err : FlashRead) :
    slotFails s slotB err ≠ none := by
  have hmagic : headerFail (s.slotReader slotB) = some 0 := by
    simp [headerFail, State.slotReader, State.flashBytes, herased, sgets, sget, magic]
  unfold slotFails State.checkSlotImage
  split
  · simp
  · simp [headFail, hmagic]

/-! ### The slots in turn -/

theorem State.nextSlot_none {s : State} {marked : Bool} (h : s.nextSlot marked = none) :
    s.boot.aFail = true ∧ s.boot.bFail = true := by
  revert h
  unfold State.nextSlot
  cases s.boot.aFail <;> cases s.boot.bFail <;> cases marked <;> simp

theorem State.nextSlot_some {s : State} {marked slotB : Bool} (h : s.nextSlot marked = some slotB) :
    if slotB then s.boot.bFail = false ∧ (s.boot.aFail = true ∨ marked = true) else s.boot.aFail = false := by
  revert h
  unfold State.nextSlot
  cases s.boot.aFail <;> cases s.boot.bFail <;> cases marked <;> cases slotB <;> simp

section Slots
variable {readA readB : FlashRead} {marked : Bool} {said : List ConLine} {n : Nat} {s : State}

theorem trySlots_none (h : s.nextSlot marked = none) : State.trySlots readA readB marked (n + 1) said s =
    (s.enterBlank s.boot.cause.toNat s.boot.detail.toNat).preface said := by
  rw [State.trySlots, h]

theorem trySlots_passed {slotB : Bool} (h : s.nextSlot marked = some slotB)
    (hpass : slotFails s slotB (if slotB then readB else readA) = none) : ∃ lines,
    State.trySlots readA readB marked (n + 1) said s = (s.trySlot slotB (if slotB then readB else readA)).2.print lines := by
  obtain ⟨hok, -⟩ := State.trySlot_passed hpass
  rw [State.trySlots, h]
  dsimp only
  rw [hok]
  exact ⟨_, rfl⟩

theorem trySlots_failed {slotB : Bool} {f : Nat × Nat} (h : s.nextSlot marked = some slotB)
    (hfail : slotFails s slotB (if slotB then readB else readA) = some f) : ∃ said',
    State.trySlots readA readB marked (n + 1) said s =
      State.trySlots readA readB marked n said' (s.trySlot slotB (if slotB then readB else readA)).2 := by
  obtain ⟨hok, -⟩ := State.trySlot_failed hfail
  rw [State.trySlots, h]
  dsimp only
  rw [hok]
  exact ⟨_, rfl⟩

end Slots

/-- What P3 leaves of what it began with. -/
structure State.ReadAlike (s t : State) : Prop where
  fuses : t.fuses = s.fuses
  varnish : t.varnish = s.varnish
  sfdp : t.boot.sfdp = s.boot.sfdp
  access : t.boot.access = s.boot.access
  aSuperseded : t.boot.aSuperseded = s.boot.aSuperseded

theorem State.ReadAlike.trans {s t u : State} (h : s.ReadAlike t) (h' : t.ReadAlike u) : s.ReadAlike u where
  fuses := h'.fuses.trans h.fuses
  varnish := h'.varnish.trans h.varnish
  sfdp := h'.sfdp.trans h.sfdp
  access := h'.access.trans h.access
  aSuperseded := h'.aSuperseded.trans h.aSuperseded

theorem State.trySlot_readAlike (s : State) (slotB : Bool) (err : FlashRead) : s.ReadAlike (s.trySlot slotB err).2 := by
  cases h : slotFails s slotB err with
  | none =>
    obtain ⟨-, -, hfuses, hvarnish, hsfdp, haccess, hsuperseded, -⟩ := State.trySlot_passed h
    exact ⟨hfuses, hvarnish, hsfdp, haccess, hsuperseded⟩
  | some f =>
    obtain ⟨-, hprov, hvarnish⟩ := State.trySlot_failed h
    exact ⟨congrArg Provision.fuses hprov, hvarnish, congrArg (fun p : Provision => p.boot.sfdp) hprov,
      congrArg (fun p : Provision => p.boot.access) hprov, congrArg (fun p : Provision => p.boot.aSuperseded) hprov⟩

theorem State.enterBlank_readAlike (s : State) (cause detail : Nat) : s.ReadAlike (s.enterBlank cause detail) := by
  obtain ⟨hboot, -⟩ := s.enterBlank_facts cause detail
  have hkept : (s.enterBlank cause detail).fuses = s.fuses ∧ (s.enterBlank cause detail).varnish = s.varnish := by
    unfold State.enterBlank
    extract_lets b pins cleared loaded running ready
    have hprov : ready.provision = cleared.provision := by
      simp [ready, running, loaded, State.restartLockout, State.when]
    have hcold : ready.cold = cleared.cold := by simp [ready, running, loaded]
    exact ⟨congrArg Provision.fuses hprov, congrArg Cold.varnish hcold⟩
  refine ⟨hkept.1, hkept.2, ?_, ?_, ?_⟩
  all_goals rw [hboot]; rfl

/-- The end of P3: a slot is loaded, or both have failed. -/
structure State.Selected (s t : State) : Prop extends s.ReadAlike t where
  outcome : t.boot.stage = 4 ∧ t.boot.imageLoaded = true ∧ (t.boot.slot = 1 ∨ t.boot.slot = 2) ∨
    t.boot.stage = 0xE ∧ t.boot.imageLoaded = false ∧ t.boot.slot = 0 ∧ t.boot.aFail = true ∧ t.boot.bFail = true ∧
      t.boot.fixative = true ∧ t.pins.lanesEnabled = false ∧ t.shadow = []
  loadsA : t.boot.slot = 1 → t.boot.aFail = false
  loadsB : t.boot.slot = 2 → t.boot.aFail = true ∨ t.boot.aSuperseded = true
  erased : s.flash = [] → t.boot.stage = 0xE

theorem selected_blank {s : State} (hA : s.boot.aFail = true) (hB : s.boot.bFail = true) (said : List ConLine) :
    s.Selected ((s.enterBlank s.boot.cause.toNat s.boot.detail.toNat).preface said) := by
  obtain ⟨hboot, hlanes, hshadow⟩ := s.enterBlank_facts s.boot.cause.toNat s.boot.detail.toNat
  obtain ⟨hfuses, hvarnish, hsfdp, haccess, hsuperseded⟩ :=
    s.enterBlank_readAlike s.boot.cause.toNat s.boot.detail.toNat
  refine ⟨⟨hfuses, hvarnish, hsfdp, haccess, hsuperseded⟩, .inr ?_, ?_, ?_, fun _ => ?_⟩
  · rw [State.preface_boot, State.preface_pins, State.preface_shadow, hboot]
    exact ⟨rfl, rfl, rfl, hA, hB, rfl, hlanes, hshadow⟩
  · rw [State.preface_boot, hboot]
    exact nofun
  · rw [State.preface_boot, hboot]
    exact nofun
  · rw [State.preface_boot, hboot]
    rfl

theorem selected_loaded {s : State} {slotB : Bool} {err : FlashRead} (hpass : slotFails s slotB err = none)
    (hnext : if slotB then s.boot.bFail = false ∧ (s.boot.aFail = true ∨ s.boot.aSuperseded = true) else s.boot.aFail = false)
    (lines : List ConLine) : s.Selected ((s.trySlot slotB err).2.print lines) := by
  obtain ⟨-, ⟨hstage, hloaded, hslot, -⟩, hfuses, hvarnish, hsfdp, haccess, hsuperseded, haFail⟩ := State.trySlot_passed hpass
  refine ⟨⟨hfuses, hvarnish, hsfdp, haccess, hsuperseded⟩, .inl ⟨hstage, hloaded, ?_⟩, fun h1 => haFail.trans ?_, fun h2 => ?_,
    fun herased => absurd hpass (slotFails_erased herased slotB err)⟩
  · cases slotB with
    | false => exact .inl hslot
    | true => exact .inr hslot
  · cases slotB with
    | false => exact hnext
    | true => exact absurd (h1.symm.trans hslot) (by decide)
  · cases slotB with
    | false => exact absurd (h2.symm.trans hslot) (by decide)
    | true => exact hnext.2.imp haFail.trans hsuperseded.trans

/-- The state after a failed slot, for what is left of P3. -/
theorem State.Selected.of_failed {s t : State} {slotB : Bool} {err : FlashRead} (h : (s.trySlot slotB err).2.Selected t) :
    s.Selected t where
  toReadAlike := (s.trySlot_readAlike slotB err).trans h.toReadAlike
  outcome := h.outcome
  loadsA := h.loadsA
  loadsB := h.loadsB
  erased herased := h.erased
      (((s.trySlot_within (w := ⟨false, true, true, false, false⟩) rfl rfl slotB err).flash rfl).trans herased)

/-- Slots that have not failed. -/
def Boot.slotsLeft (b : Boot) : Nat := b2n (!b.aFail) + b2n (!b.bFail)

/-- A slot that had not failed is left no more. -/
theorem Boot.slotFailed_slotsLeft (b : Boot) {slotB : Bool} {f : Nat × Nat} (h : (if slotB then b.bFail else b.aFail) = false) :
    (b.slotFailed slotB f).slotsLeft < b.slotsLeft := by
  cases slotB with
  | false => simp_all [Boot.slotFailed, Boot.slotsLeft, b2n]
  | true => simp_all [Boot.slotFailed, Boot.slotsLeft, b2n]

/-- P3 ends, since a failed slot is not tried again. -/
theorem trySlots_selected (readA readB : FlashRead) (n : Nat) (said : List ConLine) (s : State) (hn : s.boot.slotsLeft < n) :
    s.Selected (State.trySlots readA readB s.boot.aSuperseded n said s) := by
  induction n generalizing said s with
  | zero => exact absurd hn (Nat.not_lt_zero _)
  | succ n ih =>
    cases hnext : s.nextSlot s.boot.aSuperseded with
    | none =>
      obtain ⟨hA, hB⟩ := State.nextSlot_none hnext
      rw [trySlots_none hnext]
      exact selected_blank hA hB said
    | some slotB =>
      have hslot := State.nextSlot_some hnext
      cases hfail : slotFails s slotB (if slotB then readB else readA) with
      | none =>
        obtain ⟨lines, h⟩ := trySlots_passed (said := said) (n := n) hnext hfail
        rw [h]
        exact selected_loaded hfail hslot lines
      | some f =>
        obtain ⟨said', h⟩ := trySlots_failed (said := said) (n := n) hnext hfail
        obtain ⟨-, hprov, -⟩ := State.trySlot_failed hfail
        have hleft := congrArg (fun p : Provision => p.boot.slotsLeft) hprov
        have hfewer := s.boot.slotFailed_slotsLeft (slotB := slotB) (f := f) (by cases slotB <;> simp_all)
        rw [h, ← (s.trySlot_readAlike slotB (if slotB then readB else readA)).aSuperseded]
        exact .of_failed (ih said' _ ((hleft.trans_lt hfewer).trans_le (Nat.le_of_lt_succ hn)))

/-! ### Which slot is loaded, and what the last failure leaves -/

section Order
variable {readA readB : FlashRead} {marked slotB : Bool} {said : List ConLine} {n : Nat} {s : State}

theorem trySlots_loads (hnext : s.nextSlot marked = some slotB)
    (hpass : slotFails s slotB (if slotB then readB else readA) = none) :
    SlotLoaded (State.trySlots readA readB marked (n + 1) said s) s slotB := by
  obtain ⟨lines, h⟩ := trySlots_passed (said := said) (n := n) hnext hpass
  obtain ⟨-, hloaded, -⟩ := State.trySlot_passed hpass
  rw [h]
  exact hloaded

/-- What the boot record holds of a slot that failed. -/
theorem State.trySlot_failed_boot {err : FlashRead} {f : Nat × Nat} (h : slotFails s slotB err = some f) :
    (s.trySlot slotB err).2.boot.aFail = (s.boot.aFail || !slotB) ∧ (s.trySlot slotB err).2.boot.bFail = (s.boot.bFail || slotB) ∧
    (s.trySlot slotB err).2.boot.cause = BitVec.ofNat 4 f.1 ∧ (s.trySlot slotB err).2.boot.detail = BitVec.ofNat 8 f.2 := by
  obtain ⟨-, hprov, -⟩ := State.trySlot_failed h
  exact ⟨congrArg (fun p : Provision => p.boot.aFail) hprov, congrArg (fun p : Provision => p.boot.bFail) hprov,
    congrArg (fun p : Provision => p.boot.cause) hprov, congrArg (fun p : Provision => p.boot.detail) hprov⟩

/-- The check of the last slot fails. -/
theorem trySlots_rejects {f : Nat × Nat} (hnext : s.nextSlot marked = some slotB)
    (hother : (if slotB then s.boot.aFail else s.boot.bFail) = true)
    (hfail : slotFails s slotB (if slotB then readB else readA) = some f) :
    BothRejected (State.trySlots readA readB marked (n + 2) said s) f := by
  obtain ⟨said', h⟩ := trySlots_failed (said := said) (n := n + 1) hnext hfail
  obtain ⟨hA, hB, hcause, hdetail⟩ := State.trySlot_failed_boot hfail
  rw [h]
  generalize (s.trySlot slotB _).2 = t at hA hB hcause hdetail
  have hnone : t.nextSlot marked = none := by cases slotB <;> simp_all [State.nextSlot]
  obtain ⟨hboot, -, hshadow⟩ := t.enterBlank_facts t.boot.cause.toNat t.boot.detail.toNat
  rw [trySlots_none hnone, BothRejected, State.preface_boot, State.preface_shadow, hboot]
  exact ⟨rfl, rfl, rfl, hshadow, (BitVec.ofNat_toNat ..).trans (by simp [hcause]),
    (BitVec.ofNat_toNat ..).trans (by simp [hdetail])⟩

/-- With neither slot failed before, the first one tried fails and the other follows. -/
theorem trySlots_second {f : Nat × Nat} (hA : s.boot.aFail = false) (hB : s.boot.bFail = false) (hmark : slotB = marked)
    (hfail : slotFails s slotB (if slotB then readB else readA) = some f) {u : State}
    (hu : u = (s.trySlot slotB (if slotB then readB else readA)).2) :
    (slotFails u (!slotB) (if !slotB then readB else readA) = none →
      SlotLoaded (State.trySlots readA readB marked (n + 3) said s) s (!slotB)) ∧
    ∀ g, slotFails u (!slotB) (if !slotB then readB else readA) = some g →
      BothRejected (State.trySlots readA readB marked (n + 3) said s) g := by
  have hnext : s.nextSlot marked = some slotB := by cases slotB <;> simp_all [State.nextSlot]
  obtain ⟨said', h⟩ := trySlots_failed (said := said) (n := n + 2) hnext hfail
  obtain ⟨huA, huB, -⟩ := State.trySlot_failed_boot hfail
  have hflash :=
      (s.trySlot_within (w := ⟨false, true, true, false, false⟩) rfl rfl slotB (if slotB then readB else readA)).flash rfl
  rw [h]
  rw [← hu] at huA huB hflash ⊢
  have hother : u.nextSlot marked = some (!slotB) := by cases slotB <;> simp_all [State.nextSlot]
  refine ⟨fun hpass => ?_, fun g hg => trySlots_rejects hother (by cases slotB <;> simp_all) hg⟩
  have hreader : u.slotReader (!slotB) = s.slotReader (!slotB) := by
    unfold State.slotReader State.flashBytes
    rw [hflash]
  have hloaded := trySlots_loads (n := n + 1) (said := said') hother hpass
  rw [SlotLoaded, hreader] at hloaded
  exact hloaded

end Order

theorem Boot.slotsLeft_le (b : Boot) : b.slotsLeft ≤ 2 := by
  unfold Boot.slotsLeft
  cases b.aFail <;> cases b.bFail <;> decide

/-- No slot was left. -/
theorem trySlots_both {readA readB : FlashRead} {marked : Bool} {said : List ConLine} {n : Nat} {s : State}
    (hA : s.boot.aFail = true) (hB : s.boot.bFail = true) :
    (State.trySlots readA readB marked (n + 1) said s).boot.stage = 0xE ∧
    (State.trySlots readA readB marked (n + 1) said s).boot.cause = s.boot.cause := by
  obtain ⟨hboot, -⟩ := s.enterBlank_facts s.boot.cause.toNat s.boot.detail.toNat
  rw [trySlots_none (by simp [State.nextSlot, hA, hB]), State.preface_boot, hboot]
  exact ⟨rfl, (BitVec.ofNat_toNat ..).trans (by simp)⟩

section Order
variable (readA readB : FlashRead) (said : List ConLine) (a : State)

/-- Neither slot has failed: the one that is tried first, then the other. -/
theorem trySlots_order (slotB : Bool) (hA : a.boot.aFail = false) (hB : a.boot.bFail = false)
    (hmark : a.boot.aSuperseded = slotB) :
    (slotFails a slotB (if slotB then readB else readA) = none →
      SlotLoaded (State.trySlots readA readB a.boot.aSuperseded 4 said a) a slotB) ∧
    ∀ f, slotFails a slotB (if slotB then readB else readA) = some f →
      (slotFails (a.trySlot slotB (if slotB then readB else readA)).2 (!slotB) (if !slotB then readB else readA) = none →
        SlotLoaded (State.trySlots readA readB a.boot.aSuperseded 4 said a) a (!slotB)) ∧
      ∀ g, slotFails (a.trySlot slotB (if slotB then readB else readA)).2 (!slotB) (if !slotB then readB else readA) = some g →
        BothRejected (State.trySlots readA readB a.boot.aSuperseded 4 said a) g := by
  have hnext : a.nextSlot a.boot.aSuperseded = some slotB := by
    rw [hmark]
    cases slotB <;> simp [State.nextSlot, hA, hB]
  exact ⟨trySlots_loads hnext, fun f hfail => trySlots_second hA hB hmark.symm hfail rfl⟩

/-- One slot has failed before: the other is the only one tried. -/
theorem trySlots_only (slotB : Bool) (hfailed : (if slotB then a.boot.aFail else a.boot.bFail) = true)
    (hleft : (if slotB then a.boot.bFail else a.boot.aFail) = false) :
    (slotFails a slotB (if slotB then readB else readA) = none →
      SlotLoaded (State.trySlots readA readB a.boot.aSuperseded 4 said a) a slotB) ∧
    ∀ f, slotFails a slotB (if slotB then readB else readA) = some f →
      BothRejected (State.trySlots readA readB a.boot.aSuperseded 4 said a) f := by
  have hnext : a.nextSlot a.boot.aSuperseded = some slotB := by
    cases slotB <;> simp_all [State.nextSlot]
  exact ⟨trySlots_loads hnext, fun f => trySlots_rejects hnext hfailed⟩

end Order

/-- The judgement leaves what P3 ended with. -/
theorem slotLoaded_judge {t s : State} {slotB : Bool} : SlotLoaded t.judge s slotB ↔ SlotLoaded t s slotB := by
  rw [SlotLoaded, State.judge_boot, SlotLoaded]
theorem bothRejected_judge {t : State} {f : Nat × Nat} : BothRejected t.judge f ↔ BothRejected t f := by
  rw [BothRejected, State.judge_boot, State.judge_shadow, BothRejected]

/-- Settles O12: `trySlots_selected` for what holds of every end, and the order of the slots by the flags. -/
theorem imageSelection : Obligations.ImageSelection := by
  intro s sfdp readA readB hheld hsafe hstage
  have hselected := trySlots_selected readA readB 4 (s.skipLine (startP3 s sfdp readA).boot.aSuperseded sfdp.isNone)
    (startP3 s sfdp readA) ((Boot.slotsLeft_le _).trans_lt (by decide))
  have hflash := (State.trySlots_within (w := ⟨false, true, true, false, false⟩) rfl rfl readA readB
    (startP3 s sfdp readA).boot.aSuperseded 4 (s.skipLine (startP3 s sfdp readA).boot.aSuperseded sfdp.isNone)
    (startP3 s sfdp readA)).flash rfl
  have horder := trySlots_order readA readB (s.skipLine (startP3 s sfdp readA).boot.aSuperseded sfdp.isNone)
      (startP3 s sfdp readA)
  have honly := trySlots_only readA readB (s.skipLine (startP3 s sfdp readA).boot.aSuperseded sfdp.isNone) (startP3 s sfdp readA)
  have hboth := trySlots_both (readA := readA) (readB := readB) (marked := (startP3 s sfdp readA).boot.aSuperseded)
    (said := s.skipLine (startP3 s sfdp readA).boot.aSuperseded sfdp.isNone) (n := 3) (s := startP3 s sfdp readA)
  refine ⟨_, if_pos (State.inStage_of hheld hsafe hstage), ?_⟩
  rw [State.judge_boot, State.judge_fuses, State.judge_varnish, State.judge_flash, State.judge_pins, State.judge_shadow]
  simp only [slotLoaded_judge, bothRejected_judge]
  exact ⟨hselected.sfdp, hselected.access, hselected.fuses, hselected.varnish, hflash, hselected.outcome, hselected.loadsA,
    hselected.loadsB, hselected.erased, fun hA hB hfresh => horder false hA hB hfresh,
    fun hA hB hmarked => horder true hA hB hmarked, fun hA hB => honly true hA hB, fun hA hB => honly false hB hA, hboth⟩

end Sys2Proof.Machine
end

/-! SUPPORT. The cells, and what the router leaves of them. -/

section
namespace Sys2Proof.Machine

/-! ### Operations that leave every cell alone -/

@[simp ↓] theorem cells_ite (c : Prop) [Decidable c] (a b : State) :
    (if c then a else b).cells = if c then a.cells else b.cells := apply_ite State.cells c a b

/-- A fold whose step leaves the cells alone does so too. -/
theorem foldl_cells {α : Type} (l : List α) (f : State → α → State) (s : State)
    (h : ∀ s a, (f s a).cells = s.cells) : (l.foldl f s).cells = s.cells := by
  induction l generalizing s with
  | nil => rfl
  | cons a l ih => rw [List.foldl_cons, ih, h]

@[simp ↓] theorem State.forEach_cells (s : State) (l : List Nat) (f : State → Nat → State)
    (h : ∀ s a, (f s a).cells = s.cells) :
    (s.forEach l f).cells = s.cells := foldl_cells l f s h
@[simp ↓] theorem State.when_cells (s : State) (c : Bool) (f : State → State) (h : ∀ s, (f s).cells = s.cells) :
    (s.when c f).cells = s.cells := by
  unfold State.when; split <;> simp [h]
@[simp ↓] theorem State.print_cells (s : State) (l : List ConLine) : (s.print l).cells = s.cells := by simp [State.print]
@[simp ↓] theorem State.conEnd_cells (s : State) (l : List ConLine) : (s.conEnd l).cells = s.cells := by simp [State.conEnd]
@[simp ↓] theorem State.setVout_cells (s : State) (n : Nat) (b : BitVec 8) :
    (s.setVout n b).cells = s.cells := by
  simp [State.setVout]
@[simp ↓] theorem State.openWindow_cells (s : State) (n : Nat) (src : MaskSrc) : (s.openWindow n src).cells = s.cells := by
  simp [State.openWindow]
@[simp ↓] theorem State.disturb_cells (s : State) (n : Nat) : (s.disturb n).cells = s.cells := by simp [State.disturb]
@[simp ↓] theorem State.abortChar_cells (s : State) (n : Nat) : (s.abortChar n).cells = s.cells := by simp [State.abortChar]
@[simp ↓] theorem State.setLanes_cells (s : State) (n : Nat) (g : Phase → LaneCmd) : (s.setLanes n g).cells = s.cells := by
  simp [State.setLanes]
@[simp ↓] theorem State.obeyOverrides_cells (s : State) (n : Nat) :
    (s.obeyOverrides n).cells = s.cells := by
  simp [State.obeyOverrides]
@[simp ↓] theorem State.idleLanes_cells (s : State) (n : Nat) : (s.idleLanes n).cells = s.cells := by simp [State.idleLanes]
@[simp ↓] theorem State.respace_cells (s : State) (n : Nat) (old : List Nat) :
    (s.respace n old).cells = s.cells := by
  simp [State.respace]
@[simp ↓] theorem State.movePhases_cells (s : State) (n : Nat) (f : State → State) (h : ∀ s, (f s).cells = s.cells) :
    (s.movePhases n f).cells = s.cells := by
  simp [State.movePhases, h]
@[simp ↓] theorem State.movePhases_mapPhases_cells (s : State) (n : Nat) (g : State → Nat → Phase → Phase) :
    (s.movePhases n fun s => s.mapPhases (g s)).cells = s.cells :=
  State.movePhases_cells s n _ fun _ => rfl
@[simp ↓] theorem State.conLinkLost_cells (s : State) (l : Nat) : (s.conLinkLost l).cells = s.cells := by
  unfold State.conLinkLost
  split <;> simp
@[simp ↓] theorem State.faultOn_cells (s : State) (k : FaultKind) (i : Nat) (lasting : Bool) :
    (s.faultOn k i lasting).cells = s.cells := by
  simp [State.faultOn]
@[simp ↓] theorem State.yieldRecord_cells (s : State) (n : Nat) (level : Nat) (cause : Nat) (fin : Bool) :
    (s.yieldRecord n level cause fin).cells = s.cells := by
  simp [State.yieldRecord]
@[simp ↓] theorem State.endYields_cells (s : State) (n : Nat) (log : Bool) :
    (s.endYields n log).cells = s.cells := by
  simp [State.endYields]
@[simp ↓] theorem State.dropPg_cells (s : State) (n : Nat) : (s.dropPg n).cells = s.cells := by simp [State.dropPg]
@[simp ↓] theorem State.dropSamples_cells (s : State) (n : Nat) :
    (s.dropSamples n).cells = s.cells := by
  simp [State.dropSamples]
@[simp ↓] theorem State.endBurst_cells (s : State) (n : Nat) (tb4 : Nat) (hit : Bool) :
    (s.endBurst n tb4 hit).cells = s.cells := by
  simp [State.endBurst]
@[simp ↓] theorem State.tristatePhases_cells (s : State) (n : Nat) :
    (s.tristatePhases n).cells = s.cells := by
  simp [State.tristatePhases]
@[simp ↓] theorem State.latchRail_cells (s : State) (n : Nat) (cause : LatchCause) :
    (s.latchRail n cause).cells = s.cells := by
  simp [State.latchRail]
@[simp ↓] theorem State.fireBurst_cells (s : State) (n : Nat) : (s.fireBurst n).cells = s.cells := by simp [State.fireBurst]
@[simp ↓] theorem State.clampOn_cells (s : State) (n : Nat) : (s.clampOn n).cells = s.cells := by simp [State.clampOn]
@[simp ↓] theorem State.clampOff_cells (s : State) (n : Nat) : (s.clampOff n).cells = s.cells := by simp [State.clampOff]
@[simp ↓] theorem State.setTristate_cells (s : State) (n : Nat) (on : Bool) : (s.setTristate n on).cells = s.cells := by
  simp [State.setTristate]
@[simp ↓] theorem State.fastStop_cells (s : State) (n : Nat) (src : Nat) :
    (s.fastStop n src).cells = s.cells := by
  simp [State.fastStop]
@[simp ↓] theorem State.triggerTimer_cells (s : State) (k : Nat) :
    (s.triggerTimer k).cells = s.cells := by
  simp [State.triggerTimer]
@[simp ↓] theorem State.triggerCodes_cells (s : State) (codes : List Nat) : (s.triggerCodes codes).cells = s.cells := by
  simp [State.triggerCodes]
@[simp ↓] theorem State.routeRail_cells (old s : State) (rose : List Nat) (n : Nat) :
    (State.routeRail old rose s n).cells = s.cells := by
  simp [State.routeRail]
@[simp ↓] theorem State.settleHard_cells (k : Nat) (old s : State) : (State.settleHard k old s).cells = s.cells := by
  induction k generalizing old s with
  | zero => rfl
  | succ k ih =>
    unfold State.settleHard
    dsimp only
    split
    · rfl
    · rw [ih]; simp
@[simp ↓] theorem State.hardFrom_cells (old s : State) : (State.hardFrom old s).cells = s.cells :=
  State.settleHard_cells 9 old s

end Sys2Proof.Machine
end

/-! SUPPORT. The overrun of a stage of priming, and the cells that discovery does not find. -/

section
namespace Sys2Proof.Machine

/-! ### A cell number without an answer stays ABSENT -/

section Absent
variable {s t : State} {c k : Nat}

/-- Cell `c`, where it is ABSENT, is ABSENT afterwards. -/
def AbsentStays (c : Nat) (s t : State) : Prop := (s.cell c).state = .absent → (t.cell c).state = .absent

theorem AbsentStays.of_cell (h : t.cell c = s.cell c) : AbsentStays c s t := fun hs => by rw [h]; exact hs

theorem AbsentStays.of_cells (h : t.cells = s.cells) : AbsentStays c s t := .of_cell (by rw [State.cell, h, State.cell])

theorem AbsentStays.trans {u : State} (h : AbsentStays c s t) (h' : AbsentStays c t u) : AbsentStays c s u := fun hs => h' (h hs)

theorem AbsentStays.foldl {α : Type} {f : State → α → State} (h : ∀ s a, AbsentStays c s (f s a)) (l : List α) (s : State) :
    AbsentStays c s (l.foldl f s) := by
  induction l generalizing s with
  | nil => exact id
  | cons a l ih => exact (h s a).trans (ih _)

theorem AbsentStays.updCell_ne (hk : k ≠ c) (s : State) (f : Cell → Cell) : AbsentStays c s (s.updCell k f) :=
  .of_cell (State.updCell_cell_ne s k c f hk)

theorem State.dropCommands_absent (hk : k ≠ c) (s : State) : AbsentStays c s (s.dropCommands k) := by
  obtain ⟨con1, h1⟩ := s.conLoopback_eq k false
  obtain ⟨con2, h2⟩ := (s.conLoopback k false).conIdFail_eq k
  have hcon : AbsentStays c s ((s.conLoopback k false).conIdFail k) := .of_cells (by rw [h2, h1])
  unfold State.dropCommands
  exact hcon.trans ((AbsentStays.updCell_ne hk _ _).trans (.of_cells (State.updLink_cells _ _ _)))

/-- The SILENT cells of a declared link get their states back, and no other cell changes. -/
theorem State.declareLink_absent (s : State) (l cause : Nat) : AbsentStays c s (s.declareLink l cause) := by
  have hback (u : State) (k : Nat) : AbsentStays c u
      (if (u.cell k).state == .silent && u.since (u.cell k).silentAt ≤ nsTicks 25600 then
      u.updCell k fun x => { x with state := x.prior, attempt := 0 } else u) := by
    split
    · next hsilent =>
      by_cases hk : k = c
      · intro habsent
        rw [hk, habsent] at hsilent
        exact absurd hsilent (by simp)
      · exact .updCell_ne hk u _
    · exact id
  unfold State.declareLink
  split
  · exact id
  · dsimp only
    refine .trans ?_ (.of_cells (State.hardFrom_cells _ _))
    refine .trans ?_ (.of_cells (State.conLinkLost_cells _ _))
    refine .trans ?_ (.of_cells (State.record_cells _ _ _ _ _))
    refine .trans ?_ (.of_cells (State.faultOn_cells _ _ _ _))
    refine .trans ?_ (AbsentStays.foldl hback _ _)
    exact .of_cells (State.updLink_cells _ _ _)

theorem State.silenced_absent (hk : k ≠ c) (s : State) : AbsentStays c s (s.silenced k) := by
  have hmuted : AbsentStays c s (s.muted k) := (AbsentStays.updCell_ne hk s _).trans (State.dropCommands_absent hk _)
  exact hmuted.trans (.of_cell ((State.silenced_kept (φ := id) (κ := id) s k).cell c))

theorem State.silence_absent (hk : k ≠ c) (s : State) : AbsentStays c s (s.silence k) := by
  unfold State.silence
  dsimp only
  split
  · exact id
  · split
    · change AbsentStays c s (if (s.silenced k).silentCount (cellLink k) ≥ 4 then (s.silenced k).declareLink (cellLink k) 1
        else s.silenced k)
      split
      · exact (State.silenced_absent hk s).trans (State.declareLink_absent _ _ _)
      · exact State.silenced_absent hk s
    · split
      · exact (State.dropCommands_absent hk s).trans (.updCell_ne hk _ _)
      · obtain ⟨con1, h⟩ := (s.updCell k fun x => { x with configuring := false }).conIdFail_eq k
        exact (AbsentStays.updCell_ne hk s _).trans (.of_cells (by rw [h]))

theorem State.configureFound_absent (f : FoundCell) (hk : f.cell.val ≠ c) (id : BitVec 64) (s : State) :
    AbsentStays c s (s.configureFound f id) := by
  have hretries (l : List (Fin 4 × Bool)) (s : State) := AbsentStays.foldl (c := c)
    (f := fun s (r : Fin 4 × Bool) =>
      (s.updCell f.cell.val fun x => { x with retriesOk := BitVec.ofNat 8 (satAdd 255 x.retriesOk.toNat 1) }).record
        0x4001 f.cell.val (b2n r.2) ([5, 3, 2, 4].getD r.1.val 0))
    (fun s _ => (AbsentStays.updCell_ne hk s _).trans (.of_cells (State.record_cells _ _ _ _ _))) l s
  unfold State.configureFound
  dsimp only
  split
  · exact ((AbsentStays.updCell_ne hk s _).trans (hretries _ _)).trans (State.silence_absent hk _)
  · exact ((AbsentStays.updCell_ne hk s _).trans (hretries _ _)).trans (.updCell_ne hk _ _)

/-- Discovery at any cell number leaves one without an answer ABSENT. -/
theorem State.discover_absent {found : List FoundCell} (hnone : found.find? (fun f => f.cell.val == c) = none) (s : State)
    (k : Nat) :
    AbsentStays c s (State.discover found s k) := by
  unfold State.discover
  dsimp only
  split
  · split
    · exact .of_cells (State.record_cells _ _ _ _ _)
    · exact id
  · next f hfound =>
    have hcell : f.cell.val = k := by simpa using List.find?_some hfound
    have hk : k ≠ c := by
      rintro rfl
      exact Option.some_ne_none f (hfound.symm.trans hnone)
    repeat' split
    · exact .of_cells (State.record_cells _ _ _ _ _)
    · exact id
    · exact .of_cells (State.record_cells _ _ _ _ _)
    · exact .of_cells (State.record_cells _ _ _ _ _)
    · exact State.configureFound_absent f (hcell ▸ hk) _ s
    · exact (AbsentStays.updCell_ne hk s _).trans (.of_cells (State.record_cells _ _ _ _ _))

end Absent

/-! ### P5 -/

/-- The state in which P5 takes what was found: no cell has answered. -/
theorem execPrimeP5_eq {s : State} (found : List FoundCell) (h : s.inStage 5 = true) : ∃ u : State,
    u.cells = List.replicate 1024 Cell.reset ∧
    execPrimeP5 found s = complete
    (((u.forEach (List.range 1024) (State.discover found)).toStage 6).print [stageLine ['5']]) := by
  unfold execPrimeP5
  rw [if_pos h]
  extract_lets booted loaded pins driven telem cells opened powered
  refine ⟨powered, ?_, rfl⟩
  have hopened : opened.cells = cells.cells := by
    refine foldl_cells _ _ _ fun s l => ?_
    rfl
  have hpowered : powered.cells = opened.cells := foldl_cells _ _ _ fun s i => rfl
  exact hpowered.trans hopened

/-- P5 leads to P6, with every cell ABSENT that did not answer. -/
theorem primeP5_absent {s : State} (found : List FoundCell) (h : s.inStage 5 = true) : ∃ t, execPrimeP5 found s = .next t ∧
    t.boot.stage = 6 ∧ ∀ c < 1024, found.find? (fun f => f.cell.val == c) = none → (t.cell c).state = .absent := by
  obtain ⟨u, hcells, hexec⟩ := execPrimeP5_eq found h
  refine ⟨_, hexec, ?_, fun c hc hnone => ?_⟩
  · rw [State.judge_boot]
    rfl
  · have hreset : u.cell c = Cell.reset := by
      rw [State.cell, hcells]
      exact reset_cell c
    have hfound : AbsentStays c u (u.forEach (List.range 1024) (State.discover found)) :=
      .foldl (fun s k => State.discover_absent hnone s k) _ u
    rw [State.cell, State.judge_cells]
    generalize u.forEach _ _ = v at hfound
    exact hfound (by rw [hreset]; rfl)

/-! ### The overrun of a stage -/

/-- A stage that ends in the blank canvas. -/
theorem stageMaximum_rejected {s u : State} {found : List FoundCell} {cause : Nat} {line : ConLine}
    (h : execStageMaximumExceeded found s = complete ((u.rejectStage cause 0).preface [line])) :
    ∃ t, exec (.stageMaximumExceeded found) s = .next t ∧ t.boot.stage = 0xE ∧ t.boot.cause = BitVec.ofNat 4 cause := by
  obtain ⟨hboot, -⟩ := u.rejectStage_facts cause 0
  refine ⟨_, h, ?_⟩
  rw [State.judge_boot, State.preface_boot, hboot]
  exact ⟨rfl, rfl⟩

section Overrun
variable {s : State} {found : List FoundCell} (hheld : s.boot.held = false) (hsafe : s.safe.active = false)
include hheld hsafe

theorem stageMaximum_early (hstage : s.boot.stage = 0 ∨ s.boot.stage = 1) :
    ∃ t, exec (.stageMaximumExceeded found) s = .next t ∧ t.boot.held = false ∧ t.boot.stage = 0 ∧
      t.clock.time = 0 ∧ t.rails = State.reset.rails ∧ t.varnish = s.varnish := by
  have hexec : execStageMaximumExceeded found s = complete { s.powerOn s.boot.resetCause.toNat with
      boot := { (s.powerOn s.boot.resetCause.toNat).boot with held := false } } := by
    rcases hstage with h | h
    · simp [execStageMaximumExceeded, hheld, hsafe, h]
    · simp [execStageMaximumExceeded, hheld, hsafe, h]
  refine ⟨_, hexec, ?_⟩
  rw [State.judge_boot, State.judge_clock, State.judge_rails, State.judge_varnish]
  exact ⟨rfl, rfl, rfl, rfl, rfl⟩

/-- P3 as its overrun finds it: the mark of slot A is known. -/
def State.markSeen (s : State) : State := { s with boot := { s.boot with aSuperseded := s.markA } }

/-- The slot in hand fails; with none left P3 ends in the blank canvas. -/
theorem stageMaximum_slot (hstage : s.boot.stage = 3) {slotB : Bool} (hnext : s.markSeen.nextSlot s.markA = some slotB) :
    ∃ (v : State) (line : List ConLine), v.provision = ⟨s.fuses, s.markSeen.boot.slotFailed slotB (1, 0)⟩ ∧
      exec (.stageMaximumExceeded found) s =
        if (v.nextSlot s.markA).isNone then complete ((v.enterBlank 1 0).preface line) else complete (v.print line) := by
  refine ⟨s.markSeen.failSlot slotB (s.markSeen.slotReader slotB) (1, 0),
    s.markSeen.skipLine s.markA false ++ [slotLine slotB false],
    State.failSlot_provision _ _ _ _, ?_⟩
  change execStageMaximumExceeded found s = _
  have hthree : s.boot.stage.toNat = 3 := congrArg BitVec.toNat hstage
  unfold execStageMaximumExceeded
  rw [if_neg (by simp [hheld, hsafe]), hthree]
  change (match s.markSeen.nextSlot s.markA with | some b => _ | none => _) = _
  rw [hnext]
  rfl

/-- The first slot has no answer in time: slot B is left. -/
theorem stageMaximum_slotA (hstage : s.boot.stage = 3) (hA : s.boot.aFail = false) (hB : s.boot.bFail = false)
    (hmark : s.markA = false) : ∃ t, exec (.stageMaximumExceeded found) s = .next t ∧ t.boot.stage = 3 ∧ t.boot.aFail = true ∧
      t.boot.bFail = false ∧ t.boot.cause = 1 := by
  have hnext : s.markSeen.nextSlot s.markA = some false := by simp [State.nextSlot, State.markSeen, hA, hmark]
  obtain ⟨v, line, hprov, hexec⟩ := stageMaximum_slot (found := found) hheld hsafe hstage hnext
  have hvA : v.boot.aFail = true := (congrArg (fun p : Provision => p.boot.aFail) hprov).trans (Bool.or_true _)
  have hvB : v.boot.bFail = false := (congrArg (fun p : Provision => p.boot.bFail) hprov).trans ((Bool.or_false _).trans hB)
  have hleft : (v.nextSlot s.markA).isNone = false := by simp [State.nextSlot, hvA, hvB]
  refine ⟨_, hexec.trans (if_neg (by simp [hleft])), ?_⟩
  rw [State.judge_boot]
  exact ⟨(congrArg (fun p : Provision => p.boot.stage) hprov).trans hstage, hvA, hvB,
    congrArg (fun p : Provision => p.boot.cause) hprov⟩

/-- The last slot has no answer in time. -/
theorem stageMaximum_slotB (hstage : s.boot.stage = 3) (hA : s.boot.aFail = true) (hB : s.boot.bFail = false) :
    ∃ t, exec (.stageMaximumExceeded found) s = .next t ∧ t.boot.stage = 0xE ∧ t.boot.cause = 1 ∧ t.boot.imageLoaded = false := by
  have hnext : s.markSeen.nextSlot s.markA = some true := by simp [State.nextSlot, State.markSeen, hA, hB]
  obtain ⟨v, line, hprov, hexec⟩ := stageMaximum_slot (found := found) hheld hsafe hstage hnext
  have hvA : v.boot.aFail = true := (congrArg (fun p : Provision => p.boot.aFail) hprov).trans ((Bool.or_false _).trans hA)
  have hvB : v.boot.bFail = true := (congrArg (fun p : Provision => p.boot.bFail) hprov).trans (Bool.or_true _)
  obtain ⟨hboot, -⟩ := v.enterBlank_facts 1 0
  refine ⟨_, hexec.trans (if_pos (by simp [State.nextSlot, hvA, hvB])), ?_⟩
  rw [State.judge_boot, State.preface_boot, hboot]
  exact ⟨rfl, rfl, rfl⟩

end Overrun

/-- Settles O15, stage by stage. -/
theorem stageMaximumOutcomes : Obligations.StageMaximumOutcomes := by
  intro s found hheld hsafe
  refine ⟨stageMaximum_early hheld hsafe,
    fun h => stageMaximum_rejected (u := s.openStore) (cause := 0xD) (line := stageLine ['2']) ?_,
    stageMaximum_slotA hheld hsafe, stageMaximum_slotB hheld hsafe,
    fun h => stageMaximum_rejected (u := s) (cause := 9) (line := stageLine ['4']) ?_, fun h => ?_,
    fun h => stageMaximum_rejected (u := s) (cause := 0xB) (line := stageLine ['6']) ?_, fun h => ?_⟩
  · simp [execStageMaximumExceeded, hheld, hsafe, h]
  · simp [execStageMaximumExceeded, hheld, hsafe, h]
  · obtain ⟨t, hexec, hend, habsent⟩ := primeP5_absent found (State.inStage_of hheld hsafe h)
    have hcut : exec (.stageMaximumExceeded found) s = execPrimeP5 found s := by
      change execStageMaximumExceeded found s = _
      simp [execStageMaximumExceeded, hheld, hsafe, h]
    exact ⟨t, hcut.trans hexec, hexec, hend, habsent⟩
  · simp [execStageMaximumExceeded, hheld, hsafe, h]
  · have hexec : exec (.stageMaximumExceeded found) s = complete s := by
      change execStageMaximumExceeded found s = _
      simp [execStageMaximumExceeded, hheld, hsafe, h]
    rw [hexec]
    exact complete_onlyNoted s

end Sys2Proof.Machine
end

/-! SUPPORT. P6: which test fails, and what the tests leave alone. -/

section
namespace Sys2Proof.Machine

/-! ### Masks and the enabled rails -/

theorem maskOf_succ (n : Nat) (p : Nat → Bool) : maskOf (n + 1) p = maskOf n p + if p n then 2 ^ n else 0 := by
  unfold maskOf indices
  rw [List.range_succ, List.filter_append, List.foldl_append]
  cases h : p n <;> simp [h]

theorem maskOf_lt (n : Nat) (p : Nat → Bool) : maskOf n p < 2 ^ n := by
  induction n with
  | zero => simp [maskOf, indices]
  | succ n ih =>
    rw [maskOf_succ, Nat.pow_succ]
    split <;> omega

/-- Bit `i` of a mask. -/
theorem maskOf_testBit (n : Nat) (p : Nat → Bool) (i : Nat) : (maskOf n p).testBit i = (decide (i < n) && p i) := by
  induction n with
  | zero => simp [maskOf, indices]
  | succ n ih =>
    rw [maskOf_succ]
    rcases Nat.lt_trichotomy i n with h | h | h
    · have hi : i < n + 1 := by omega
      split
      · rw [Nat.add_comm, Nat.testBit_two_pow_add_gt h, ih]
        simp [h, hi]
      · rw [Nat.add_zero, ih]
        simp [h, hi]
    · subst h
      split
      · next hp => rw [Nat.add_comm, Nat.testBit_two_pow_add_eq, ih]; simp [hp]
      · next hp => rw [Nat.add_zero, ih]; simp [hp]
    · have hlt : maskOf n p + (if p n then 2 ^ n else 0) < 2 ^ i := by
        have := maskOf_lt (n + 1) p
        rw [maskOf_succ] at this
        exact this.trans_le (Nat.pow_le_pow_right (by decide) h)
      rw [Nat.testBit_lt_two_pow hlt]
      simp
      omega

theorem getLsbD_maskOf {w : Nat} (p : Nat → Bool) {n : Nat} (hn : n < w) : (BitVec.ofNat w (maskOf w p)).getLsbD n = p n := by
  rw [BitVec.getLsbD_ofNat, maskOf_testBit]
  simp [hn]

theorem State.mem_enabledRails {s : State} {n : Nat} : n ∈ s.enabledRails ↔ n < 16 ∧ s.railEn n = true := by
  simp [State.enabledRails, indices]

/-- The first of the enabled rails with a property is the lowest. -/
theorem State.find_enabledRails {s : State} {q : Nat → Bool} {n : Nat} (hn : n < 16) (hen : s.railEn n = true) (hq : q n = true)
    (hlow : ∀ k < n, s.railEn k = true → q k = false) : s.enabledRails.find? q = some n := by
  unfold State.enabledRails indices
  rw [List.find?_filter, List.find?_range_eq_some]
  refine ⟨by simp [hen, hq], List.mem_range.2 hn, fun k hk => ?_⟩
  cases hk' : s.railEn k with
  | false => simp
  | true => simp [hlow k hk hk']

theorem State.find_enabledRails_none {s : State} {q : Nat → Bool} (h : ∀ n < 16, s.railEn n = true → q n = false) :
    s.enabledRails.find? q = none := by
  rw [List.find?_eq_none]
  intro n hn
  obtain ⟨hlt, hen⟩ := State.mem_enabledRails.1 hn
  simp [h n hlt hen]

/-! ### The tests of P6 -/

/-- What an image configures reads the shadow, and whether an image is loaded. -/
theorem State.railEn_congr {s t : State} (hshadow : t.shadow = s.shadow) (hloaded : t.boot.imageLoaded = s.boot.imageLoaded) :
    t.railEn = s.railEn := by
  funext n
  simp only [State.railEn, State.railEnBit, State.cfgField, State.cfgWord, State.cfg, hshadow, hloaded]

theorem State.pairPowered_congr {s t : State} (hshadow : t.shadow = s.shadow) (hboot : t.boot = s.boot) :
    t.pairPowered = s.pairPowered := by
  funext i
  simp only [State.pairPowered, State.seqLen, State.seqEntry, State.cfgWord, State.cfg, hshadow, hboot]
  rfl

theorem State.selfTested_kept (s : State) (r : SelfTest) :
    (s.selfTested r).shadow = s.shadow ∧ (s.selfTested r).boot = s.boot := by
  have hprov : (s.selfTested r).provision = s.provision :=
    (State.forEach_provision _ _ _ fun s i => s.primePair_provision r i).trans
      (foldl_provision _ _ _ fun s x => s.primeComp_provision x)
  exact ⟨(s.selfTested_within (w := ⟨false, false, false, false, false⟩) r).shadow rfl, State.boot_of_provision hprov⟩

/-- The tests change nothing that their judgement reads. -/
theorem State.selfTested_selfTestFail (s : State) (r : SelfTest) : (s.selfTested r).selfTestFail r = s.selfTestFail r := by
  obtain ⟨hshadow, hboot⟩ := s.selfTested_kept r
  simp only [State.selfTestFail, State.enabledRails, State.railEn_congr hshadow (congrArg Boot.imageLoaded hboot),
    State.pairPowered_congr hshadow hboot]
  rfl

/-- A property that one element of a list brings, and that every element keeps, holds at the end. The element brings it where a
weaker property holds, which every element keeps. -/
theorem foldl_brings {α σ : Type} {f : σ → α → σ} {T P : σ → Prop} (hready : ∀ s a, T s → T (f s a))
    (hkeep : ∀ s a, P s → P (f s a)) {a : α} (hset : ∀ s, T s → P (f s a)) {l : List α} (ha : a ∈ l) (s : σ) (hs : T s) :
    P (l.foldl f s) := by
  have hkept : ∀ (l : List α) (s : σ), P s → P (l.foldl f s) := by
    intro l
    induction l with
    | nil => exact fun s hs => hs
    | cons b l ih => exact fun s hs => ih _ (hkeep s b hs)
  induction l generalizing s with
  | nil => exact absurd ha List.not_mem_nil
  | cons b l ih =>
    rcases List.mem_cons.1 ha with rfl | hl
    · exact hkept l _ (hset s hs)
    · exact ih hl _ (hready s b hs)

@[simp] theorem State.useConverter_pm (s : State) (i : Nat) (isB : Bool) : (s.useConverter i isB).pm = s.pm := by
  unfold State.useConverter
  split <;> rfl

/-- STATUS_CML[0]: a memory or converter fault is reported (Table 15.4). -/
def State.cmlSet (s : State) : Prop := s.pm.stCml.getLsbD 0 = true

theorem State.setCml_cmlSet (s : State) : (s.setCml 1).cmlSet := by
  simp [State.cmlSet, State.setCml]

theorem State.cmlSet_of_pm {s t : State} (h : t.pm = s.pm) : t.cmlSet ↔ s.cmlSet := by
  rw [State.cmlSet, h, State.cmlSet]

/-- STATUS_CML[0] stands once it is set. -/
theorem State.primePair_keeps_cml (r : SelfTest) (s : State) (i : Nat) (h : s.cmlSet) : (State.primePair r s i).cmlSet := by
  unfold State.primePair
  dsimp only
  repeat' split
  · exact (State.cmlSet_of_pm (by simp)).2 h
  · exact (State.cmlSet_of_pm (by simp)).2 h
  · exact (State.cmlSet_of_pm (by simp)).2 h
  · rw [State.cmlSet_of_pm (State.record_pm _ _ _ _ _)]
    exact State.setCml_cmlSet _

/-- A pair with no good converter sets STATUS_CML[0] (R336). -/
theorem State.primePair_sets_cml {r : SelfTest} {i : Nat} (hA : r.convA.getLsbD i = true) (hB : r.convB.getLsbD i = true)
    (s : State) :
    (State.primePair r s i).cmlSet := by
  unfold State.primePair
  simp only [hA, hB, Bool.not_true, Bool.and_false, Bool.false_eq_true, if_false]
  rw [State.cmlSet_of_pm (State.record_pm _ _ _ _ _)]
  exact State.setCml_cmlSet _

theorem State.selfTested_sets_cml {s : State} {r : SelfTest} {i : Nat} (hi : i < 4) (hpower : s.pairPowered i = true)
    (hA : r.convA.getLsbD i = true) (hB : r.convB.getLsbD i = true) : (s.selfTested r).cmlSet := by
  unfold State.selfTested
  dsimp only
  have hcold : (((r.comps.filter fun x => s.compUsed x.1).foldl State.primeComp s)).cold = s.cold :=
    foldl_cold _ _ _ fun s x => s.primeComp_cold x
  have hprov : (((r.comps.filter fun x => s.compUsed x.1).foldl State.primeComp s)).provision = s.provision :=
    foldl_provision _ _ _ fun s x => s.primeComp_provision x
  rw [State.pairPowered_congr (congrArg Cold.shadow hcold) (State.boot_of_provision hprov)]
  exact foldl_brings (T := fun _ => True) (fun _ _ h => h) (State.primePair_keeps_cml r)
    (fun s _ => State.primePair_sets_cml hA hB s)
    (List.mem_filter.2 ⟨List.mem_range.2 hi, hpower⟩) _ trivial

theorem State.enterBlank_pm (s : State) (cause detail : Nat) : (s.enterBlank cause detail).pm = s.pm := by
  unfold State.enterBlank
  extract_lets b pins cleared loaded running ready
  obtain ⟨rm1, hm1, hwd⟩ := running.autoWatchdogs_eq
  obtain ⟨con1, hlock⟩ := running.autoWatchdogs.restartLockout_eq
  change ready.pm = _
  rw [show ready = _ from hlock, hwd]
  rfl

theorem State.rejectStage_pm (s : State) (cause detail : Nat) : (s.rejectStage cause detail).pm = s.pm :=
  (State.enterBlank_pm _ _ _).trans (State.record_pm _ _ _ _ _)

/-! ### Which test fails -/

section Fails
variable {s : State} {r : SelfTest} {n : Nat}

/-- Both senses of every enabled rail pass their known-level tests. -/
def State.sensesPass (s : State) (r : SelfTest) : Prop :=
  ∀ n < 16, s.railEn n = true → sensePasses r.senses n false = true ∧ sensePasses r.senses n true = true
/-- Every comparator of an enabled rail passes its test or the repeat. -/
def State.compsPass (s : State) (r : SelfTest) : Prop :=
  ∀ n < 16, s.railEn n = true → ∀ k < 4, compFails r (4 * n + k) = false

theorem State.find_sense (h : s.sensesPass r) :
    (s.enabledRails.find? fun n => !sensePasses r.senses n false || !sensePasses r.senses n true) = none :=
  State.find_enabledRails_none fun n hn hen => by simp [h n hn hen]

theorem State.find_comp (h : s.compsPass r) :
    (s.enabledRails.find? fun n => (List.range 4).any fun k => compFails r (4 * n + k)) = none := by
  refine State.find_enabledRails_none fun n hn hen => ?_
  rw [List.any_eq_false]
  intro k hk
  simp [h n hn hen k (List.mem_range.1 hk)]

theorem State.selfTestFail_sense (hn : n < 16) (hen : s.railEn n = true)
    (hbad : sensePasses r.senses n false = false ∨ sensePasses r.senses n true = false)
    (hlow : ∀ k < n, s.railEn k = true → sensePasses r.senses k false = true ∧ sensePasses r.senses k true = true) :
    s.selfTestFail r = some n := by
  unfold State.selfTestFail
  rw [State.find_enabledRails hn hen (by rcases hbad with h | h <;> simp [h]) fun k hk hek => by simp [hlow k hk hek]]

theorem State.selfTestFail_comp (hsense : s.sensesPass r) (hn : n < 16) (hen : s.railEn n = true)
    (hbad : ∃ k < 4, compFails r (4 * n + k) = true)
    (hlow : ∀ j < n, s.railEn j = true → ∀ k < 4, compFails r (4 * j + k) = false) :
    s.selfTestFail r = some n := by
  have hfind : (s.enabledRails.find? fun n => (List.range 4).any fun k => compFails r (4 * n + k)) = some n := by
    obtain ⟨k, hk, hfail⟩ := hbad
    refine State.find_enabledRails hn hen (List.any_eq_true.2 ⟨k, List.mem_range.2 hk, hfail⟩) fun j hj hej => ?_
    rw [List.any_eq_false]
    intro k hk
    simp [hlow j hj hej k (List.mem_range.1 hk)]
  unfold State.selfTestFail
  rw [State.find_sense hsense]
  dsimp only
  rw [hfind]

/-- With every sense and every comparator of a rail good, the input's comparators and the converter pairs decide. -/
theorem State.selfTestFail_input (hsense : s.sensesPass r) (hcomp : s.compsPass r) : s.selfTestFail r =
    if !s.enabledRails.isEmpty && compFails r 64 && compFails r 65 then some 0xE0
    else if !s.enabledRails.isEmpty && compFails r 66 && compFails r 67 then some 0xE1
    else ((List.range 4).find? fun i => s.pairPowered i && r.convA.getLsbD i && r.convB.getLsbD i).map (0xF0 + ·) := by
  unfold State.selfTestFail
  rw [State.find_sense hsense]
  dsimp only
  rw [State.find_comp hcomp]

theorem State.selfTestFail_uv (hsense : s.sensesPass r) (hcomp : s.compsPass r) (hany : s.enabledRails ≠ [])
    (hA : compFails r 64 = true) (hB : compFails r 65 = true) : s.selfTestFail r = some 0xE0 := by
  simp [State.selfTestFail_input hsense hcomp, hany, hA, hB]

theorem State.selfTestFail_ov (hsense : s.sensesPass r) (hcomp : s.compsPass r) (hany : s.enabledRails ≠ [])
    (huv : (compFails r 64 && compFails r 65) = false) (hA : compFails r 66 = true) (hB : compFails r 67 = true) :
    s.selfTestFail r = some 0xE1 := by
  rw [State.selfTestFail_input hsense hcomp, Bool.and_assoc, huv]
  simp [hany, hA, hB]

theorem State.selfTestFail_pair (hsense : s.sensesPass r) (hcomp : s.compsPass r)
    (huv : (compFails r 64 && compFails r 65) = false) (hov : (compFails r 66 && compFails r 67) = false) {i : Nat} (hi : i < 4)
    (hpower : s.pairPowered i = true) (hA : r.convA.getLsbD i = true) (hB : r.convB.getLsbD i = true)
    (hlow : ∀ j < i, s.pairPowered j = true → (r.convA.getLsbD j && r.convB.getLsbD j) = false) :
    s.selfTestFail r = some (0xF0 + i) := by
  have hfind : ((List.range 4).find? fun i => s.pairPowered i && r.convA.getLsbD i && r.convB.getLsbD i) = some i := by
    rw [List.find?_range_eq_some]
    refine ⟨by simp [hpower, hA, hB], List.mem_range.2 hi, fun j hj => ?_⟩
    cases hj' : s.pairPowered j with
    | false => simp
    | true => rw [Bool.true_and, hlow j hj hj']; rfl
  rw [State.selfTestFail_input hsense hcomp, Bool.and_assoc, huv, Bool.and_assoc, hov, hfind]
  simp

theorem State.selfTestFail_none (hsense : s.sensesPass r) (hcomps : r.comps = []) (hconvA : r.convA = 0) :
    s.selfTestFail r = none := by
  have hnone (m : Nat) : compFails r m = false := by simp [compFails, hcomps]
  rw [State.selfTestFail_input hsense fun n _ _ k _ => hnone _]
  simp [hnone, hconvA]

end Fails

/-! ### No failed test -/

/-- Other converters and another recorder. -/
def State.withReadings (s : State) (x : Telem × Recorder) : State := { s with telem := x.1, sketch := x.2 }

/-- A pair with two good converters: its arbitration ends, and the outcome is recorded. -/
theorem State.primePair_good {r : SelfTest} (hconvA : r.convA = 0) (hconvB : r.convB = 0) (s : State) (i : Nat) :
    ∃ x, State.primePair r s i = s.withReadings x := by
  unfold State.primePair
  simp only [hconvA, hconvB, BitVec.ofNat_eq_ofNat, BitVec.getLsbD_zero, Bool.not_false, Bool.and_self, if_true]
  rw [State.record_sketch_only]
  exact ⟨(_, _), rfl⟩

theorem State.selfTested_good {r : SelfTest} (hcomps : r.comps = []) (hconvA : r.convA = 0) (hconvB : r.convB = 0) (s : State) :
    ∃ x, s.selfTested r = s.withReadings x := by
  have hfold : ∀ (l : List Nat) (s : State), ∃ x, l.foldl (State.primePair r) s = s.withReadings x := by
    intro l
    induction l with
    | nil => exact fun s => ⟨(s.telem, s.sketch), rfl⟩
    | cons i l ih =>
      intro s
      obtain ⟨x, hx⟩ := State.primePair_good hconvA hconvB s i
      obtain ⟨y, hy⟩ := ih (s.withReadings x)
      exact ⟨y, by rw [List.foldl_cons, hx, hy]; rfl⟩
  unfold State.selfTested
  rw [hcomps]
  exact hfold _ s

/-- The boot swatch of every port. -/
def State.bootPorts (s : State) : State :=
  { s with ports := s.ports.mapIdx fun p x => { x with
    boot := true, swatch := BitVec.ofNat 6 (s.bootSwatch p), actBank := false } }
/-- The boot set-point and the host registers of rail `n`. -/
def State.bootRail (s : State) (n : Nat) : State :=
  let s := s.updCore n fun c => { c with
    target := s.clampTarget n (s.sourceTarget n).1, base := (s.sourceTarget n).1, baseClass := (s.sourceTarget n).2,
    govClass := (s.sourceTarget n).2, rll := s.rllCfg n }
  let margins (h : RailHost) : RailHost :=
    { h with marginHigh := BitVec.ofNat 16 (s.envMax n), marginLow := BitVec.ofNat 16 (s.envMin n) }
  let s := (s.updHost n margins).updHosted n margins
  s.updModel n fun m => { m with rpathEff := BitVec.ofNat 16 (s.rpath n) }

theorem State.bootRails_eq (s : State) : s.bootRails = s.enabledRails.foldl State.bootRail s.bootPorts := rfl

theorem State.bootRail_withReadings (s : State) (x : Telem × Recorder) (n : Nat) :
    (s.withReadings x).bootRail n = (s.bootRail n).withReadings x := rfl

/-- The boot set-points do not read the converters. -/
theorem State.bootRails_withReadings (s : State) (x : Telem × Recorder) :
    (s.withReadings x).bootRails = s.bootRails.withReadings x := by
  have hfold : ∀ (l : List Nat) (s : State), l.foldl State.bootRail (s.withReadings x) =
      (l.foldl State.bootRail s).withReadings x := by
    intro l
    induction l with
    | nil => exact fun _ => rfl
    | cons n l ih =>
      intro s
      rw [List.foldl_cons, State.bootRail_withReadings, ih, List.foldl_cons]
  rw [State.bootRails_eq, State.bootRails_eq]
  exact hfold s.enabledRails s.bootPorts

theorem State.nodeHigh_withReadings (s : State) (x : Telem × Recorder) (r : SelfTest) :
    (s.withReadings x).nodeHigh r = s.nodeHigh r := by
  funext n
  unfold State.nodeHigh
  rw [State.bootRails_withReadings]
  rfl

/-- What P6 keeps of the rails whose nodes are too high (R76). -/
theorem State.ovMarked_facts (s : State) (r : SelfTest) : (s.ovMarked r).shadow = s.shadow ∧ (s.ovMarked r).phases = s.phases ∧
    (s.ovMarked r).boot.ovNodes = BitVec.ofNat 16 (maskOf 16 fun n => (s.highNodes r).contains n) ∧
    ∀ n, (s.highNodes r).head? = some n → (s.ovMarked r).boot.cause = 0xC ∧ (s.ovMarked r).boot.detail = BitVec.ofNat 8 n := by
  unfold State.ovMarked
  dsimp only
  split
  · next n hn => exact ⟨rfl, rfl, rfl, fun m hm => by rw [hn] at hm; cases hm; exact ⟨rfl, rfl⟩⟩
  · next hn => exact ⟨rfl, rfl, rfl, fun m hm => by rw [hn] at hm; cases hm⟩

section P6
variable {s : State} (hheld : s.boot.held = false) (hsafe : s.safe.active = false) (hstage : s.boot.stage = 6) {r : SelfTest}
include hheld hsafe hstage

/-- A failed test ends in the blank canvas. -/
theorem primeP6_rejects {d : Nat} (hfail : s.selfTestFail r = some d) : ∃ t, exec (.primeP6 r) s = .next t ∧
    t.boot.stage = 0xE ∧ t.boot.cause = 0xB ∧ t.boot.detail = BitVec.ofNat 8 d ∧ t.pins.lanesEnabled = false ∧
    t.pm = (s.selfTested r).pm := by
  have hexec := execPrimeP6_eq r s (State.inStage_of hheld hsafe hstage)
  rw [s.selfTested_selfTestFail r, hfail] at hexec
  obtain ⟨hboot, hlanes, -⟩ := (s.selfTested r).rejectStage_facts 0xB d
  refine ⟨_, hexec, ?_⟩
  rw [State.judge_boot, State.judge_pins, State.judge_pm, State.preface_boot, State.preface_pins, hboot]
  exact ⟨rfl, rfl, rfl, hlanes, State.rejectStage_pm _ _ _⟩

/-- With no failed test P7 begins, and the rails whose nodes are too high are kept. -/
theorem primeP6_passes (hcomps : r.comps = []) (hconvA : r.convA = 0) (hconvB : r.convB = 0) (hsense : s.sensesPass r) :
    ∃ t, exec (.primeP6 r) s = .next t ∧ t.boot.stage = 7 ∧ t.shadow = s.shadow ∧ t.phases = s.phases ∧
      (∀ n < 16, t.boot.ovNodes.getLsbD n = (s.railEn n && s.nodeHigh r n)) ∧
      (∀ n < 16, s.railEn n = true → s.nodeHigh r n = true → (∀ k < n, s.railEn k = true → s.nodeHigh r k = false) →
        t.boot.cause = 0xC ∧ t.boot.detail = BitVec.ofNat 8 n) := by
  have hexec := execPrimeP6_eq r s (State.inStage_of hheld hsafe hstage)
  rw [s.selfTested_selfTestFail r, State.selfTestFail_none hsense hcomps hconvA] at hexec
  obtain ⟨x, hx⟩ := State.selfTested_good hcomps hconvA hconvB s
  rw [hx] at hexec
  have hhigh : (s.withReadings x).highNodes r = s.enabledRails.filter (s.nodeHigh r) := by
    rw [State.highNodes, State.nodeHigh_withReadings]
    rfl
  obtain ⟨hshadow, hphases, hnodes, hlowest⟩ := (s.withReadings x).ovMarked_facts r
  rw [hhigh] at hnodes hlowest
  refine ⟨_, hexec, ?_⟩
  rw [State.judge_boot, State.judge_shadow, State.judge_phases]
  refine ⟨rfl, hshadow, hphases, fun n hn => ?_, fun n hn hen hover hlow => hlowest n ?_⟩
  · refine (congrArg (·.getLsbD n) hnodes).trans ((getLsbD_maskOf _ hn).trans ?_)
    rw [Bool.eq_iff_iff, List.contains_iff_mem, List.mem_filter, State.mem_enabledRails, Bool.and_eq_true]
    simp [hn]
  · rw [List.head?_filter]
    exact State.find_enabledRails hn hen hover hlow

end P6

end Sys2Proof.Machine
end

/-! SUPPORT. STATUS_VOUT: the operations that leave it alone. -/

section
namespace Sys2Proof.Machine

/-! ### STATUS_VOUT -/

/-- STATUS_VOUT of every rail. -/
def State.voutBits (s : State) : List (BitVec 8) := s.pm.stVout

/-- New values of other fields leave these alone. -/
@[simp ↓] theorem voutBits_mk (s : State)
    (clock' : _) (pins' : _) (boot' : _) (varnish' : _) (fuses' : _) (ident' : _) (rom' : _) (flash' : _)
    (shadow' : _) (wetHeld' : _) (palette' : _) (ports' : _) (rails' : _) (phases' : _) (cells' : _) (links' : _)
    (comps' : _) (timers' : _) (router' : _) (input' : _) (telem' : _) (app' : _) (cross' : _) (rm' : _) (hm' : _)
    (ret' : _) (safe' : _) (dump' : _) (sketch' : _) (work' : _) (mail' : _) (bus' : _) (con' : _) (tap' : _)
    (ecc' : _) (free' : _) (pending' : _) :
    State.voutBits (State.mk
      clock' pins' boot' varnish' fuses' ident' rom' flash' shadow' wetHeld' palette' ports' rails' phases' cells'
      links' comps' timers' router' input' telem' app' cross' rm' hm' ret' safe' dump' sketch' work' mail' bus' s.pm
      con' tap' ecc' free' pending') =
      s.voutBits := rfl

@[simp ↓] theorem voutBits_ite (c : Prop) [Decidable c] (a b : State) :
    (if c then a else b).voutBits = if c then a.voutBits else b.voutBits := apply_ite State.voutBits c a b

/-- A fold whose step leaves these alone does so too. -/
theorem foldl_voutBits {α : Type} (l : List α) (f : State → α → State) (s : State)
    (h : ∀ s a, (f s a).voutBits = s.voutBits) : (l.foldl f s).voutBits = s.voutBits := by
  induction l generalizing s with
  | nil => rfl
  | cons a l ih => rw [List.foldl_cons, ih, h]

@[simp ↓] theorem State.updRail_voutBits (s : State) (n : Nat) (f : Rail → Rail) :
    (s.updRail n f).voutBits = s.voutBits := by
  simp [State.updRail]
@[simp ↓] theorem State.mapRails_voutBits (s : State) (f : Nat → Rail → Rail) :
    (s.mapRails f).voutBits = s.voutBits := by
  simp [State.mapRails]
@[simp ↓] theorem State.updPhase_voutBits (s : State) (p : Nat) (f : Phase → Phase) : (s.updPhase p f).voutBits = s.voutBits := by
  simp [State.updPhase]
@[simp ↓] theorem State.mapPhases_voutBits (s : State) (f : Nat → Phase → Phase) :
    (s.mapPhases f).voutBits = s.voutBits := by
  simp [State.mapPhases]
@[simp ↓] theorem State.updCell_voutBits (s : State) (c : Nat) (f : Cell → Cell) :
    (s.updCell c f).voutBits = s.voutBits := by
  simp [State.updCell]
@[simp ↓] theorem State.updLink_voutBits (s : State) (l : Nat) (f : Link → Link) :
    (s.updLink l f).voutBits = s.voutBits := by
  simp [State.updLink]
@[simp ↓] theorem State.updComp_voutBits (s : State) (m : Nat) (f : Comp → Comp) :
    (s.updComp m f).voutBits = s.voutBits := by
  simp [State.updComp]
@[simp ↓] theorem State.mapComps_voutBits (s : State) (f : Nat → Comp → Comp) :
    (s.mapComps f).voutBits = s.voutBits := by
  simp [State.mapComps]
@[simp ↓] theorem State.updPort_voutBits (s : State) (p : Nat) (f : Port → Port) :
    (s.updPort p f).voutBits = s.voutBits := by
  simp [State.updPort]
@[simp ↓] theorem State.updCore_voutBits (s : State) (n : Nat) (f : RailCore → RailCore) :
    (s.updCore n f).voutBits = s.voutBits := by
  simp [State.updCore]
@[simp ↓] theorem State.updHost_voutBits (s : State) (n : Nat) (f : RailHost → RailHost) :
    (s.updHost n f).voutBits = s.voutBits := by
  simp [State.updHost]
@[simp ↓] theorem State.updHosted_voutBits (s : State) (n : Nat) (f : RailHost → RailHost) :
    (s.updHosted n f).voutBits = s.voutBits := by
  simp [State.updHosted]
@[simp ↓] theorem State.updSense_voutBits (s : State) (n : Nat) (f : RailSense → RailSense) :
    (s.updSense n f).voutBits = s.voutBits := by
  simp [State.updSense]
@[simp ↓] theorem State.updModel_voutBits (s : State) (n : Nat) (f : RailModel → RailModel) :
    (s.updModel n f).voutBits = s.voutBits := by
  simp [State.updModel]
@[simp ↓] theorem State.updLe_voutBits (s : State) (n : Nat) (f : LoopEngine → LoopEngine) :
    (s.updLe n f).voutBits = s.voutBits := by
  simp [State.updLe]
@[simp ↓] theorem State.updBs_voutBits (s : State) (n : Nat) (f : Backstop → Backstop) :
    (s.updBs n f).voutBits = s.voutBits := by
  simp [State.updBs]
@[simp ↓] theorem State.updProt_voutBits (s : State) (n : Nat) (f : RailProt → RailProt) :
    (s.updProt n f).voutBits = s.voutBits := by
  simp [State.updProt]
@[simp ↓] theorem State.updPol_voutBits (s : State) (n : Nat) (f : RailPolicy → RailPolicy) :
    (s.updPol n f).voutBits = s.voutBits := by
  simp [State.updPol]
@[simp ↓] theorem State.freeNat_voutBits (s : State) : (State.freeNat s).2.voutBits = s.voutBits := by simp [State.freeNat]
@[simp ↓] theorem State.forEach_voutBits (s : State) (l : List Nat) (f : State → Nat → State)
    (h : ∀ s a, (f s a).voutBits = s.voutBits) :
    (s.forEach l f).voutBits = s.voutBits := foldl_voutBits l f s h
@[simp ↓] theorem State.when_voutBits (s : State) (c : Bool) (f : State → State) (h : ∀ s, (f s).voutBits = s.voutBits) :
    (s.when c f).voutBits = s.voutBits := by
  unfold State.when; split <;> simp [h]
@[simp ↓] theorem State.record_voutBits (s : State) (code : Nat) (src : Nat) (p0 : Nat) (p1 : Nat) :
    (s.record code src p0 p1).voutBits = s.voutBits := by
  simp [State.record]
@[simp ↓] theorem State.print_voutBits (s : State) (l : List ConLine) : (s.print l).voutBits = s.voutBits := by simp [State.print]
@[simp ↓] theorem State.conEnd_voutBits (s : State) (l : List ConLine) :
    (s.conEnd l).voutBits = s.voutBits := by simp [State.conEnd]
@[simp ↓] theorem State.conWait_voutBits (s : State) (w : ConWait) :
    (s.conWait w).voutBits = s.voutBits := by simp [State.conWait]
@[simp ↓] theorem State.setOther_voutBits (s : State) (n : Nat) : (s.setOther n).voutBits = s.voutBits := rfl
@[simp ↓] theorem State.openWindow_voutBits (s : State) (n : Nat) (src : MaskSrc) :
    (s.openWindow n src).voutBits = s.voutBits := by
  simp [State.openWindow]
@[simp ↓] theorem State.disturb_voutBits (s : State) (n : Nat) : (s.disturb n).voutBits = s.voutBits := by simp [State.disturb]
@[simp ↓] theorem State.abortChar_voutBits (s : State) (n : Nat) :
    (s.abortChar n).voutBits = s.voutBits := by simp [State.abortChar]
@[simp ↓] theorem State.setLanes_voutBits (s : State) (n : Nat) (g : Phase → LaneCmd) :
    (s.setLanes n g).voutBits = s.voutBits := by
  simp [State.setLanes]
@[simp ↓] theorem State.idleLane_voutBits (s : State) (n p : Nat) :
    (s.idleLane n p).voutBits = s.voutBits := by simp [State.idleLane]
@[simp ↓] theorem State.obeyOverrides_voutBits (s : State) (n : Nat) :
    (s.obeyOverrides n).voutBits = s.voutBits := by
  simp [State.obeyOverrides]
@[simp ↓] theorem State.idleLanes_voutBits (s : State) (n : Nat) :
    (s.idleLanes n).voutBits = s.voutBits := by simp [State.idleLanes]
@[simp ↓] theorem State.respace_voutBits (s : State) (n : Nat) (old : List Nat) :
    (s.respace n old).voutBits = s.voutBits := by
  simp [State.respace]
@[simp ↓] theorem State.movePhases_voutBits (s : State) (n : Nat) (f : State → State) (h : ∀ s, (f s).voutBits = s.voutBits) :
    (s.movePhases n f).voutBits = s.voutBits := by
  simp [State.movePhases, h]
@[simp ↓] theorem State.conLoopback_voutBits (s : State) (c : Nat) (ok : Bool) : (s.conLoopback c ok).voutBits = s.voutBits := by
  unfold State.conLoopback
  split <;> simp
@[simp ↓] theorem State.conIdFail_voutBits (s : State) (c : Nat) : (s.conIdFail c).voutBits = s.voutBits := by
  unfold State.conIdFail
  split <;> simp
@[simp ↓] theorem State.queueFrame_voutBits (s : State) (l : Nat) (cls : Nat) (f : DownFrame) :
    (s.queueFrame l cls f).voutBits = s.voutBits := by
  simp [State.queueFrame]
@[simp ↓] theorem State.commandCell_voutBits (s : State) (cls c : Nat) (f : DownFrame) :
    (s.commandCell cls c f).voutBits = s.voutBits := by
  simp [State.commandCell]
@[simp ↓] theorem State.unsend_voutBits (s : State) (c : Nat) : (s.unsend c).voutBits = s.voutBits := by
  unfold State.unsend
  split <;> simp
@[simp ↓] theorem State.sendCell_voutBits (s : State) (cls : Nat) (c : Nat) (f : DownFrame) :
    (s.sendCell cls c f).voutBits = s.voutBits := by
  unfold State.sendCell
  dsimp only
  repeat' split
  all_goals simp
@[simp ↓] theorem State.dropCommands_voutBits (s : State) (c : Nat) :
    (s.dropCommands c).voutBits = s.voutBits := by
  simp [State.dropCommands]
@[simp ↓] theorem State.quarantineSilent_voutBits (s : State) (c : Nat) : (s.quarantineSilent c).voutBits = s.voutBits := by
  simp [State.quarantineSilent]
@[simp ↓] theorem State.setMode_voutBits (s : State) (p : Nat) (mode : Nat) :
    (s.setMode p mode).voutBits = s.voutBits := by
  simp [State.setMode]
@[simp ↓] theorem State.faultOn_voutBits (s : State) (k : FaultKind) (i : Nat) (lasting : Bool) :
    (s.faultOn k i lasting).voutBits = s.voutBits := by
  simp [State.faultOn]
@[simp ↓] theorem State.phaseEvent_voutBits (s : State) (n : Nat) :
    (s.phaseEvent n).voutBits = s.voutBits := by simp [State.phaseEvent]
@[simp ↓] theorem State.retire_voutBits (s : State) (p : Nat) (cause : Nat) : (s.retire p cause).voutBits = s.voutBits := by
  unfold State.retire
  split <;> simp
@[simp ↓] theorem State.yieldRecord_voutBits (s : State) (n : Nat) (level : Nat) (cause : Nat) (fin : Bool) :
    (s.yieldRecord n level cause fin).voutBits = s.voutBits := by
  simp [State.yieldRecord]
@[simp ↓] theorem State.endYields_voutBits (s : State) (n : Nat) (log : Bool) :
    (s.endYields n log).voutBits = s.voutBits := by
  simp [State.endYields]
@[simp ↓] theorem State.dropPg_voutBits (s : State) (n : Nat) : (s.dropPg n).voutBits = s.voutBits := by simp [State.dropPg]
@[simp ↓] theorem State.dropSamples_voutBits (s : State) (n : Nat) :
    (s.dropSamples n).voutBits = s.voutBits := by
  simp [State.dropSamples]
@[simp ↓] theorem State.endBurst_voutBits (s : State) (n : Nat) (tb4 : Nat) (hit : Bool) :
    (s.endBurst n tb4 hit).voutBits = s.voutBits := by
  simp [State.endBurst]
@[simp ↓] theorem State.tristatePhases_voutBits (s : State) (n : Nat) :
    (s.tristatePhases n).voutBits = s.voutBits := by
  simp [State.tristatePhases]
@[simp ↓] theorem State.latchRail_voutBits (s : State) (n : Nat) (cause : LatchCause) :
    (s.latchRail n cause).voutBits = s.voutBits := by
  simp [State.latchRail]
@[simp ↓] theorem State.setTristate_voutBits (s : State) (n : Nat) (on : Bool) : (s.setTristate n on).voutBits = s.voutBits := by
  simp [State.setTristate]
@[simp ↓] theorem State.assertThrot_voutBits (s : State) (p : Nat) (n : Nat) : (s.assertThrot p n).voutBits = s.voutBits := by
  unfold State.assertThrot
  repeat' split
  all_goals simp
@[simp ↓] theorem State.bootRails_voutBits (s : State) : s.bootRails.voutBits = s.voutBits := by simp [State.bootRails]

end Sys2Proof.Machine
end

/-! SUPPORT. What P7 burns: the owner key, the rollback thermometer and WDT_HW. -/

section
namespace Sys2Proof.Machine

/-! ### The burns of P7 -/

/-- The state once P7 has burned what is due. -/
def State.burned (s : State) : State := (s.burnPulses (3 * s.burnList.length)).burnOwner.burnRollback.burnWatchdog

/-- The fuses of a burned owner key (R455). -/
def Fuses.ownerBurned (f : Fuses) (k : Nat) (hash : BitVec 384) : Fuses :=
  { f with keyHash := f.keyHash.set k hash, keyValid := f.keyValid ||| BitVec.ofNat 4 (2 ^ k) }

theorem State.advanceRb_congr {s t : State} (hshadow : t.shadow = s.shadow) (hboot : t.boot = s.boot) :
    t.advanceRb = s.advanceRb := by
  simp only [State.advanceRb, State.cfgField, State.cfgWord, State.cfg, hshadow, hboot]
theorem State.burnWdtHw_congr {s t : State} (hshadow : t.shadow = s.shadow) (hboot : t.boot = s.boot) :
    t.burnWdtHw = s.burnWdtHw := by
  simp only [State.burnWdtHw, State.cfgField, State.cfgWord, State.cfg, hshadow, hboot]

theorem State.burnOwner_eq (s : State) : ∃ sketch1, s.burnOwner = { s with
    fuses := if s.boot.burnClaim then s.fuses.ownerBurned s.boot.claimSlot.toNat s.boot.claimHash else s.fuses
    sketch := sketch1 } := by
  unfold State.burnOwner
  split
  · dsimp only
    rw [State.record_sketch_only]
    exact ⟨_, rfl⟩
  · exact ⟨s.sketch, rfl⟩

/-- The mask of the thermometer bits that P7 burns (R458). -/
def State.rbMask (s : State) : BitVec 64 := BitVec.ofNat 64 (maskOf 64 fun i => s.rbDue.contains i)

theorem State.rbMask_congr {s t : State} (hrb : t.fuses.rb = s.fuses.rb) (hboot : t.boot = s.boot) : t.rbMask = s.rbMask := by
  simp only [State.rbMask, State.rbDue, Fuses.rbCount, hrb, hboot]

theorem State.burnRollback_eq {s t : State} (hmask : t.rbMask = s.rbMask) (hadvance : t.advanceRb = s.advanceRb) :
    t.burnRollback = { t with
      fuses := { t.fuses with rb := if s.advanceRb == 1 then t.fuses.rb ||| s.rbMask else t.fuses.rb } } := by
  rw [← hmask, ← hadvance]
  unfold State.burnRollback
  split <;> rfl

theorem State.burnWatchdog_eq {s t : State} (hburn : t.burnWdtHw = s.burnWdtHw) :
    t.burnWatchdog = { t with fuses := { t.fuses with wdtHw := t.fuses.wdtHw || s.burnWdtHw == 1 } } := by
  rw [← hburn]
  unfold State.burnWatchdog
  split
  · next h => simp only [h, Bool.or_true]
  · next h => simp only [Bool.eq_false_iff.2 h, Bool.or_false]

/-- The fuses once P7 has burned what is due. -/
def State.burnedFuses (s : State) : Fuses :=
  { (if s.boot.burnClaim then s.fuses.ownerBurned s.boot.claimSlot.toNat s.boot.claimHash else s.fuses) with
    rb := if s.advanceRb == 1 then s.fuses.rb ||| s.rbMask else s.fuses.rb
    wdtHw := s.fuses.wdtHw || s.burnWdtHw == 1 }

/-- What is burned: the owner key, the rollback thermometer and WDT_HW, and the bank's copies of them. -/
theorem State.burned_eq (s : State) : ∃ sketch1, s.burned = { s with
    varnish := s.varnish.burn s.burnList (3 * s.burnList.length), fuses := s.burnedFuses, sketch := sketch1 } := by
  obtain ⟨sketch1, howner⟩ := (s.burnPulses (3 * s.burnList.length)).burnOwner_eq
  refine ⟨sketch1, ?_⟩
  have hrb : (s.burnPulses (3 * s.burnList.length)).burnOwner.fuses.rb = s.fuses.rb := by
    rw [howner]
    dsimp only
    split <;> rfl
  have hwdt : (s.burnPulses (3 * s.burnList.length)).burnOwner.fuses.wdtHw = s.fuses.wdtHw := by
    rw [howner]
    dsimp only
    split <;> rfl
  have hshadow : (s.burnPulses (3 * s.burnList.length)).burnOwner.shadow = s.shadow := by rw [howner]; rfl
  have hboot : (s.burnPulses (3 * s.burnList.length)).burnOwner.boot = s.boot := by rw [howner]; rfl
  unfold State.burned
  rw [State.burnWatchdog_eq (s := s) ?_,
    State.burnRollback_eq (State.rbMask_congr hrb hboot) (State.advanceRb_congr hshadow hboot)]
  · dsimp only
    rw [hrb, hwdt, howner]
    rfl
  · rw [State.burnRollback_eq (State.rbMask_congr hrb hboot) (State.advanceRb_congr hshadow hboot)]
    exact State.burnWdtHw_congr hshadow hboot

theorem State.burnedFuses_keyValid (s : State) : s.burnedFuses.keyValid =
    if s.boot.burnClaim then s.fuses.keyValid ||| BitVec.ofNat 4 (2 ^ s.boot.claimSlot.toNat) else s.fuses.keyValid := by
  unfold State.burnedFuses
  split <;> rfl

theorem State.burnedFuses_keyHash (s : State) : s.burnedFuses.keyHash =
    if s.boot.burnClaim then s.fuses.keyHash.set s.boot.claimSlot.toNat s.boot.claimHash else s.fuses.keyHash := by
  unfold State.burnedFuses
  split <;> rfl

/-- The target slot reads the burned hash, and every other slot its own. -/
theorem State.burnedFuses_hash {s : State} (hclaim : s.boot.burnClaim = true) (hlen : s.fuses.keyHash.length = 4) :
    s.burnedFuses.hash s.boot.claimSlot.toNat = s.boot.claimHash ∧
    ∀ k < 4, k ≠ s.boot.claimSlot.toNat → s.burnedFuses.hash k = s.fuses.hash k := by
  have hslot : s.boot.claimSlot.toNat < s.fuses.keyHash.length := by rw [hlen]; exact s.boot.claimSlot.isLt
  unfold Fuses.hash
  rw [State.burnedFuses_keyHash, if_pos hclaim]
  refine ⟨?_, fun k _ hk => ?_⟩
  · simp [List.getD_eq_getElem?_getD, hslot]
  · simp [List.getD_eq_getElem?_getD, List.getElem?_set_ne hk.symm]

theorem State.rbMask_getLsbD (s : State) {i : Nat} (hi : i < 64) : s.rbMask.getLsbD i = s.rbDue.contains i := getLsbD_maskOf _ hi

/-- As many bits are due as the thermometer lacks. -/
theorem State.rbDue_length {s : State} (h : s.boot.rollback.toNat ≤ 64) :
    s.rbDue.length = s.boot.rollback.toNat - s.fuses.rbCount := by
  have hall := (List.range 64).length_eq_countP_add_countP fun i => s.fuses.rb.getLsbD i
  have hfree : (indices 64 fun i => !s.fuses.rb.getLsbD i).length = 64 - s.fuses.rbCount := by
    simp only [List.length_range, Bool.not_eq_true, Bool.decide_eq_false] at hall
    rw [indices, ← List.countP_eq_length_filter, Fuses.rbCount]
    omega
  rw [State.rbDue, List.length_take, hfree]
  omega

/-- The burned thermometer counts what it counted and what was due. -/
theorem State.rbCount_advanced (s : State) : ({ s.fuses with rb := s.fuses.rb ||| s.rbMask } : Fuses).rbCount =
    s.fuses.rbCount + s.rbDue.length := by
  have hdue {i : Nat} (hi : i ∈ s.rbDue) : i < 64 ∧ s.fuses.rb.getLsbD i = false := by
    have hmem := List.mem_of_mem_take hi
    simpa [indices] using hmem
  have hperm : ((List.range 64).filter fun i => (s.fuses.rb ||| s.rbMask).getLsbD i).Perm
      (((List.range 64).filter fun i => s.fuses.rb.getLsbD i) ++ s.rbDue) := by
    refine (List.perm_ext_iff_of_nodup (List.nodup_range.filter _) ?_).2 fun i => ?_
    · refine (List.nodup_range.filter _).append ((List.nodup_range.filter _).sublist (List.take_sublist _ _)) fun i hi hi' => ?_
      rw [List.mem_filter, (hdue hi').2] at hi
      exact absurd hi.2 Bool.false_ne_true
    · by_cases hi : i < 64
      · have hmask : s.rbMask.getLsbD i = decide (i ∈ s.rbDue) := by rw [s.rbMask_getLsbD hi, List.contains_eq_mem]
        simp only [List.mem_filter, List.mem_range, List.mem_append, BitVec.getLsbD_or, hmask, hi, Bool.or_eq_true,
          decide_eq_true_eq, true_and]
      · have hnot : i ∉ s.rbDue := fun h => hi (hdue h).1
        simp [hi, hnot]
  rw [Fuses.rbCount, List.countP_eq_length_filter, hperm.length_eq, List.length_append, Fuses.rbCount,
    List.countP_eq_length_filter]

/-- The thermometer after P7. -/
theorem State.burnedFuses_rb (s : State) : (s.advanceRb = 0 → s.burnedFuses.rb = s.fuses.rb) ∧
    (s.advanceRb = 1 → s.fuses.rb &&& s.burnedFuses.rb = s.fuses.rb ∧
      (s.fuses.rbCount ≤ s.boot.rollback.toNat → s.boot.rollback.toNat ≤ 64 →
        s.burnedFuses.rbCount = s.boot.rollback.toNat)) := by
  refine ⟨fun h => by simp [State.burnedFuses, h], fun h => ?_⟩
  have hrb : s.burnedFuses.rb = s.fuses.rb ||| s.rbMask := by simp [State.burnedFuses, h]
  refine ⟨by rw [hrb]; ext i; simp +contextual, fun hle hmax => ?_⟩
  calc s.burnedFuses.rbCount = ({ s.fuses with rb := s.fuses.rb ||| s.rbMask } : Fuses).rbCount := by
        simp only [Fuses.rbCount, hrb]
    _ = s.fuses.rbCount + s.rbDue.length := s.rbCount_advanced
    _ = s.boot.rollback.toNat := by rw [State.rbDue_length hmax]; omega

end Sys2Proof.Machine
end

/-! SUPPORT. The rails that a fast stop latches: what holds them in FAULT_LATCHED once they are. -/

section
namespace Sys2Proof.Machine

/-! ### What leaves the state and the latch of every rail -/

section Views
variable {α : Type} {φ : Rail → α}

theorem State.updCell_views (s : State) (c : Nat) (f : Cell → Cell) : (s.updCell c f).views φ = s.views φ := rfl
theorem State.idleLane_views (s : State) (n p : Nat) : (s.idleLane n p).views φ = s.views φ := by simp [State.idleLane]
theorem State.phaseEvent_views (s : State) (n : Nat) : (s.phaseEvent n).views φ = s.views φ := rfl

theorem State.sendCell_views (s : State) (cls c : Nat) (f : DownFrame) : (s.sendCell cls c f).views φ = s.views φ := by
  obtain ⟨cells1, links1, h, -⟩ := s.sendCell_commandsCells cls c f
  rw [h]
  rfl

theorem State.dropCommands_views (s : State) (c : Nat) : (s.dropCommands c).views φ = s.views φ := by
  obtain ⟨con1, hloop⟩ := s.conLoopback_eq c false
  obtain ⟨con2, hfail⟩ := (s.conLoopback c false).conIdFail_eq c
  have hcon : ((s.conLoopback c false).conIdFail c).views φ = s.views φ := by
    rw [hfail, hloop]
    rfl
  exact hcon

theorem State.quarantineSilent_views (s : State) (c : Nat) : (s.quarantineSilent c).views φ = s.views φ := rfl

theorem State.setMode_views (s : State) (p mode : Nat) : (s.setMode p mode).views φ = s.views φ := by
  refine State.forEach_views _ _ _ fun s c => ?_
  simp [State.sendCell_views, State.dropCommands_views, State.quarantineSilent_views]

theorem State.retire_views (hφ : Blind φ) (s : State) (p cause : Nat) : (s.retire p cause).views φ = s.views φ := by
  unfold State.retire
  split
  · rfl
  · dsimp only
    rw [State.record_views, State.faultOn_views hφ, State.phaseEvent_views,
      State.forEach_views _ _ _ fun s c => s.updCell_views c _, State.forEach_views _ _ _ fun s c => s.updCell_views c _,
      State.setMode_views, State.movePhases_views hφ _ _ _ fun s => s.updPhase_views p _, State.idleLane_views]

theorem State.assertThrot_views (s : State) (p src : Nat) : (s.assertThrot p src).views φ = s.views φ := by
  unfold State.assertThrot
  split
  · rfl
  · dsimp only
    split
    · exact State.record_views _ _ _ _ _
    · exact State.record_views _ _ _ _ _

end Views

/-! ### A rail that a fast stop reaches -/

@[simp ↓] theorem State.setTristate_latchView (s : State) (n : Nat) (on : Bool) :
    (s.setTristate n on).views Rail.latchView = s.views Rail.latchView := by
  simp [State.setTristate, blind_latchView]

/-- From `s` to `t` rail `n` keeps its state and what OV_SLOW has set of it. -/
structure HoldsStop (n : Nat) (s t : State) : Prop where
  rails : t.rails.length = s.rails.length
  vouts : t.voutBits.length = s.voutBits.length
  state : (t.rail n).core.state = (s.rail n).core.state
  latch : (s.rail n).prot.latch.getLsbD 0 = true → (t.rail n).prot.latch.getLsbD 0 = true
  vout : (s.voutBits.getD n 0).getLsbD 7 = true → (t.voutBits.getD n 0).getLsbD 7 = true

section HoldsStop
variable {n : Nat} {s t u : State}

theorem HoldsStop.refl (s : State) : HoldsStop n s s := ⟨rfl, rfl, rfl, id, id⟩

theorem HoldsStop.trans (h : HoldsStop n s t) (h' : HoldsStop n t u) : HoldsStop n s u :=
  ⟨h'.rails.trans h.rails, h'.vouts.trans h.vouts, h'.state.trans h.state, fun hs => h'.latch (h.latch hs),
    fun hs => h'.vout (h.vout hs)⟩

/-- The same STATUS_VOUT, and of rail `n` the same state and latch. -/
theorem HoldsStop.of_rail (hrails : t.rails.length = s.rails.length) (hview : (t.rail n).latchView = (s.rail n).latchView)
    (hvout : t.voutBits = s.voutBits) : HoldsStop n s t :=
  ⟨hrails, by rw [hvout], congrArg (·.1.state) hview,
    fun h => (congrArg (·.2.getLsbD 0) hview).trans h, fun h => by rw [hvout]; exact h⟩

theorem HoldsStop.of_views (hviews : t.views Rail.latchView = s.views Rail.latchView) (hvout : t.voutBits = s.voutBits) :
    HoldsStop n s t := .of_rail (State.length_of_views hviews) (State.view_of_views hviews n) hvout

theorem HoldsStop.when {f : State → State} (h : ∀ s, HoldsStop n s (f s)) (s : State) (c : Bool) :
    HoldsStop n s (s.when c f) := by
  unfold State.when
  split
  · exact h s
  · exact .refl s

/-- Another rail's update. -/
theorem HoldsStop.updRail_ne (s : State) {m : Nat} (hm : m ≠ n) (f : Rail → Rail) : HoldsStop n s (s.updRail m f) :=
  .of_rail (by simp) (by rw [s.updRail_rail_ne m n f hm]) (s.updRail_voutBits m f)

/-- A bit more of STATUS_VOUT. -/
theorem HoldsStop.setVout (s : State) (m : Nat) (b : BitVec 8) : HoldsStop n s (s.setVout m b) := by
  refine ⟨rfl, List.length_modify .., rfl, id, fun h => ?_⟩
  change ((s.voutBits.modify m (· ||| b)).getD n 0).getLsbD 7 = true
  rw [List.getD_eq_getElem?_getD, List.getElem?_modify]
  rw [List.getD_eq_getElem?_getD] at h
  cases hn : s.voutBits[n]? with
  | none => simp [hn] at h
  | some x =>
    rw [hn] at h
    split
    · simpa using Or.inl h
    · simpa using h

end HoldsStop

/-- A rail with one more latch cause. -/
def State.addCause (s : State) (n : Nat) (cause : LatchCause) : State :=
  s.updProt n fun p => { p with latch := p.latch ||| cause.bit }
/-- What a new latch ends of a rail: its burst, its lanes, its phases' switching, its yields and a characterisation run. -/
def State.quieted (s : State) (n : Nat) : State :=
  ((((s.endBurst n (s.burstSpan n) false).idleLanes n).tristatePhases n).endYields n false).abortChar n
/-- A rail enters FAULT_LATCHED. -/
def State.enterLatch (s : State) (n : Nat) : State := (s.quieted n).updCore n fun c => { c with
  state := .faultLatched, waitStart := false, waitWake := false, slide := false, appStop := false
  idledAt := some (s.quieted n).clock.tick }
/-- What ends with it: PG_n, and a clamp. -/
def State.latchEnded (s : State) (n : Nat) : State := (s.dropPg n).updPol n fun p => { p with clamp := false, clampIdle := false }

section Latch
variable {n : Nat} {s : State}

theorem State.latchRail_eq (s : State) (n : Nat) (cause : LatchCause) : s.latchRail n cause =
    if (s.rail n).core.state == .off then s
    else if (s.rail n).core.state.latched then s.addCause n cause else ((s.addCause n cause).enterLatch n).latchEnded n := by
  rfl

theorem State.quieted_latchView (s : State) (n : Nat) : (s.quieted n).views Rail.latchView = s.views Rail.latchView := by
  simp [State.quieted, blind_latchView]
theorem State.quieted_voutBits (s : State) (n : Nat) : (s.quieted n).voutBits = s.voutBits := by simp [State.quieted]
theorem State.latchEnded_latchView (s : State) (n : Nat) : (s.latchEnded n).views Rail.latchView = s.views Rail.latchView := by
  simp [State.latchEnded, blind_latchView]
theorem State.latchEnded_voutBits (s : State) (n : Nat) : (s.latchEnded n).voutBits = s.voutBits := by simp [State.latchEnded]

theorem State.addCause_rail (hn : n < s.rails.length) (cause : LatchCause) : (s.addCause n cause).rail n =
    { s.rail n with prot := { (s.rail n).prot with latch := (s.rail n).prot.latch ||| cause.bit } } := s.updRail_rail n _ hn

/-- A latch leaves every rail but its own in its state, and its own where that is latched. -/
theorem HoldsStop.latchRail {m : Nat} (h : m ≠ n ∨ n < s.rails.length ∧ (s.rail n).core.state = .faultLatched)
    (cause : LatchCause) : HoldsStop n s (s.latchRail m cause) := by
  rw [State.latchRail_eq]
  rcases eq_or_ne m n with rfl | hm
  · obtain ⟨hlen, hstate⟩ := h.resolve_left fun hne => hne rfl
    have hrail := State.addCause_rail hlen cause
    rw [if_neg (by rw [hstate]; decide), if_pos (by rw [hstate]; rfl)]
    refine ⟨by simp [State.addCause], by simp [State.addCause], by rw [hrail], fun hs => ?_,
      fun hs => by simpa [State.addCause] using hs⟩
    rw [hrail]
    simp [hs]
  · have hcause : HoldsStop n s (s.addCause m cause) := .updRail_ne s hm _
    split
    · exact .refl s
    · split
      · exact hcause
      · exact hcause.trans ((HoldsStop.of_views (State.quieted_latchView _ m) (State.quieted_voutBits _ m)).trans
          ((HoldsStop.updRail_ne _ hm _).trans (.of_views (State.latchEnded_latchView _ m) (State.latchEnded_voutBits _ m))))

theorem State.enterLatch_rail (hn : n < s.rails.length) : (s.enterLatch n).rails.length = s.rails.length ∧
    ((s.enterLatch n).rail n).core.state = .faultLatched ∧ ((s.enterLatch n).rail n).prot.latch = (s.rail n).prot.latch := by
  have hviews := s.quieted_latchView n
  have hlen := State.length_of_views hviews
  have hrail := (s.quieted n).updRail_rail n (fun r => { r with core := { r.core with
    state := .faultLatched, waitStart := false, waitWake := false, slide := false, appStop := false,
    idledAt := some (s.quieted n).clock.tick } }) (hlen.symm ▸ hn)
  exact ⟨Eq.trans (by simp [State.enterLatch, State.updCore]) hlen, congrArg (·.core.state) hrail,
    (congrArg (·.prot.latch) hrail).trans (congrArg Prod.snd (State.view_of_views hviews n))⟩

/-- A PRIMED rail that is latched is FAULT_LATCHED, as one that already was, with the cause among its causes. -/
theorem State.latchRail_enters (hn : n < s.rails.length)
    (hstate : (s.rail n).core.state = .primed ∨ (s.rail n).core.state = .faultLatched) (cause : LatchCause) :
    (s.latchRail n cause).rails.length = s.rails.length ∧ ((s.latchRail n cause).rail n).core.state = .faultLatched ∧
    ((s.latchRail n cause).rail n).prot.latch = (s.rail n).prot.latch ||| cause.bit := by
  have hlen : (s.addCause n cause).rails.length = s.rails.length := by simp [State.addCause]
  have hrail := State.addCause_rail hn cause
  obtain ⟨henterLen, henterState, henterLatch⟩ := State.enterLatch_rail (s := s.addCause n cause) (hlen.symm ▸ hn)
  have hended := ((s.addCause n cause).enterLatch n).latchEnded_latchView n
  have hview := State.view_of_views hended n
  rw [State.latchRail_eq]
  rcases hstate with hstate | hstate
  · rw [if_neg (by rw [hstate]; decide), if_neg (by rw [hstate]; decide)]
    exact ⟨(State.length_of_views hended).trans (henterLen.trans hlen), (congrArg (·.1.state) hview).trans henterState,
      (congrArg Prod.snd hview).trans (henterLatch.trans (congrArg (·.prot.latch) hrail))⟩
  · rw [if_neg (by rw [hstate]; decide), if_pos (by rw [hstate]; rfl)]
    exact ⟨hlen, (congrArg (·.core.state) hrail).trans hstate, congrArg (·.prot.latch) hrail⟩

end Latch

/-! ### The rails whose nodes were too high -/

/-- Rail `n` is PRIMED, or OV_SLOW has latched it. -/
structure NodeReady (n : Nat) (s : State) : Prop where
  rails : n < s.rails.length
  vouts : n < s.voutBits.length
  state : (s.rail n).core.state = .primed ∨ (s.rail n).core.state = .faultLatched

/-- OV_SLOW has latched rail `n`, and VOUT_OV_FAULT shows it. -/
structure NodeLatched (n : Nat) (s : State) : Prop where
  rails : n < s.rails.length
  vouts : n < s.voutBits.length
  state : (s.rail n).core.state = .faultLatched
  latch : (s.rail n).prot.latch.getLsbD 0 = true
  vout : (s.voutBits.getD n 0).getLsbD 7 = true

section Nodes
variable {n : Nat} {s t : State}

theorem HoldsStop.ready (h : HoldsStop n s t) (hs : NodeReady n s) : NodeReady n t :=
  ⟨h.rails.symm ▸ hs.rails, h.vouts.symm ▸ hs.vouts, by rw [h.state]; exact hs.state⟩

theorem HoldsStop.latched (h : HoldsStop n s t) (hs : NodeLatched n s) : NodeLatched n t :=
  ⟨h.rails.symm ▸ hs.rails, h.vouts.symm ▸ hs.vouts, h.state.trans hs.state, h.latch hs.latch, h.vout hs.vout⟩

/-- The fast stop of a node that was too high. -/
def State.stopNode (s : State) (m : Nat) : State :=
  s.when ((s.rail m).core.state != .off) fun s => s.updPol m fun p => { p with fastStop := true }

theorem State.stopNode_latchView (s : State) (m : Nat) : (s.stopNode m).views Rail.latchView = s.views Rail.latchView := by
  simp [State.stopNode, blind_latchView]

theorem HoldsStop.stopNode (s : State) (m : Nat) : HoldsStop n s (s.stopNode m) :=
  .of_views (s.stopNode_latchView m) (by simp [State.stopNode])

theorem HoldsStop.record (s : State) (code src p0 p1 : Nat) : HoldsStop n s (s.record code src p0 p1) :=
  .of_views (s.record_views code src p0 p1) (s.record_voutBits code src p0 p1)

theorem HoldsStop.commitAll (s : State) : HoldsStop n s s.commitAll := .of_views rfl rfl

theorem State.latchNode_eq (s : State) (m : Nat) : s.latchNode m =
    (((s.stopNode m).latchRail m .ovSlow).setVout m 0x80).record 0x1010 m 2
      ((((s.stopNode m).latchRail m .ovSlow).setVout m 0x80).boot.ovReads.getD m 0) := rfl

/-- The latch of a node leaves the other rails in their states, and its own where that is latched. -/
theorem HoldsStop.latchNode {m : Nat} (h : m ≠ n ∨ n < s.rails.length ∧ (s.rail n).core.state = .faultLatched) :
    HoldsStop n s (s.latchNode m) := by
  have hstop := HoldsStop.stopNode (n := n) s m
  rw [State.latchNode_eq]
  exact hstop.trans ((HoldsStop.latchRail (h.imp_right fun ⟨hlen, hstate⟩ =>
    ⟨hstop.rails.symm ▸ hlen, hstop.state.trans hstate⟩) .ovSlow).trans ((HoldsStop.setVout _ m _).trans (.record _ _ _ _ _)))

/-- A rail whose node was too high is latched. -/
theorem NodeReady.latchNode (hs : NodeReady n s) : NodeLatched n (s.latchNode n) := by
  have hready := (HoldsStop.stopNode s n).ready hs
  obtain ⟨hlen, hstate, hlatch⟩ := State.latchRail_enters hready.rails hready.state .ovSlow
  have hvouts : n < ((s.stopNode n).latchRail n .ovSlow).voutBits.length := by
    rw [State.latchRail_voutBits]
    exact hready.vouts
  rw [State.latchNode_eq]
  refine (HoldsStop.record _ _ _ _ _).latched
    ⟨hlen.symm ▸ hready.rails, (HoldsStop.setVout (n := n) _ n 0x80).vouts.symm ▸ hvouts, hstate, ?_, ?_⟩
  · change (((s.stopNode n).latchRail n .ovSlow).rail n).prot.latch.getLsbD 0 = true
    rw [hlatch, BitVec.getLsbD_or]
    exact Bool.or_true _
  · change ((((s.stopNode n).latchRail n .ovSlow).voutBits.modify n (· ||| 0x80)).getD n 0).getLsbD 7 = true
    rw [List.getD_eq_getElem?_getD, List.getElem?_modify, List.getElem?_eq_getElem hvouts]
    simp

/-- A node too high latches its rail, and the other nodes leave it so. -/
theorem NodeReady.latchNodes {l : List Nat} (hl : n ∈ l) (hs : NodeReady n s) : NodeLatched n (s.forEach l State.latchNode) := by
  refine foldl_brings (T := NodeReady n) (P := NodeLatched n) (fun s m hs => ?_) (fun s m hs => ?_)
    (fun s hs => hs.latchNode) hl s hs
  · rcases eq_or_ne m n with rfl | hm
    · exact ⟨hs.latchNode.rails, hs.latchNode.vouts, .inr hs.latchNode.state⟩
    · exact (HoldsStop.latchNode (.inl hm)).ready hs
  · exact (HoldsStop.latchNode (.inr ⟨hs.rails, hs.state⟩)).latched hs

/-- A fast stop leaves every other rail in its state. -/
theorem HoldsStop.fastStop {m : Nat} (hm : m ≠ n) (s : State) (src : Nat) : HoldsStop n s (s.fastStop m src) := by
  unfold State.fastStop
  split
  · exact .refl s
  · extract_lets cause again u v w
    have hlatch : HoldsStop n s u :=
      (HoldsStop.latchRail (.inl hm) cause).trans (.of_views (by simp [u, blind_latchView]) (by simp [u]))
    exact hlatch.trans ((HoldsStop.when (fun s => .setVout s m 0x80) u _).trans
      ((HoldsStop.when (fun s => .of_views (by simp [blind_latchView]) (by simp)) v _).trans
        (HoldsStop.when (fun s => .of_views (by simp [blind_latchView]) (by simp)) w _)))

theorem NodeLatched.seedStop (hs : NodeLatched n s) (m : Nat) : NodeLatched n (s.seedStop m) := by
  unfold State.seedStop
  split
  · exact hs
  · next hprimed =>
    have hm : m ≠ n := fun hm => hprimed (by rw [hm, hs.state]; rfl)
    exact List.foldlRecOn _ _ hs fun s hs src _ => (HoldsStop.fastStop hm s src).latched hs

/-- The levels that stand at PRIMED leave a latched rail so. -/
theorem NodeLatched.seedSoft (hs : NodeLatched n s) : NodeLatched n s.seedSoft := by
  unfold State.seedSoft
  refine List.foldlRecOn _ _ (List.foldlRecOn _ _ hs fun s hs m _ => ?_) fun s hs p _ => ?_
  · exact ((HoldsStop.of_views (s.setTristate_latchView m _) (s.setTristate_voutBits m _)).latched hs).seedStop m
  · split
    · exact (HoldsStop.of_views (s.assertThrot_views p _) (s.assertThrot_voutBits p _)).latched hs
    · exact hs

end Nodes

end Sys2Proof.Machine
end

/-! SUPPORT. P7: the rails at PRIMED, and the whole stage in its parts. -/

section
namespace Sys2Proof.Machine

/-! ### The rails at PRIMED -/

/-- The phases parked, and the enabled rails PRIMED. -/
def State.railsPrimed (s : State) : State :=
  let u := s.mapPhases fun p x => if (s.phaseRail p).isSome then { x with state := .parked } else x
  u.mapRails fun n r => if u.railEn n then { r with core := { r.core with state := .primed } } else r
/-- The phases of cells absent at an expected position retired. -/
def State.lostRetired (s : State) : State :=
  s.forEach (indices 128 fun p => (phaseCells p).any fun c => s.expect c == 1 && (s.cell c).state == .absent) fun s p =>
    s.retire p 1
/-- The enabled rails left with too few phases. -/
def State.shortRails (s : State) : List Nat :=
  s.enabledRails.filter fun n => (s.phasesIn n fun x => x.state != .retired).length < s.minActive n
/-- The rails `off` stay OFF. -/
def State.keepOff (s : State) (off : List Nat) : State :=
  ({ s with boot := { s.boot with heldOff := BitVec.ofNat 16 (maskOf 16 fun n => off.contains n) } }).forEach off fun s n =>
    s.updCore n fun c => { c with state := .off }

theorem State.primeRails_eq (s : State) : s.primeRails =
    s.railsPrimed.lostRetired.keepOff s.railsPrimed.lostRetired.shortRails := rfl

theorem State.lostRetired_latchView (s : State) : s.lostRetired.views Rail.latchView = s.views Rail.latchView :=
  State.forEach_views _ _ _ fun s p => s.retire_views blind_latchView p 1

theorem State.keepOff_provision (s : State) (off : List Nat) : (s.keepOff off).provision =
    ⟨s.fuses, { s.boot with heldOff := BitVec.ofNat 16 (maskOf 16 fun n => off.contains n) }⟩ :=
  State.forEach_provision _ _ _ fun s n => s.updCore_provision n _

theorem State.keepOff_voutBits (s : State) (off : List Nat) : (s.keepOff off).voutBits = s.voutBits :=
  State.forEach_voutBits _ _ _ fun s n => s.updCore_voutBits n _

theorem State.keepOff_rail {off : List Nat} {n : Nat} (hn : n ∉ off) (s : State) : (s.keepOff off).rail n = s.rail n := by
  refine List.foldlRecOn off _ (motive := fun t : State => t.rail n = s.rail n) rfl fun t ht m hm => ?_
  exact (t.updRail_rail_ne m n _ fun h => hn (h ▸ hm)).trans ht

theorem State.keepOff_length (s : State) (off : List Nat) : (s.keepOff off).rails.length = s.rails.length :=
  List.foldlRecOn off _ (motive := fun t : State => t.rails.length = s.rails.length) rfl fun t ht m _ =>
    Eq.trans (by simp [State.updCore]) ht

theorem State.railsPrimed_rail {s : State} {n : Nat} (hn : n < s.rails.length) (hen : s.railEn n = true) :
    (s.railsPrimed.rail n).core.state = .primed := by
  have hrail : s.railsPrimed.rail n =
      if s.railEn n = true then { s.rail n with core := { (s.rail n).core with state := .primed } }
      else s.rail n := State.mapRails_rail _ _ _ hn
  rw [hrail, if_pos hen]

theorem State.railsPrimed_length (s : State) : s.railsPrimed.rails.length = s.rails.length := by simp [State.railsPrimed]

theorem State.lostRetired_provision (s : State) : s.lostRetired.provision = s.provision :=
  State.forEach_provision _ _ _ fun s p => s.retire_provision p 1

theorem State.lostRetired_voutBits (s : State) : s.lostRetired.voutBits = s.voutBits :=
  State.forEach_voutBits _ _ _ fun s p => s.retire_voutBits p 1

/-- What PRIMED writes of the boot record: the rails that stay OFF. -/
theorem State.primeRails_provision (s : State) : ∃ mask, s.primeRails.provision = ⟨s.fuses, { s.boot with heldOff := mask }⟩ := by
  have hprov : s.railsPrimed.lostRetired.provision = s.provision := s.railsPrimed.lostRetired_provision
  rw [State.primeRails_eq, State.keepOff_provision, State.fuses_of_provision hprov, State.boot_of_provision hprov]
  exact ⟨_, rfl⟩

/-- An enabled rail that does not stay OFF is PRIMED. -/
theorem State.primeRails_ready {s : State} {n : Nat} (hn : n < 16) (hlen : n < s.rails.length) (hvouts : n < s.voutBits.length)
    (hen : s.railEn n = true) (hheld : s.primeRails.boot.heldOff.getLsbD n = false) : NodeReady n s.primeRails := by
  have hviews := s.railsPrimed.lostRetired_latchView
  rw [State.primeRails_eq] at hheld ⊢
  generalize s.railsPrimed.lostRetired.shortRails = off at hheld ⊢
  have hmask : (s.railsPrimed.lostRetired.keepOff off).boot.heldOff = BitVec.ofNat 16 (maskOf 16 fun n => off.contains n) :=
    congrArg (·.boot.heldOff) (State.keepOff_provision _ off)
  rw [hmask, getLsbD_maskOf _ hn, List.contains_eq_mem, decide_eq_false_iff_not] at hheld
  refine ⟨?_, ?_, .inl ?_⟩
  · rw [State.keepOff_length, State.length_of_views hviews, State.railsPrimed_length]
    exact hlen
  · rw [State.keepOff_voutBits, State.lostRetired_voutBits]
    exact hvouts
  · rw [State.keepOff_rail hheld]
    exact (congrArg (·.1.state) (State.view_of_views hviews n)).trans (State.railsPrimed_rail hlen hen)

/-! ### P7 in its parts -/

/-- P7 up to the rails: the fuses burned, the Fixative bit, STAGE and the boot set-points. -/
def State.primedBoot (s : State) : State :=
  (({ s.burned with boot := { s.burned.boot with fixative := true } }).toStage 8).bootRails
/-- The rails at PRIMED. -/
def State.primedRails (s : State) : State := s.primedBoot.primeRails
/-- The rails whose nodes P6 found too high are latched. -/
def State.nodesStopped (s : State) : State := s.forEach (indices 16 s.boot.ovNodes.getLsbD) State.latchNode
/-- PRIMED is recorded, and the destinations take the levels that stand. -/
def State.primedSeeded (s : State) : State :=
  (s.record 0x0002 s.boot.slot.toNat s.boot.imageVersion.toNat s.clock.time).commitAll.seedSoft
/-- FAULT_N and the console's rate at PRIMED. -/
def State.primedPins (s : State) : State := { s with
  pins := { s.pins with faultReleased := !s.rails.any fun r => r.core.state.latched }
  con := { s.con with baud := if s.boot.svcStrap then 0 else BitVec.ofNat 2 s.svcBaud } }
/-- The watchdogs, a lockout and the console's lines at PRIMED. -/
def State.primedEnd (s : State) : State :=
  (s.autoWatchdogs.restartLockout.print [stageLine ['7'], .text (ascii ['P', 'R', 'I', 'M', 'E', 'D'])]).judge

theorem execPrimeP7_eq {s : State} (h : s.inStage 7 = true) :
    execPrimeP7 s = .next s.primedRails.nodesStopped.primedSeeded.primedPins.primedEnd := by
  unfold execPrimeP7
  rw [if_pos h]
  extract_lets burned boot fixed primed stopped seeded
  have hseeded : seeded = s.primedRails.nodesStopped.primedSeeded := rfl
  clear_value seeded
  exact congrArg (fun x : State => complete (x.primedPins.autoWatchdogs.restartLockout.print _)) hseeded

theorem State.autoWatchdogs_run {s : State} (h : s.boot.fuseWdtHw = true) :
    s.autoWatchdogs.rm.wd.run = true ∧ s.autoWatchdogs.hm.wd.run = true := by
  rw [State.autoWatchdogs, State.when, if_pos h]
  exact ⟨rfl, rfl⟩

theorem State.restartLockout_baud (s : State) : s.restartLockout.con.baud = s.con.baud := by
  unfold State.restartLockout State.when
  split <;> rfl

/-- The end of P7 starts the watchdogs of a unit with WDT_HW and keeps the console's rate; it changes pairs, console, router and
bus only. -/
theorem State.primedEnd_eq (s : State) : ∃ rm1 hm1 con1 router1 bus1,
    s.primedEnd = { s with rm := rm1, hm := hm1, con := con1, router := router1, bus := bus1 } ∧
    (s.boot.fuseWdtHw = true → rm1.wd.run = true ∧ hm1.wd.run = true) ∧ con1.baud = s.con.baud := by
  obtain ⟨rm1, hm1, hwd⟩ := s.autoWatchdogs_eq
  obtain ⟨con1, hlock⟩ := s.autoWatchdogs.restartLockout_eq
  obtain ⟨router1, bus1, hjudge⟩ :=
    (s.autoWatchdogs.restartLockout.print [stageLine ['7'], .text (ascii ['P', 'R', 'I', 'M', 'E', 'D'])]).judge_eq
  have hbaud := s.autoWatchdogs.restartLockout_baud
  refine ⟨rm1, hm1, (s.autoWatchdogs.restartLockout.print [stageLine ['7'], .text (ascii ['P', 'R', 'I', 'M', 'E', 'D'])]).con,
    router1, bus1, hjudge.trans ?_, fun h => ?_, hbaud.trans ?_⟩
  · rw [State.print, hlock, hwd]
  · have hrun := State.autoWatchdogs_run h
    rw [hwd] at hrun
    exact hrun
  · rw [hwd]

/-! ### P7 as a whole -/

theorem State.primedBoot_provision (s : State) :
    s.primedBoot.provision = ⟨s.burnedFuses, { s.boot with fixative := true, stage := 8 }⟩ := by
  obtain ⟨sketch1, hburned⟩ := s.burned_eq
  refine (State.bootRails_provision _).trans ?_
  rw [hburned]
  rfl

theorem State.primedBoot_cold (s : State) :
    s.primedBoot.cold = { s.cold with varnish := s.varnish.burn s.burnList (3 * s.burnList.length) } := by
  obtain ⟨sketch1, hburned⟩ := s.burned_eq
  refine (State.bootRails_cold _).trans ?_
  rw [hburned]
  rfl

theorem State.primedBoot_voutBits (s : State) : s.primedBoot.voutBits = s.voutBits := by
  obtain ⟨sketch1, hburned⟩ := s.burned_eq
  refine (State.bootRails_voutBits _).trans ?_
  rw [hburned]
  rfl

theorem State.primedBoot_length (s : State) : s.primedBoot.rails.length = s.rails.length := by
  obtain ⟨sketch1, hburned⟩ := s.burned_eq
  refine (congrArg (fun x : Steady => x.sizes.getD 1 0) (State.bootRails_steady _)).trans ?_
  rw [hburned]
  rfl

/-- P7 up to the rails enables the rails that the image enables. -/
theorem State.primedBoot_railEn (s : State) : s.primedBoot.railEn = s.railEn :=
  State.railEn_congr (congrArg Cold.shadow s.primedBoot_cold) (congrArg (·.boot.imageLoaded) s.primedBoot_provision)

/-- The rails' part of P7 writes of fuses and boot record the Fixative bit, STAGE and the rails that stay OFF, past the burns. -/
theorem State.primedRails_provision (s : State) : ∃ mask,
    s.primedRails.provision = ⟨s.burnedFuses, { s.boot with fixative := true, stage := 8, heldOff := mask }⟩ := by
  obtain ⟨mask, hprov⟩ := s.primedBoot.primeRails_provision
  exact ⟨mask, hprov.trans
    (congrArg (fun p : Provision => (⟨p.fuses, { p.boot with heldOff := mask }⟩ : Provision)) s.primedBoot_provision)⟩

/-- What follows the rails leaves a latched rail so. -/
theorem NodeLatched.primedSeeded {s : State} {n : Nat} (hs : NodeLatched n s) : NodeLatched n s.primedSeeded :=
  ((HoldsStop.commitAll _).latched ((HoldsStop.record _ _ _ _ _).latched hs)).seedSoft

/-- An enabled rail whose node P6 found too high is latched, unless it stays OFF. -/
theorem State.primedRails_latched {s : State} {n : Nat} (hn : n < 16) (hlen : s.rails.length = 16)
    (hvouts : s.pm.stVout.length = 16)
    (hnode : s.boot.ovNodes.getLsbD n = true) (hen : s.railEn n = true) (hheld : s.primedRails.boot.heldOff.getLsbD n = false) :
    NodeLatched n s.primedRails.nodesStopped.primedSeeded := by
  obtain ⟨mask, hprov⟩ := s.primedRails_provision
  have hnodes : s.primedRails.boot.ovNodes = s.boot.ovNodes := congrArg (·.boot.ovNodes) hprov
  have hready : NodeReady n s.primedRails := State.primeRails_ready hn (by rw [s.primedBoot_length, hlen]; exact hn)
    (by rw [s.primedBoot_voutBits, State.voutBits, hvouts]; exact hn) (by rw [s.primedBoot_railEn]; exact hen) hheld
  exact (hready.latchNodes (by rw [hnodes]; simp [indices, hn, hnode])).primedSeeded

theorem State.nodesStopped_provision (s : State) : s.nodesStopped.provision = s.provision :=
  State.forEach_provision _ _ _ State.latchNode_provision
theorem State.primedSeeded_provision (s : State) : s.primedSeeded.provision = s.provision := by simp [State.primedSeeded]

theorem State.nodesStopped_cold (s : State) : s.nodesStopped.cold = s.cold := by simp [State.nodesStopped]
theorem State.primedSeeded_cold (s : State) : s.primedSeeded.cold = s.cold := by simp [State.primedSeeded]

/-- The end of P7: FAULT_N, the watchdogs and the console's rate, and what it leaves alone. -/
structure PrimedEnd (s t : State) : Prop where
  provision : t.provision = s.provision
  cold : t.cold = s.cold
  rails : t.rails = s.rails
  pm : t.pm = s.pm
  faultReleased : t.pins.faultReleased = !s.rails.any fun r => r.core.state.latched
  wdtHw : s.boot.fuseWdtHw = true → t.rm.wd.run = true ∧ t.hm.wd.run = true
  baud : s.boot.svcStrap = true → t.con.baud = 0

theorem State.primedPins_end (s : State) : PrimedEnd s s.primedPins.primedEnd := by
  obtain ⟨rm1, hm1, con1, router1, bus1, hend, hrun, hbaud⟩ := s.primedPins.primedEnd_eq
  rw [hend]
  exact ⟨rfl, rfl, rfl, rfl, rfl, hrun, fun h => hbaud.trans (if_pos h)⟩

/-- P7 completes: its fuses and boot record, the memories, the rails that it latches, and its end. -/
theorem primeP7_completes {s : State} (h : s.inStage 7 = true) : ∃ mask x t, exec .primeP7 s = .next t ∧ PrimedEnd x t ∧
    t.provision = ⟨s.burnedFuses, { s.boot with fixative := true, stage := 8, heldOff := mask }⟩ ∧
    t.cold = { s.cold with varnish := s.varnish.burn s.burnList (3 * s.burnList.length) } ∧
    x.boot.fuseWdtHw = s.boot.fuseWdtHw ∧ x.boot.svcStrap = s.boot.svcStrap ∧
    (s.rails.length = 16 → s.pm.stVout.length = 16 → ∀ n < 16, s.boot.ovNodes.getLsbD n = true → s.railEn n = true →
      mask.getLsbD n = false → NodeLatched n x) := by
  have hexec : exec .primeP7 s = .next s.primedRails.nodesStopped.primedSeeded.primedPins.primedEnd := execPrimeP7_eq h
  have hcold := (State.primedSeeded_cold _).trans
    (s.primedRails.nodesStopped_cold.trans (s.primedBoot.primeRails_cold.trans s.primedBoot_cold))
  have hseeded := (State.primedSeeded_provision _).trans s.primedRails.nodesStopped_provision
  have hlatched := @State.primedRails_latched s
  generalize s.primedRails.nodesStopped.primedSeeded = x at hexec hcold hseeded hlatched
  obtain ⟨mask, hprov⟩ := s.primedRails_provision
  have hheld : s.primedRails.boot.heldOff = mask := congrArg (·.boot.heldOff) hprov
  have hx := hseeded.trans hprov
  rw [hheld] at hlatched
  exact ⟨mask, x, _, hexec, x.primedPins_end, x.primedPins_end.provision.trans hx, x.primedPins_end.cold.trans hcold,
    congrArg (·.boot.fuseWdtHw) hx, congrArg (·.boot.svcStrap) hx,
    fun hlen hvouts n hn hnode hen hheld => hlatched hn hlen hvouts hnode hen hheld⟩

/-- What a latched rail shows at the end of P7. -/
theorem PrimedEnd.latched {s t : State} {n : Nat} (h : PrimedEnd s t) (hs : NodeLatched n s) :
    (t.rail n).core.state = .faultLatched ∧
    (t.rail n).prot.latch.getLsbD 0 = true ∧ (t.pm.stVout.getD n 0).getLsbD 7 = true ∧ t.pins.faultReleased = false := by
  have hrail : t.rail n = s.rail n := by rw [State.rail, h.rails, State.rail]
  have hany : (s.rails.any fun r => r.core.state.latched) = true := by
    refine List.any_eq_true.2 ⟨s.rail n, ?_, by rw [hs.state]; rfl⟩
    rw [State.rail, List.getD_eq_getElem _ _ hs.rails]
    exact List.getElem_mem _
  rw [hrail, h.pm, h.faultReleased, hany]
  exact ⟨hs.state, hs.latch, hs.vout, rfl⟩

theorem PrimedEnd.faultReleased_iff {s t : State} (h : PrimedEnd s t) :
    t.pins.faultReleased = true ↔ ∀ r ∈ t.rails, r.core.state.latched = false := by
  rw [h.faultReleased, h.rails]
  simp

/-- Settles O14, from the outcomes of the tests of P6 and from what P7 burns, latches and starts. -/
theorem selfTestsAndPrimed : Obligations.SelfTestsAndPrimed := by
  refine ⟨fun s hheld hsafe hstage => ?_, fun s hheld hsafe hstage => ?_⟩
  · have hrejects {r : SelfTest} {d : Nat} (hfail : s.selfTestFail r = some d) : ∃ t, exec (.primeP6 r) s = .next t ∧
        t.boot.stage = 0xE ∧ t.boot.cause = 0xB ∧ t.boot.detail = BitVec.ofNat 8 d := by
      obtain ⟨t, hexec, hend, hcause, hdetail, -⟩ := primeP6_rejects hheld hsafe hstage hfail
      exact ⟨t, hexec, hend, hcause, hdetail⟩
    refine ⟨fun r hcomps hconvA hconvB hsense => primeP6_passes hheld hsafe hstage hcomps hconvA hconvB fun n hn _ => hsense n hn,
      fun r hsense => ⟨fun n hn hen hbad hlow => hrejects (State.selfTestFail_comp hsense hn hen hbad hlow),
        fun hcomp => ⟨fun hany hA hB => hrejects (State.selfTestFail_uv hsense hcomp hany hA hB),
          fun hany huv hA hB => hrejects (State.selfTestFail_ov hsense hcomp hany huv hA hB),
          fun huv hov i hi hpower hA hB hlow => ?_⟩⟩,
      fun r n hen hbad hlow hn => ?_⟩
    · obtain ⟨t, hexec, hend, hcause, hdetail, -, hpm⟩ := primeP6_rejects hheld hsafe hstage
        (State.selfTestFail_pair hsense hcomp huv hov hi hpower hA hB hlow)
      exact ⟨t, hexec, hend, hcause, hdetail, (State.cmlSet_of_pm hpm).2 (State.selfTested_sets_cml hi hpower hA hB)⟩
    · obtain ⟨t, hexec, hend, hcause, hdetail, hlanes, -⟩ := primeP6_rejects hheld hsafe hstage
        (State.selfTestFail_sense hn hen hbad hlow)
      exact ⟨t, hexec, hend, hcause, hdetail, hlanes⟩
  · obtain ⟨mask, x, t, hexec, hend, hprov, hcold, hwdt, hsvc, hlatched⟩ :=
      primeP7_completes (State.inStage_of hheld hsafe hstage)
    have hfuses : t.fuses = s.burnedFuses := congrArg Provision.fuses hprov
    have hboot : t.boot = { s.boot with fixative := true, stage := 8, heldOff := mask } := congrArg Provision.boot hprov
    rw [← hwdt, ← hsvc]
    refine ⟨t, hexec, ?_⟩
    rw [hfuses, hboot]
    exact ⟨rfl, rfl, hend.faultReleased_iff, rfl, s.burnedFuses_keyValid, congrArg Cold.varnish hcold,
      State.burnedFuses_hash, fun h => by rw [s.burnedFuses_keyHash, h]; rfl, s.burnedFuses_rb.1, s.burnedFuses_rb.2,
      fun hlen hvouts n hn hnode hen hheld => hend.latched (hlatched hlen hvouts n hn hnode hen hheld),
      hend.wdtHw, hend.baud, congrArg Cold.shadow hcold, congrArg Cold.flash hcold⟩

end Sys2Proof.Machine
end

/-! SUPPORT. Reads and process calls of the bus: the reply that a served transaction leaves, and what a completely clocked one
commits. -/

section
namespace Sys2Proof.Machine

/-! ### A served transaction -/

/-- The bus once address and code of a served transaction are acknowledged. -/
def State.addressed (s : State) : State :=
  { s with bus := { s.bus with addrAcked := true, acked := true, reply := [], pecAcked := true } }

/-- The bus once the reply of a served read has been clocked. -/
def State.replied (s : State) (code : Nat) (sent data : List Byte) (k : Nat) : State :=
  { s with bus := { s.addressed.bus with reply := replyOf s code sent data k } }

/-- A match of the address wakes nothing outside standby. -/
theorem State.busWake_awake {s : State} (h : s.clock.standby = false) : s.busWake = s := by
  simp [State.busWake, State.wakeUp, h]

theorem State.judge_reply (s : State) : s.judge.bus.reply = s.bus.reply := by
  have halert (t : State) : t.judgeAlert.bus.reply = t.bus.reply := by
    unfold State.judgeAlert State.setAlert
    split
    · dsimp only
      split <;> rfl
    · rfl
  rw [State.judge, halert, State.noteSources_bus]

section Served
variable {s : State} {code : Nat} (h : BusServes s code)
include h

theorem State.transact_served (f : State → State) : s.transact code f = .next (f s.addressed).judge := by
  obtain ⟨hup, hawake, haccepts⟩ := h
  unfold State.transact
  rw [if_pos hup, State.busWake_awake hawake]
  refine (if_pos haccepts).trans ?_
  rw [State.addressed, ← haccepts]
  rfl

/-- A read of a block. -/
theorem State.blockRead_served (k : Nat) (words : State → List Word) (commit : State → State) :
    s.blockRead code (.recv k) words commit =
      .next (s.addressed.busRead code [] (blockOf (words s.addressed)) k commit).judge := by
  unfold State.blockRead State.plain
  exact State.transact_served h _

/-- A process call whose request has the form of its command. -/
theorem State.processCall_answered {sent data : List Byte} {k : Nat} {u : State} {commit : State → State}
    {serve : List Byte → State → Option (List Byte × State × (State → State))}
    (hserve : serve sent s.addressed = some (data, u, commit)) :
    s.processCall code (.call sent k) serve = .next (u.busRead code sent data k commit).judge := by
  unfold State.processCall
  rw [State.transact_served h]
  dsimp only
  rw [hserve]

/-- A read without the write part of a process call. -/
theorem State.processCall_unasked {k : Nat} {serve : List Byte → State → Option (List Byte × State × (State → State))}
    (hserve : serve [] s.addressed = none) :
    s.processCall code (.recv k) serve = .next (s.addressed.invalidData.busRead code [] [0] k id).judge := by
  unfold State.processCall
  rw [State.transact_served h]
  dsimp only
  rw [hserve]

theorem State.processCall_sent (bytes : List Byte)
    (serve : List Byte → State → Option (List Byte × State × (State → State))) :
    s.processCall code (.send bytes) serve = .next s.addressed.invalidData.judge :=
  State.transact_served h _

end Served

/-- A read commits where the host clocks its reply completely. -/
theorem State.busRead_addressed (s : State) (code : Nat) (sent data : List Byte) (k : Nat) (commit : State → State) :
    s.addressed.busRead code sent data k commit =
      if data.length + s.pecReq ≤ k then commit (s.replied code sent data k) else s.replied code sent data k := by
  by_cases hk : data.length + s.pecReq ≤ k
  · rw [if_pos hk]
    exact if_pos (decide_eq_true hk)
  · rw [if_neg hk]
    exact if_neg (mt of_decide_eq_true hk)

/-- What a served read leaves: its reply, and where the host clocks that completely the state `v` that the read commits. -/
theorem State.busRead_noted {s v : State} {commit : State → State} (code : Nat) (sent data : List Byte) (k : Nat)
    (hcommit : ∀ b, commit { s with bus := b } = { v with bus := b }) : ∃ r b,
    (s.addressed.busRead code sent data k commit).judge =
      { (if data.length + s.pecReq ≤ k then v else s) with router := r, bus := b } ∧
    b.reply = replyOf s code sent data k := by
  have hread : s.addressed.busRead code sent data k commit =
      { (if data.length + s.pecReq ≤ k then v else s) with bus := (s.replied code sent data k).bus } := by
    rw [State.busRead_addressed]
    split
    · exact hcommit _
    · rfl
  have hreply := State.judge_reply (s.addressed.busRead code sent data k commit)
  obtain ⟨r, b, hj⟩ := (s.addressed.busRead code sent data k commit).judge_eq
  rw [hj] at hreply ⊢
  rw [hread] at hreply ⊢
  exact ⟨r, b, rfl, hreply⟩

/-- A read that commits nothing changes the bus alone. -/
theorem State.busRead_plain (s : State) (code : Nat) (sent data : List Byte) (k : Nat) : ∃ r b,
    (s.addressed.busRead code sent data k id).judge = { s with router := r, bus := b } ∧
    b.reply = replyOf s code sent data k := by
  obtain ⟨r, b, ht, hreply⟩ := State.busRead_noted (s := s) (v := s) (commit := id) code sent data k fun _ => rfl
  exact ⟨r, b, ht.trans (by rw [ite_self]), hreply⟩

/-! ### Replies -/

theorem length_wordBytes (ws : List Word) : (wordBytes ws).length = 4 * ws.length := by
  induction ws with
  | nil => rfl
  | cons w ws ih =>
    rw [wordBytes, List.flatMap_cons, List.length_append, length_leBytes, ← wordBytes, ih, List.length_cons]
    omega

theorem length_blockOf (ws : List Word) : (blockOf ws).length = 4 * ws.length + 1 := by
  rw [blockOf, List.length_cons, length_wordBytes]

/-- The four bytes of a word name it. -/
theorem ofBytes_word (q : Word) : BitVec.ofNat 32 (ofBytes (leBytes 4 q.toNat)) = q := by
  rw [ofBytes_leBytes]
  exact BitVec.eq_of_toNat_eq (by simpa using q.isLt)

/-- FIRST and COUNT of a claims block (R451). -/
theorem claims_word (s : State) (first : Byte) :
    word [fld 16 8 first.toNat, fld 0 16 s.claimCount] = BitVec.ofNat 32 (first.toNat * 65536 + s.claimCount) := by
  have hfirst := first.isLt
  have hcount : s.claimCount < 2 ^ 16 := s.cfg_lt 2 0 2
  rw [word, fld, fld, Nat.mod_eq_of_lt hfirst, Nat.mod_eq_of_lt hcount]
  simp

/-! ### Reads that clear -/

section Reads
variable {s : State} (k : Nat)

theorem mfrCellStatus_answers (h : BusServes s 0xD7) :
    ∃ t, exec (.mfrCellStatus (.recv k)) s = .next t ∧
      t.bus.reply = replyOf s 0xD7 [] (blockOf (s.cellWords s.pm.cellSelect.toNat)) k ∧
      t.cells = (if (blockOf (s.cellWords s.pm.cellSelect.toNat)).length + s.pecReq ≤ k then
        s.cells.modify s.pm.cellSelect.toNat (fun x => { x with retriesOk := 0 }) else s.cells) ∧
      t = { s with cells := t.cells, router := t.router, bus := t.bus } := by
  have hexec : exec (.mfrCellStatus (.recv k)) s = .next (s.addressed.busRead 0xD7 []
      (blockOf (s.cellWords s.pm.cellSelect.toNat)) k fun s => s.clearCell s.pm.cellSelect.toNat).judge :=
    State.blockRead_served h k (fun s => s.cellWords s.pm.cellSelect.toNat) fun s => s.clearCell s.pm.cellSelect.toNat
  obtain ⟨r, b, ht, hreply⟩ := State.busRead_noted (s := s) (v := s.clearCell s.pm.cellSelect.toNat)
    (commit := fun s => s.clearCell s.pm.cellSelect.toNat) 0xD7 [] (blockOf (s.cellWords s.pm.cellSelect.toNat)) k fun _ => rfl
  refine ⟨_, hexec.trans (congrArg Host.Outcome.next ht), hreply, ?_, ?_⟩ <;> dsimp only <;>
    split <;> rfl

theorem mfrPaletteState_answers (h : BusServes s 0xDB) :
    ∃ t, exec (.mfrPaletteState (.recv k)) s = .next t ∧
      t.bus.reply = replyOf s 0xDB [] (blockOf ((List.range 8).map s.portWord)) k ∧
      t.ports = (if 33 + s.pecReq ≤ k then s.ports.map (fun p => { p with ignored := 0 }) else s.ports) ∧
      t = { s with ports := t.ports, router := t.router, bus := t.bus } := by
  have hexec : exec (.mfrPaletteState (.recv k)) s = .next (s.addressed.busRead 0xDB []
      (blockOf ((List.range 8).map s.portWord)) k State.clearPorts).judge :=
    State.blockRead_served h k (fun s => (List.range 8).map s.portWord) State.clearPorts
  obtain ⟨r, b, ht, hreply⟩ := State.busRead_noted (s := s) (v := s.clearPorts) (commit := State.clearPorts) 0xDB []
    (blockOf ((List.range 8).map s.portWord)) k fun _ => rfl
  have hlen : (blockOf ((List.range 8).map s.portWord)).length = 33 := by rw [length_blockOf]; rfl
  rw [hlen] at ht
  refine ⟨_, hexec.trans (congrArg Host.Outcome.next ht), hreply, ?_, ?_⟩ <;> dsimp only <;>
    split <;> rfl

/-- A page that names one rail is not 0xFF. -/
theorem page_ne_all (n : Fin 16) : (BitVec.ofNat 8 n.val : Byte) ≠ 0xFF ∧ (BitVec.ofNat 8 n.val : Byte).toNat = n.val := by
  revert n
  decide

theorem mfrLoopState_answers (n : Fin 16) (h16 : s.rails.length = 16) (h : BusServes s 0xE3)
    (hpage : s.pm.page = BitVec.ofNat 8 n.val) (hen : s.railEn n = true) :
    ∃ t, exec (.mfrLoopState (.recv k)) s = .next t ∧
      t.bus.reply = replyOf s 0xE3 [] (bytesBlock (wordBytes (s.loopWords n))) k ∧
      (t.rail n).le = (if (bytesBlock (wordBytes (s.loopWords n))).length + s.pecReq ≤ k then
        { (s.rail n).le with satSeen := false, maxCyc := 0 } else (s.rail n).le) ∧
      t = { s with rails := t.rails, router := t.router, bus := t.bus } := by
  obtain ⟨hne, hnum⟩ := page_ne_all n
  have hall : s.pageAll = false := by
    rw [State.pageAll, hpage]
    simpa using hne
  have hrail : s.railEn s.pm.page.toNat = true := by rw [hpage, hnum]; exact hen
  have hdata : s.pagedData 8 false (fun i => wordBytes (s.loopWords i)) = wordBytes (s.loopWords n) := by
    rw [State.pagedData, hall, hrail, hpage, hnum]
    rfl
  have hcommit (b : Bus) : State.when { s with bus := b } (!s.pageAll && s.railEn s.pm.page.toNat)
      (fun s => s.clearLoop s.pm.page.toNat) = { s.clearLoop n with bus := b } := by
    rw [hall, hrail, ← hnum, ← hpage]
    rfl
  have hserved : exec (.mfrLoopState (.recv k)) s =
      .next (s.addressed.pagedRead 0xE3 8 false bytesBlock (fun i => wordBytes (s.loopWords i)) k
        fun s => s.clearLoop s.pm.page.toNat).judge := by
    change s.pagedBlock 0xE3 8 (.recv k) State.loopWords State.clearLoop = _
    unfold State.pagedBlock State.plain
    exact State.transact_served h _
  have hread : s.addressed.pagedRead 0xE3 8 false bytesBlock (fun i => wordBytes (s.loopWords i)) k
        (fun s => s.clearLoop s.pm.page.toNat) =
      s.addressed.busRead 0xE3 [] (bytesBlock (wordBytes (s.loopWords n))) k
        fun s => s.when (!s.pageAll && s.railEn s.pm.page.toNat) fun s => s.clearLoop s.pm.page.toNat := by
    rw [← hdata]
    unfold State.pagedRead
    rw [show s.addressed.pageAll = false from hall]
    rfl
  rw [hread] at hserved
  obtain ⟨r, b, ht, hreply⟩ := State.busRead_noted (s := s) (v := s.clearLoop n)
    (commit := fun s => s.when (!s.pageAll && s.railEn s.pm.page.toNat) fun s => s.clearLoop s.pm.page.toNat)
    0xE3 [] (bytesBlock (wordBytes (s.loopWords n))) k hcommit
  refine ⟨_, hserved.trans (congrArg Host.Outcome.next ht), hreply, ?_, ?_⟩
  · dsimp only
    split
    · exact congrArg Rail.le (s.updRail_rail n _ (n.isLt.trans_eq h16.symm))
    · rfl
  · dsimp only
    split <;> rfl

/-! ### Process calls -/

/-- What MFR_EVT_READ gives to the bytes of a request (R386, R388). -/
def evtServe (b : List Byte) (s : State) : Option (List Byte × State × (State → State)) :=
  if b.length != 5 || b.headD 0 != 4 then none
  else
    let q : Word := BitVec.ofNat 32 (ofBytes (b.drop 1))
    if q == 0xFFFFFFFF then some (blockOf s.readCursor.words, s, State.moveCursor)
    else some (blockOf (s.sketch.read q).words, s, id)

theorem exec_mfrEvtRead (x : BusXfer) (s : State) : exec (.mfrEvtRead x) s = s.processCall 0xD9 x evtServe := rfl

/-- What MFR_RESOURCE_CLAIMS gives to the bytes of a request (R451). -/
def claimsServe (b : List Byte) (s : State) : Option (List Byte × State × (State → State)) :=
  if b.length != 1 then none
  else some (blockOf (word [fld 16 8 (b.headD 0).toNat, fld 0 16 s.claimCount] ::
    (List.range (min 62 (s.claimCount - (b.headD 0).toNat))).map fun i => BitVec.ofNat 32 (s.claim ((b.headD 0).toNat + i))), s, id)

theorem exec_mfrResourceClaims (x : BusXfer) (s : State) :
    exec (.mfrResourceClaims x) s = s.processCall 0xE2 x claimsServe := rfl

theorem mfrEvtRead_answers (h : BusServes s 0xD9) {q : Word} (hq : q ≠ 0xFFFFFFFF) :
    ∃ t, exec (.mfrEvtRead (.call (4 :: leBytes 4 q.toNat) k)) s = .next t ∧
      t.bus.reply = replyOf s 0xD9 (4 :: leBytes 4 q.toNat) (blockOf (s.sketch.read q).words) k ∧
      t = { s with router := t.router, bus := t.bus } := by
  have hserve : evtServe (4 :: leBytes 4 q.toNat) s.addressed = some (blockOf (s.sketch.read q).words, s.addressed, id) := by
    unfold evtServe
    rw [List.length_cons, length_leBytes, List.drop_one, List.tail_cons, ofBytes_word]
    dsimp only
    rw [if_neg (by simp), if_neg (by simpa using hq)]
    rfl
  obtain ⟨r, b, ht, hreply⟩ := s.busRead_plain 0xD9 (4 :: leBytes 4 q.toNat) (blockOf (s.sketch.read q).words) k
  exact ⟨_, (State.processCall_answered h hserve).trans (congrArg Host.Outcome.next ht), hreply, rfl⟩

theorem mfrEvtRead_atCursor (h : BusServes s 0xD9) :
    ∃ t, exec (.mfrEvtRead (.call [4, 0xFF, 0xFF, 0xFF, 0xFF] k)) s = .next t ∧
      t.bus.reply = replyOf s 0xD9 [4, 0xFF, 0xFF, 0xFF, 0xFF] (blockOf s.readCursor.words) k ∧
      t.ret = (if (blockOf s.readCursor.words).length + s.pecReq ≤ k then s.moveCursor.ret else s.ret) ∧
      t = { s with ret := t.ret, router := t.router, bus := t.bus } := by
  obtain ⟨r, b, ht, hreply⟩ := State.busRead_noted (s := s) (v := s.moveCursor) (commit := State.moveCursor) 0xD9
    [4, 0xFF, 0xFF, 0xFF, 0xFF] (blockOf s.readCursor.words) k fun _ => rfl
  have hserve : evtServe [4, 0xFF, 0xFF, 0xFF, 0xFF] s.addressed =
      some (blockOf s.readCursor.words, s.addressed, State.moveCursor) := rfl
  refine ⟨_, (State.processCall_answered h hserve).trans (congrArg Host.Outcome.next ht), hreply, ?_, ?_⟩ <;> dsimp only <;>
    split <;> rfl

theorem mfrResourceClaims_answers (h : BusServes s 0xE2) (first : Byte) :
    ∃ t, exec (.mfrResourceClaims (.call [first] k)) s = .next t ∧
      t.bus.reply = replyOf s 0xE2 [first] (blockOf (BitVec.ofNat 32 (first.toNat * 65536 + s.claimCount) ::
        (List.range (min 62 (s.claimCount - first.toNat))).map fun i => BitVec.ofNat 32 (s.claim (first.toNat + i)))) k ∧
      t = { s with router := t.router, bus := t.bus } := by
  rw [← claims_word]
  obtain ⟨r, b, ht, hreply⟩ := s.busRead_plain 0xE2 [first] (blockOf (word [fld 16 8 first.toNat, fld 0 16 s.claimCount] ::
    (List.range (min 62 (s.claimCount - first.toNat))).map fun i => BitVec.ofNat 32 (s.claim (first.toNat + i)))) k
  exact ⟨_, (State.processCall_answered (serve := claimsServe) h rfl).trans (congrArg Host.Outcome.next ht), hreply, rfl⟩

/-- What MFR_TELEM_MINMAX gives to the bytes of a request (R330, R331, R449). -/
def trackServe (b : List Byte) (s : State) : Option (List Byte × State × (State → State)) :=
  if b.length != 2 || 64 ≤ (b.getD 0 0).toNat || 2 ≤ (b.getD 1 0).toNat then none
  else if s.trkCh (b.getD 0 0).toNat = 0x7F then some (bytesBlock (List.replicate 8 0), s.invalidData, id)
  else if b.getD 1 0 == 1 && s.owner 3 (b.getD 0 0).toNat != 0x21 && s.owner 3 (b.getD 0 0).toNat != 3 then
    some (blockOf (s.trackWords (b.getD 0 0).toNat),
      (s.conflict 3 (b.getD 0 0).toNat 1 (s.owner 3 (b.getD 0 0).toNat)).invalidData, id)
  else some (blockOf (s.trackWords (b.getD 0 0).toNat), s,
    fun s => s.when (b.getD 1 0 == 1) fun s => s.clearTracker (b.getD 0 0).toNat)

theorem exec_mfrTelemMinmax (x : BusXfer) (s : State) : exec (.mfrTelemMinmax x) s = s.processCall 0xDD x trackServe := rfl

/-- The number of a tracker in one byte. -/
theorem tracker_byte (tr : Fin 64) : (BitVec.ofNat 8 tr.val : Byte).toNat = tr.val := by
  revert tr
  decide

/-- A tracker in use is read, and cleared where the request says so and its owner lets HOST clear it. -/
theorem trackServe_read {tr : Fin 64} (hch : s.trkCh tr ≠ 0x7F) {clear : Byte} (hclear : clear.toNat < 2)
    (howner : clear = 1 → s.owner 3 tr = 0x21 ∨ s.owner 3 tr = 3) :
    trackServe [BitVec.ofNat 8 tr.val, clear] s.addressed = some (blockOf (s.trackWords tr), s.addressed,
      fun s => s.when (clear == 1) fun s => s.clearTracker tr) := by
  have htr := tr.isLt
  unfold trackServe
  simp only [List.getD_cons_zero, List.getD_cons_succ, tracker_byte]
  rw [if_neg (by simp; omega), if_neg (by exact hch), if_neg (by
    rw [Bool.and_eq_true, Bool.and_eq_true, beq_iff_eq, bne_iff_ne, bne_iff_ne]
    rintro ⟨⟨h1, hhm⟩, hhost⟩
    exact (howner h1).elim hhm hhost)]
  rfl

theorem mfrTelemMinmax_reads (h : BusServes s 0xDD) {tr : Fin 64} (hch : s.trkCh tr ≠ 0x7F) :
    ∃ t, exec (.mfrTelemMinmax (.call [BitVec.ofNat 8 tr.val, 0] k)) s = .next t ∧
      t.bus.reply = replyOf s 0xDD [BitVec.ofNat 8 tr.val, 0] (blockOf (s.trackWords tr)) k ∧
      t = { s with router := t.router, bus := t.bus } := by
  have hserve := trackServe_read (clear := 0) hch (by decide) fun h0 => absurd h0 (by decide)
  obtain ⟨r, b, ht, hreply⟩ := s.busRead_plain 0xDD [BitVec.ofNat 8 tr.val, 0] (blockOf (s.trackWords tr)) k
  exact ⟨_, (State.processCall_answered h hserve).trans (congrArg Host.Outcome.next ht), hreply, rfl⟩

theorem mfrTelemMinmax_clears (h : BusServes s 0xDD) {tr : Fin 64} (hch : s.trkCh tr ≠ 0x7F)
    (howner : s.owner 3 tr = 0x21 ∨ s.owner 3 tr = 3) :
    ∃ t, exec (.mfrTelemMinmax (.call [BitVec.ofNat 8 tr.val, 1] k)) s = .next t ∧
      t.bus.reply = replyOf s 0xDD [BitVec.ofNat 8 tr.val, 1] (blockOf (s.trackWords tr)) k ∧
      t.telem = (if (blockOf (s.trackWords tr)).length + s.pecReq ≤ k then
        { s.telem with tracks := s.telem.tracks.modify tr fun x =>
          if s.sameCycle x.lastAt then Track.reset.take x.last s.clock.tick else Track.reset } else s.telem) ∧
      t = { s with telem := t.telem, router := t.router, bus := t.bus } := by
  have hserve := trackServe_read (clear := 1) hch (by decide) fun _ => howner
  obtain ⟨r, b, ht, hreply⟩ := State.busRead_noted (s := s) (v := s.clearTracker tr) (commit := fun s => s.clearTracker tr) 0xDD
    [BitVec.ofNat 8 tr.val, 1] (blockOf (s.trackWords tr)) k fun _ => rfl
  refine ⟨_, (State.processCall_answered h hserve).trans (congrArg Host.Outcome.next ht), hreply, ?_, ?_⟩ <;> dsimp only <;>
    split <;> rfl

/-! ### The take of a message -/

/-- The mark of a message of which D0 has been clocked (R394). -/
def State.markRead (s : State) (c k : Nat) : State := s.when (decide (9 ≤ k)) fun s => s.updChan c fun x => { x with read := true }

/-- What MFR_MBOX_TAKE gives to the bytes of a request of which `k` bytes of the reply are clocked (R406). -/
def takeServe (k : Nat) (b : List Byte) (s : State) : Option (List Byte × State × (State → State)) :=
  let c := (b.getD 1 0).toNat
  if b.length != 2 || b.headD 0 != 1 || 16 ≤ c then none
  else
    let m := s.chan c
    if m.full && s.receives .host c then
      some (blockOf (m.control :: m.d.take (hdrLen (m.d.headD 0))), s.markRead c k, fun s => (s.orphanRecord c).takeFrom c)
    else some (blockOf [m.control], s, id)

theorem exec_mfrMboxTake_call (b : List Byte) (k : Nat) (s : State) :
    exec (.mfrMboxTake (.call b k)) s = s.processCall 0xD1 (.call b k) (takeServe k) := rfl

theorem exec_mfrMboxTake_recv (k : Nat) (s : State) :
    exec (.mfrMboxTake (.recv k)) s = s.processCall 0xD1 (.recv k) (takeServe 0) := rfl

theorem exec_mfrMboxTake_send (b : List Byte) (s : State) :
    exec (.mfrMboxTake (.send b)) s = s.processCall 0xD1 (.send b) (takeServe 0) := rfl

/-- The number of a channel in one byte. -/
theorem channel_byte (ch : Fin 16) : (BitVec.ofNat 8 ch.val : Byte).toNat = ch.val := (page_ne_all ch).2

theorem mfrMboxTake_reads (h : BusServes s 0xD1) (ch : Fin 16) (hno : (s.chan ch).full = false ∨ s.receives .host ch = false) :
    ∃ t, exec (.mfrMboxTake (.call [1, BitVec.ofNat 8 ch.val] k)) s = .next t ∧
      t.bus.reply = replyOf s 0xD1 [1, BitVec.ofNat 8 ch.val] (blockOf [(s.chan ch).control]) k ∧
      t = { s with router := t.router, bus := t.bus } := by
  have hch := ch.isLt
  have hserve : takeServe k [1, BitVec.ofNat 8 ch.val] s.addressed = some (blockOf [(s.chan ch).control], s.addressed, id) := by
    unfold takeServe
    simp only [List.getD_cons_zero, List.getD_cons_succ, channel_byte]
    rw [if_neg (by simp), if_neg]
    · rfl
    · change ¬ ((s.chan ch).full && s.receives .host ch) = true
      obtain hno | hno := hno <;> simp [hno]
  obtain ⟨r, b, ht, hreply⟩ := s.busRead_plain 0xD1 [1, BitVec.ofNat 8 ch.val] (blockOf [(s.chan ch).control]) k
  exact ⟨_, (State.processCall_answered h hserve).trans (congrArg Host.Outcome.next ht), hreply, rfl⟩

theorem State.takeFrom_eq (s : State) (c : Nat) : ∃ l, s.takeFrom c = s.withChans l := by
  obtain ⟨l, hl⟩ := (s.updChan c fun x => { x with read := true }).release_eq c
  exact ⟨l, hl⟩

/-- A channel taken with no message waiting is free. -/
theorem State.takeFrom_frees {s : State} {c : Nat} (hc : c < s.mail.chans.length) (hout : (s.chan c).out = []) :
    ((s.takeFrom c).chan c).full = false :=
  (State.release_chan (s := s.updChan c fun x => { x with read := true }) (by simpa using hc)
    (by rw [s.updChan_chan c _ hc]; exact hout)).1

theorem State.orphanRecord_eq (s : State) (c : Nat) : ∃ sketch1, s.orphanRecord c = { s with sketch := sketch1 } ∧
    ((s.chan c).orphan = false → sketch1 = s.sketch) := by
  unfold State.orphanRecord State.when
  dsimp only
  split
  next horphan =>
    obtain ⟨k, hk⟩ := State.record_eq s 0x9004 c ((s.chan c).d.getD 0 0).toNat
      ((s.chan c).sndEpoch.toNat * 65536 + (s.epochOf (s.chanSender c)).toNat)
    exact ⟨k, hk, fun hno => absurd (horphan.symm.trans hno) (by decide)⟩
  next => exact ⟨s.sketch, rfl, fun _ => rfl⟩

/-- The mark changes the channel's READ alone. -/
theorem State.markRead_eq (s : State) (c k : Nat) : ∃ l, s.markRead c k = s.withChans l ∧ l.length = s.mail.chans.length ∧
    (c < s.mail.chans.length → ∃ read1, l.getD c Channel.reset = { s.chan c with read := read1 }) := by
  unfold State.markRead State.when
  split
  · exact ⟨_, rfl, List.length_modify .., fun hc => ⟨true, s.updChan_chan c _ hc⟩⟩
  · exact ⟨s.mail.chans, rfl, rfl, fun _ => ⟨(s.chan c).read, rfl⟩⟩

theorem mfrMboxTake_takes (h : BusServes s 0xD1) (hsize : s.mail.chans.length = 16) (ch : Fin 16) (hfull : (s.chan ch).full = true)
    (hhost : s.receives .host ch = true) :
    let data := blockOf ((s.chan ch).control :: (s.chan ch).d.take (hdrLen ((s.chan ch).d.headD 0)))
    ∃ t, exec (.mfrMboxTake (.call [1, BitVec.ofNat 8 ch.val] k)) s = .next t ∧
      t.bus.reply = replyOf s 0xD1 [1, BitVec.ofNat 8 ch.val] data k ∧
      (data.length + s.pecReq ≤ k → (s.chan ch).out = [] → (t.chan ch).full = false) ∧
      (k < data.length + s.pecReq → (t.chan ch).full = true ∧ (t.chan ch).d = (s.chan ch).d) ∧
      ((s.chan ch).orphan = false → t.sketch = s.sketch) ∧
      t = { s with mail := t.mail, sketch := t.sketch, router := t.router, bus := t.bus } := by
  intro data
  obtain ⟨l, hmark, hlen, hchan⟩ := s.markRead_eq ch k
  obtain ⟨read1, hchan⟩ := hchan (ch.isLt.trans_eq hsize.symm)
  have hserve : takeServe k [1, BitVec.ofNat 8 ch.val] s.addressed =
      some (data, (s.withChans l).addressed, fun s => (s.orphanRecord ch).takeFrom ch) := by
    have hch := ch.isLt
    have hmarked : s.addressed.markRead ch k = (s.withChans l).addressed := by
      rw [← hmark]
      unfold State.markRead State.when
      split <;> rfl
    unfold takeServe
    simp only [List.getD_cons_zero, List.getD_cons_succ, channel_byte]
    rw [if_neg (by simp), if_pos, hmarked]
    · rfl
    · change ((s.chan ch).full && s.receives .host ch) = true
      rw [hfull, hhost]
      rfl
  have hexec := State.processCall_answered h hserve (k := k)
  rw [State.busRead_addressed] at hexec
  let w := (s.withChans l).replied 0xD1 [1, BitVec.ofNat 8 ch.val] data k
  have hw : w.chan ch = { s.chan ch with read := read1 } := hchan
  by_cases hk : data.length + s.pecReq ≤ k
  · rw [if_pos (by exact hk)] at hexec
    obtain ⟨sketch1, horphan, hsketch⟩ := w.orphanRecord_eq ch
    obtain ⟨l', htake⟩ := (w.orphanRecord ch).takeFrom_eq ch
    have hreply := State.judge_reply ((w.orphanRecord ch).takeFrom ch)
    obtain ⟨r, b, hj⟩ := ((w.orphanRecord ch).takeFrom ch).judge_eq
    refine ⟨_, hexec, ?_, fun _ hout => ?_, fun hlt => absurd hk (Nat.not_le.2 hlt), fun hno => ?_, ?_⟩
    · refine hreply.trans ?_
      rw [htake, horphan]
      rfl
    · rw [State.judge_chan]
      refine State.takeFrom_frees ?_ ?_
      · rw [horphan]
        exact (ch.isLt.trans_eq hsize.symm).trans_eq hlen.symm
      · rw [horphan]
        exact (congrArg Channel.out hw).trans hout
    · rw [State.judge_sketch, htake, horphan]
      exact hsketch ((congrArg Channel.orphan hw).trans hno)
    · rw [hj, htake, horphan]
      rfl
  · rw [if_neg (by exact hk)] at hexec
    obtain ⟨r, b, hj⟩ := w.judge_eq
    refine ⟨_, hexec, State.judge_reply w, fun hle => absurd hle hk, fun _ => ?_, fun _ => ?_, ?_⟩
    · rw [State.judge_chan, hw]
      exact ⟨hfull, rfl⟩
    · rw [State.judge_sketch]
      rfl
    · rw [hj]
      rfl

/-! ### What is not of the form of a process call -/

theorem State.invalidData_judge (s : State) : s.addressed.invalidData.judge =
    { s with pm := { s.pm with stCml := s.pm.stCml ||| 0x40 }, router := s.addressed.invalidData.judge.router
             bus := s.addressed.invalidData.judge.bus } := by
  obtain ⟨r, b, hj⟩ := s.addressed.invalidData.judge_eq
  rw [hj]
  rfl

/-- A process call without its read part, or without its write part (log entry 47). -/
theorem processCall_misformed {code : Nat} (h : BusServes s code) (bytes : List Byte)
    {serve : List Byte → State → Option (List Byte × State × (State → State))}
    (hserve : serve [] s.addressed = none) :
    (∃ t, s.processCall code (.send bytes) serve = .next t ∧
      t = { s with pm := { s.pm with stCml := s.pm.stCml ||| 0x40 }, router := t.router, bus := t.bus }) ∧
    (∃ t, s.processCall code (.recv k) serve = .next t ∧ t.bus.reply = replyOf s code [] [0] k ∧
      t = { s with pm := { s.pm with stCml := s.pm.stCml ||| 0x40 }, router := t.router, bus := t.bus }) := by
  refine ⟨⟨_, State.processCall_sent h bytes serve, s.invalidData_judge⟩, ?_⟩
  obtain ⟨r, b, ht, hreply⟩ := s.invalidData.busRead_plain code [] [0] k
  exact ⟨_, (State.processCall_unasked h hserve).trans (congrArg Host.Outcome.next ht), hreply, rfl⟩

end Reads

/-- Settles O55: a served transaction by its reply, and by what the read of the whole reply commits. -/
theorem busCallsAndClearingReads : Obligations.BusCallsAndClearingReads := by
  unfold Obligations.BusCallsAndClearingReads
  rintro s k ⟨-, hrails, -, -, -, -, -, -, hchans⟩
  refine ⟨fun h _ => mfrCellStatus_answers k h, mfrPaletteState_answers k,
    fun n h hpage hen => mfrLoopState_answers k n hrails h hpage hen,
    fun q h hq => mfrEvtRead_answers k h hq, mfrEvtRead_atCursor k,
    fun ch h => ⟨mfrMboxTake_reads k h ch, mfrMboxTake_takes k h hchans ch⟩,
    fun tr h hch => ⟨mfrTelemMinmax_reads k h hch, mfrTelemMinmax_clears k h hch⟩,
    fun first h => mfrResourceClaims_answers k h first, fun x hx h bytes => ?_⟩
  simp only [List.mem_cons, List.not_mem_nil, or_false] at hx
  obtain rfl | rfl | rfl | rfl := hx
  · exact processCall_misformed k h bytes (serve := evtServe) rfl
  · exact processCall_misformed k h bytes (serve := takeServe 0) rfl
  · exact processCall_misformed k h bytes (serve := trackServe) rfl
  · exact processCall_misformed k h bytes (serve := claimsServe) rfl

end Sys2Proof.Machine
end

/-! SUPPORT. New targets: what decides them, and what a new target makes of a rail that does not yield. -/

section
namespace Sys2Proof.Machine

/-! ### What decides a target -/

section Gates
variable {s t : State} {n : Nat} (h : SameGates s t)
include h

theorem SameGates.boot : t.boot = s.boot := by rw [h.eq]
theorem SameGates.shadow : t.shadow = s.shadow := by rw [h.eq]
theorem SameGates.palette : t.palette = s.palette := by rw [h.eq]
theorem SameGates.ports : t.ports = s.ports := by rw [h.eq]
theorem SameGates.cfg (sec off k : Nat) : t.cfg sec off k = s.cfg sec off k := by rw [State.cfg, h.shadow]; rfl

theorem SameGates.entryOf : t.entryOf n = s.entryOf n := by
  rw [h.eq]
  rfl

theorem SameGates.clampTarget (x : Nat) : t.clampTarget n x = s.clampTarget n x := by
  rw [h.eq]
  rfl

theorem SameGates.appStopped : t.appStopped = s.appStopped := by
  rw [h.eq]
  rfl

theorem SameGates.margin (hhost : (t.rail n).hosted = (s.rail n).hosted) (hreq : (t.rail n).core.enReq = (s.rail n).core.enReq) :
    t.margin n = s.margin n := by
  rw [State.margin, hhost, hreq, h.eq]
  rfl

theorem SameGates.paletteGoverns (hhost : (t.rail n).hosted = (s.rail n).hosted)
    (hreq : (t.rail n).core.enReq = (s.rail n).core.enReq) : t.paletteGoverns n = s.paletteGoverns n := by
  rw [State.paletteGoverns, h.margin hhost hreq, hhost, h.eq]
  rfl

end Gates

/-- A new target moves a rail into SLEWING at most, which none of these states is. -/
theorem RailState.live_retargeted (x : RailState) : x.retargeted.live = x.live := by cases x <;> rfl

theorem RailState.retargeted_hold (x : RailState) : x.retargeted = .apprenticeHold ↔ x = .apprenticeHold := by
  cases x <;> decide

theorem State.rank1_congr {s t : State} {n : Nat} (hprot : (t.rail n).prot = (s.rail n).prot)
    (hstate : (t.rail n).core.state.retargeted = (s.rail n).core.state.retargeted) : t.rank1 n = s.rank1 n := by
  rw [State.rank1, State.yieldL3, hprot, ← RailState.live_retargeted, hstate, RailState.live_retargeted]
  rfl

/-- Where the palette governs, T0 is the set-point of the entry in force, with PREBIAS above it in a pre-bias (R108). -/
theorem State.sourceTarget_palette {s : State} {n : Nat} (h : s.paletteGoverns n = true) : s.sourceTarget n =
    (if (s.rail n).core.prebias then min (entSetpt (s.entryOf n) + s.prebiasCfg n) (s.envMax n) else entSetpt (s.entryOf n),
      entSlew (s.entryOf n)) := by
  rw [State.paletteGoverns, Bool.and_eq_true, Option.isNone_iff_eq_none, Bool.or_eq_true, beq_iff_eq, beq_iff_eq] at h
  obtain ⟨hmargin, hhost⟩ := h
  rw [State.sourceTarget, hmargin]
  dsimp only
  rw [if_neg]
  obtain hhost | hhost := hhost <;> simp [hhost]

/-- Without a yield the target is T0. -/
theorem yieldTarget_none (t0 tf : Nat) : yieldTarget t0 tf 0 = t0 := by
  simp [yieldTarget, ceilQuot]

/-! ### What it makes of the rail -/

/-- T0 and its class as a change that is not the host's takes them: in a hold those that it keeps (R115). -/
def State.heldSource (s : State) (n : Nat) : Nat × Nat :=
  if (s.rail n).core.state == .apprenticeHold then ((s.rail n).core.base, (s.rail n).core.baseClass) else s.sourceTarget n

/-- The class that governs a move which no yield asks for (R115, R348). -/
def State.heldClass (s : State) (n : Nat) : Nat :=
  if (s.rail n).core.state == .apprenticeHold && !s.appStopped then s.appClass n else (s.heldSource n).2

/-- The core of a rail that takes a target (R101, R104, R105). -/
def RailCore.aimed (c : RailCore) (source : Nat × Nat) (cls target : Nat) (slide : Bool) : RailCore :=
  if target = c.target then { c with base := source.1, baseClass := source.2, govClass := cls }
  else { c with
    base := source.1, baseClass := source.2, govClass := cls
    target := target, settleDone := c.settleDone && slide, slide := slide,
    state := if c.state == .regulating then .slewing else c.state }

theorem State.updCore_rail {s : State} {n : Nat} (hn : n < s.rails.length) (f : RailCore → RailCore) :
    (s.updCore n f).rail n = { s.rail n with core := f (s.rail n).core } := s.updRail_rail n _ hn

theorem State.openWindow_rail (s : State) (m : Nat) (src : MaskSrc) (n : Nat) : (s.openWindow m src).rail n = s.rail n := rfl

/-- A rail that does not yield at L3 goes to its T0, clamped to the envelope (R114, R283). -/
theorem State.retargetWith_rail {s : State} {n : Nat} (hn : n < s.rails.length) (hrank : s.rank1 n = false) (slide : Bool) :
    (s.retargetWith n false slide).rail n = { s.rail n with
      core := (s.rail n).core.aimed (s.heldSource n) (s.heldClass n) (s.clampTarget n (s.heldSource n).1) slide } := by
  unfold State.retargetWith RailCore.aimed
  rw [hrank]
  simp only [Bool.false_eq_true, if_false, Bool.false_and, yieldTarget_none]
  rw [← State.heldSource, ← State.heldClass]
  split
  · exact State.updCore_rail hn _
  · rw [State.openWindow_rail, State.updCore_rail (by simpa [State.updCore] using hn), State.updCore_rail hn]

section Aimed
variable (c : RailCore) (source : Nat × Nat) (cls target : Nat) (slide : Bool)

theorem RailCore.aimed_base : (c.aimed source cls target slide).base = source.1 := by
  unfold RailCore.aimed
  split <;> rfl

theorem RailCore.aimed_govClass : (c.aimed source cls target slide).govClass = cls := by
  unfold RailCore.aimed
  split <;> rfl

theorem RailCore.aimed_target : (c.aimed source cls target slide).target = target := by
  unfold RailCore.aimed
  split
  next h => exact h.symm
  next => rfl

theorem RailCore.aimed_prebias : (c.aimed source cls target slide).prebias = c.prebias := by
  unfold RailCore.aimed
  split <;> rfl

theorem RailCore.aimed_settleDone : (c.aimed source cls target slide).settleDone =
    (c.settleDone && (target == c.target || slide)) := by
  unfold RailCore.aimed
  split
  next h => simp [h]
  next h => simp [beq_false_of_ne h]

end Aimed

/-- Outside a hold a rail that the palette governs takes the set-point and the class of its entry. -/
theorem State.heldSource_palette {s : State} {n : Nat} (hgov : s.paletteGoverns n = true)
    (hheld : (s.rail n).core.state ≠ .apprenticeHold) : s.heldSource n =
    (if (s.rail n).core.prebias then min (entSetpt (s.entryOf n) + s.prebiasCfg n) (s.envMax n) else entSetpt (s.entryOf n),
      entSlew (s.entryOf n)) := by
  rw [State.heldSource, beq_false_of_ne hheld, if_neg Bool.false_ne_true, State.sourceTarget_palette hgov]

theorem State.heldClass_free {s : State} {n : Nat} (hheld : (s.rail n).core.state ≠ .apprenticeHold) :
    s.heldClass n = (s.heldSource n).2 := by
  rw [State.heldClass, beq_false_of_ne hheld, Bool.false_and, if_neg Bool.false_ne_true]

end Sys2Proof.Machine
end

/-! SUPPORT. Settling, the end of a pre-bias, and the wait of a start. -/

section
namespace Sys2Proof.Machine

theorem State.rail_lt {s : State} (h16 : s.rails.length = 16) (n : Fin 16) : n.val < s.rails.length := n.isLt.trans_eq h16.symm

/-- A new target moves no phase. -/
theorem State.retargetWith_phases (s : State) (n : Nat) (hostMove slide : Bool) :
    (s.retargetWith n hostMove slide).phases = s.phases := by
  unfold State.retargetWith
  exact (apply_ite State.phases _ _ _).trans (ite_self _)

/-! ### The ramp -/

theorem State.when_rail (s : State) (c : Bool) {f : State → State} {m : Nat} (h : ∀ u, (f u).rail m = u.rail m) :
    (s.when c f).rail m = s.rail m := by
  unfold State.when
  split
  · exact h s
  · rfl

/-- V0 is taken, and the duties are pre-loaded with it. -/
theorem State.preloadStart_rail {s : State} {n : Nat} (hn : n < s.rails.length) : ∃ v model1 bs1,
    (s.preloadStart n).rail n = { s.rail n with
      core := { (s.rail n).core with slewed := v, v0 := v, lowSideIdle := true }, model := model1, bs := bs1 } := by
  unfold State.preloadStart
  dsimp only
  rw [State.updBs, State.updRail_rail _ _ _ (by simpa [State.updCore, State.updModel] using hn), State.updModel,
    State.updRail_rail _ _ _ (by simpa [State.updCore] using hn), State.updCore_rail hn]
  exact ⟨_, _, _, rfl⟩

/-- The ramp begins from V0 with the low-side intervals idle, and its first update is a FIRST one. -/
theorem State.beginRamp_rail {s : State} {n : Nat} (hn : n < s.rails.length) : ∃ v model1 bs1 sense1,
    (s.beginRamp n).rail n = { s.rail n with
      core := { (s.rail n).core with slewed := v, v0 := v, lowSideIdle := true, waitWake := false, startFrom := false }
      model := model1, bs := bs1, sense := sense1, le := { (s.rail n).le with setFirst := true, startPre := true } } := by
  obtain ⟨v, model1, bs1, hpre⟩ := State.preloadStart_rail hn
  have hlen : n < (s.preloadStart n).rails.length := by rw [(s.preloadStart_evaluates n).length]; exact hn
  unfold State.beginRamp State.dropSamples
  dsimp only
  rw [State.when_rail _ _ fun u => u.record_rail _ _ _ _ _, State.updSense,
    State.updRail_rail _ _ _ (by simpa [State.updCore, State.updLe] using hlen),
    State.updLe, State.updRail_rail _ _ _ (by simpa [State.updCore] using hlen), State.updCore_rail hlen, hpre]
  exact ⟨v, model1, bs1, _, rfl⟩

section Rail
variable {n : Fin 16} {s : State} (h16 : s.rails.length = 16)
include h16

theorem settleElapsed_marks (hlive : (s.rail n).core.state.live = true) :
    ∃ t, exec (.settleElapsed n) s = .next t ∧
      t.rail n = { s.rail n with core := { (s.rail n).core with settleDone := true } } ∧
      t = { s with rails := t.rails, router := t.router, bus := t.bus } := by
  obtain ⟨r, b, hj⟩ := (s.updCore n fun c => { c with settleDone := true }).judge_eq
  refine ⟨_, if_pos hlive, ?_, ?_⟩
  · rw [State.judge_rail]
    exact State.updCore_rail (State.rail_lt h16 n) _
  · rw [hj]
    rfl

theorem dischargeTimeout_primes (hstate : (s.rail n).core.state = .discharge) :
    ∃ t, exec (.dischargeTimeout n) s = .next t ∧ (t.rail n).core.state = .primed ∧
      t = { s with rails := t.rails, router := t.router, bus := t.bus } := by
  obtain ⟨r, b, hj⟩ := (s.leaveDischarge n).judge_eq
  refine ⟨_, if_pos (beq_iff_eq.2 hstate), ?_, ?_⟩
  · rw [State.judge_rail]
    exact congrArg (·.core.state) (State.updCore_rail (State.rail_lt h16 n) _)
  · rw [hj]
    rfl

/-! ### The end of a pre-bias -/

theorem prebiasHoldEnd_returns (hpre : (s.rail n).core.prebias = true) (hgov : s.paletteGoverns n = true)
    (hheld : (s.rail n).core.state ≠ .apprenticeHold) (hrank : s.rank1 n = false) :
    ∃ t, exec (.prebiasHoldEnd n) s = .next t ∧ (t.rail n).core.prebias = false ∧
      (t.rail n).core.base = entSetpt (s.entryOf n) ∧
      (t.rail n).core.target = max (min (entSetpt (s.entryOf n)) (s.envMax n)) (s.envMin n) ∧
      (t.rail n).core.settleDone = ((s.rail n).core.settleDone &&
        ((t.rail n).core.target == (s.rail n).core.target ||
          decide ((s.rail n).core.slewed = ((s.rail n).core.target : Int) * 512))) ∧ t.phases = s.phases := by
  have hn := State.rail_lt h16 n
  let u := s.updCore n fun c => { c with prebias := false }
  have hrail : u.rail n = { s.rail n with core := { (s.rail n).core with prebias := false } } := State.updCore_rail hn _
  have hgates : SameGates s u := (EvaluatesRail.updRail s n _).toSameGates
  have hgov' : u.paletteGoverns n = true := (hgates.paletteGoverns (by rw [hrail]) (by rw [hrail])).trans hgov
  have hrank' : u.rank1 n = false := (State.rank1_congr (by rw [hrail]) (by rw [hrail])).trans hrank
  have hsource : u.heldSource n = (entSetpt (s.entryOf n), entSlew (s.entryOf n)) := by
    rw [State.heldSource_palette hgov' (by rw [hrail]; exact hheld), hrail, hgates.entryOf]
    rfl
  have hexec : exec (.prebiasHoldEnd n) s = .next (u.retargetWith n false
      ((s.rail n).core.slewed == ((s.rail n).core.target : Int) * 512)).judge := by
    change execPrebiasHoldEnd n s = _
    unfold execPrebiasHoldEnd
    dsimp only
    rw [hpre, beq_false_of_ne hheld]
    rfl
  refine ⟨_, hexec, ?_⟩
  rw [State.judge_rail, State.judge_phases, State.retargetWith_phases, State.retargetWith_rail (by simpa [u] using hn) hrank',
    hsource, RailCore.aimed_prebias, RailCore.aimed_base, RailCore.aimed_target, RailCore.aimed_settleDone, hrail]
  exact ⟨rfl, rfl, rfl, rfl, rfl⟩

/-! ### The ramp of a start begins -/

theorem startWaitElapsed_ends (hstate : (s.rail n).core.state = .softStart ∨ (s.rail n).core.state = .apprenticeHold)
    (hwait : (s.rail n).core.waitStart = true) :
    ∃ t, exec (.startWaitElapsed n) s = .next t ∧ (t.rail n).core.state = (s.rail n).core.state ∧
      (t.rail n).core.waitStart = false ∧
      ((s.rail n).core.waitWake = true → (s.phasesIn n Phase.wakingActive) = [] →
        (t.rail n).core.waitWake = false ∧ (t.rail n).core.slewed = (t.rail n).core.v0 ∧
        (t.rail n).core.lowSideIdle = true ∧ (t.rail n).le.setFirst = true) ∧
      (s.phasesIn n Phase.wakingActive ≠ [] → (t.rail n).core.waitWake = (s.rail n).core.waitWake) := by
  have hn := State.rail_lt h16 n
  let u := s.updCore n fun c => { c with waitStart := false }
  have hrail : u.rail n = { s.rail n with core := { (s.rail n).core with waitStart := false } } := State.updCore_rail hn _
  have hmay : ((s.rail n).core.state == .softStart || (s.rail n).core.state == .apprenticeHold) = true := by
    obtain h | h := hstate <;> rw [h] <;> rfl
  have hexec : exec (.startWaitElapsed n) s = .next (u.tryRamp n).judge := by
    change execStartWaitElapsed n s = _
    unfold execStartWaitElapsed
    dsimp only
    rw [hmay, hwait]
    rfl
  have htry : u.tryRamp n = if (s.rail n).core.waitWake && (s.phasesIn n Phase.wakingActive).isEmpty then u.beginRamp n else u := by
    unfold State.tryRamp
    rw [hrail]
    dsimp only
    rw [hmay, Bool.true_and, Bool.not_false, Bool.and_true]
    rfl
  refine ⟨_, hexec, ?_⟩
  rw [State.judge_rail, htry]
  by_cases hramp : ((s.rail n).core.waitWake && (s.phasesIn n Phase.wakingActive).isEmpty) = true
  · rw [if_pos hramp]
    rw [Bool.and_eq_true, List.isEmpty_iff] at hramp
    obtain ⟨v, m, b, x, hbegin⟩ := State.beginRamp_rail (s := u) (n := n) (by simpa [u, State.updCore] using hn)
    rw [hbegin, hrail]
    exact ⟨rfl, rfl, fun _ _ => ⟨rfl, rfl, rfl, rfl⟩, fun hwakes => absurd hramp.2 hwakes⟩
  · rw [if_neg hramp, hrail]
    exact ⟨rfl, rfl, fun hw hnone => absurd (by rw [hw, hnone]; rfl) hramp, fun _ => rfl⟩

end Rail

/-- Settles O31, command by command. -/
theorem settleAndPrebias : Obligations.SettleAndPrebias := by
  unfold Obligations.SettleAndPrebias
  exact fun n s h16 => ⟨settleElapsed_marks h16, prebiasHoldEnd_returns h16, dischargeTimeout_primes h16,
    startWaitElapsed_ends h16⟩

end Sys2Proof.Machine
end

/-! SUPPORT. The slew limiters: one step of one rail touches no other, and what it makes of the rail. -/

section
namespace Sys2Proof.Machine

/-! ### Rails in turn -/

/-- Where each rail's turn touches that rail alone, a rail is left by its own turn, which finds it and its gates as they were. -/
theorem State.forEach_turns {f : State → Nat → State} (hf : ∀ s n, EvaluatesRail n s (f s n)) (l : List Nat) (hl : l.Nodup)
    (s : State) : SameGates s (s.forEach l f) ∧ (∀ n, n ∉ l → (s.forEach l f).rail n = s.rail n) ∧
    ∀ n ∈ l, ∃ u, SameGates s u ∧ u.rail n = s.rail n ∧ (s.forEach l f).rail n = (f u n).rail n := by
  induction l generalizing s with
  | nil => exact ⟨.refl s, fun _ _ => rfl, nofun⟩
  | cons k l ih =>
    obtain ⟨hk, hl⟩ := List.nodup_cons.1 hl
    have hone := hf s k
    obtain ⟨hgates, hout, hin⟩ := ih hl (f s k)
    refine ⟨hone.toSameGates.trans hgates, fun n hn => ?_, fun n hn => ?_⟩
    · obtain ⟨hnk, hn⟩ := not_or.1 (mt List.mem_cons.2 hn)
      exact (hout n hn).trans (hone.rail n fun h => hnk h.symm)
    · obtain rfl | hn := List.mem_cons.1 hn
      · exact ⟨s, .refl s, rfl, hout n hk⟩
      · obtain ⟨u, hu, hrail, hres⟩ := hin n hn
        exact ⟨u, hone.toSameGates.trans hu, hrail.trans (hone.rail n fun h => hk (h ▸ hn)), hres⟩

/-! ### A step touches its rail alone -/

section Evaluates
variable (s : State) (n : Nat)

theorem State.idleLanes_evaluates : EvaluatesRail n s (s.idleLanes n) := .trans (s.setLanes_evaluates n _) (.updRail _ n _)

theorem State.tristatePhases_evaluates : EvaluatesRail n s (s.tristatePhases n) :=
  s.movePhases_evaluates n (.mapPhases s fun p x => by split <;> rfl)

theorem State.enterDischarge_evaluates : EvaluatesRail n s (s.enterDischarge n) :=
  .trans (s.idleLanes_evaluates n) (.trans (State.tristatePhases_evaluates _ n) (.updRail _ n _))

theorem State.atTarget_evaluates : EvaluatesRail n s (s.atTarget n) := by
  unfold State.atTarget State.firstLit
  exact .ite _ (.trans (.updRail s n _) (.ite _ (.updRail _ n _) (.refl n _))) (.refl n s)

theorem State.slewRail_evaluates : EvaluatesRail n s (s.slewRail n) := by
  unfold State.slewRail
  refine .ite _ (.trans (.updRail s n _) (State.atTarget_evaluates _ n)) ?_
  refine .ite _ (.trans (.updRail s n _) (State.atTarget_evaluates _ n)) ?_
  exact .ite _ (.trans (.updRail s n _) (.ite _ (State.enterDischarge_evaluates _ n) (.refl n _))) (.refl n s)

end Evaluates

/-! ### What a step makes of the rail -/

theorem blind_core : Blind Rail.core :=
  ⟨fun _ _ => rfl, fun _ _ => rfl, fun _ _ => rfl, fun _ _ => rfl, fun _ _ _ _ _ _ => rfl, fun _ _ _ => rfl⟩

/-- The core of a rail that has reached its target or not (Table 5.4). -/
def RailCore.reached (c : RailCore) : RailCore :=
  if (c.state == .softStart || c.state == .slewing) && c.slewed == (c.target : Int) * 512 then
    { c with state := .regulating, slide := false }
  else c

section Step
variable {s : State} {n : Nat} (hn : n < s.rails.length)
include hn

theorem State.atTarget_core : ((s.atTarget n).rail n).core = (s.rail n).core.reached := by
  have hlit (t : State) : (t.firstLit n).views Rail.core = t.views Rail.core := by
    unfold State.firstLit
    rw [views_ite, State.updModel_views blind_core _ _ _ (by exact fun _ => rfl) (by exact fun _ => rfl) (by exact fun _ => rfl)
      (by exact fun _ => rfl), ite_self]
  unfold State.atTarget RailCore.reached
  dsimp only
  split
  · rw [State.view_of_views (hlit _) n, State.updCore_core _ hn]
  · rfl

/-- The core of a rail whose set-point has moved to `x`. -/
def RailCore.moved (c : RailCore) (x : Int) : RailCore :=
  { c with slewed := x, lowSideIdle := c.lowSideIdle && decide ((x - c.v0) * 100 < 2 ^ 20) }

theorem State.moved_core (x : Int) : (((s.updCore n fun c => c.moved x).atTarget n).rail n).core =
    ((s.rail n).core.moved x).reached := by
  rw [State.atTarget_core (by simpa [State.updCore] using hn), State.updCore_core _ hn]

theorem State.slewRail_starts (hstate : (s.rail n).core.state = .softStart) (hramp : (s.rail n).core.ramping = true) :
    ((s.slewRail n).rail n).core = ((s.rail n).core.moved
      (stepToward (s.rail n).core.slewed ((s.rail n).core.target * 512) (s.slewStepSize (s.ssClass n)))).reached := by
  unfold State.slewRail
  dsimp only
  rw [hstate, hramp]
  exact State.moved_core hn _

theorem State.slewRail_slews (hstate : (s.rail n).core.state = .regulating ∨ (s.rail n).core.state = .slewing ∨
      ((s.rail n).core.state = .apprenticeHold ∧ (s.rail n).core.ramping = true)) :
    ((s.slewRail n).rail n).core = ((s.rail n).core.moved
      (stepToward (s.rail n).core.slewed ((s.rail n).core.target * 512) (s.slewStepSize (s.rail n).core.govClass))).reached := by
  have hstart : ((s.rail n).core.state == .softStart) = false := by
    obtain h | h | ⟨h, -⟩ := hstate <;> rw [h] <;> rfl
  have hmoves : ((s.rail n).core.state == .regulating || (s.rail n).core.state == .slewing ||
      (s.rail n).core.state == .apprenticeHold && (s.rail n).core.ramping) = true := by
    obtain h | h | ⟨h, hramp⟩ := hstate
    · rw [h]; rfl
    · rw [h]; rfl
    · rw [h, hramp]; rfl
  unfold State.slewRail
  dsimp only
  rw [hstart, Bool.false_and, if_neg Bool.false_ne_true, hmoves, if_pos rfl]
  exact State.moved_core hn _

/-- DISCHARGE leaves of the core all but the state and its time. -/
theorem State.enterDischarge_core : ∃ idled1,
    ((s.enterDischarge n).rail n).core = { (s.rail n).core with state := .discharge, idledAt := idled1 } := by
  have hidle : ((s.idleLanes n).tristatePhases n).views Rail.core = s.views Rail.core := by
    rw [State.tristatePhases_views blind_core, State.idleLanes_views blind_core]
  refine ⟨some ((s.idleLanes n).tristatePhases n).clock.tick, ?_⟩
  rw [State.enterDischarge, State.updCore_core _ (by rw [State.length_of_views hidle]; exact hn), State.view_of_views hidle n]

/-- A rail in SOFT_STOP falls by a step of STOP_SLEW_CLASS at most, and enters DISCHARGE once it is down at STOP_LEVEL. -/
theorem State.slewRail_stops (hstate : (s.rail n).core.state = .softStop) :
    let x := min (s.rail n).core.slewed
      (stepToward (s.rail n).core.slewed ((s.stopLevel n : Int) * 512) (s.slewStepSize (s.stopClass n)))
    ((s.slewRail n).rail n).core.slewed = x ∧
    ((s.slewRail n).rail n).core.state = if x ≤ (s.stopLevel n : Int) * 512 then .discharge else .softStop := by
  intro x
  let u := s.updCore n fun c => { c with
    slewed := min c.slewed (stepToward c.slewed ((s.stopLevel n : Int) * 512) (s.slewStepSize (s.stopClass n))) }
  have hcore : (u.rail n).core = { (s.rail n).core with slewed := x } := State.updCore_core _ hn
  have hslew : s.slewRail n = if x ≤ (s.stopLevel n : Int) * 512 then u.enterDischarge n else u := by
    have hx : (u.rail n).core.slewed = x := by rw [hcore]
    unfold State.slewRail
    dsimp only
    rw [hstate, ← hx]
    rfl
  rw [hslew]
  split
  · obtain ⟨idled1, hdown⟩ := State.enterDischarge_core (s := u) (n := n) (by simpa [u, State.updCore] using hn)
    rw [hdown, hcore]
    exact ⟨rfl, rfl⟩
  · rw [hcore]
    exact ⟨rfl, hstate⟩

omit hn in
theorem State.slewRail_stands (hstate : (s.rail n).core.state = .off ∨ (s.rail n).core.state = .primed ∨
    (s.rail n).core.state = .faultLatched) : s.slewRail n = s := by
  unfold State.slewRail
  dsimp only
  obtain h | h | h := hstate <;> rw [h] <;> rfl

end Step

/-! ### All rails -/

section Reached
variable (c : RailCore)

theorem RailCore.reached_slewed : c.reached.slewed = c.slewed := by
  unfold RailCore.reached
  split <;> rfl

theorem RailCore.reached_state : c.reached.state =
    if (c.state = .softStart ∨ c.state = .slewing) ∧ c.slewed = (c.target : Int) * 512 then .regulating else c.state := by
  unfold RailCore.reached
  rw [apply_ite RailCore.state]
  exact if_congr (by rw [Bool.and_eq_true, Bool.or_eq_true, beq_iff_eq, beq_iff_eq, beq_iff_eq]) rfl rfl

end Reached

section Gates
variable {s t : State} (h : SameGates s t) (k : Nat)
include h

theorem SameGates.slewStepSize : t.slewStepSize k = s.slewStepSize k := by rw [h.eq]; rfl
theorem SameGates.ssClass : t.ssClass k = s.ssClass k := by rw [h.eq]; rfl
theorem SameGates.stopLevel : t.stopLevel k = s.stopLevel k := by rw [h.eq]; rfl

end Gates

/-- Every rail takes its step from the rail and the classes as they were. -/
theorem State.slewRails_rail {s : State} (h16 : s.rails.length = 16) {n : Nat} (hn : n < 16) : ∃ u, SameGates s u ∧
    n < u.rails.length ∧ u.rail n = s.rail n ∧ (s.forEach (List.range 16) State.slewRail).rail n = (u.slewRail n).rail n := by
  obtain ⟨-, -, hturn⟩ := State.forEach_turns State.slewRail_evaluates (List.range 16) List.nodup_range s
  obtain ⟨u, hu, hrail, hres⟩ := hturn n (List.mem_range.2 hn)
  exact ⟨u, hu, hn.trans_eq (h16.symm.trans hu.length.symm), hrail, hres⟩

/-- Settles O30: each rail takes its own step, by its state. -/
theorem slewLimiterMovesTowardTheTarget : Obligations.SlewLimiterMovesTowardTheTarget := by
  unfold Obligations.SlewLimiterMovesTowardTheTarget
  intro s h16 hloop
  refine ⟨_, if_pos hloop, ?_⟩
  simp only [State.judge_rail]
  refine ⟨fun n hn hstate => ?_, fun n hn hstate hwait hwake => ?_, fun n hn hstate => ?_, fun n hn hstate => ?_⟩
  · obtain ⟨u, hu, hlen, hrail, hres⟩ := State.slewRails_rail h16 hn
    rw [hres, State.slewRail_slews hlen (by rw [hrail]; exact hstate), hrail, hu.slewStepSize, RailCore.reached_slewed,
      RailCore.reached_state]
    refine ⟨rfl, if_congr (and_congr_left fun _ => or_iff_right fun hstart => ?_) rfl rfl⟩
    have hstart : (s.rail n).core.state = .softStart := hstart
    obtain h | h | ⟨h, -⟩ := hstate <;> exact absurd (hstart.symm.trans h) (by decide)
  · obtain ⟨u, hu, hlen, hrail, hres⟩ := State.slewRails_rail h16 hn
    have hramp : (s.rail n).core.ramping = true := by
      rw [RailCore.ramping, hwait, hwake]
      rfl
    rw [hres, State.slewRail_starts hlen (by rw [hrail]; exact hstate) (by rw [hrail]; exact hramp), hrail, hu.slewStepSize,
      hu.ssClass, RailCore.reached_slewed, RailCore.reached_state, RailCore.moved, hstate]
    exact ⟨rfl, if_congr (and_iff_right (.inl rfl)) rfl rfl⟩
  · obtain ⟨u, hu, hlen, hrail, hres⟩ := State.slewRails_rail h16 hn
    obtain ⟨hslew, hend⟩ := State.slewRail_stops hlen (by rw [hrail]; exact hstate)
    rw [hrail] at hslew hend
    rw [hu.stopLevel] at hend
    rw [hres, hend, hslew, hu.stopLevel]
    refine ⟨min_le_left _ _, ?_, fun hne => if_neg fun hle => hne (if_pos hle)⟩
    push_cast
    split
    next hdown => exact iff_of_true rfl hdown
    next hup => exact iff_of_false (by decide) hup
  · obtain ⟨u, hu, hlen, hrail, hres⟩ := State.slewRails_rail h16 hn
    rw [hres, State.slewRail_stands (by rw [hrail]; exact hstate), hrail]

end Sys2Proof.Machine
end

/-! SUPPORT. The fast path (R266 to R278) moves no target: what the router does to rails, phases, comparators and timers leaves
every rail's aim as it was. -/

section
namespace Sys2Proof.Machine

/-- A rail goes where it went: T0, its target, its class and its settle stand, and no yield at L3 has begun. -/
structure SameAim (r r' : Rail) : Prop where
  base : r'.core.base = r.core.base
  target : r'.core.target = r.core.target
  govClass : r'.core.govClass = r.core.govClass
  settleDone : r'.core.settleDone = r.core.settleDone
  yields : (r'.prot.yieldOver || r'.prot.yieldCap) = true → (r.prot.yieldOver || r.prot.yieldCap) = true

/-- What the fast path may change: rails, phases, comparators, timers, records, status bits and outstanding faults, and no aim. -/
structure Routed (s t : State) : Prop where
  eq : t = { s with rails := t.rails, phases := t.phases, comps := t.comps, timers := t.timers, sketch := t.sketch
                    pm := t.pm, input := { s.input with faults := t.input.faults } }
  rail : ∀ n, SameAim (s.rail n) (t.rail n)

theorem SameAim.refl (r : Rail) : SameAim r r := ⟨rfl, rfl, rfl, rfl, id⟩

theorem SameAim.trans {r r' r'' : Rail} (h : SameAim r r') (h' : SameAim r' r'') : SameAim r r'' :=
  ⟨h'.base.trans h.base, h'.target.trans h.target, h'.govClass.trans h.govClass, h'.settleDone.trans h.settleDone,
    h.yields ∘ h'.yields⟩

section Routed
variable {s t u : State}

theorem Routed.refl (s : State) : Routed s s := ⟨rfl, fun _ => .refl _⟩

theorem Routed.trans (h : Routed s t) (h' : Routed t u) : Routed s u := by
  refine ⟨?_, fun n => (h.rail n).trans (h'.rail n)⟩
  have heq := h'.eq
  rw [h.eq] at heq
  exact heq

/-- Without rails the rest may change. -/
theorem Routed.of_rails (heq : t = { s with phases := t.phases, comps := t.comps, timers := t.timers, sketch := t.sketch
                                            pm := t.pm, input := { s.input with faults := t.input.faults } }) : Routed s t := by
  have hrails : t.rails = s.rails := by rw [heq]
  refine ⟨heq.trans (by rw [hrails]), fun n => ?_⟩
  rw [State.rail, State.rail, hrails]
  exact .refl _

theorem Routed.updRail (s : State) (n : Nat) {f : Rail → Rail} (hf : ∀ r, SameAim r (f r)) : Routed s (s.updRail n f) := by
  refine ⟨rfl, fun k => ?_⟩
  by_cases hk : n = k
  · subst hk
    by_cases hn : n < s.rails.length
    · rw [s.updRail_rail n f hn]
      exact hf _
    · have hstands : (s.updRail n f).rail n = s.rail n := by
        unfold State.rail
        rw [State.updRail_rails, List.modify_eq_self (Nat.not_lt.1 hn)]
      rw [hstands]
      exact .refl _
  · rw [s.updRail_rail_ne n k f hk]
    exact .refl _

theorem Routed.updPol (s : State) (n : Nat) (f : RailPolicy → RailPolicy) : Routed s (s.updPol n f) :=
  .updRail s n fun _ => ⟨rfl, rfl, rfl, rfl, id⟩
theorem Routed.updModel (s : State) (n : Nat) (f : RailModel → RailModel) : Routed s (s.updModel n f) :=
  .updRail s n fun _ => ⟨rfl, rfl, rfl, rfl, id⟩
theorem Routed.updSense (s : State) (n : Nat) (f : RailSense → RailSense) : Routed s (s.updSense n f) :=
  .updRail s n fun _ => ⟨rfl, rfl, rfl, rfl, id⟩
theorem Routed.updLe (s : State) (n : Nat) (f : LoopEngine → LoopEngine) : Routed s (s.updLe n f) :=
  .updRail s n fun _ => ⟨rfl, rfl, rfl, rfl, id⟩
theorem Routed.updBs (s : State) (n : Nat) (f : Backstop → Backstop) : Routed s (s.updBs n f) :=
  .updRail s n fun _ => ⟨rfl, rfl, rfl, rfl, id⟩

theorem Routed.mapPhases (s : State) (f : Nat → Phase → Phase) : Routed s (s.mapPhases f) := .of_rails rfl
theorem Routed.mapComps (s : State) (f : Nat → Comp → Comp) : Routed s (s.mapComps f) := .of_rails rfl
theorem Routed.updComp (s : State) (n : Nat) (f : Comp → Comp) : Routed s (s.updComp n f) := .of_rails rfl
theorem Routed.updTimer (s : State) (n : Nat) (f : Timer → Timer) : Routed s (s.updTimer n f) := .of_rails rfl
theorem Routed.openWindow (s : State) (n : Nat) (src : MaskSrc) : Routed s (s.openWindow n src) := .of_rails rfl
theorem Routed.setVout (s : State) (n : Nat) (b : BitVec 8) : Routed s (s.setVout n b) := .of_rails rfl

theorem Routed.record (s : State) (code src p0 p1 : Nat) : Routed s (s.record code src p0 p1) := by
  rw [State.record_sketch_only]
  exact .of_rails rfl

theorem Routed.when (s : State) (c : Bool) {f : State → State} (h : Routed s (f s)) : Routed s (s.when c f) := by
  unfold State.when
  split
  · exact h
  · exact .refl s

theorem Routed.ite (c : Prop) [Decidable c] (h : Routed s t) (h' : Routed s u) : Routed s (if c then t else u) := by
  split
  · exact h
  · exact h'

theorem Routed.forEach {f : State → Nat → State} (hf : ∀ s n, Routed s (f s n)) (l : List Nat) (s : State) :
    Routed s (s.forEach l f) := by
  induction l generalizing s with
  | nil => exact .refl s
  | cons n l ih => exact (hf s n).trans (ih (f s n))

end Routed

section Operations
variable (s : State) (n : Nat)

theorem State.abortChar_routed : Routed s (s.abortChar n) := .updModel s n _

theorem State.disturb_routed : Routed s (s.disturb n) := .updModel s n _

theorem State.setLanes_routed (g : Phase → LaneCmd) : Routed s (s.setLanes n g) := by
  unfold State.setLanes
  exact .trans (.mapPhases s _) (.when _ _ (.openWindow _ n .edge))

theorem State.obeyOverrides_routed : Routed s (s.obeyOverrides n) :=
  .ite _ (s.setLanes_routed n _) (.ite _ (s.setLanes_routed n _) (.refl s))

theorem State.idleLanes_routed : Routed s (s.idleLanes n) := .trans (s.setLanes_routed n _) (State.disturb_routed _ n)

theorem State.respace_routed (old : List Nat) : Routed s (s.respace n old) :=
  .ite _ (.refl s) (.trans (.mapPhases s _) (.trans (.updPol _ n _) (.ite _ (.openWindow _ n .add) (.refl _))))

theorem State.movePhases_routed {f : State → State} (h : Routed s (f s)) : Routed s (s.movePhases n f) := by
  have hmoved := h.trans (((f s).respace_routed n (s.spacing n)).trans (State.obeyOverrides_routed _ n))
  exact .ite _ (hmoved.trans (.trans (.updModel _ n _) (State.abortChar_routed _ n))) hmoved

theorem State.tristatePhases_routed : Routed s (s.tristatePhases n) := s.movePhases_routed n (.mapPhases s _)

theorem State.dropSamples_routed : Routed s (s.dropSamples n) := .updSense s n _

theorem State.endBurst_routed (tb4 : Nat) (hit : Bool) : Routed s (s.endBurst n tb4 hit) := by
  unfold State.endBurst
  refine .ite _ ?_ (.refl s)
  refine .trans (.updPol s n _) (.trans (.updBs _ n _) (.trans (.updLe _ n _) (.trans (.mapPhases _ _)
    (.trans (State.obeyOverrides_routed _ n) (.trans (State.disturb_routed _ n) (.trans (.when _ _ (.openWindow _ n .edge))
      (.trans (.openWindow _ n .add) (.trans (.updComp _ _ _) (State.dropSamples_routed _ n)))))))))

theorem State.endYields_routed (log : Bool) : Routed s (s.endYields n log) := by
  unfold State.endYields
  exact .trans (.when s _ (.record ..)) (.trans (.when _ _ (.record ..)) (.trans (.when _ _ (.record ..))
    (.trans (.when _ _ (.record ..)) (.updRail _ n fun _ => ⟨rfl, rfl, rfl, rfl, fun h => absurd h Bool.false_ne_true⟩))))

theorem State.dropPg_routed : Routed s (s.dropPg n) := by
  unfold State.dropPg
  exact .trans (.when s _ (.record ..)) (.updRail _ n fun _ => ⟨rfl, rfl, rfl, rfl, id⟩)

theorem State.faultOn_routed (k : FaultKind) (i : Nat) (lasting : Bool) : Routed s (s.faultOn k i lasting) := by
  unfold State.faultOn
  dsimp only
  exact .trans (.of_rails rfl) (.forEach State.abortChar_routed _ _)

theorem State.latchRail_routed (cause : LatchCause) : Routed s (s.latchRail n cause) := by
  have hcaused : Routed s (s.updProt n fun p => { p with latch := p.latch ||| cause.bit }) :=
    .updRail s n fun _ => ⟨rfl, rfl, rfl, rfl, id⟩
  unfold State.latchRail
  dsimp only
  refine .ite _ (.refl s) (hcaused.trans (.ite _ (.refl _) ?_))
  refine .trans ?_ (.updPol _ n _)
  refine .trans ?_ (State.dropPg_routed _ n)
  refine .trans ?_ (.updRail _ n fun _ => ⟨rfl, rfl, rfl, rfl, id⟩)
  refine .trans ?_ (State.abortChar_routed _ n)
  refine .trans ?_ (State.endYields_routed _ n _)
  exact .trans (State.endBurst_routed _ n _ _) (.trans (State.idleLanes_routed _ n) (State.tristatePhases_routed _ n))

theorem State.fastStop_routed (src : Nat) : Routed s (s.fastStop n src) := by
  unfold State.fastStop
  dsimp only
  refine .ite _ (.refl s) ?_
  refine .trans ?_ (.when _ _ (State.faultOn_routed _ _ _ _))
  refine .trans ?_ (.when _ _ (State.faultOn_routed _ _ _ _))
  refine .trans ?_ (.when _ _ (.setVout _ n _))
  exact .trans (s.latchRail_routed n _) (.trans (.updPol _ n _) (State.obeyOverrides_routed _ n))

theorem State.setTristate_routed (on : Bool) : Routed s (s.setTristate n on) := by
  unfold State.setTristate
  refine .ite _ (.refl s) (.ite _ ?_ (.ite _ ?_ (.refl s)))
  · exact .trans (s.endBurst_routed n _ _) (.trans (State.idleLanes_routed _ n) (.trans (.updPol _ n _)
      (State.abortChar_routed _ n)))
  · exact .trans (.updPol s n _) (.trans (State.obeyOverrides_routed _ n) (State.disturb_routed _ n))

theorem State.clampOn_routed : Routed s (s.clampOn n) := by
  unfold State.clampOn
  exact .ite _ (.trans (s.endBurst_routed n _ _) (.trans (.updPol _ n _) (.trans (State.obeyOverrides_routed _ n)
    (.trans (State.disturb_routed _ n) (.trans (State.abortChar_routed _ n) (.setVout _ n _)))))) (.refl s)

theorem State.clampOff_routed : Routed s (s.clampOff n) :=
  .ite _ (.trans (.updPol s n _) (State.disturb_routed _ n)) (.refl s)

theorem State.fireBurst_routed : Routed s (s.fireBurst n) := by
  unfold State.fireBurst
  have hfired := s.movePhases_routed n (f := fun s => s.mapPhases fun p x =>
    if s.phaseRail p == some n && x.state.fired && !x.held then x.fire else x) (.mapPhases s _)
  refine hfired.trans (.trans (.updPol _ n _) (.trans (.updSense _ n _) (.trans (State.disturb_routed _ n)
    (.trans (State.abortChar_routed _ n) (.trans (.openWindow _ n .edge) (.ite _ (State.endBurst_routed _ n _ _) (.refl _)))))))

theorem State.routeRail_routed (old : State) (rose : List Nat) : Routed s (State.routeRail old rose s n) := by
  unfold State.routeRail
  dsimp only
  have hstopped := Routed.forEach (fun s src => s.fastStop_routed n src) (rose.filter fun src => s.xp (48 + n) src == 2) s
  have hstate := fun t : State => t.setTristate_routed n (t.dest (32 + n))
  have hclamped := fun t : State => Routed.ite (destRose old t (16 + n)) (t.clampOn_routed n)
    (.ite (t.dest (16 + n)) (.refl t) (t.clampOff_routed n))
  exact ((hstopped.trans (hstate _)).trans (hclamped _)).trans (.ite _ (State.fireBurst_routed _ n) (.refl _))

theorem State.triggerTimer_routed : Routed s (s.triggerTimer n) :=
  .ite _ (.trans (.updTimer s n _) (.mapComps _ _)) (.refl s)

theorem State.triggerCodes_routed (codes : List Nat) : Routed s (s.triggerCodes codes) := .forEach State.triggerTimer_routed _ s

theorem State.settleHard_routed (fuel : Nat) (old s : State) : Routed s (State.settleHard fuel old s) := by
  induction fuel generalizing old s with
  | zero => exact .refl s
  | succ fuel ih =>
    unfold State.settleHard
    exact .ite _ (.refl s) (.trans (.forEach (fun s n => s.routeRail_routed n old _) _ s)
      (.trans (State.triggerCodes_routed _ _) (ih _ _)))

theorem State.hardFrom_routed (old : State) : Routed s (State.hardFrom old s) := State.settleHard_routed 9 old s

end Operations

end Sys2Proof.Machine
end

/-! SUPPORT. An accepted latch edge (R87 to R90): what it makes of a rail of its group. -/

section
namespace Sys2Proof.Machine

/-! ### A wake and an add move phases only -/

/-- A view that sees neither the phase policy nor the model of a rail, which is all that phase moves change of it. -/
structure Unmoved {α : Type} (φ : Rail → α) : Prop where
  pol : ∀ r x, φ { r with pol := x } = φ r
  model : ∀ r x, φ { r with model := x } = φ r

section Moves
variable {α : Type} {φ : Rail → α} (hφ : Unmoved φ) (s : State) (n : Nat)
include hφ

theorem Unmoved.updPol (f : RailPolicy → RailPolicy) : (s.updPol n f).views φ = s.views φ :=
  s.updRail_views n _ fun _ => hφ.pol _ _

theorem Unmoved.updModel (f : RailModel → RailModel) : (s.updModel n f).views φ = s.views φ :=
  s.updRail_views n _ fun _ => hφ.model _ _

theorem Unmoved.respace (old : List Nat) : (s.respace n old).views φ = s.views φ := by
  unfold State.respace
  rw [views_ite, views_ite, State.openWindow_views, ite_self, hφ.updPol, State.mapPhases_views, ite_self]

theorem Unmoved.movePhases {f : State → State} (h : (f s).views φ = s.views φ) : (s.movePhases n f).views φ = s.views φ := by
  unfold State.movePhases State.abortChar
  rw [views_ite, hφ.updModel, hφ.updModel, ite_self, State.obeyOverrides_views, hφ.respace, h]

theorem Unmoved.addTo (f : Nat) : (s.addTo n f).views φ = s.views φ := by
  unfold State.addTo
  rw [views_ite, hφ.movePhases s n (State.mapPhases_views s _), ite_self]

theorem Unmoved.wakeDeep : (s.wakeDeep n).views φ = s.views φ := hφ.movePhases s n (State.mapPhases_views s _)

theorem Unmoved.hardwareAdd (f : Nat) : (s.hardwareAdd n f).views φ = s.views φ := by
  unfold State.hardwareAdd
  rw [views_ite, hφ.addTo, hφ.updPol, views_ite, hφ.respace, State.mapPhases_views, ite_self, ite_self]

end Moves

theorem unmoved_core : Unmoved Rail.core := ⟨fun _ _ => rfl, fun _ _ => rfl⟩

/-! ### What an edge leaves of a rail -/

/-- What an edge acts on of a rail and leaves as it is: its host registers, its yields, the request, and its state up to a new
target. -/
def Rail.manner (r : Rail) : RailHost × RailProt × Bool × RailState := (r.hosted, r.prot, r.core.enReq, r.core.state.retargeted)

theorem unmoved_manner : Unmoved Rail.manner := ⟨fun _ _ => rfl, fun _ _ => rfl⟩

theorem Rail.manner_ext {r r' : Rail} (h : r'.manner = r.manner) : r'.hosted = r.hosted ∧ r'.prot = r.prot ∧
    r'.core.enReq = r.core.enReq ∧ r'.core.state.retargeted = r.core.state.retargeted := by
  simpa [Rail.manner] using h

section Edge
variable (s : State) (n : Nat)

theorem State.updCore_manner {f : RailCore → RailCore} (hreq : ∀ c, (f c).enReq = c.enReq)
    (hstate : ∀ c, (f c).state.retargeted = c.state.retargeted) : (s.updCore n f).views Rail.manner = s.views Rail.manner :=
  s.updRail_views n _ fun r => by simp [Rail.manner, hreq, hstate]

theorem State.retargetWith_manner (hostMove slide : Bool) :
    (s.retargetWith n hostMove slide).views Rail.manner = s.views Rail.manner := by
  have hset (c : RailCore) : (if c.state = .regulating then RailState.slewing else c.state).retargeted = c.state.retargeted := by
    cases c.state <;> rfl
  simp [State.retargetWith, State.updCore_manner, hset]

theorem State.anticipate_manner : (s.anticipate n).views Rail.manner = s.views Rail.manner := by
  unfold State.anticipate
  rw [views_ite, unmoved_manner.wakeDeep, views_ite, unmoved_manner.hardwareAdd,
    State.updCore_manner _ _ (by exact fun _ => rfl) (by exact fun _ => rfl), ite_self, ite_self]

theorem State.wakeDeep_evaluates : EvaluatesRail n s (s.wakeDeep n) :=
  s.movePhases_evaluates n (.mapPhases s fun p x => by split <;> rfl)

theorem State.hardwareAdd_evaluates (f : Nat) : EvaluatesRail n s (s.hardwareAdd n f) := by
  unfold State.hardwareAdd
  refine .ite _ (.refl n s) (.trans (.ite _ (.refl n s) (.trans (.mapPhases s fun p x => ?_) (State.respace_evaluates _ n _)))
    (.trans (.updRail _ n _) (State.addTo_evaluates _ n f)))
  exact (apply_ite Phase.held _ _ _).trans (ite_self _)

theorem State.anticipate_evaluates : EvaluatesRail n s (s.anticipate n) := by
  unfold State.anticipate
  exact .ite _ (s.wakeDeep_evaluates n) (.ite _ (.trans (.updRail s n _) (State.hardwareAdd_evaluates _ n _)) (.refl n s))

/-- The rail as an edge finds it: no pre-bias, and no characterisation run. -/
def State.edged : State := (s.updCore n fun c => { c with prebias := false }).abortChar n

/-- The rail with its source taken: a pre-bias may have begun, or T0 is that of the entry. -/
def State.sourced : State :=
  if (s.rail n).core.state == .apprenticeHold then
    let t := (s.edged n).when (s.edged n).appStopped fun s => s.anticipate n
    if t.paletteGoverns n then t.updCore n fun c => { c with base := (t.sourceTarget n).1, baseClass := entSlew (t.entryOf n) }
    else t
  else if (s.rail n).core.state.live then (s.edged n).anticipate n else s.edged n

theorem State.edgeRail_sourced : s.edgeRail n = ((s.sourced n).retarget n).unsettle n := rfl

theorem State.edged_manner : (s.edged n).views Rail.manner = s.views Rail.manner := by
  unfold State.edged State.abortChar
  rw [unmoved_manner.updModel, State.updCore_manner _ _ (by exact fun _ => rfl) (by exact fun _ => rfl)]

theorem State.sourced_manner : (s.sourced n).views Rail.manner = s.views Rail.manner := by
  unfold State.sourced
  simp [State.updCore_manner, State.anticipate_manner, State.edged_manner]

theorem State.edgeRail_manner : (s.edgeRail n).views Rail.manner = s.views Rail.manner := by
  rw [State.edgeRail_sourced, State.unsettle, State.retarget, State.updCore_manner _ _ (by exact fun _ => rfl)
    (by exact fun _ => rfl), State.retargetWith_manner, State.sourced_manner]

theorem State.edged_evaluates : EvaluatesRail n s (s.edged n) := .trans (.updRail s n _) (.updRail _ n _)

theorem State.sourced_evaluates : EvaluatesRail n s (s.sourced n) := by
  unfold State.sourced
  have hwhen := (s.edged_evaluates n).trans (.when (f := fun t => t.anticipate n) _ (s.edged n).appStopped
    (State.anticipate_evaluates _ n))
  exact .ite _ (.ite _ (hwhen.trans (.updRail _ n _)) hwhen)
    (.ite _ ((s.edged_evaluates n).trans (State.anticipate_evaluates _ n)) (s.edged_evaluates n))

theorem State.edgeRail_evaluates : EvaluatesRail n s (s.edgeRail n) :=
  (s.sourced_evaluates n).trans (.trans (State.retargetWith_evaluates _ n _ _) (.updRail _ n _))

end Edge

/-! ### The target that it takes -/

section Rail
variable {s : State} {n : Nat} (hn : n < s.rails.length)
include hn

theorem State.edged_core : ((s.edged n).rail n).core = { (s.rail n).core with prebias := false } := by
  unfold State.edged State.abortChar
  rw [State.view_of_views (unmoved_core.updModel _ n _), State.updCore_core _ hn]

theorem State.anticipate_core : ((s.anticipate n).rail n).core =
    if 2 ≤ s.antic n then { (s.rail n).core with prebias := s.antic n == 3 && s.rank n == 4 } else (s.rail n).core := by
  unfold State.anticipate
  dsimp only
  by_cases hone : s.antic n = 1
  · rw [if_pos (beq_iff_eq.2 hone), if_neg (by omega), State.view_of_views (unmoved_core.wakeDeep s n)]
  · rw [if_neg (mt beq_iff_eq.1 hone)]
    split
    · rw [State.view_of_views (unmoved_core.hardwareAdd _ n _), State.updCore_core _ hn]
    · rfl

theorem State.edgeRail_core (hrank : (s.sourced n).rank1 n = false) : ((s.edgeRail n).rail n).core =
    { ((s.sourced n).rail n).core.aimed ((s.sourced n).heldSource n) ((s.sourced n).heldClass n)
        ((s.sourced n).clampTarget n ((s.sourced n).heldSource n).1) false with settleDone := false, slide := false } := by
  have hlen : n < (s.sourced n).rails.length := by rw [(s.sourced_evaluates n).length]; exact hn
  rw [State.edgeRail_sourced, State.unsettle, State.retarget, State.updCore_core, State.retargetWith_rail hlen hrank]
  rw [(State.retargetWith_evaluates _ n _ _).length]
  exact hlen

theorem State.edgeRail_settleDone : ((s.edgeRail n).rail n).core.settleDone = false := by
  rw [State.edgeRail_sourced, State.unsettle, State.retarget, State.updCore_core]
  rw [(State.retargetWith_evaluates _ n _ _).length, (s.sourced_evaluates n).length]
  exact hn

end Rail

/-- Where the palette governs and no yield does, the rank is 4. -/
theorem State.rank_palette {s : State} {n : Nat} (hgov : s.paletteGoverns n = true) (hrank : s.rank1 n = false) : s.rank n = 4 := by
  rw [State.paletteGoverns, Bool.and_eq_true, Option.isNone_iff_eq_none, Bool.or_eq_true, beq_iff_eq, beq_iff_eq] at hgov
  obtain ⟨hmargin, hhost⟩ := hgov
  rw [State.rank, hrank, hmargin]
  obtain h | h := hhost <;> simp [h]

/-- Nothing that an edge acts on differs: not the gates, and of no rail what an edge leaves. -/
structure SameManner (s t : State) : Prop extends SameGates s t where
  views : t.views Rail.manner = s.views Rail.manner

section Manner
variable {s t u : State} {n : Nat}

theorem SameManner.refl (s : State) : SameManner s s := ⟨.refl s, rfl⟩

theorem SameManner.trans (h : SameManner s t) (h' : SameManner t u) : SameManner s u :=
  ⟨h.toSameGates.trans h'.toSameGates, h'.views.trans h.views⟩

theorem SameManner.governs (h : SameManner s t) (n : Nat) : t.paletteGoverns n = s.paletteGoverns n := by
  obtain ⟨hhost, -, hreq, -⟩ := Rail.manner_ext (State.view_of_views h.views n)
  exact h.paletteGoverns hhost hreq

theorem SameManner.rank1 (h : SameManner s t) (n : Nat) : t.rank1 n = s.rank1 n := by
  obtain ⟨-, hprot, -, hstate⟩ := Rail.manner_ext (State.view_of_views h.views n)
  exact State.rank1_congr hprot hstate

theorem SameManner.antic (h : SameManner s t) (n : Nat) : t.antic n = s.antic n := by
  obtain ⟨-, hprot, -, -⟩ := Rail.manner_ext (State.view_of_views h.views n)
  rw [State.antic, State.govEntry, State.yieldL3, hprot, h.toSameGates.entryOf, h.eq]
  rfl

theorem SameManner.live (h : SameManner s t) (n : Nat) : (t.rail n).core.state.live = (s.rail n).core.state.live := by
  obtain ⟨-, -, -, hstate⟩ := Rail.manner_ext (State.view_of_views h.views n)
  rw [← RailState.live_retargeted, hstate, RailState.live_retargeted]

theorem SameManner.hold (h : SameManner s t) (n : Nat) :
    (t.rail n).core.state = .apprenticeHold ↔ (s.rail n).core.state = .apprenticeHold := by
  obtain ⟨-, -, -, hstate⟩ := Rail.manner_ext (State.view_of_views h.views n)
  rw [← RailState.retargeted_hold, hstate, RailState.retargeted_hold]

theorem State.edged_same (s : State) (n : Nat) : SameManner s (s.edged n) :=
  ⟨(s.edged_evaluates n).toSameGates, s.edged_manner n⟩

theorem State.sourced_same (s : State) (n : Nat) : SameManner s (s.sourced n) :=
  ⟨(s.sourced_evaluates n).toSameGates, s.sourced_manner n⟩

theorem State.edgeRail_same (s : State) (n : Nat) : SameManner s (s.edgeRail n) :=
  ⟨(s.edgeRail_evaluates n).toSameGates, s.edgeRail_manner n⟩

/-- Outside a hold the rail takes its entry's class and set-point, and in a pre-bias PREBIAS above it (Table 4.5). -/
theorem State.sourced_free (hn : n < s.rails.length) (hgov : s.paletteGoverns n = true) (hrank : s.rank1 n = false)
    (hheld : (s.rail n).core.state ≠ .apprenticeHold) : ((s.sourced n).rail n).core =
    { (s.rail n).core with prebias := (s.rail n).core.state.live && s.antic n == 3 } := by
  have hsame := s.edged_same n
  have hfour : (s.edged n).rank n = 4 := State.rank_palette ((hsame.governs n).trans hgov) ((hsame.rank1 n).trans hrank)
  unfold State.sourced
  rw [beq_false_of_ne hheld, if_neg Bool.false_ne_true]
  cases (s.rail n).core.state.live
  · exact State.edged_core hn
  · rw [if_pos rfl, State.anticipate_core (by rw [hsame.length]; exact hn), hsame.antic, hfour, State.edged_core hn]
    split
    · simp
    next hlow => simp [beq_false_of_ne (show s.antic n ≠ 3 by omega)]

/-- In a hold whose Apprentice runs T0 is the entry's, and no pre-bias begins (R115). -/
theorem State.sourced_held (hn : n < s.rails.length) (hgov : s.paletteGoverns n = true)
    (hheld : (s.rail n).core.state = .apprenticeHold) (happ : s.appStopped = false) : ((s.sourced n).rail n).core =
    { (s.rail n).core with prebias := false, base := entSetpt (s.entryOf n), baseClass := entSlew (s.entryOf n) } := by
  have hsame := s.edged_same n
  have hgov' := (hsame.governs n).trans hgov
  unfold State.sourced
  rw [hheld, if_pos (beq_self_eq_true _)]
  dsimp only
  rw [hsame.toSameGates.appStopped, happ, State.when, if_neg Bool.false_ne_true, hgov', if_pos rfl,
    State.updCore_core _ (by rw [hsame.length]; exact hn), State.sourceTarget_palette hgov', State.edged_core hn,
    hsame.toSameGates.entryOf]
  rfl

end Manner

/-- T0 of a rail that takes its entry at an edge: the set-point, and in a pre-bias PREBIAS above it (Table 4.5). -/
def State.edgeBase (s : State) (n : Nat) : Nat :=
  if (s.rail n).core.state.live && s.antic n == 3 then min (entSetpt (s.entryOf n) + s.prebiasCfg n) (s.envMax n)
  else entSetpt (s.entryOf n)

/-- What an edge makes of the aim of a rail that the palette governs and no yield does. -/
theorem State.edgeRail_free {s : State} {n : Nat} (hn : n < s.rails.length) (hgov : s.paletteGoverns n = true)
    (hrank : s.rank1 n = false) (hheld : (s.rail n).core.state ≠ .apprenticeHold) :
    ((s.edgeRail n).rail n).core.base = s.edgeBase n ∧
    ((s.edgeRail n).rail n).core.target = s.clampTarget n (s.edgeBase n) ∧
    ((s.edgeRail n).rail n).core.govClass = entSlew (s.entryOf n) := by
  have hsame := s.sourced_same n
  have hgates := hsame.toSameGates
  have hheld' := mt (hsame.hold n).1 hheld
  have hlimits : (s.sourced n).prebiasCfg n = s.prebiasCfg n ∧ (s.sourced n).envMax n = s.envMax n := by
    rw [hgates.eq]
    exact ⟨rfl, rfl⟩
  have hsource : (s.sourced n).heldSource n = (s.edgeBase n, entSlew (s.entryOf n)) := by
    rw [State.heldSource_palette ((hsame.governs n).trans hgov) hheld', State.sourced_free hn hgov hrank hheld, hgates.entryOf,
      hlimits.1, hlimits.2]
    rfl
  have hcore := State.edgeRail_core hn ((hsame.rank1 n).trans hrank)
  rw [State.heldClass_free hheld', hsource, hgates.clampTarget] at hcore
  rw [hcore]
  exact ⟨RailCore.aimed_base .., RailCore.aimed_target .., RailCore.aimed_govClass ..⟩

/-- The same of a held one whose Apprentice runs. -/
theorem State.edgeRail_held {s : State} {n : Nat} (hn : n < s.rails.length) (hgov : s.paletteGoverns n = true)
    (hrank : s.rank1 n = false) (hheld : (s.rail n).core.state = .apprenticeHold) (happ : s.appStopped = false) :
    ((s.edgeRail n).rail n).core.base = entSetpt (s.entryOf n) ∧
    ((s.edgeRail n).rail n).core.target = s.clampTarget n (entSetpt (s.entryOf n)) ∧
    ((s.edgeRail n).rail n).core.govClass = s.appClass n := by
  have hsame := s.sourced_same n
  have hgates := hsame.toSameGates
  have hheld' : (((s.sourced n).rail n).core.state == .apprenticeHold) = true := beq_iff_eq.2 ((hsame.hold n).2 hheld)
  have hsource : (s.sourced n).heldSource n = (entSetpt (s.entryOf n), entSlew (s.entryOf n)) := by
    rw [State.heldSource, if_pos hheld', State.sourced_held hn hgov hheld happ]
  have hclass : (s.sourced n).heldClass n = s.appClass n := by
    rw [State.heldClass, hheld', hgates.appStopped, happ, hgates.eq]
    rfl
  have hcore := State.edgeRail_core hn ((hsame.rank1 n).trans hrank)
  rw [hclass, hsource, hgates.clampTarget] at hcore
  rw [hcore]
  exact ⟨RailCore.aimed_base .., RailCore.aimed_target .., RailCore.aimed_govClass ..⟩

end Sys2Proof.Machine
end

/-! SUPPORT. Latch edges and throttle balls: an edge that is accepted, one that is not, and the end of a ball's minimum hold. -/

section
namespace Sys2Proof.Machine

/-! ### The rails of the group in turn -/

/-- Each rail of the group is as its last turn left it, and that turn found what an edge acts on as it was. -/
theorem State.edges_last (l : List Nat) (s : State) : SameManner s (s.forEach l State.edgeRail) ∧
    (∀ n, n ∉ l → (s.forEach l State.edgeRail).rail n = s.rail n) ∧
    ∀ n ∈ l, ∃ u, SameManner s u ∧ (s.forEach l State.edgeRail).rail n = (u.edgeRail n).rail n := by
  induction l generalizing s with
  | nil => exact ⟨.refl s, fun _ _ => rfl, nofun⟩
  | cons k l ih =>
    have hone := s.edgeRail_same k
    obtain ⟨hsame, hout, hin⟩ := ih (s.edgeRail k)
    refine ⟨hone.trans hsame, fun n hn => ?_, fun n hn => ?_⟩
    · obtain ⟨hnk, hn⟩ := not_or.1 (mt List.mem_cons.2 hn)
      exact (hout n hn).trans ((s.edgeRail_evaluates k).rail n fun h => hnk h.symm)
    · by_cases hlater : n ∈ l
      · obtain ⟨u, hu, hres⟩ := hin n hlater
        exact ⟨u, hone.trans hu, hres⟩
      · obtain rfl : n = k := (List.mem_cons.1 hn).resolve_right hlater
        exact ⟨s, .refl s, hout n hlater⟩

theorem State.groupRails_lt {s : State} {p n : Nat} (h : n ∈ s.groupRails p) : n < 16 := by
  obtain ⟨g, -, hg⟩ := List.mem_filterMap.1 h
  unfold State.groupRail at hg
  dsimp only at hg
  split at hg
  next hload =>
    obtain rfl := Option.some.inj hg
    simpa using (Bool.and_eq_true_iff.1 hload).2
  next => exact absurd hg nofun

/-! ### The swatch -/

theorem State.sselLatch_eq (s : State) (before after : BitVec 6) : ∃ free1,
    (s.sselLatch before after).2 = { s with free := free1 } := by
  unfold State.sselLatch
  split
  · exact ⟨s.free, rfl⟩
  · exact ⟨s.free + 1, rfl⟩

/-- A bit that stood inside the window is latched as it stood (R88). -/
theorem State.sselLatch_stable (s : State) (before after : BitVec 6) {i : Nat}
    (hbit : before.getLsbD i = after.getLsbD i) : (s.sselLatch before after).1.getLsbD i = after.getLsbD i := by
  unfold State.sselLatch
  split
  · rfl
  · simp [hbit]

/-! ### An accepted edge -/

/-- A port after an accepted edge (R88, R89, R98). -/
def Port.edge (x : Port) (swatch : BitVec 6) : Port :=
  let x := if x.pendingSwap then x.swap else x
  { x with swatch := swatch, boot := false, edges := x.edges + 1 }

theorem Port.edge_eq (x : Port) (swatch : BitVec 6) : x.edge swatch = { x with
    actBank := if x.pendingSwap then !x.actBank else x.actBank
    pendingSwap := false, swatch := swatch, boot := false, edges := x.edges + 1 } := by
  unfold Port.edge Port.swap
  split
  · rfl
  next h =>
    dsimp only
    rw [Bool.not_eq_true] at h
    rw [h]

/-- The state with the swatch latched: the port, and the source of free values. -/
def State.latch (s : State) (p : Nat) (before after : BitVec 6) : State :=
  (s.sselLatch before after).2.updPort p fun x => x.edge (s.sselLatch before after).1

/-- The latch changes ports and the source of free values only. -/
theorem State.latch_eq (s : State) (p : Nat) (before after : BitVec 6) : ∃ ports1 free1,
    s.latch p before after = { s with ports := ports1, free := free1 } := by
  obtain ⟨free1, hfree⟩ := s.sselLatch_eq before after
  exact ⟨_, free1, by rw [State.latch, hfree, State.updPort]⟩

/-- The state with the group's rails retargeted. -/
def State.followed (s : State) (p : Nat) (before after : BitVec 6) : State :=
  (s.latch p before after).forEach (s.groupRails p) State.edgeRail

/-- The state with the edge's trigger routed. -/
def State.edgeRouted (s : State) (p : Nat) (before after : BitVec 6) : State :=
  State.hardFrom (s.followed p before after) ((s.followed p before after).triggerCodes [0xD0 + p])

section Edge
variable {s : State} {p : Fin 8} {before after : BitVec 6} {low high : Nat} (hrun : s.boot.held = false)
  (hloop : s.clock.loopPresent = true)

include hrun hloop in
theorem slatEdge_accepted (hstage : s.boot.stage = 8) (hlow : 5 ≤ low) (hhigh : 5 ≤ high) (hgroup : s.groupRails p ≠ []) :
    exec (.slatEdge p before after low high) s = .next (s.edgeRouted p before after).judge := by
  change execSlatEdge p before after low high s = _
  unfold execSlatEdge
  have hprimed : s.primed = true := beq_iff_eq.2 hstage
  have hgroups : (s.latch p before after).groupRails p = s.groupRails p := by
    obtain ⟨ports1, free1, heq⟩ := s.latch_eq p before after
    rw [heq]
    rfl
  rw [if_neg (by rw [hrun, hloop]; exact Bool.false_ne_true), if_pos (by simp [hprimed, hlow, hhigh, hgroup]), State.edgeRouted,
    State.followed, ← hgroups, State.latch]
  generalize s.sselLatch before after = latched
  obtain ⟨swatch, u⟩ := latched
  rfl

include hrun hloop in
/-- Every other rising edge (R116). -/
theorem slatEdge_ignored (hports : s.ports.length = 8)
    (hnot : s.boot.stage ≠ 8 ∨ low < 5 ∨ high < 5 ∨ s.groupRails p = []) :
    ∃ t, exec (.slatEdge p before after low high) s = .next t ∧
      t.port p = { s.port p with ignored := BitVec.ofNat 4 (min 15 ((s.port p).ignored.toNat + 1)) } ∧
      t = { s with ports := t.ports, router := t.router, bus := t.bus } := by
  have hcond : ¬(s.primed && 5 ≤ low && 5 ≤ high && !(s.groupRails p).isEmpty) = true := by
    rw [State.primed]
    simp only [Bool.and_eq_true, beq_iff_eq, decide_eq_true_eq, Bool.not_eq_true', List.isEmpty_eq_false_iff]
    rintro ⟨⟨⟨hstage, hlow⟩, hhigh⟩, hgroup⟩
    obtain h | h | h | h := hnot
    · exact h hstage
    · omega
    · omega
    · exact hgroup h
  have hexec : exec (.slatEdge p before after low high) s =
      complete (s.updPort p fun x => { x with ignored := BitVec.ofNat 4 (satAdd 15 x.ignored.toNat 1) }) := by
    change execSlatEdge p before after low high s = _
    unfold execSlatEdge
    rw [if_neg (by rw [hrun, hloop]; exact Bool.false_ne_true), if_neg hcond]
  obtain ⟨r, b, hj⟩ := (s.updPort p fun x => { x with ignored := BitVec.ofNat 4 (satAdd 15 x.ignored.toNat 1) }).judge_eq
  refine ⟨_, hexec, ?_, ?_⟩
  · rw [State.port, State.judge_ports]
    exact s.updPort_port p _ (by omega)
  · rw [hj]
    rfl

end Edge

theorem State.judge_port (s : State) (p : Nat) : s.judge.port p = s.port p := by rw [State.port, State.judge_ports]; rfl

/-! ### What the routing leaves -/

section Routed
variable {s t : State} (h : Routed s t)
include h

theorem Routed.ports : t.ports = s.ports := by rw [h.eq]
theorem Routed.palette : t.palette = s.palette := by rw [h.eq]

theorem Routed.entryOf (n : Nat) : t.entryOf n = s.entryOf n := by
  rw [h.eq]
  rfl

end Routed

/-- Without a yield ANTIC is that of the entry (Table 4.6). -/
theorem State.antic_entry {s : State} {n : Nat} (h : s.yieldL3 n = false) : s.antic n = entAntic (s.entryOf n) := by
  rw [State.antic, State.govEntry, h, if_neg Bool.false_ne_true]

theorem State.yieldL3_live {s : State} {n : Nat} (hrank : s.rank1 n = false) (hlive : (s.rail n).core.state.live = true) :
    s.yieldL3 n = false := by
  rwa [State.rank1, hlive, Bool.and_true] at hrank

/-- A rail of the group, as the edge has left it and the routing has not moved it: `w` is the state at its last turn. -/
structure LastTurn (s t w : State) (p : Nat) (before after : BitVec 6) (n : Nat) : Prop where
  same : SameManner (s.latch p before after) w
  aim : SameAim ((w.edgeRail n).rail n) (t.rail n)
  entryOf : t.entryOf n = w.entryOf n

section Turn
variable {s w : State} {p : Fin 8} {before after : BitVec 6} {n : Nat}

theorem State.edgeRouted_same (s : State) (p : Nat) (before after : BitVec 6) :
    SameManner (s.latch p before after) (s.followed p before after) ∧
    Routed (s.followed p before after) (s.edgeRouted p before after) :=
  ⟨(State.edges_last _ _).1, (State.triggerCodes_routed _ _).trans (State.hardFrom_routed _ _)⟩

theorem State.edgeRouted_turn (hn : n ∈ s.groupRails p) : ∃ w, LastTurn s (s.edgeRouted p before after) w p before after n := by
  obtain ⟨-, -, hturns⟩ := State.edges_last (s.groupRails p) (s.latch p before after)
  obtain ⟨w, hw, hrail⟩ := hturns n hn
  obtain ⟨hsame, hrouted⟩ := s.edgeRouted_same p before after
  refine ⟨w, hw, ?_, ?_⟩
  · rw [← hrail]
    exact hrouted.rail n
  · rw [hrouted.entryOf, hsame.toSameGates.entryOf, hw.toSameGates.entryOf]

end Turn

/-- The latch touches nothing that an edge acts on, of a rail or of its limits. -/
theorem State.latch_frame (s : State) (p : Nat) (before after : BitVec 6) (n : Nat) :
    (s.latch p before after).paletteGoverns n = s.paletteGoverns n ∧ (s.latch p before after).rank1 n = s.rank1 n ∧
    (s.latch p before after).rail n = s.rail n ∧ (s.latch p before after).appStopped = s.appStopped ∧
    (s.latch p before after).rails = s.rails := by
  obtain ⟨ports1, free1, heq⟩ := s.latch_eq p before after
  rw [heq]
  exact ⟨rfl, rfl, rfl, rfl, rfl⟩

theorem State.latch_limits (s : State) (p : Nat) (before after : BitVec 6) (n x : Nat) :
    (s.latch p before after).clampTarget n x = s.clampTarget n x ∧ (s.latch p before after).appClass n = s.appClass n ∧
    (s.latch p before after).prebiasCfg n = s.prebiasCfg n ∧ (s.latch p before after).envMax n = s.envMax n := by
  obtain ⟨ports1, free1, heq⟩ := s.latch_eq p before after
  rw [heq]
  exact ⟨rfl, rfl, rfl, rfl⟩

section Turn
variable {s t w : State} {p : Fin 8} {before after : BitVec 6} {n : Nat} (h : LastTurn s t w p before after n)
include h

theorem LastTurn.limits (x : Nat) : w.clampTarget n x = s.clampTarget n x ∧ w.appClass n = s.appClass n ∧
    w.prebiasCfg n = s.prebiasCfg n ∧ w.envMax n = s.envMax n := by
  rw [← (s.latch_limits p before after n x).1, ← (s.latch_limits p before after n x).2.1,
    ← (s.latch_limits p before after n x).2.2.1, ← (s.latch_limits p before after n x).2.2.2, h.same.eq]
  exact ⟨rfl, rfl, rfl, rfl⟩

theorem LastTurn.length : w.rails.length = s.rails.length := by
  obtain ⟨-, -, -, -, hrails⟩ := s.latch_frame p before after n
  rw [h.same.length, hrails]

theorem LastTurn.settleDone (hn : n < s.rails.length) : (t.rail n).core.settleDone = false :=
  h.aim.settleDone.trans (State.edgeRail_settleDone (by rw [h.length]; exact hn))

theorem LastTurn.governs : w.paletteGoverns n = s.paletteGoverns n ∧ w.rank1 n = s.rank1 n ∧ w.appStopped = s.appStopped ∧
    (w.rail n).core.state.live = (s.rail n).core.state.live ∧
    ((w.rail n).core.state = .apprenticeHold ↔ (s.rail n).core.state = .apprenticeHold) := by
  obtain ⟨hgov, hrank, hrail, happ, -⟩ := s.latch_frame p before after n
  rw [h.same.governs, h.same.rank1, h.same.toSameGates.appStopped, h.same.live, h.same.hold, hgov, hrank, hrail, happ]
  exact ⟨rfl, rfl, rfl, rfl, .rfl⟩

/-- Where no yield governs a live rail, its turn found the ANTIC that is in force now. -/
theorem LastTurn.antic (hrank : w.rank1 n = false) (hlive : (w.rail n).core.state.live = true) : w.antic n = t.antic n := by
  have hw := State.yieldL3_live hrank hlive
  obtain ⟨-, hprot, -, -⟩ := Rail.manner_ext (State.view_of_views (w.edgeRail_manner n) n)
  have ht : t.yieldL3 n = false := by
    rw [← Bool.not_eq_true]
    intro hyield
    have hfirst := h.aim.yields hyield
    rw [hprot] at hfirst
    rw [State.yieldL3, hfirst] at hw
    exact Bool.false_ne_true hw.symm
  rw [State.antic_entry hw, State.antic_entry ht, h.entryOf]

/-- Outside a hold (R89, R103, R108). -/
theorem LastTurn.free (hn : n < s.rails.length) (hgov : s.paletteGoverns n = true) (hrank : s.rank1 n = false)
    (hheld : (s.rail n).core.state ≠ .apprenticeHold) :
    ((s.rail n).core.state.live = false ∨ t.antic n ≠ 3 →
      (t.rail n).core.base = entSetpt (t.entryOf n) ∧
      (t.rail n).core.target = max (min (entSetpt (t.entryOf n)) (s.envMax n)) (s.envMin n)) ∧
    ((s.rail n).core.state.live = true → t.antic n = 3 →
      (t.rail n).core.base = min (entSetpt (t.entryOf n) + s.prebiasCfg n) (s.envMax n)) ∧
    (t.rail n).core.govClass = entSlew (t.entryOf n) := by
  obtain ⟨hgov', hrank', -, hlive', hhold'⟩ := h.governs
  have hrankw := hrank'.trans hrank
  obtain ⟨hbase, htarget, hclass⟩ := State.edgeRail_free (by rw [h.length]; exact hn) (hgov'.trans hgov) hrankw
    (mt hhold'.1 hheld)
  rw [h.aim.base, h.aim.target, h.aim.govClass, hbase, htarget, hclass, h.entryOf]
  refine ⟨fun hnone => ?_, fun hlive hantic => ?_, rfl⟩
  · have hplain : w.edgeBase n = entSetpt (w.entryOf n) := by
      refine if_neg fun hpre => ?_
      obtain ⟨hlive, hantic⟩ := Bool.and_eq_true_iff.1 hpre
      rw [h.antic hrankw hlive, beq_iff_eq] at hantic
      rw [hlive'] at hlive
      exact hnone.elim (fun hdead => Bool.false_ne_true (hdead.symm.trans hlive)) fun hno => hno hantic
    rw [hplain, (h.limits _).1]
    exact ⟨rfl, rfl⟩
  · have hlivew := hlive'.trans hlive
    have hpre : ((w.rail n).core.state.live && w.antic n == 3) = true := by
      rw [hlivew, h.antic hrankw hlivew, hantic]
      rfl
    obtain ⟨-, -, hprebias, hmax⟩ := h.limits 0
    rw [State.edgeBase, if_pos hpre, hprebias, hmax]

/-- In a hold whose Apprentice runs (R115). -/
theorem LastTurn.held (hn : n < s.rails.length) (hgov : s.paletteGoverns n = true) (hrank : s.rank1 n = false)
    (hheld : (s.rail n).core.state = .apprenticeHold) (happ : s.appStopped = false) :
    (t.rail n).core.base = entSetpt (t.entryOf n) ∧ (t.rail n).core.govClass = s.appClass n ∧
    (t.rail n).core.target = max (min (entSetpt (t.entryOf n)) (s.envMax n)) (s.envMin n) := by
  obtain ⟨hgov', hrank', happ', -, hhold'⟩ := h.governs
  obtain ⟨hbase, htarget, hclass⟩ := State.edgeRail_held (by rw [h.length]; exact hn) (hgov'.trans hgov) (hrank'.trans hrank)
    (hhold'.2 hheld) (happ'.trans happ)
  obtain ⟨hclamp, happc, -, -⟩ := h.limits (entSetpt (w.entryOf n))
  rw [h.aim.base, h.aim.target, h.aim.govClass, hbase, htarget, hclass, h.entryOf, hclamp, happc]
  exact ⟨rfl, rfl, rfl⟩

end Turn

/-! ### The ball -/

/-- The end of a ball's minimum hold (R112). -/
theorem throtRelease_releases {s : State} {p : Fin 8} (hports : s.ports.length = 8) :
    ∃ t, exec (.throtRelease p) s = .next t ∧ (t.port p).throtHold = false ∧
      (s.softDest (64 + p) = false → (∀ n ∈ s.groupRails p, (s.rail n).prot.throt = 0) → (t.port p).throtLow = false) ∧
      (s.softDest (64 + p) = true ∨ (∃ n ∈ s.groupRails p, (s.rail n).prot.throt ≠ 0) →
        (t.port p).throtLow = (s.port p).throtLow) ∧
      t = { s with ports := t.ports, router := t.router, bus := t.bus } := by
  let u := s.updPort p fun x => { x with throtHold := false }
  have hport : u.port p = { s.port p with throtHold := false } := s.updPort_port p _ (by omega)
  have hlen : p < u.ports.length := by simp [u, hports]
  have hexec : exec (.throtRelease p) s = .next (u.releaseThrot p).judge := rfl
  have hrelease : u.releaseThrot p = if (s.port p).throtLow && !s.softDest (64 + p) &&
      !((s.groupRails p).any fun n => (s.rail n).prot.throt != 0) then u.updPort p fun x => { x with throtLow := false }
      else u := by
    rw [State.releaseThrot, hport, Bool.not_false, Bool.and_true]
    rfl
  obtain ⟨r, b, hj⟩ := (u.releaseThrot p).judge_eq
  have hafter : (u.releaseThrot p).judge.port p = { s.port p with
      throtHold := false
      throtLow := (s.port p).throtLow &&
        (s.softDest (64 + p) || (s.groupRails p).any fun n => (s.rail n).prot.throt != 0) } := by
    rw [State.port, State.judge_ports, ← State.port, hrelease]
    split
    next h =>
      simp only [Bool.and_eq_true, Bool.not_eq_true'] at h
      obtain ⟨⟨-, hsoft⟩, hthrot⟩ := h
      rw [u.updPort_port p _ hlen, hport, hsoft, hthrot, Bool.or_false, Bool.and_false]
    next h =>
      have hstands : ∀ low soft throt : Bool, ¬(low && !soft && !throt) = true → (low && (soft || throt)) = low := by decide
      rw [hport, hstands _ _ _ h]
  refine ⟨_, hexec, by rw [hafter], fun hsoft hthrot => ?_, fun hstays => ?_, ?_⟩
  · have hnone : ((s.groupRails p).any fun n => (s.rail n).prot.throt != 0) = false := by simpa using hthrot
    rw [hafter, hsoft, hnone, Bool.or_false, Bool.and_false]
  · have hany : (s.softDest (64 + p) || (s.groupRails p).any fun n => (s.rail n).prot.throt != 0) = true := by simpa using hstays
    rw [hafter, hany, Bool.and_true]
  · rw [hj, hrelease]
    split <;> rfl

/-- The port after an accepted edge, and the others. -/
theorem State.edgeRouted_ports {s : State} (p : Fin 8) (before after : BitVec 6) (hports : s.ports.length = 8) :
    (s.edgeRouted p before after).port p = (s.port p).edge (s.sselLatch before after).1 ∧
    (∀ q : Fin 8, q ≠ p → (s.edgeRouted p before after).port q = s.port q) ∧
    (s.edgeRouted p before after).palette = s.palette := by
  obtain ⟨hsame, hrouted⟩ := s.edgeRouted_same p before after
  obtain ⟨free1, hfree⟩ := s.sselLatch_eq before after
  simp only [State.port, hrouted.ports, hrouted.palette, hsame.toSameGates.ports, hsame.toSameGates.palette]
  simp only [State.latch, hfree]
  exact ⟨State.updPort_port { s with free := free1 } p _ (by simp [hports]),
    fun q hq => State.updPort_port_ne { s with free := free1 } p q _ fun h => hq (Fin.ext h.symm), rfl⟩

/-- Settles O29: edge by edge, and the ball. -/
theorem latchEdgesAndThrottleBalls : Obligations.LatchEdgesAndThrottleBalls := by
  unfold Obligations.LatchEdgesAndThrottleBalls
  intro p s hrun hports
  refine ⟨fun before after low high hloop hstage hlow hhigh hgroup => ?_, fun before after low high hloop hnot =>
    slatEdge_ignored hrun hloop hports hnot, throtRelease_releases hports⟩
  obtain ⟨hport, hothers, hpalette⟩ := State.edgeRouted_ports p before after hports
  have hswatch : ((s.edgeRouted p before after).port p).swatch = (s.sselLatch before after).1 := by rw [hport]; rfl
  refine ⟨_, slatEdge_accepted hrun hloop hstage hlow hhigh hgroup, ?_, fun i _ hbit => ?_, ?_, ?_, fun h16 n hn => ?_⟩
  · rw [State.judge_port, hswatch, hport, Port.edge_eq]
  · rw [State.judge_port, hswatch]
    exact s.sselLatch_stable before after hbit
  · simpa only [State.judge_port] using hothers
  · rw [State.judge_palette, hpalette]
  · obtain ⟨w, hturn⟩ := State.edgeRouted_turn (before := before) (after := after) hn
    have hlt : n < s.rails.length := by rw [h16]; exact State.groupRails_lt hn
    have hfree := hturn.free hlt
    have hheld := hturn.held hlt
    obtain ⟨r, b, hj⟩ := (s.edgeRouted p before after).judge_eq
    rw [hj]
    exact ⟨hturn.settleDone hlt, fun hgov hrank => ⟨hfree hgov hrank, hheld hgov hrank⟩⟩

end Sys2Proof.Machine
end

/-! SUPPORT. Requests that the HM serves: what is left of the state beside the answer, and what the reply depends on. -/

section
namespace Sys2Proof.Machine

/-! ### The answer and its reply -/

section Served
variable {s : State} {ch : Fin 16} {code : Nat} {m : Message}

theorem State.turnedAway_none (hserve : MayServe s ch code) (hknown : knownCode code = true) (hstale : m.stale = false) :
    s.turnedAway ch code m = none := by
  obtain ⟨-, hasker, hblank, hsafe⟩ := hserve
  have hhost : (s.asker ch != 1 && s.asker ch != 2) = false := by
    obtain h | h := hasker <;> rw [h] <;> rfl
  have hcanvas : (s.blank && !blankServes code) = false := by
    cases h : s.blank
    · rfl
    · rw [hblank h]; rfl
  have hcalm : (s.safe.active && !safeServes code) = false := by
    cases h : s.safe.active
    · rfl
    · rw [hsafe h]; rfl
  unfold State.turnedAway
  rw [hstale, hknown, hhost, hcanvas, hcalm]
  rfl

/-- An answer sent as the reply to a request. -/
def Answer.sent (a : Answer) (c code : Nat) (m : Message) : State := a.state.reply c code m a.status a.words

theorem State.serve_carried (hserve : MayServe s ch code) (hknown : knownCode code = true) (hstale : m.stale = false) :
    s.serve ch code m = (s.carryOut ch code m).sent ch code m := by
  unfold State.serve State.answer
  rw [State.turnedAway_none hserve hknown hstale]
  rfl

theorem State.request_served (hserve : MayServe s ch code) (hknown : knownCode code = true) (hstale : m.stale = false) :
    s.request ch code m = .next ((s.carryOut ch code m).sent ch code m).judge := by
  rw [State.request, hserve.1, if_pos rfl, State.serve_carried hserve hknown hstale, complete]

end Served

/-- The reply, and the judgement of the outputs, touch the mailbox, the router and the bus alone. -/
theorem Answer.sent_eq (a : Answer) (c code : Nat) (m : Message) : ∃ mail1 router1 bus1,
    (a.sent c code m).judge = { a.state with mail := mail1, router := router1, bus := bus1 } := by
  obtain ⟨l, hl⟩ : ∃ l, a.sent c code m = a.state.withChans l := a.state.sendOn_eq _ _ _ _ _
  obtain ⟨router1, bus1, hj⟩ := (a.sent c code m).judge_eq
  refine ⟨{ a.state.mail with chans := l }, router1, bus1, ?_⟩
  rw [hj, hl]
  rfl

/-- An answer that changes nothing is replied as it stands. -/
theorem replied_unchanged (s : State) (ch : Fin 16) (code : Nat) (m : Message) (status : Nat) (words : List Word) :
    Replied s ((Answer.mk status words s).sent ch code m).judge ch code m status words := by
  rw [Replied, State.judge_mail]
  rfl

/-! ### What a reply depends on -/

/-- Nothing that a post depends on differs: not the mailbox, the clocks, the pairs, or the binding of the channels. -/
structure SamePost (s u : State) : Prop where
  mail : u.mail = s.mail
  clock : u.clock = s.clock
  hm : u.hm = s.hm
  rm : u.rm = s.rm
  sender : ∀ c < 16, u.chanSender c = s.chanSender c
  receiver : ∀ c < 16, u.chanReceiver c = s.chanReceiver c
  reply : ∀ c < 16, u.replyCh c = s.replyCh c

section Post
variable {s u : State} (h : SamePost s u) {c : Nat} (hc : c < 16)
include h

theorem SamePost.epochOf (x : Nat) : u.epochOf x = s.epochOf x := by
  unfold State.epochOf
  rw [h.mail]

theorem SamePost.updChan (f : Channel → Channel) : SamePost (s.updChan c f) (u.updChan c f) :=
  ⟨congrArg (fun x : Mail => { x with chans := x.chans.modify c f }) h.mail, h.clock, h.hm, h.rm, h.sender, h.receiver, h.reply⟩

include hc

theorem SamePost.senderRuns : u.senderRuns c = s.senderRuns c := by
  unfold State.senderRuns
  rw [h.clock, h.sender c hc, h.hm, h.rm]

theorem SamePost.post : SamePost (s.post c) (u.post c) := by
  have hpost : u.post c = u.updChan c fun x => { x with
      full := true, stale := false, orphan := false, recallLate := false, eccErr := false
      sndEpoch := s.epochOf (s.chanSender c), rcvEpoch := s.epochOf (s.chanReceiver c), read := false, crossTime := 0 } := by
    rw [State.post, h.sender c hc, h.receiver c hc, h.epochOf, h.epochOf]
  rw [hpost]
  exact h.updChan _

theorem SamePost.pump : SamePost (s.pump c) (u.pump c) := by
  have hchan : u.chan c = s.chan c := by rw [State.chan, h.mail]; rfl
  unfold State.pump
  rw [hchan, h.senderRuns hc]
  split
  · exact h
  · split
    · exact h
    · exact (h.updChan _).post hc

theorem SamePost.reply_mail (code : Nat) (m : Message) (status : Nat) (words : List Word) :
    (u.reply c code m status words).mail = (s.reply c code m status words).mail := by
  unfold State.reply State.sendOn
  rw [h.reply c hc]
  split
  next hlt => exact ((h.updChan _).pump hlt).mail
  next => exact h.mail

end Post

end Sys2Proof.Machine
end

/-! SUPPORT. PALETTE_WRITE and PALETTE_COMMIT: the entries of a write, swaps without an edge, and the way of a forced one. -/

section
namespace Sys2Proof.Machine

/-! ### The entries of an accepted write -/

theorem sget_sputs_at {α : Type} [DecidableEq α] (d : α) (m : List (Nat × α)) (a : Nat) (vs : List α) (h : Sparse.wf d m)
    {i : Nat} (hi : i < vs.length) : sget d (sputs d m a vs) (a + i) = vs.getD i d := by
  have hread := congrArg (·[i]?) (sgets_sputs_self d m a vs h)
  simpa [sgets, hi] using hread

/-- The entries of a bank's port lie in the palette's half of the wet section. -/
theorem entryIndex_lt {bank : Bool} {p first n : Nat} (hp : p < 8) (h : first + n ≤ 256) :
    entryIndex bank p 0 0 + first + n ≤ 4096 := by
  have hbank : b2n bank ≤ 1 := by cases bank <;> decide
  simp only [entryIndex]
  omega

/-- Of the configuration, an accepted write touches the palette's bytes of section 5 only. -/
theorem State.writeEntries_cfg {s : State} (hw : Memory.wf 0 s.shadow) (bank : Bool) {p first : Nat} {l : List Word} (hp : p < 8)
    (hfit : first + l.length ≤ 256) {off : Nat} : (s.writeEntries bank p first l).cfg 0xC off 4 = s.cfg 0xC off 4 := by
  have hfar := entryIndex_lt (bank := bank) hp hfit
  have hbytes (i : Nat) : sget 0 (s.writeEntries bank p first l).shadow (shadowKey 0xC off + i) =
      sget 0 s.shadow (shadowKey 0xC off + i) := by
    refine sget_sputs_ne _ _ _ _ _ (.inr ?_) hw
    rw [length_wordBytes]
    simp only [shadowKey]
    omega
  unfold State.cfg sgets
  simp only [hbytes]

/-- Beside the palette and the shadow an accepted write changes the CRC of the wet area alone. -/
theorem State.writeEntries_frame (s : State) (bank : Bool) (p first : Nat) (l : List Word) : ∃ crc1,
    s.writeEntries bank p first l = { s with
      boot := { s.boot with wetCrc := crc1 }
      palette := sputs 0 s.palette (entryIndex bank p 0 0 + first) l
      shadow := sputs 0 s.shadow (shadowKey 5 (0x288 + 4 * (entryIndex bank p 0 0 + first))) (wordBytes l) } := ⟨_, rfl⟩

theorem State.writeEntries_post {s : State} (hw : Memory.wf 0 s.shadow) (bank : Bool) {p first : Nat} {l : List Word} (hp : p < 8)
    (hfit : first + l.length ≤ 256) : SamePost s (s.writeEntries bank p first l) := by
  have hcfg (c : Nat) := State.writeEntries_cfg hw bank hp hfit (off := 8 + 4 * c)
  obtain ⟨crc1, heq⟩ := s.writeEntries_frame bank p first l
  have hloaded : (s.writeEntries bank p first l).boot.imageLoaded = s.boot.imageLoaded := by rw [heq]
  refine ⟨by rw [heq], by rw [heq], by rw [heq], by rw [heq], fun c _ => ?_, fun c _ => ?_, fun c _ => ?_⟩
  · simp only [State.chanSender, State.cfgField, State.cfgWord, hcfg, hloaded]
  · simp only [State.chanReceiver, State.cfgField, State.cfgWord, hcfg, hloaded]
  · simp only [State.replyCh, State.cfgField, State.cfgWord, hcfg, hloaded]

/-! ### PALETTE_WRITE (R96) -/

/-- A header word and entries of the form that R96 asks for. -/
structure Formed (d : Word) (l : List Word) (p : Fin 8) (bank : Bool) (first : Nat) : Prop where
  isPort : field d.toNat 24 3 = p.val
  isBank : bit d.toNat 16 = bank
  isFirst : field d.toNat 0 8 = first
  high : field d.toNat 27 5 = 0
  mid : field d.toNat 17 7 = 0
  low : field d.toNat 8 8 = 0
  some : l ≠ []
  few : l.length ≤ 10
  fit : first + l.length ≤ 256

section Write
variable {s : State} {d : Word} {l : List Word} {p : Fin 8} {bank : Bool} {first : Nat} (h : Formed d l p bank first)
include h

theorem Formed.accepted : ¬((d :: l).isEmpty || field (bodyWord (d :: l) 0) 27 5 != 0 || field (bodyWord (d :: l) 0) 17 7 != 0 ||
    field (bodyWord (d :: l) 0) 8 8 != 0 || ((d :: l).drop 1).isEmpty || decide (10 < ((d :: l).drop 1).length) ||
    decide (256 < field (bodyWord (d :: l) 0) 0 8 + ((d :: l).drop 1).length)) = true := by
  have hfew := h.few
  have hfit := h.fit
  simp [bodyWord, h.high, h.mid, h.low, h.some, h.isFirst]
  omega

theorem Formed.active (hbank : bank = (s.port p).actBank) : s.servePaletteWrite (d :: l) = ⟨2, [0xFFFFFFFF], s⟩ := by
  unfold State.servePaletteWrite
  dsimp only
  rw [if_neg h.accepted]
  refine if_pos ?_
  simp [bodyWord, h.isBank, h.isPort, hbank]

theorem Formed.inactive (hbank : bank ≠ (s.port p).actBank) : ¬(bit (bodyWord (d :: l) 0) 16 ==
    (s.port (field (bodyWord (d :: l) 0) 24 3)).actBank) = true := by
  simpa [bodyWord, h.isBank, h.isPort] using hbank

theorem Formed.pending (hbank : bank ≠ (s.port p).actBank) (hpend : s.anyPending = true) :
    s.servePaletteWrite (d :: l) = ⟨1, [0xFFFFFFFF], s⟩ := by
  unfold State.servePaletteWrite
  dsimp only
  rw [if_neg h.accepted, if_neg (h.inactive hbank), if_pos hpend]

theorem Formed.allowed (hbank : bank ≠ (s.port p).actBank) (hpend : s.anyPending = false)
    (hok : s.entryRefused p first l = none) : s.servePaletteWrite (d :: l) =
    if s.rmServes then ⟨0, [0xFFFFFFFF], s.writeEntries bank p first l⟩ else ⟨1, [0xFFFFFFFF], s⟩ := by
  have hbody : bodyWord (d :: l) 0 = d.toNat := rfl
  unfold State.servePaletteWrite
  dsimp only
  rw [if_neg h.accepted, if_neg (h.inactive hbank), hpend, if_neg Bool.false_ne_true, hbody, h.isPort, h.isFirst, h.isBank,
    List.drop_one, List.tail_cons, hok]

end Write

section Message
variable {ch : Fin 16} {m : Message} {s : State} (hstale : m.stale = false)

include hstale in
theorem paletteWrite_served (hserve : MayServe s ch 3) : exec (.paletteWrite ch m) s =
    .next ((s.servePaletteWrite m.body).sent ch 3 m).judge := State.request_served hserve rfl hstale

include hstale in
/-- A write that names the active bank, comes while a swap is pending, or finds the RM down changes nothing; any other stores its
entries. -/
theorem paletteWrite_writes (hinv : s.Inv) {d : Word} {l : List Word} {p : Fin 8} {bank : Bool} {first : Nat}
    (hserve : MayServe s ch 3) (hbody : m.body = d :: l) (h : Formed d l p bank first) :
    (bank = (s.port p).actBank → ∃ t, exec (.paletteWrite ch m) s = .next t ∧ Replied s t ch 3 m 2 [0xFFFFFFFF] ∧
      t.palette = s.palette ∧ t.shadow = s.shadow) ∧
    (bank ≠ (s.port p).actBank → s.anyPending = true → ∃ t, exec (.paletteWrite ch m) s = .next t ∧
      Replied s t ch 3 m 1 [0xFFFFFFFF] ∧ t.palette = s.palette) ∧
    (bank ≠ (s.port p).actBank → s.anyPending = false → s.entryRefused p first l = none → s.rmServes = true →
      ∃ t, exec (.paletteWrite ch m) s = .next t ∧ Replied s t ch 3 m 0 [0xFFFFFFFF] ∧
        (∀ i, i < l.length → (sget 0 t.palette (entryIndex bank p 0 0 + first + i) : Word) = l.getD i 0) ∧
        (∀ k, k < entryIndex bank p 0 0 + first ∨ entryIndex bank p 0 0 + first + l.length ≤ k →
          (sget 0 t.palette k : Word) = sget 0 s.palette k) ∧
        t.ports = s.ports ∧ t.rails = s.rails ∧ t.flash = s.flash) ∧
    (bank ≠ (s.port p).actBank → s.anyPending = false → s.entryRefused p first l = none → s.rmServes = false →
      ∃ t, exec (.paletteWrite ch m) s = .next t ∧ Replied s t ch 3 m 1 [0xFFFFFFFF] ∧ t.palette = s.palette) := by
  obtain ⟨⟨-, hshadow, hpalette⟩, -⟩ := hinv
  have hexec := paletteWrite_served hstale hserve
  rw [hbody] at hexec
  refine ⟨fun hbank => ⟨_, hexec, ?_⟩, fun hbank hpend => ⟨_, hexec, ?_⟩, fun hbank hpend hok hrm => ⟨_, hexec, ?_⟩,
    fun hbank hpend hok hrm => ⟨_, hexec, ?_⟩⟩
  · rw [h.active hbank]
    obtain ⟨mail1, router1, bus1, heq⟩ := (Answer.mk 2 [0xFFFFFFFF] s).sent_eq ch 3 m
    exact ⟨replied_unchanged .., by rw [heq], by rw [heq]⟩
  · rw [h.pending hbank hpend]
    obtain ⟨mail1, router1, bus1, heq⟩ := (Answer.mk 1 [0xFFFFFFFF] s).sent_eq ch 3 m
    exact ⟨replied_unchanged .., by rw [heq]⟩
  · rw [h.allowed hbank hpend hok, hrm, if_pos rfl]
    obtain ⟨mail1, router1, bus1, heq⟩ := (Answer.mk 0 [0xFFFFFFFF] (s.writeEntries bank p first l)).sent_eq ch 3 m
    refine ⟨?_, ?_⟩
    · rw [Replied, State.judge_mail]
      exact (State.writeEntries_post hshadow bank p.isLt h.fit).reply_mail ch.isLt ..
    · obtain ⟨crc1, hwrite⟩ := s.writeEntries_frame bank p first l
      rw [heq, hwrite]
      exact ⟨fun i hi => sget_sputs_at _ _ _ _ hpalette hi, fun k hk => sget_sputs_ne _ _ _ _ _ hk hpalette, rfl, rfl, rfl⟩
  · rw [h.allowed hbank hpend hok, hrm, if_neg Bool.false_ne_true]
    obtain ⟨mail1, router1, bus1, heq⟩ := (Answer.mk 1 [0xFFFFFFFF] s).sent_eq ch 3 m
    exact ⟨replied_unchanged .., by rw [heq]⟩

end Message

end Sys2Proof.Machine
end

/-! SUPPORT. PALETTE_COMMIT: swaps without an edge (R98, R99), and the way of a forced one through the RM. -/

section
namespace Sys2Proof.Machine

/-! ### Ports in turn -/

/-- Ports, rails and comparators only. -/
def Swapped (s t : State) : Prop := ∃ ports1 rails1 comps1, t = { s with ports := ports1, rails := rails1, comps := comps1 }

theorem Swapped.trans {s t u : State} (h : Swapped s t) (h' : Swapped t u) : Swapped s u := by
  obtain ⟨ports1, rails1, comps1, h⟩ := h
  obtain ⟨ports2, rails2, comps2, h'⟩ := h'
  exact ⟨ports2, rails2, comps2, by rw [h', h]⟩

/-- A step that changes a port by `g`, and beside the ports rails and comparators only. -/
def Swaps (g : Port → Port) (f : State → Nat → State) : Prop :=
  ∀ s p, ∃ rails1 comps1, f s p = { s with ports := s.ports.modify p g, rails := rails1, comps := comps1 }

section Turns
variable {g : Port → Port} {f : State → Nat → State} (hf : Swaps g f)
include hf

theorem Swaps.length (s : State) (p : Nat) : (f s p).ports.length = s.ports.length := by
  obtain ⟨rails1, comps1, heq⟩ := hf s p
  rw [heq]
  exact List.length_modify ..

theorem Swaps.port (s : State) (p q : Nat) : (f s p).port q = (s.updPort p g).port q := by
  obtain ⟨rails1, comps1, heq⟩ := hf s p
  rw [heq]
  rfl

theorem Swaps.forEach (l : List Nat) (s : State) : Swapped s (s.forEach l f) := by
  induction l generalizing s with
  | nil => exact ⟨s.ports, s.rails, s.comps, rfl⟩
  | cons k l ih =>
    obtain ⟨rails1, comps1, heq⟩ := hf s k
    exact Swapped.trans ⟨_, rails1, comps1, heq⟩ (ih (f s k))

theorem Swaps.forEach_length (l : List Nat) (s : State) : (s.forEach l f).ports.length = s.ports.length := by
  induction l generalizing s with
  | nil => rfl
  | cons k l ih => exact (ih (f s k)).trans (hf.length s k)

/-- The ports after the turns of some of them. -/
theorem Swaps.forEach_port {l : List Nat} (hnodup : l.Nodup) {s : State} (hlt : ∀ p ∈ l, p < s.ports.length) (p : Nat) :
    (s.forEach l f).port p = if l.contains p then g (s.port p) else s.port p := by
  induction l generalizing s with
  | nil => rfl
  | cons k l ih =>
    obtain ⟨hk, hnodup⟩ := List.nodup_cons.1 hnodup
    have hrest : (s.forEach (k :: l) f).port p = if l.contains p then g ((f s k).port p) else (f s k).port p :=
      ih hnodup fun q hq => by rw [hf.length]; exact hlt q (List.mem_cons_of_mem _ hq)
    rw [hrest, hf.port]
    by_cases hp : k = p
    · subst hp
      rw [s.updPort_port k g (hlt k List.mem_cons_self)]
      simp [hk]
    · rw [s.updPort_port_ne k p g hp]
      simp [Ne.symm hp]

end Turns

/-! ### A swap without an edge -/

/-- Rails and comparators only. -/
def Retargets (s t : State) : Prop := ∃ rails1 comps1, t = { s with rails := rails1, comps := comps1 }

theorem Retargets.refl (s : State) : Retargets s s := ⟨s.rails, s.comps, rfl⟩

theorem Retargets.trans {s t u : State} (h : Retargets s t) (h' : Retargets t u) : Retargets s u := by
  obtain ⟨rails1, comps1, h⟩ := h
  obtain ⟨rails2, comps2, h'⟩ := h'
  exact ⟨rails2, comps2, by rw [h', h]⟩

theorem Retargets.updRail (s : State) (n : Nat) (f : Rail → Rail) : Retargets s (s.updRail n f) := ⟨_, s.comps, rfl⟩

theorem Retargets.when (s : State) (c : Bool) {f : State → State} (h : Retargets s (f s)) : Retargets s (s.when c f) := by
  unfold State.when
  split
  · exact h
  · exact .refl s

theorem Retargets.ite {s t u : State} (c : Prop) [Decidable c] (h : Retargets s t) (h' : Retargets s u) :
    Retargets s (if c then t else u) := by
  split
  · exact h
  · exact h'

theorem Retargets.forEach {f : State → Nat → State} (hf : ∀ s n, Retargets s (f s n)) (l : List Nat) (s : State) :
    Retargets s (s.forEach l f) := by
  induction l generalizing s with
  | nil => exact .refl s
  | cons n l ih => exact (hf s n).trans (ih (f s n))

theorem State.retargetWith_retargets (s : State) (n : Nat) (hostMove slide : Bool) :
    Retargets s (s.retargetWith n hostMove slide) := by
  unfold State.retargetWith
  exact .ite _ (.updRail s n _) (.trans (.updRail s n _) (.trans (.updRail _ n _) ⟨_, _, rfl⟩))

/-- A swap changes its port, and beside it what a new target does. -/
theorem State.swapPort_swaps (forced : Bool) : Swaps Port.swap fun s p => s.swapPort p forced := by
  intro s p
  have hrails : Retargets (s.updPort p Port.swap) (s.swapPort p forced) :=
    .forEach (fun s n => .trans (.trans (.updRail s n _) (.updRail _ n _)) (.trans (.when _ _ (.updRail _ n _))
      (.trans (State.retargetWith_retargets _ n _ _) (.when _ _ (.updRail _ n _))))) _ _
  obtain ⟨rails1, comps1, heq⟩ := hrails
  exact ⟨rails1, comps1, heq⟩

theorem markPending_swaps : Swaps (fun x => { x with pendingSwap := true }) fun s p =>
    s.updPort p fun x => { x with pendingSwap := true } := fun s _ => ⟨s.rails, s.comps, rfl⟩

/-! ### A commit -/

theorem State.boundPorts_nodup (s : State) : s.boundPorts.Nodup := List.nodup_range.filter _

theorem State.boundPorts_lt {s : State} {p : Nat} (h : p ∈ s.boundPorts) : p < 8 := List.mem_range.1 (List.mem_filter.1 h).1

theorem State.notPending {s : State} (h : s.anyPending = false) (p : Nat) : (s.port p).pendingSwap = false := by
  by_cases hp : p < s.ports.length
  · have hmem : s.port p ∈ s.ports := by
      rw [State.port, List.getD_eq_getElem _ _ hp]
      exact List.getElem_mem hp
    rw [State.anyPending, List.any_eq_false] at h
    simpa using h _ hmem
  · rw [State.port, List.getD_eq_default _ _ (Nat.not_lt.1 hp)]
    rfl

/-- The bound ports wait for their edge. -/
def State.swapsPending (s : State) : State := s.forEach s.boundPorts fun s p => s.updPort p fun x => { x with pendingSwap := true }

/-- Of the bound ports those that have seen no edge swap. -/
def State.committedPorts (s : State) : State :=
  s.swapsPending.forEach (s.boundPorts.filter fun p => (s.swapsPending.port p).boot) fun s p => s.swapPort p false

section Commit
variable (s : State)

theorem State.swapsPending_swapped : Swapped s s.swapsPending := markPending_swaps.forEach _ s

theorem State.committedPorts_swapped : Swapped s s.committedPorts :=
  s.swapsPending_swapped.trans ((State.swapPort_swaps false).forEach _ s.swapsPending)

theorem State.swapsPending_boundPorts : s.swapsPending.boundPorts = s.boundPorts := by
  obtain ⟨ports1, rails1, comps1, heq⟩ := s.swapsPending_swapped
  rw [heq]
  rfl

theorem State.servePaletteCommit_taken {s : State} (hpend : s.anyPending = false) (hrm : s.rmServes = true) :
    s.servePaletteCommit = ⟨0, [s.committedPorts.pendingWord], s.committedPorts⟩ := by
  unfold State.servePaletteCommit
  rw [hpend, hrm, if_neg (by decide)]
  change Answer.mk 0 [(s.swapsPending.forEach (s.swapsPending.boundPorts.filter _) _).pendingWord]
    (s.swapsPending.forEach (s.swapsPending.boundPorts.filter _) _) = _
  rw [s.swapsPending_boundPorts]
  rfl

/-- A bound port waits for its edge, or swaps where it has seen none (R98). -/
theorem State.committedPorts_port {s : State} (h8 : s.ports.length = 8) (p : Nat) : s.committedPorts.port p =
    if s.boundPorts.contains p then
      (if (s.port p).boot then { s.port p with actBank := !(s.port p).actBank, pendingSwap := false }
        else { s.port p with pendingSwap := true })
    else s.port p := by
  have hlt (q : Nat) (hq : q ∈ s.boundPorts) : q < s.ports.length := by rw [h8]; exact State.boundPorts_lt hq
  have hmarked (q : Nat) : s.swapsPending.port q =
      if s.boundPorts.contains q then { s.port q with pendingSwap := true } else s.port q :=
    markPending_swaps.forEach_port s.boundPorts_nodup hlt q
  have hboot (q : Nat) : (s.swapsPending.port q).boot = (s.port q).boot := by
    rw [hmarked]
    split <;> rfl
  rw [State.committedPorts, (State.swapPort_swaps false).forEach_port (s.boundPorts_nodup.filter _) fun q hq => by
    rw [State.swapsPending, markPending_swaps.forEach_length]
    exact hlt q (List.mem_filter.1 hq).1]
  have hswaps : (s.boundPorts.filter fun q => (s.swapsPending.port q).boot).contains p =
      (s.boundPorts.contains p && (s.port p).boot) := by
    rw [Bool.eq_iff_iff]
    simp [hboot]
  rw [hswaps, hmarked]
  cases s.boundPorts.contains p
  · rfl
  · cases (s.port p).boot <;> rfl

end Commit

/-! ### A forced commit -/

/-- The ports that a forced commit swaps (R99). -/
def State.forcedPorts (s : State) : List Nat :=
  if s.anyPending then (List.range 8).filter fun p => (s.port p).pendingSwap else s.boundPorts

section Force
variable (s : State)

theorem State.forceSwaps_swapped : Swapped s s.forceSwaps := (State.swapPort_swaps true).forEach s.forcedPorts s

theorem State.forceSwaps_port {s : State} (h8 : s.ports.length = 8) (p : Nat) : s.forceSwaps.port p =
    if s.forcedPorts.contains p then (s.port p).swap else s.port p := by
  refine (State.swapPort_swaps true).forEach_port (l := s.forcedPorts) ?_ ?_ p
  · unfold State.forcedPorts
    split
    · exact List.nodup_range.filter _
    · exact s.boundPorts_nodup
  · intro q hq
    rw [h8]
    unfold State.forcedPorts at hq
    split at hq
    · exact List.mem_range.1 (List.mem_filter.1 hq).1
    · exact State.boundPorts_lt hq

/-- An RM that can take a forced commit carries it out at once. -/
theorem State.sendRm_force {s : State} (hrm : s.rmServes = true) (hloop : s.clock.loopPresent = true)
    (hcross : s.cross = { posts := [], toLoop := [] }) : s.sendRm .force = s.forceSwaps := by
  unfold State.sendRm State.carryPosts
  rw [State.rmServes] at hrm
  dsimp only
  rw [hrm, hloop, if_pos rfl, if_pos rfl, if_pos rfl, hcross]
  change ({ s with cross := { posts := [], toLoop := [] } } : State).forceSwaps = _
  rw [← hcross]

/-- One that cannot leaves it among the posts. -/
theorem State.sendRm_waits {s : State} (hrm : s.rmServes = false) (hloop : s.cross.toLoop = []) (p : RmPost) :
    s.sendRm p = { s with cross := { posts := s.cross.posts ++ [p], toLoop := [] } } := by
  unfold State.sendRm State.carryPosts
  rw [State.rmServes] at hrm
  dsimp only
  rw [hrm, if_neg Bool.false_ne_true, if_neg Bool.false_ne_true, hloop]
  exact ite_self _

end Force

/-! ### PALETTE_COMMIT -/

theorem bit_withForce (force : Bool) (b : List Word) : bit (bodyWord (withForce force b) 0) 0 = force := by
  have hd : bodyWord b 0 < 2 ^ 32 := (b.getD 0 0).isLt
  have hbody : bodyWord (withForce force b) 0 = (bodyWord b 0 - bodyWord b 0 % 2 + b2n force) % 2 ^ 32 :=
    BitVec.toNat_ofNat _ 32
  have hbit (x : Nat) : bit x 0 = decide (x % 2 = 1) := by
    rw [bit, pow_zero, Nat.div_one]
    rfl
  rw [hbody, hbit]
  cases force
  · have hnone : b2n false = 0 := rfl
    exact decide_eq_false (by rw [hnone]; omega)
  · have hone : b2n true = 1 := rfl
    exact decide_eq_true (by rw [hone]; omega)

section Message
variable {ch : Fin 16} {m : Message} {s : State} (hstale : m.stale = false) (hserve : MayServe s ch 4)
include hstale hserve

theorem paletteCommit_served : ∃ t mail1 router1 bus1, exec (.paletteCommit ch m) s = .next t ∧
    t = { s.servePaletteCommit.state with mail := mail1, router := router1, bus := bus1 } := by
  let m' : Message := { m with body := withForce false m.body }
  have hexec : exec (.paletteCommit ch m) s = .next (s.servePaletteCommit.sent ch 4 m').judge := by
    have hserved := State.request_served (m := m') hserve rfl hstale
    have hplain : s.carryOut ch 4 m' = s.servePaletteCommit :=
      if_neg (by rw [bit_withForce]; exact Bool.false_ne_true)
    rwa [hplain] at hserved
  obtain ⟨mail1, router1, bus1, heq⟩ := s.servePaletteCommit.sent_eq ch 4 m'
  exact ⟨_, mail1, router1, bus1, hexec, heq⟩

theorem paletteCommitForce_served : ∃ t mail1 router1 bus1, exec (.paletteCommitForce ch m) s = .next t ∧
    t = { s.sendRm .force with mail := mail1, router := router1, bus := bus1 } := by
  let m' : Message := { m with body := withForce true m.body }
  have hexec : exec (.paletteCommitForce ch m) s = .next (s.servePaletteForce.sent ch 4 m').judge := by
    have hserved := State.request_served (m := m') hserve rfl hstale
    have hforced : s.carryOut ch 4 m' = s.servePaletteForce := if_pos (bit_withForce true m.body)
    rwa [hforced] at hserved
  obtain ⟨mail1, router1, bus1, heq⟩ := s.servePaletteForce.sent_eq ch 4 m'
  exact ⟨_, mail1, router1, bus1, hexec, heq⟩

/-- A commit that is taken (R98). -/
theorem paletteCommit_takes (h8 : s.ports.length = 8) (hpend : s.anyPending = false) (hrm : s.rmServes = true) :
    ∃ t, exec (.paletteCommit ch m) s = .next t ∧
      (∀ p : Fin 8, (t.port p).actBank = ((s.port p).actBank ^^ (s.boundPorts.contains p.val && (s.port p).boot)) ∧
        (t.port p).pendingSwap = (s.boundPorts.contains p.val && !(s.port p).boot)) ∧
      (∀ q : Fin 128, (t.phase q).state = (s.phase q).state) ∧ t.palette = s.palette := by
  obtain ⟨t, mail1, router1, bus1, hexec, rfl⟩ := paletteCommit_served hstale hserve
  rw [State.servePaletteCommit_taken hpend hrm] at hexec
  refine ⟨_, hexec, fun p => ?_, ?_⟩
  · change (s.committedPorts.port p).actBank = _ ∧ (s.committedPorts.port p).pendingSwap = _
    rw [State.committedPorts_port h8]
    have hnone := State.notPending hpend p
    cases s.boundPorts.contains p.val
    · exact ⟨(Bool.xor_false _).symm, hnone⟩
    · cases (s.port p).boot
      · exact ⟨(Bool.xor_false _).symm, rfl⟩
      · exact ⟨(Bool.xor_true _).symm, rfl⟩
  · obtain ⟨ports1, rails1, comps1, heq⟩ := s.committedPorts_swapped
    dsimp only
    rw [heq]
    exact ⟨fun _ => rfl, rfl⟩

/-- One that is refused. -/
theorem paletteCommit_busy (hbusy : s.anyPending = true ∨ s.rmServes = false) :
    ∃ t, exec (.paletteCommit ch m) s = .next t ∧ t.ports = s.ports ∧ t.rails = s.rails ∧ t.palette = s.palette := by
  obtain ⟨t, mail1, router1, bus1, hexec, rfl⟩ := paletteCommit_served hstale hserve
  have hstays : s.servePaletteCommit = ⟨1, [s.pendingWord], s⟩ := by
    refine if_pos ?_
    obtain h | h := hbusy <;> simp [h]
  rw [hstays] at hexec
  exact ⟨_, hexec, rfl, rfl, rfl⟩

/-- A forced commit that the RM takes (R99). -/
theorem paletteCommitForce_swaps (h8 : s.ports.length = 8) (hrm : s.rmServes = true) (hloop : s.clock.loopPresent = true)
    (hcross : s.cross = { posts := [], toLoop := [] }) :
    ∃ t, exec (.paletteCommitForce ch m) s = .next t ∧ t.palette = s.palette ∧ t.cross = s.cross ∧
      (∀ p : Fin 8, (t.port p).pendingSwap = false) ∧
      (s.anyPending = true → ∀ p : Fin 8, (t.port p).actBank = ((s.port p).actBank ^^ (s.port p).pendingSwap)) ∧
      (s.anyPending = false → ∀ p : Fin 8, (t.port p).actBank = ((s.port p).actBank ^^ s.boundPorts.contains p.val)) := by
  obtain ⟨t, mail1, router1, bus1, hexec, rfl⟩ := paletteCommitForce_served hstale hserve
  rw [State.sendRm_force hrm hloop hcross] at hexec
  have hport (p : Fin 8) : s.forceSwaps.port p = if s.forcedPorts.contains p.val then (s.port p).swap else s.port p :=
    State.forceSwaps_port h8 p
  have hforced (p : Fin 8) : s.forcedPorts.contains p.val =
      if s.anyPending then (s.port p).pendingSwap else s.boundPorts.contains p.val := by
    unfold State.forcedPorts
    split
    · rw [Bool.eq_iff_iff]
      simp
    · rfl
  have hbank (p : Fin 8) : (s.forceSwaps.port p).actBank = ((s.port p).actBank ^^ s.forcedPorts.contains p.val) := by
    rw [hport]
    cases s.forcedPorts.contains p.val
    · exact (Bool.xor_false _).symm
    · exact (Bool.xor_true _).symm
  obtain ⟨ports1, rails1, comps1, heq⟩ := s.forceSwaps_swapped
  refine ⟨_, hexec, by rw [heq], by rw [heq], fun p => ?_, fun hpend p => ?_, fun hpend p => ?_⟩
  · change (s.forceSwaps.port p).pendingSwap = false
    rw [hport]
    split
    · rfl
    next hnot =>
      rw [hforced] at hnot
      cases hpend : s.anyPending
      · exact State.notPending hpend p
      · rwa [hpend, if_pos rfl, Bool.not_eq_true] at hnot
  · change (s.forceSwaps.port p).actBank = _
    rw [hbank, hforced, hpend, if_pos rfl]
  · change (s.forceSwaps.port p).actBank = _
    rw [hbank, hforced, hpend, if_neg Bool.false_ne_true]

/-- One that waits for the RM (R99; log entry 40). -/
theorem paletteCommitForce_waits (hrm : s.rmServes = false) (hloop : s.cross.toLoop = []) :
    ∃ t, exec (.paletteCommitForce ch m) s = .next t ∧ t.cross.posts = s.cross.posts ++ [.force] ∧ t.ports = s.ports ∧
      t.rails = s.rails := by
  obtain ⟨t, mail1, router1, bus1, hexec, rfl⟩ := paletteCommitForce_served hstale hserve
  rw [State.sendRm_waits hrm hloop] at hexec
  exact ⟨_, hexec, rfl, rfl, rfl⟩

end Message

end Sys2Proof.Machine
end

/-! SUPPORT. IMAGE_CHUNK and IMAGE_ACTIVATE: erased and programmed bytes of the flash, and the checks of an activation. -/

section
namespace Sys2Proof.Machine

/-! ### Erased bytes -/

section Filter
variable {α : Type} (d : α) (q : Nat → Bool)

theorem sget_filter (m : List (Nat × α)) (a : Nat) : sget d (m.filter fun x => q x.1) a = if q a then sget d m a else d := by
  induction m with
  | nil => exact (ite_self d).symm
  | cons x m ih =>
    obtain ⟨k, v⟩ := x
    rw [List.filter_cons]
    dsimp only
    by_cases hk : k = a
    · subst hk
      cases hq : q k
      · simpa [hq] using ih
      · simp [sget]
    · have htail : sget d ((k, v) :: m) a = sget d m a := if_neg hk
      rw [htail]
      split
      · rw [← ih]
        exact if_neg hk
      · exact ih

theorem filter_wf {m : List (Nat × α)} (h : Sparse.wf d m) : Sparse.wf d (m.filter fun x => q x.1) :=
  ⟨h.1.filter _, fun x hx => h.2 x (List.mem_filter.1 hx).1⟩

end Filter

/-- Where a slot begins (R60). -/
def slotBase (slotB : Bool) : Nat := if slotB then 0x400000 else 0

theorem State.eraseSectors_wf {s : State} (hw : Memory.wf 0xFF s.flash) (slotB : Bool) (off len : Nat) :
    Memory.wf 0xFF (s.eraseSectors slotB off len).flash :=
  filter_wf (0xFF : Byte) (fun a => !(decide (slotBase slotB + 4096 * ceilQuot off 4096 ≤ a) &&
    decide (a < slotBase slotB + 4096 * ceilQuot (off + len) 4096))) hw

/-- What an erase within a slot leaves of the other one. -/
theorem State.eraseSectors_other {s : State} (slotB : Bool) {off len a : Nat} (hfit : off + len ≤ 0x400000)
    (ha : a < slotBase slotB ∨ slotBase slotB + 0x400000 ≤ a) :
    sget (0xFF : Byte) (s.eraseSectors slotB off len).flash a = sget (0xFF : Byte) s.flash a := by
  have hout : (!(decide (slotBase slotB + 4096 * ceilQuot off 4096 ≤ a) &&
      decide (a < slotBase slotB + 4096 * ceilQuot (off + len) 4096))) = true := by
    have hend : 4096 * ceilQuot (off + len) 4096 ≤ 0x400000 := by
      rw [ceilQuot]
      omega
    simp only [Bool.not_eq_true', Bool.and_eq_false_iff, decide_eq_false_iff_not]
    omega
  exact (sget_filter (0xFF : Byte) (fun a => !(decide (slotBase slotB + 4096 * ceilQuot off 4096 ≤ a) &&
    decide (a < slotBase slotB + 4096 * ceilQuot (off + len) 4096))) s.flash a).trans (if_pos hout)

/-! ### Programmed bytes -/

section Put
variable {s : State} (hw : Memory.wf 0xFF s.flash) (slotB : Bool) (off : Nat) (bs : List Byte)
include hw

theorem State.putFlash_reads : (s.putFlash slotB off bs).flashBytes slotB off bs.length = bs := sgets_sputs_self _ _ _ _ hw

/-- Bytes beyond those programmed stand. -/
theorem State.putFlash_flashBytes_other {slot1 : Bool} {off1 n : Nat}
    (hout : slotBase slot1 + off1 + n ≤ slotBase slotB + off ∨ slotBase slotB + off + bs.length ≤ slotBase slot1 + off1) :
    (s.putFlash slotB off bs).flashBytes slot1 off1 n = s.flashBytes slot1 off1 n := by
  refine List.map_congr_left fun i hi => sget_sputs_ne _ _ _ _ _ ?_ hw
  have hi := List.mem_range.1 hi
  change slotBase slot1 + off1 + i < slotBase slotB + off ∨ slotBase slotB + off + bs.length ≤ slotBase slot1 + off1 + i
  omega

end Put

/-- The slots lie apart. -/
theorem slotBase_apart (slotB : Bool) :
    slotBase (!slotB) + 0x400000 ≤ slotBase slotB ∨ slotBase slotB + 0x400000 ≤ slotBase (!slotB) := by
  cases slotB
  · exact .inr le_rfl
  · exact .inl le_rfl

/-! ### IMAGE_CHUNK (R83, R84) -/

/-- The bytes of a chunk as they are written: MAGIC is left erased. -/
def chunkBytes (off : Nat) (data : List Byte) : List Byte := if off == 0 then List.replicate 4 0xFF ++ data.drop 4 else data

theorem length_chunkBytes (off : Nat) {data : List Byte} (h : 4 ≤ data.length) : (chunkBytes off data).length = data.length := by
  unfold chunkBytes
  split
  · simp
    omega
  · rfl

/-- The state with a chunk in the spare slot. -/
def State.chunked (s : State) (off : Nat) (data : List Byte) : State :=
  let t := (s.eraseSectors s.spareB off data.length).putFlash s.spareB off (chunkBytes off data)
  { t with boot := { t.boot with updOffset := some (off + data.length) } }

section Chunk
variable {s : State} {off len : Word} {data : List Word}

theorem State.serveImageChunk_taken (hidle : s.work.activating = none) (hsome : data ≠ []) (hlen : 4 * data.length = len.toNat)
    (hmax : len.toNat ≤ 4096) (halign : off.toNat % 4 = 0) (hfit : off.toNat + len.toNat ≤ 0x400000)
    (hnext : off = 0 ∨ s.boot.updOffset = some off.toNat) : s.serveImageChunk (off :: len :: data) =
    ⟨0, [(s.chunked off.toNat (wordBytes data)).nextOffset], s.chunked off.toNat (wordBytes data)⟩ := by
  have hpos : 0 < data.length := List.length_pos_of_ne_nil hsome
  have hbytes : (wordBytes data).length = len.toNat := (length_wordBytes data).trans hlen
  have hform : ¬((off :: len :: data).length < 3 || off.toNat % 4 != 0 || len.toNat % 4 != 0 || len.toNat < 4 ||
      decide (4096 < len.toNat) || (wordBytes data).length != len.toNat) = true := by
    simp [halign, hbytes]
    omega
  have hplace : ¬(off.toNat != 0 && s.boot.updOffset != some off.toNat) = true := by
    obtain rfl | h := hnext
    · exact Bool.false_ne_true
    · simp [h]
  unfold State.serveImageChunk
  dsimp only
  have hoff : bodyWord (off :: len :: data) 0 = off.toNat := rfl
  have hcount : bodyWord (off :: len :: data) 1 = len.toNat := rfl
  rw [hoff, hcount, hidle, if_neg (by decide)]
  refine (if_neg hform).trans ((if_neg (by omega)).trans ((if_neg hplace).trans ?_))
  unfold State.chunked chunkBytes
  rw [hbytes]
  rfl

end Chunk

section Chunked
variable {s : State} (hw : Memory.wf 0xFF s.flash) {off : Nat} {data : List Byte} (hsome : 4 ≤ data.length)
  (hfit : off + data.length ≤ 0x400000)
include hw hsome

theorem State.chunked_reads : (s.chunked off data).flashBytes s.spareB off data.length = chunkBytes off data := by
  have hread := State.putFlash_reads (State.eraseSectors_wf hw s.spareB off data.length) s.spareB off (chunkBytes off data)
  rwa [length_chunkBytes off hsome] at hread

include hfit

/-- The other slot keeps its bytes. -/
theorem State.chunked_other {a n : Nat} (hin : a + n ≤ 0x400000) :
    (s.chunked off data).flashBytes (!s.spareB) a n = s.flashBytes (!s.spareB) a n := by
  have hlen := length_chunkBytes off hsome
  have hapart := slotBase_apart s.spareB
  have hput : (s.chunked off data).flashBytes (!s.spareB) a n =
      (s.eraseSectors s.spareB off data.length).flashBytes (!s.spareB) a n :=
    State.putFlash_flashBytes_other (State.eraseSectors_wf hw s.spareB off data.length) s.spareB off (chunkBytes off data)
      (by omega)
  rw [hput]
  refine List.map_congr_left fun i hi => State.eraseSectors_other s.spareB hfit ?_
  have hi := List.mem_range.1 hi
  change slotBase (!s.spareB) + a + i < slotBase s.spareB ∨ slotBase s.spareB + 0x400000 ≤ slotBase (!s.spareB) + a + i
  omega

end Chunked

/-! ### IMAGE_ACTIVATE (R84) -/

/-- The state with another activation, or none, in progress. -/
def State.activatingIs (s : State) (x : Option (Nat × Message)) : State := { s with work := { s.work with activating := x } }

/-- The checks of an activation do not ask what the HM is doing. -/
theorem State.activatingIs_activationFail (s : State) (x : Option (Nat × Message)) (slotB : Bool) :
    (s.activatingIs x).activationFail slotB = s.activationFail slotB := by
  have hslot (rd : Reader) : ((s.activatingIs x).checkSlotImage rd .ok).1 = (s.checkSlotImage rd .ok).1 := by
    have hfuses : (s.activatingIs x).fuses = s.fuses := rfl
    unfold State.checkSlotImage
    rw [hfuses]
    cases headFail s.fuses rd
    · cases hashFail rd <;> rfl
    · rfl
  have hclaims (rd : Reader) (l : List Sect) : ((s.activatingIs x).trial rd l).claimsFail = (s.trial rd l).claimsFail := rfl
  have hreader : (s.activatingIs x).slotReader slotB = s.slotReader slotB := rfl
  unfold State.activationFail
  dsimp only
  rw [hreader, hslot, hclaims]

/-- The state with the image in the spare slot activated, before its record. -/
def State.activated (s : State) : State :=
  let t := (s.putFlash s.spareB 0 magic).when s.spareB fun t => t.putFlash false 0x18 (leBytes 4 0)
  { t with boot := { t.boot with actPending := true } }

/-- Records and the management counters only. -/
def Marked (s t : State) : Prop := ∃ sketch1 pm1, t = { s with sketch := sketch1, pm := pm1 }

theorem Marked.refl (s : State) : Marked s s := ⟨s.sketch, s.pm, rfl⟩

theorem Marked.trans {s t u : State} (h : Marked s t) (h' : Marked t u) : Marked s u := by
  obtain ⟨sketch1, pm1, h⟩ := h
  obtain ⟨sketch2, pm2, h'⟩ := h'
  exact ⟨sketch2, pm2, by rw [h', h]⟩

theorem Marked.when (s : State) (c : Bool) {f : State → State} (h : Marked s (f s)) : Marked s (s.when c f) := by
  unfold State.when
  split
  · exact h
  · exact .refl s

theorem State.record_marked (s : State) (code src p0 p1 : Nat) : Marked s (s.record code src p0 p1) := by
  rw [State.record_sketch_only]
  exact ⟨_, s.pm, rfl⟩

theorem State.authFail_marked (s : State) (src p0 p1 : Nat) : Marked s (s.authFail src p0 p1) :=
  .trans ⟨s.sketch, _, rfl⟩ (State.record_marked _ 0xA001 src p0 p1)

section Activate
variable {s : State} (hidle : s.work.activating = none) (c : Nat)
include hidle

theorem State.serveImageActivate_passes (hpass : s.activationFail s.spareB = none) : ∃ sketch1,
    (s.serveImageActivate c).state = { s.activated with sketch := sketch1 } := by
  unfold State.serveImageActivate
  dsimp only
  rw [hidle, if_neg (by decide), hpass]
  dsimp only
  rw [State.record_sketch_only]
  exact ⟨_, rfl⟩

/-- A refused activation leaves its marks in the records and in AUTH_FAILS alone. -/
theorem State.serveImageActivate_fails {x : Nat × Nat} (hfail : s.activationFail s.spareB = some x) :
    Marked s (s.serveImageActivate c).state := by
  unfold State.serveImageActivate
  dsimp only
  rw [hidle, if_neg (by decide), hfail]
  dsimp only
  have hwhen (t : State) (refused : Bool) (p : Nat) : Marked t (t.when refused fun t => t.authFail (t.asker c) p 6) :=
    .when (f := fun t => t.authFail (t.asker c) p 6) t refused (t.authFail_marked (t.asker c) p 6)
  split
  · exact ((hwhen s _ 5).trans (hwhen _ _ 1)).trans (State.authFail_marked ..)
  · split
    · exact ((hwhen s _ 5).trans (hwhen _ _ 1)).trans (State.record_marked ..)
    · exact (hwhen s _ 5).trans (hwhen _ _ 1)

end Activate

section Activated
variable {s : State} (hw : Memory.wf 0xFF s.flash)

theorem State.activated_frame (s : State) : s.activated.boot.actPending = true ∧ s.activated.fuses = s.fuses ∧
    s.activated.shadow = s.shadow ∧ s.activated.work = s.work := by
  unfold State.activated State.when
  split <;> exact ⟨rfl, rfl, rfl, rfl⟩

include hw

theorem State.activated_magic : s.activated.flashBytes s.spareB 0 4 = magic := by
  have hmagic : (s.putFlash s.spareB 0 magic).flashBytes s.spareB 0 4 = magic := State.putFlash_reads hw s.spareB 0 magic
  have hw' : Memory.wf 0xFF (s.putFlash s.spareB 0 magic).flash := s.putFlash_wf _ _ _ hw
  refine Eq.trans ?_ hmagic
  change ((s.putFlash s.spareB 0 magic).when s.spareB fun t => t.putFlash false 0x18 (leBytes 4 0)).flashBytes s.spareB 0 4 = _
  unfold State.when
  split
  next hspare =>
    rw [hspare]
    rw [hspare] at hw'
    exact State.putFlash_flashBytes_other hw' false 0x18 (leBytes 4 0) (.inr (by decide))
  next => rfl

/-- Slot A is marked superseded for an image in slot B (R84). -/
theorem State.activated_superseded (hspare : s.spareB = true) : s.activated.flashBytes false 0x18 4 = List.replicate 4 0 := by
  have hw' : Memory.wf 0xFF (s.putFlash s.spareB 0 magic).flash := s.putFlash_wf _ _ _ hw
  change ((s.putFlash s.spareB 0 magic).when s.spareB fun t => t.putFlash false 0x18 (leBytes 4 0)).flashBytes false 0x18 4 = _
  rw [State.when, if_pos hspare]
  exact State.putFlash_reads hw' false 0x18 (leBytes 4 0)

end Activated

end Sys2Proof.Machine
end

/-! SUPPORT. The messages of the palette and of images, as the HM carries them out. -/

section
namespace Sys2Proof.Machine

section Message
variable {ch : Fin 16} {m : Message} {s : State} (hstale : m.stale = false)

/-! ### IMAGE_CHUNK -/

section Chunk
variable (hserve : MayServe s ch 5)
include hstale hserve

theorem imageChunk_served : exec (.imageChunk ch m) s = .next ((s.serveImageChunk m.body).sent ch 5 m).judge :=
  State.request_served hserve rfl hstale

theorem imageChunk_writes (hw : Memory.wf 0xFF s.flash) {off len : Word} {data : List Word} (hidle : s.work.activating = none)
    (hbody : m.body = off :: len :: data) (hsome : data ≠ []) (hlen : 4 * data.length = len.toNat) (hmax : len.toNat ≤ 4096)
    (halign : off.toNat % 4 = 0) (hfit : off.toNat + len.toNat ≤ 0x400000)
    (hnext : off = 0 ∨ s.boot.updOffset = some off.toNat) :
    ∃ t, exec (.imageChunk ch m) s = .next t ∧ t.boot.updOffset = some (off.toNat + len.toNat) ∧
      t.flashBytes s.spareB off.toNat len.toNat =
        (if off = 0 then List.replicate 4 0xFF ++ (wordBytes data).drop 4 else wordBytes data) ∧
      (∀ a n, t.flashBytes (!s.spareB) a n = s.flashBytes (!s.spareB) a n ∨ 0x400000 < a + n) ∧
      t.rails = s.rails ∧ t.shadow = s.shadow := by
  have hbytes : (wordBytes data).length = len.toNat := (length_wordBytes data).trans hlen
  have hfour : 4 ≤ (wordBytes data).length := by
    have hpos := List.length_pos_of_ne_nil hsome
    omega
  have hwritten : chunkBytes off.toNat (wordBytes data) =
      if off = 0 then List.replicate 4 0xFF ++ (wordBytes data).drop 4 else wordBytes data := by
    unfold chunkBytes
    refine if_congr ?_ rfl rfl
    rw [beq_iff_eq, ← BitVec.toNat_inj]
    rfl
  have hexec := imageChunk_served hstale hserve
  rw [hbody, State.serveImageChunk_taken hidle hsome hlen hmax halign hfit hnext] at hexec
  refine ⟨_, hexec, ?_⟩
  obtain ⟨mail1, router1, bus1, heq⟩ := (Answer.mk 0 [(s.chunked off.toNat (wordBytes data)).nextOffset]
    (s.chunked off.toNat (wordBytes data))).sent_eq ch 5 m
  rw [heq, ← hwritten, ← hbytes]
  rw [← hbytes] at hfit
  refine ⟨rfl, State.chunked_reads hw hfour, fun a n => ?_, rfl, rfl⟩
  by_cases hin : a + n ≤ 0x400000
  · exact .inl (State.chunked_other hw hfour hfit hin)
  · exact .inr (Nat.lt_of_not_le hin)

theorem imageChunk_busy (hbusy : s.work.activating ≠ none) :
    ∃ t, exec (.imageChunk ch m) s = .next t ∧ Replied s t ch 5 m 1 [s.nextOffset] ∧ t.flash = s.flash := by
  have hrefused : s.serveImageChunk m.body = ⟨1, [s.nextOffset], s⟩ := if_pos (Option.isSome_iff_ne_none.2 hbusy)
  have hexec := imageChunk_served hstale hserve
  rw [hrefused] at hexec
  obtain ⟨mail1, router1, bus1, heq⟩ := (Answer.mk 1 [s.nextOffset] s).sent_eq ch 5 m
  exact ⟨_, hexec, replied_unchanged .., by rw [heq]⟩

end Chunk

/-! ### IMAGE_ACTIVATE -/

/-- Whatever the HM answers to an activation that it carries out, fuses, shadow and work stand. -/
theorem State.answer_activate_frame {u : State} (hidle : u.work.activating = none) (c : Nat) (m : Message) :
    (u.answer c 6 m).state.work = u.work ∧ (u.answer c 6 m).state.fuses = u.fuses ∧
    (u.answer c 6 m).state.shadow = u.shadow := by
  unfold State.answer
  split
  · exact ⟨rfl, rfl, rfl⟩
  · change (u.serveImageActivate c).state.work = _ ∧ (u.serveImageActivate c).state.fuses = _ ∧
      (u.serveImageActivate c).state.shadow = _
    cases hcheck : u.activationFail u.spareB with
    | none =>
      obtain ⟨sketch1, heq⟩ := State.serveImageActivate_passes hidle c hcheck
      obtain ⟨-, hfuses, hshadow, hwork⟩ := u.activated_frame
      rw [heq]
      exact ⟨hwork, hfuses, hshadow⟩
    | some x =>
      obtain ⟨sketch1, pm1, heq⟩ := State.serveImageActivate_fails hidle c hcheck
      rw [heq]
      exact ⟨rfl, rfl, rfl⟩

theorem imageActivate_whole (hidle : s.work.activating = none) : exec (.imageActivate ch m) s = s.request ch 6 m := by
  change execImageActivate ch m s = _
  unfold execImageActivate
  rw [hidle]

/-- The activation that the HM has begun for this channel is carried out. -/
theorem imageActivate_finishes (hserve : MayServe s ch 6) (hw : Memory.wf 0xFF s.flash) {x : Nat × Message}
    (hbegun : s.work.activating = some x) (hch : x.1 = ch) : ∃ t, exec (.imageActivate ch m) s = .next t ∧
      t.work.activating = none ∧ t.fuses = s.fuses ∧ t.shadow = s.shadow ∧
      (x.2.stale = false → s.activationFail s.spareB = none → t.boot.actPending = true ∧
        t.flashBytes s.spareB 0 4 = magic) := by
  let u := s.activatingIs none
  have hexec : exec (.imageActivate ch m) s = .next ((u.answer ch 6 x.2).sent ch 6 x.2).judge := by
    change execImageActivate ch m s = _
    unfold execImageActivate
    rw [hbegun]
    refine (if_pos (by rw [hch, hserve.1]; simp)).trans ?_
    rw [State.finishActivation, hch]
    rfl
  obtain ⟨hwork, hfuses, hshadow⟩ := State.answer_activate_frame (u := u) rfl ch x.2
  obtain ⟨mail1, router1, bus1, heq⟩ := (u.answer ch 6 x.2).sent_eq ch 6 x.2
  refine ⟨_, hexec, ?_⟩
  rw [heq]
  refine ⟨congrArg Work.activating hwork, hfuses, hshadow, fun hfresh hpass => ?_⟩
  have hanswer : u.answer ch 6 x.2 = u.serveImageActivate ch := by
    have hmay : MayServe u ch 6 := hserve
    rw [State.answer, State.turnedAway_none hmay rfl hfresh]
    rfl
  obtain ⟨sketch1, hstate⟩ := State.serveImageActivate_passes (s := u) rfl ch
    ((s.activatingIs_activationFail none _).trans hpass)
  rw [hanswer, hstate]
  exact ⟨u.activated_frame.1, State.activated_magic (s := u) hw⟩

section Activate
variable (hserve : MayServe s ch 6)
include hstale hserve

theorem imageActivate_served : s.request ch 6 m = .next ((s.serveImageActivate ch).sent ch 6 m).judge :=
  State.request_served hserve rfl hstale

theorem imageActivate_passes (hw : Memory.wf 0xFF s.flash) (hidle : s.work.activating = none)
    (hpass : s.activationFail s.spareB = none) : ∃ t, exec (.imageActivate ch m) s = .next t ∧ t.boot.actPending = true ∧
      t.flashBytes s.spareB 0 4 = magic ∧ t.fuses = s.fuses ∧ t.shadow = s.shadow ∧
      (s.spareB = true → t.flashBytes false 0x18 4 = List.replicate 4 0) := by
  obtain ⟨sketch1, hstate⟩ := State.serveImageActivate_passes hidle ch hpass
  obtain ⟨mail1, router1, bus1, heq⟩ := (s.serveImageActivate ch).sent_eq ch 6 m
  obtain ⟨hpending, hfuses, hshadow, -⟩ := s.activated_frame
  refine ⟨_, (imageActivate_whole hidle).trans (imageActivate_served hstale hserve), ?_⟩
  rw [heq, hstate]
  exact ⟨hpending, State.activated_magic hw, hfuses, hshadow, State.activated_superseded hw⟩

theorem imageActivate_fails (hidle : s.work.activating = none) {x : Nat × Nat} (hfail : s.activationFail s.spareB = some x) :
    ∃ t, exec (.imageActivate ch m) s = .next t ∧ t.flash = s.flash ∧ t.boot = s.boot ∧ t.fuses = s.fuses := by
  obtain ⟨sketch1, pm1, hstate⟩ := State.serveImageActivate_fails hidle ch hfail
  obtain ⟨mail1, router1, bus1, heq⟩ := (s.serveImageActivate ch).sent_eq ch 6 m
  refine ⟨_, (imageActivate_whole hidle).trans (imageActivate_served hstale hserve), ?_⟩
  rw [heq, hstate]
  exact ⟨rfl, rfl, rfl⟩

/-- Another channel's activation is not carried out. -/
theorem imageActivate_busy {x : Nat × Message} (hbegun : s.work.activating = some x) (hch : x.1 ≠ ch) :
    ∃ t, exec (.imageActivate ch m) s = .next t ∧ Replied s t ch 6 m 1 [0] ∧ t.flash = s.flash ∧ t.work = s.work := by
  have hexec : exec (.imageActivate ch m) s = s.request ch 6 m := by
    change execImageActivate ch m s = _
    unfold execImageActivate
    rw [hbegun]
    exact if_neg (by simp [hch])
  have hrefused : s.serveImageActivate ch = ⟨1, [0], s⟩ := if_pos (by rw [hbegun]; rfl)
  have hserved := imageActivate_served hstale hserve
  rw [hrefused] at hserved
  obtain ⟨mail1, router1, bus1, heq⟩ := (Answer.mk 1 [0] s).sent_eq ch 6 m
  exact ⟨_, hexec.trans hserved, replied_unchanged .., by rw [heq], by rw [heq]⟩

end Activate

end Message

/-- Settles O51, message by message. -/
theorem paletteAndImageMessages : Obligations.PaletteAndImageMessages := by
  unfold Obligations.PaletteAndImageMessages
  intro ch m s hinv hstale
  have hflash : Memory.wf 0xFF s.flash := hinv.1.1
  have h8 : s.ports.length = 8 := hinv.2.1
  refine ⟨fun d l p bank first hserve hbody hp hb hf h27 h17 h8' hsome hfew hfit =>
      paletteWrite_writes hstale hinv hserve hbody ⟨hp, hb, hf, h27, h17, h8', hsome, hfew, hfit⟩,
    fun hserve => ⟨paletteCommit_takes hstale hserve h8, paletteCommit_busy hstale hserve,
      paletteCommitForce_swaps hstale hserve h8, paletteCommitForce_waits hstale hserve⟩,
    fun off len data hserve hidle hbody hsome hlen hmax halign hfit hnext =>
      imageChunk_writes hstale hserve hflash hidle hbody hsome hlen hmax halign hfit hnext,
    imageChunk_busy hstale,
    fun hserve hidle => ⟨imageActivate_passes hstale hserve hflash hidle, fun _ => imageActivate_fails hstale hserve hidle⟩,
    fun x hbegun hserve => ⟨imageActivate_finishes hserve hflash hbegun, imageActivate_busy hstale hserve hbegun⟩⟩

end Sys2Proof.Machine
end
